-- ==== Sys2Proof/Word.lean ====
section
/-! DEFINITION. The words of the block and its tables: bytes, 32-bit registers and tables of a fixed number of like units. -/

namespace Sys2Proof

/-- One byte of a frame, an image or a ring entry. -/
abbrev Byte := BitVec 8

/-- One register word (R581: every register is 32 bits wide). -/
abbrev Reg := BitVec 32

/-- A fixed number of like units (ports, cars, channels, lanes). -/
abbrev Tab (n : Nat) (α : Type) := Vector α n

namespace Tab

/-- The unit with index `i`. -/
def get {n : Nat} {α : Type} (t : Tab n α) (i : Fin n) : α := t[i]

/-- The table with unit `i` replaced. -/
def put {n : Nat} {α : Type} (t : Tab n α) (i : Fin n) (a : α) : Tab n α := t.set i a

/-- The table with unit `i` changed by `f`. -/
def upd {n : Nat} {α : Type} (t : Tab n α) (i : Fin n) (f : α → α) : Tab n α := t.put i (f (t.get i))

/-- All units alike. -/
def all {n : Nat} {α : Type} (a : α) : Tab n α := Vector.replicate n a

/-- The unit with a natural index, where there is one. -/
def get? {n : Nat} {α : Type} (t : Tab n α) (i : Nat) : Option α := if h : i < n then some (t.get ⟨i, h⟩) else none

@[simp] theorem get_put_same {n : Nat} {α : Type} (t : Tab n α) (i : Fin n) (a : α) : (t.put i a).get i = a := by
  simp [get, put]

@[simp] theorem get_put_ne {n : Nat} {α : Type} (t : Tab n α) {i j : Fin n} (a : α) (h : i ≠ j) :
    (t.put i a).get j = t.get j := by
  have h' : (i : Nat) ≠ (j : Nat) := fun e => h (Fin.ext e)
  simp [get, put, h']

theorem get_put {n : Nat} {α : Type} (t : Tab n α) (i j : Fin n) (a : α) :
    (t.put i a).get j = if i = j then a else t.get j := by
  by_cases h : i = j
  · subst h; simp
  · simp [h]

@[simp] theorem get_upd_same {n : Nat} {α : Type} (t : Tab n α) (i : Fin n) (f : α → α) : (t.upd i f).get i = f (t.get i) := by
  simp [upd]

@[simp] theorem get_upd_ne {n : Nat} {α : Type} (t : Tab n α) {i j : Fin n} (f : α → α) (h : i ≠ j) :
    (t.upd i f).get j = t.get j := by
  simp [upd, h]

@[simp] theorem put_put {n : Nat} {α : Type} (t : Tab n α) (i : Fin n) (a b : α) : (t.put i a).put i b = t.put i b := by
  simp [put]

@[simp] theorem put_get {n : Nat} {α : Type} (t : Tab n α) (i : Fin n) : t.put i (t.get i) = t := by
  simp [put, get]

@[simp] theorem get_all {n : Nat} {α : Type} (a : α) (i : Fin n) : (Tab.all a : Tab n α).get i = a := by
  simp [get, all]

end Tab

end Sys2Proof
end

