-- ==== Sys2Proof/Operand.lean ====
section
/-! DEFINITION. The operand types of the commands: frames, ring entries, fault messages and the fixed sets of names. -/

namespace Sys2Proof

/-- One CAN or CAN FD frame as received (13 R436 to R438): bus, identifier form, data, start-of-frame stamp. -/
structure Frame where
  bus   : Fin 12
  ext   : Bool          -- 29-bit identifier
  fd    : Bool
  brs   : Bool
  ident : BitVec 29
  data  : List Byte
  sof   : BitVec 32     -- 1 µs stamp of the start of frame
  deriving DecidableEq, Repr

/-- The jobs that a berm or a consumption point can abandon (01 R31, R35). -/
inductive Job where
  | lanePg (k : Fin 48)        -- profile part of a lane
  | laneCe (k : Fin 48)        -- lane part of a lane
  | frameBuild (c : Fin 16)
  | fusion (c : Fin 16)
  | levee (lc : Fin 2)
  | carCoreT1 (cc : Fin 4)
  | heartbeat
  | telemetry
  | rings
  | epoch
  | solver
  | snapshot
  | publishFixtures (cc : Fin 4)
  | publishHost
  deriving DecidableEq, Repr

/-- The levels of pairs 1 and 2 of a port (bit 0 is pair 1) and for how many samples they have been stable. -/
structure PortLines where
  lv   : BitVec 2
  held : Nat
  deriving DecidableEq, Repr

/-- The level of pair 3 of a port, for how many samples it has been stable, and the TBASE of the first of them. -/
structure IndexLine where
  lv   : Bool
  held : Nat
  ts   : BitVec 32
  deriving DecidableEq, Repr

/-- One SSI frame as clocked in (03 R101, R102): the line level before the first falling edge, the data bits
(most significant first, as one number) and the end bit. -/
structure SsiBits where
  idleHigh : Bool
  bits     : BitVec 32
  endBit   : Bool
  deriving DecidableEq, Repr

/-- Temperature sensors (17 R572): codes 0, 1 and 2. -/
inductive Sensor where
  | die0 | die1 | base
  deriving DecidableEq, Repr

/-- The three events that reset the endpoint (14 R457). -/
inductive EndpointReset where
  | perst | linkDown | hotReset
  deriving DecidableEq, Repr

/-- The dual sources of the levee (10 R324). -/
inductive DualSource where
  | locksF | locksR | stop | insp
  deriving DecidableEq, Repr

/-- What the field side reports with an output fault (12 R408, R409). -/
inductive OvldDetail where
  | readback | currentLimit | thermal
  deriving DecidableEq, Repr

/-- Why a candidate rate is dropped (13 R429). -/
inductive RateDrop where
  | error | dwell
  deriving DecidableEq, Repr

/-- What wakes a sleeping bus (13 R450): a wake-up pattern, a classical frame, or the host. -/
inductive BusWake where
  | pattern
  | frame (ext : Bool) (ident : BitVec 29) (data : List Byte)
  | host
  deriving DecidableEq, Repr

/-- One CMD ring entry (14 R465), field by field. -/
structure CmdEntry where
  opcode   : Byte
  flags    : Byte
  resv     : BitVec 16
  tag      : BitVec 32
  car      : Byte
  arg0     : Byte
  arg1     : BitVec 16
  arg2     : BitVec 32
  param    : List Byte      -- 32 bytes
  dataAddr : BitVec 64
  dataLen  : BitVec 32
  crc      : BitVec 32
  deriving DecidableEq, Repr

/-- A fault message as its source sends it (16 R522): the collector adds REACTION. -/
structure FaultMsg where
  source  : BitVec 10
  kind    : Byte
  cls     : BitVec 2       -- 1 C, 2 U, 3 F
  detail  : BitVec 39
  context : BitVec 32
  t0      : BitVec 32
  deriving DecidableEq, Repr

/-- The units with a targeted self-test or a retirement (16 R534). -/
inductive TestUnit where
  | port (n : Fin 48)
  | channel (i : Fin 96)
  | bus (n : Fin 12)
  | supply (g : Fin 6)
  | lane (k : Fin 48)
  | sramPage (p : Nat)
  | dramPage (p : Nat)
  | cv (n : Fin 16)
  | levee (lc : Fin 2)
  | carCore (cc : Fin 4)
  | resetInput (c : Fin 16)
  deriving DecidableEq, Repr

/-- How a targeted self-test ends (16 R537, 12 R411). -/
inductive TestResult where
  | pass
  | fail
  | cross (j : Fin 96)     -- channel: readback off exactly in the pulse of channel j
  deriving DecidableEq, Repr

/-- Tag classes of accesses towards host memory (01 R44). -/
inductive TagClass where
  | cmd | call | data | evtLog | tel | cap | status
  deriving DecidableEq, Repr

/-- How an access towards host memory ends (16 R524). -/
inductive AccessResult where
  | ok
  | error (addr : BitVec 32) (ring : Fin 6)
  | timeout
  deriving DecidableEq, Repr

end Sys2Proof
end

