-- ==== Sys2Proof/Syntax.lean ====
section
/-! DEFINITION. The commands the block takes: one constructor for each row of the table of operations and events. -/

namespace Sys2Proof

/-- A command. Its docstring names the rule its row stands under. -/
inductive Instr where
  /-- POWER_ON, R552. -/
  | powerOn
  /-- VIN_FAULT, R552. -/
  | vinFault (mv : Nat)
  /-- VIN_RESTORED, R552. -/
  | vinRestored (mv : Nat)
  /-- POWER_FAIL, R553. -/
  | powerFail (mv : Nat)
  /-- RAIL_FAULT, R555. -/
  | railFault (d : Fin 8) (rail : Fin 7) (mv : Nat)
  /-- RAIL_DOMAIN_OFF, R555. -/
  | railDomainOff (d : Fin 8)
  /-- DOMAIN_SWITCH_ON, R557. -/
  | domainSwitchOn (d : Fin 8) (inWindow : Bool)
  /-- NRSTIN_ASSERT, R560. -/
  | nrstinAssert
  /-- NRSTIN_RELEASE, R559. -/
  | nrstinRelease
  /-- PERST, R457. -/
  | perst (kind : EndpointReset)
  /-- SLOT_SELECT, R563. -/
  | slotSelect
  /-- STARTUP_SELF_TESTS_DONE, R567. -/
  | startupSelfTestsDone (passed : Bool)
  /-- MODEL_LOAD, R79. -/
  | modelLoad
  /-- BOOT_WATCHDOG, R564. -/
  | bootWatchdog
  /-- THERMAL_WARN, R572. -/
  | thermalWarn (sensor : Sensor) (temp : Int)
  /-- DERATE_OFF, R572. -/
  | derateOff
  /-- THERMAL_TRIP, R572. -/
  | thermalTrip (sensor : Sensor) (temp : Int)
  /-- T0_BOUNDARY, R17. -/
  | t0Boundary (adj : Int)
  /-- T1_BOUNDARY, R18. -/
  | t1Boundary (seals : BitVec 8)
  /-- T2_BOUNDARY, R18. -/
  | t2Boundary
  /-- TICK_SYNC_FAULT, R524. -/
  | tickSyncFault (offset : Int)
  /-- BERM_ABANDON, R29. -/
  | bermAbandon (job : Job)
  /-- LANE_STOP, R31. -/
  | laneStop (k : Fin 48)
  /-- CAR_CORE_JOB_DROPS, R31. -/
  | carCoreJobDrops (cc : Fin 4)
  /-- LEVEE_MISS_SAFE_STATE, R32. -/
  | leveeMissSafeState (lc : Fin 2)
  /-- SOLVER_RUN_COMPLETE, R281. -/
  | solverRunComplete (us : Nat)
  /-- NEAREST_CAR_FALLBACK, R289. -/
  | nearestCarFallback
  /-- PORT_EDGE, R108: the lines of pairs 1 and 2 have changed at the sample `ts`. -/
  | portEdge (n : Fin 48) (x : PortLines) (ts : BitVec 32)
  /-- INDEX_EVENT, R95: the line of pair 3 has changed. -/
  | indexEvent (n : Fin 48) (x : IndexLine)
  /-- SSI_FRAME, R102. -/
  | ssiFrame (n : Fin 48) (fr : SsiBits)
  /-- SSI_FRAME_LATE, R25. -/
  | ssiFrameLate (n : Fin 48) (started : Bool)
  /-- PORT_LINE_FAULT, R115. -/
  | portLineFault (n : Fin 48) (pair : Fin 3) (present : Bool)
  /-- PORT_STANDSTILL, R109. -/
  | portStandstill (n : Fin 48)
  /-- SUPPLY_OVERCURRENT, R114. -/
  | supplyOvercurrent (g : Fin 6)
  /-- SUPPLY_SETTLED, R113. -/
  | supplySettled (g : Fin 6)
  /-- SUPPLY_CHAIN_START, R417. -/
  | supplyChainStart
  /-- FUSION_DROP_HEALTH, R130. -/
  | fusionDropHealth (c : Fin 16)
  /-- TS_CONTRADICTION, R134. -/
  | tsContradiction (c : Fin 16)
  /-- ABS_SOURCE_FAIL, R128. -/
  | absSourceFail (c : Fin 16)
  /-- CORRECTION_RUN, R140. -/
  | correctionRun (c : Fin 16)
  /-- CORRECTION_RUN_END, R141. -/
  | correctionRunEnd (c : Fin 16)
  /-- HOMING_RUN, R142. -/
  | homingRun (c : Fin 16)
  /-- RELEVEL_START, R144. -/
  | relevelStart (c : Fin 16)
  /-- RELEVEL_TIMEOUT, R145. -/
  | relevelTimeout (c : Fin 16)
  /-- LEARN_SHAFT_DONE, R148. -/
  | learnShaftDone (c : Fin 16)
  /-- BRAKE_LIFT_WAIT, R163. -/
  | brakeLiftWait (c : Fin 16)
  /-- PLAN_END, R163. -/
  | planEnd (c : Fin 16)
  /-- BRAKE_DROP_WAIT, R163. -/
  | brakeDropWait (c : Fin 16)
  /-- START_FAILURE, R164. -/
  | startFailure (c : Fin 16)
  /-- HDV_FEEDBACK, R180. -/
  | hdvFeedback (fr : Frame)
  /-- FOLLOWING_ERROR_STOP, R200. -/
  | followingErrorStop (c : Fin 16)
  /-- INJECTION_START, R206. -/
  | injectionStart (k : Fin 48)
  /-- INJECTION_COMPLETE, R205. -/
  | injectionComplete (k : Fin 48)
  /-- INJECTION_WAIT_TIMEOUT, R205. -/
  | injectionWaitTimeout (k : Fin 48)
  /-- IDENTIFY_FIT, R211. -/
  | identifyFit (k : Fin 48)
  /-- CAPU_TRIGGER, R208. -/
  | capuTrigger (u : Fin 4)
  /-- CAPU_BLOCK_DELIVER, R209. -/
  | capuBlockDeliver (u : Fin 4)
  /-- CAPU_CTRL_WRITE, R214. -/
  | capuCtrlWrite (u : Fin 4) (v : BitVec 32)
  /-- DON_REPLY, R221. -/
  | donReply (fr : Frame)
  /-- DOOR_REOPEN, R230. -/
  | doorReopen (d : Fin 32)
  /-- LOCK_TIMEOUT, R244. -/
  | lockTimeout (d : Fin 32)
  /-- HOMING_CLOSE_FAILURE, R248. -/
  | homingCloseFailure (d : Fin 32)
  /-- DWELL_EXPIRY, R316. -/
  | dwellExpiry (c : Fin 16)
  /-- DOOR_LEARN_DONE, R253. -/
  | doorLearnDone (c : Fin 16)
  /-- HALL_CALL, R294. -/
  | hallCall (fr : Frame)
  /-- DEST_CALL, R297. -/
  | destCall (fr : Frame)
  /-- CAR_CALL, R296. -/
  | carCall (fr : Frame)
  /-- CALL_ENTRY, R471. -/
  | callEntry
  /-- STO_MISSING, R337. -/
  | stoMissing (c : Fin 16)
  /-- CONTACTOR_FB_TIMEOUT, R340. -/
  | contactorFbTimeout (c : Fin 16)
  /-- BRAKE_FB_TIMEOUT, R341. -/
  | brakeFbTimeout (c : Fin 16) (circuit : Fin 2)
  /-- BRAKE_TEST_AUTO, R343. -/
  | brakeTestAuto (c : Fin 16)
  /-- BRAKE_TEST_PHASE_END, R342. -/
  | brakeTestPhaseEnd (c : Fin 16)
  /-- BRAKE_TEST_OVERDUE, R343. -/
  | brakeTestOverdue (c : Fin 16)
  /-- BRAKE_TEST_RETRY, R344. -/
  | brakeTestRetry (c : Fin 16)
  /-- DISCREPANCY, R326. -/
  | discrepancy (c : Fin 16) (src : DualSource)
  /-- XCHK_FAIL, R329. -/
  | xchkFail (c : Fin 16)
  /-- OVERSPEED, R348. -/
  | overspeed (c : Fin 16)
  /-- SAFETY_RESET, R354. -/
  | safetyReset (c : Fin 16)
  /-- RESET_STUCK, R355. -/
  | resetStuck (c : Fin 16)
  /-- START_TEST_FAILED, R360. -/
  | startTestFailed (c : Fin 16)
  /-- JOIN, R387. -/
  | join (fr : Frame)
  /-- HDV_REP, R378. -/
  | hdvRep (fr : Frame)
  /-- CTN_REP, R379. -/
  | ctnRep (fr : Frame)
  /-- PTN_REP, R380. -/
  | ptnRep (fr : Frame)
  /-- CONNECTION_WATCHDOG, R386. -/
  | connectionWatchdog (i : Nat)
  /-- INPUT_FILTER_ACCEPT, R400. -/
  | inputFilterAccept (i : Fin 96) (samples : List Nat)
  /-- INPUT_GUARD, R401. -/
  | inputGuard (i : Fin 96)
  /-- LP_LOW, R395. -/
  | lpLow (p : Fin 12)
  /-- LP_RESTORED, R395. -/
  | lpRestored (p : Fin 12)
  /-- COUPLER_FAULT, R394. -/
  | couplerFault (i : Fin 96)
  /-- FIELD_WATCHDOG, R405. -/
  | fieldWatchdog (i : Fin 96)
  /-- READBACK_FAULT, R408. -/
  | readbackFault (i : Fin 96) (detail : OvldDetail)
  /-- BUS_FRAME_UNOWNED, R437. -/
  | busFrameUnowned (fr : Frame)
  /-- FRAME_SENT, R438. -/
  | frameSent (n : Fin 12) (sof : BitVec 32) (delay : Nat)
  /-- RATE_ADOPTED, R429. -/
  | rateAdopted (n : Fin 12)
  /-- RATE_CANDIDATE_DROP, R429. -/
  | rateCandidateDrop (n : Fin 12) (why : RateDrop)
  /-- NOACK, R441. -/
  | noack (n : Fin 12)
  /-- COLLISION, R442. -/
  | collision (n : Fin 12)
  /-- ERROR_PASSIVE, R447. -/
  | errorPassive (n : Fin 12) (tec : Nat) (rec : Nat)
  /-- BUSOFF, R444. -/
  | busoff (n : Fin 12) (tec : Nat) (rec : Nat)
  /-- BUS_RECOVERED, R447. -/
  | busRecovered (n : Fin 12)
  /-- BUS_SLEEP, R449. -/
  | busSleep (n : Fin 12)
  /-- BUS_WAKE, R450. -/
  | busWake (n : Fin 12) (how : BusWake)
  /-- K_SLEEP_WRITE, R449. -/
  | kSleepWrite (n : Fin 12) (v : BitVec 32)
  /-- DB_CMD_TAIL, R461. -/
  | dbCmdTail (v : BitVec 32)
  /-- DB_CALL_TAIL, R461. -/
  | dbCallTail (v : BitVec 32)
  /-- DB_EVT_HEAD, R482. -/
  | dbEvtHead (v : BitVec 32)
  /-- DB_TEL_HEAD, R461. -/
  | dbTelHead (v : BitVec 32)
  /-- DB_LOG_HEAD, R461. -/
  | dbLogHead (v : BitVec 32)
  /-- DB_CAP_HEAD, R461. -/
  | dbCapHead (v : BitVec 32)
  /-- DB_CPL_HEAD, R461. -/
  | dbCplHead (v : BitVec 32)
  /-- HI_ENABLE, R484. -/
  | hiEnable (v : BitVec 32)
  /-- HI_DISABLE, R484. -/
  | hiDisable (v : BitVec 32)
  /-- CMD_FETCH, R462. -/
  | cmdFetch (bytes : List Byte)
  /-- CALL_FETCH, R462. -/
  | callFetch (bytes : List Byte)
  /-- STATUS_BLOCK_WRITE, R463. -/
  | statusBlockWrite
  /-- IRQ_MODERATION_END, R483. -/
  | irqModerationEnd (vec : Fin 16)
  /-- UNALIGNED_ACCESS, R456. -/
  | unalignedAccess (write : Bool) (addr : BitVec 16)
  /-- MAP_PAGE_SELECT, R577. -/
  | mapPageSelect (v : BitVec 32)
  /-- TBASE_LO_READ, R37. -/
  | tbaseLoRead (off : Fin 25000)
  /-- FC_SLUICE_COMMIT, R528. -/
  | fcSluiceCommit
  /-- PWR_PARK_WRITE, R569. -/
  | pwrParkWrite (v : BitVec 32)
  /-- GROUP_PARK, R569. -/
  | groupPark (g : Fin 6)
  /-- GROUP_UNPARK, R570. -/
  | groupUnpark (g : Fin 6)
  /-- RECOVERY_START, R565. -/
  | recoveryStart
  /-- RECOVERY_CHUNK, R565. -/
  | recoveryChunk (off : BitVec 24)
  /-- RECOVERY_COMMIT, R565. -/
  | recoveryCommit
  /-- REGISTER_WRITE, R581. -/
  | registerWrite (addr : BitVec 16) (v : BitVec 32)
  /-- NOP, R468. -/
  | nop (e : CmdEntry)
  /-- LOAD_IMAGE, R62. -/
  | loadImage (e : CmdEntry) (data : Option (List Byte))
  /-- IMAGE_VERIFIED, R64. -/
  | imageVerified (flashOk : Bool)
  /-- PEER_VERIFY_RESULT, R77. -/
  | peerVerifyResult (code : BitVec 8) (digest : List Byte)
  /-- IMAGE_NOT_QUIET, R72. -/
  | imageNotQuiet
  /-- CANCEL_IMAGE, R65. -/
  | cancelImage (e : CmdEntry)
  /-- READ_PROPOSAL, R80. -/
  | readProposal (e : CmdEntry)
  /-- KEY_RELEASE, R69. -/
  | keyRelease (e : CmdEntry)
  /-- SET_MODE, R309. -/
  | setMode (e : CmdEntry)
  /-- CLEAR_MODE, R309. -/
  | clearMode (e : CmdEntry)
  /-- CLEAR_DISPATCH_HOLD, R468. -/
  | clearDispatchHold (e : CmdEntry)
  /-- RUN, R468. -/
  | run (e : CmdEntry)
  /-- DOOR, R468. -/
  | door (e : CmdEntry)
  /-- DOOR_RESET, R230. -/
  | doorReset (e : CmdEntry)
  /-- LEARN_SHAFT, R146. -/
  | learnShaft (e : CmdEntry)
  /-- LEARN_DOORS, R250. -/
  | learnDoors (e : CmdEntry)
  /-- LEARN_CANCEL, R468. -/
  | learnCancel (e : CmdEntry)
  /-- BRAKE_TEST, R343. -/
  | brakeTest (e : CmdEntry)
  /-- INJECT, R205. -/
  | inject (e : CmdEntry)
  /-- INJECT_ABORT, R205. -/
  | injectAbort (e : CmdEntry)
  /-- IDENTIFY, R210. -/
  | identify (e : CmdEntry)
  /-- RAW_SEND, R435. -/
  | rawSend (e : CmdEntry) (data : Option (List Byte))
  /-- BUS_RECOVER, R444. -/
  | busRecover (e : CmdEntry)
  /-- CLEAR_RETIRED, R540. -/
  | clearRetired (e : CmdEntry)
  /-- UPDATE, R571. -/
  | update (e : CmdEntry) (data : Option (List Byte))
  /-- UPDATE_FLASH_DONE, R571. -/
  | updateFlashDone (ok : Bool)
  /-- UPDATE_NOT_QUIET, R571. -/
  | updateNotQuiet
  /-- RESET, R468. -/
  | reset (e : CmdEntry)
  /-- HEARTBEAT_RX, R494. -/
  | heartbeatRx (bytes : List Byte) (off : Nat)
  /-- HEARTBEAT_LOST, R513. -/
  | heartbeatLost
  /-- EPOCH_RX, R497. -/
  | epochRx (bytes : List Byte)
  /-- SNAP_PART_RX, R500. -/
  | snapPartRx (bytes : List Byte)
  /-- IMAGE_LINK_FRAME, R501. -/
  | imageLinkFrame (bytes : List Byte)
  /-- YILZ_LANE_LOSS, R491. -/
  | yilzLaneLoss (lane : Fin 2)
  /-- CLAIM_WORD_SEND, R503. -/
  | claimWordSend
  /-- CLAIM_WORD_RX, R503. -/
  | claimWordRx (w : BitVec 64)
  /-- CLAIM_WORD_TIMEOUT, R503. -/
  | claimWordTimeout
  /-- ROLE_NEGOTIATION, R510. -/
  | roleNegotiation
  /-- LEASE_ANS, R508. -/
  | leaseAns (fr : Frame)
  /-- LEASE_EXPIRY, R512. -/
  | leaseExpiry
  /-- SAFE_HOLD_RELEASE, R517. -/
  | safeHoldRelease
  /-- WIT_STATUS_RX, R506. -/
  | witStatusRx (fr : Frame)
  /-- WITNESS_LEASE_REQ, R507. -/
  | witnessLeaseReq (fr : Frame)
  /-- WITNESS_LEASE_REL, R507. -/
  | witnessLeaseRel (fr : Frame)
  /-- WIT_STATUS_SEND, R506. -/
  | witStatusSend
  /-- FAULT_REPORT, R531. -/
  | faultReport (m : FaultMsg)
  /-- TARGETED_TEST_DONE, R537. -/
  | targetedTestDone (u : TestUnit) (r : TestResult)
  /-- CRST_REBOOT, R525. -/
  | crstReboot
  /-- YILZ_LANE_SYNC, R521. -/
  | yilzLaneSync (lane : Fin 2)
  /-- HOST_MEMORY_ACCESS_DONE, R524. -/
  | hostMemoryAccessDone (cls : TagClass) (r : AccessResult)
  /-- UPDATE_IMAGE_CHECKED, R571. -/
  | updateImageChecked
  /-- RECOVERY_WRITE_DONE, R565. -/
  | recoveryWriteDone (ok : Bool)
  /-- PCI_POWER_STATE_CHANGE, R455. -/
  | pciPowerStateChange (d3 : Bool)
  deriving DecidableEq, Repr

end Sys2Proof
end

