-- ==== Sys2Proof/Machine/Basic.lean ====
section
/-! DEFINITION. Arithmetic, byte order and check values: the roundings the spec names, little-endian fields (R10),
two's complement (R9), and the CRCs of R542 and R543. -/

namespace Sys2Proof.Machine

/-- 06 R190 `rdiv`: divide and round to nearest, ties away from zero. Division by 0 does not arise in the spec; it answers 0. -/
def rdiv (x y : Int) : Int :=
  if y = 0 then 0
  else
    let q := (2 * x.natAbs + y.natAbs) / (2 * y.natAbs)
    if (x < 0) = (y < 0) then (q : Int) else -(q : Int)

/-- Division rounding towards zero (03 R108, 08 R278). -/
def tdiv (x y : Int) : Int := Int.tdiv x y

/-- 06 R190 `mul`: a Q16.16 factor. -/
def qmul (q x : Int) : Int := rdiv (q * x) 65536

/-- 06 R190 `clamp`. -/
def clamp (x lo hi : Int) : Int := if x < lo then lo else if hi < x then hi else x

/-- 06 R190 `sgn`. -/
def sgn (x : Int) : Int := if x < 0 then -1 else if x = 0 then 0 else 1

/-- Bits of the integer square root still to find, from `r`. -/
def isqrtGo : Nat → Nat → Nat → Nat
  | 0, r, _ => r
  | k + 1, r, n =>
    let r' := r + 2 ^ k
    if r' * r' ≤ n then isqrtGo k r' n else isqrtGo k r n

/-- 10 R349 `isqrt`: the integer square root. -/
def isqrt (n : Nat) : Nat := isqrtGo (n.log2 / 2 + 1) 0 n

/-- A fixed-point value with 16 fraction bits rounded to an integer, ties away from zero (04 R127). -/
def fxRound (x : Int) : Int := rdiv x 65536

/-- The signed value of a two's complement field (R9). -/
def s32 (w : BitVec 32) : Int := w.toInt

/-- The 32-bit two's complement form of a value. -/
def w32 (x : Int) : BitVec 32 := BitVec.ofInt 32 x

/-- Difference of two wrapping counters as a signed number (R89, 04 R119). -/
def diff32 (a b : BitVec 32) : Int := (a - b).toInt

/-- Periods since an earlier T0CNT, modulo 2^32 (R19). -/
def t0Since (now before : BitVec 32) : Nat := (now - before).toNat

/-- `n` bytes of a number, least significant first (R10). -/
def leBytes : Nat → Nat → List Byte
  | 0, _ => []
  | n + 1, x => BitVec.ofNat 8 x :: leBytes n (x / 256)

/-- The number a little-endian byte list spells. -/
def leNat : List Byte → Nat
  | [] => 0
  | b :: bs => b.toNat + 256 * leNat bs

/-- The signed number a little-endian byte list of `n` bytes spells. -/
def leInt (n : Nat) (bs : List Byte) : Int := (BitVec.ofNat (8 * n) (leNat bs)).toInt

/-- `n` bytes at an offset. -/
def slice (bs : List Byte) (off n : Nat) : List Byte := (bs.drop off).take n

/-- An unsigned field of `n` bytes at an offset; absent bytes read 0. -/
def fld (bs : List Byte) (off n : Nat) : Nat := leNat (slice bs off n)

/-- A signed field of `n` bytes at an offset. -/
def sfld (bs : List Byte) (off n : Nat) : Int := leInt n (slice bs off n)

/-- One byte at an offset. -/
def byteAt (bs : List Byte) (off : Nat) : Byte := bs.getD off 0

/-- A bit of a byte at an offset. -/
def bitAt (bs : List Byte) (off bit : Nat) : Bool := (byteAt bs off).getLsbD bit

/-- Every byte of a stretch is zero. -/
def zeroAt (bs : List Byte) (off n : Nat) : Bool := (slice bs off n).all (· = 0)

/-- A Bool as a bit. -/
def b2n (b : Bool) : Nat := if b then 1 else 0

/-- Bits of a byte from Booleans, least significant first. -/
def packBits : List Bool → Nat
  | [] => 0
  | b :: bs => b2n b + 2 * packBits bs

/-- A field [hi:lo] of a register word. -/
def bits (v : BitVec 32) (hi lo : Nat) : Nat := (v.toNat / 2 ^ lo) % 2 ^ (hi - lo + 1)

/-- A bit of a register word. -/
def bit (v : BitVec 32) (i : Nat) : Bool := v.getLsbD i

/-- Saturating addition of 1. -/
def satInc (x top : Nat) : Nat := if x < top then x + 1 else top

/-- All of the indices of a table. -/
def idx (n : Nat) : List (Fin n) := List.finRange n

/-- Keep a left fold readable where a step acts on many units in index order. -/
def forAll {σ : Type} {n : Nat} (s : σ) (f : σ → Fin n → σ) : σ := (idx n).foldl f s

/-- The polynomials of R542. -/
inductive Poly where
  | crc32c | crc32 | crc16
  deriving DecidableEq, Repr

/-- One bit of a reflected 32-bit CRC. -/
def crcRefBit (poly c : BitVec 32) : BitVec 32 :=
  if c.getLsbD 0 then (c >>> 1) ^^^ poly else c >>> 1

/-- One byte of a reflected 32-bit CRC. -/
def crcRefStep (poly c : BitVec 32) (b : Byte) : BitVec 32 :=
  let r := crcRefBit poly
  r (r (r (r (r (r (r (r (c ^^^ b.setWidth 32))))))))

/-- One bit of CRC-16/CCITT-FALSE. -/
def crc16Bit (c : BitVec 16) : BitVec 16 :=
  if c.getLsbD 15 then (c <<< 1) ^^^ 0x1021 else c <<< 1

/-- One byte of CRC-16/CCITT-FALSE. -/
def crc16Step (c : BitVec 16) (b : Byte) : BitVec 16 :=
  let r := crc16Bit
  r (r (r (r (r (r (r (r (c ^^^ (b.setWidth 16 <<< 8)))))))))

/-- CRC-16/CCITT-FALSE over bytes (R542). -/
def crc16 (bs : List Byte) : BitVec 16 := bs.foldl crc16Step 0xFFFF

/-- A 32-bit check value without the fold stage (R542: the reflected forms of the two polynomials). -/
def crcRef (poly : BitVec 32) (bs : List Byte) : BitVec 32 := (bs.foldl (crcRefStep poly) 0xFFFFFFFF) ^^^ 0xFFFFFFFF

/-- CRC-32C without the fold stage. -/
def crc32c (bs : List Byte) : BitVec 32 := crcRef 0x82F63B78 bs

/-- CRC-32 (IEEE 802.3) without the fold stage. -/
def crc32 (bs : List Byte) : BitVec 32 := crcRef 0xEDB88320 bs

/-- R543 `cv` for CRC-32C: the fold value's four bytes, least significant first, then the data. -/
def cv (fold : BitVec 32) (data : List Byte) : BitVec 32 := crc32c (leBytes 4 fold.toNat ++ data)

/-- Gray code to binary over exactly `n` bits (R103). -/
def grayToBin : Nat → Nat → Nat
  | 0, _ => 0
  | n + 1, g => g ^^^ grayToBin n (g / 2)

/-- Insert into a list kept in order by a key relation. -/
def insertBy {α : Type} (le : α → α → Bool) (a : α) : List α → List α
  | [] => [a]
  | b :: bs => if le a b then a :: b :: bs else b :: insertBy le a bs

/-- Stable insertion sort: the first of two equals stays first. -/
def sortBy {α : Type} (le : α → α → Bool) : List α → List α
  | [] => []
  | a :: as => insertBy le a (sortBy le as)

/-- The least element under a strict order, the first among equals. -/
def firstMin {α : Type} (lt : α → α → Bool) : List α → Option α
  | [] => none
  | a :: as =>
    match firstMin lt as with
    | none => some a
    | some b => if lt b a then some b else some a

end Sys2Proof.Machine
end

