-- ==== Sys2Proof/Machine/F64.lean ====
section
/-! DEFINITION. IEEE 754 binary64 with round-to-nearest-even (05 R156, R161; 06 R204, R211), as a 53-bit integer times a
power of two. Overflow and subnormal numbers lie outside the ranges the spec's quantities reach (log 6). -/

namespace Sys2Proof.Machine

/-- The value `m · 2^e`; `m` has at most 53 bits. -/
structure F64 where
  m : Int
  e : Int
  deriving DecidableEq, Repr

namespace F64

/-- Round the magnitude `m · 2^e`, with `sticky` telling that a nonzero part below was cut off, to 53 bits, ties to even. -/
def roundMag (m : Nat) (e : Int) (sticky : Bool) : Nat × Int :=
  let len := m.log2 + 1
  if len ≤ 53 then (m, e)
  else
    let k := len - 53
    let q := m / 2 ^ k
    let r := m % 2 ^ k
    let half := 2 ^ (k - 1)
    let up := half < r || (r = half && (sticky || q % 2 = 1))
    (if up then q + 1 else q, e + k)

/-- Rounded value with a sign. -/
def mk' (neg : Bool) (m : Nat) (e : Int) (sticky : Bool := false) : F64 :=
  if m = 0 then ⟨0, 0⟩
  else
    let r := roundMag m e sticky
    ⟨if neg then -(r.1 : Int) else r.1, r.2⟩

/-- An integer as a binary64 number. -/
def ofInt (x : Int) : F64 := mk' (x < 0) x.natAbs 0

/-- Zero. -/
def zero : F64 := ⟨0, 0⟩

/-- The exact sum's integer at the smaller exponent, and that exponent. -/
def align (a b : F64) : Int × Int × Int :=
  let e := min a.e b.e
  (a.m * 2 ^ (a.e - e).toNat, b.m * 2 ^ (b.e - e).toNat, e)

/-- Addition. -/
def add (a b : F64) : F64 :=
  let (x, y, e) := align a b
  mk' (x + y < 0) (x + y).natAbs e

/-- Negation. -/
def neg (a : F64) : F64 := ⟨-a.m, a.e⟩

/-- Subtraction. -/
def sub (a b : F64) : F64 := a.add b.neg

/-- Multiplication. -/
def mul (a b : F64) : F64 := mk' (a.m * b.m < 0) (a.m * b.m).natAbs (a.e + b.e)

/-- Division; a zero divisor does not arise where the spec divides, and answers 0. -/
def div (a b : F64) : F64 :=
  if b.m = 0 then zero
  else
    let n := a.m.natAbs * 2 ^ 120
    let q := n / b.m.natAbs
    mk' ((a.m < 0) != (b.m < 0)) q (a.e - b.e - 120) (n % b.m.natAbs ≠ 0)

/-- Square root of a non-negative number. -/
def sqrt (a : F64) : F64 :=
  if a.m ≤ 0 then zero
  else
    let odd := a.e % 2 = 1
    let m := a.m.natAbs * (if odd then 2 else 1) * 2 ^ 120
    let e := (if odd then a.e - 1 else a.e) / 2 - 60
    let r := isqrt m
    mk' false r e (r * r ≠ m)

/-- `a < b`. -/
def lt (a b : F64) : Bool :=
  let (x, y, _) := align a b
  x < y

/-- `a ≤ b`. -/
def le (a b : F64) : Bool := !(b.lt a)

/-- Magnitude. -/
def abs (a : F64) : F64 := ⟨a.m.natAbs, a.e⟩

/-- Largest integer not above. -/
def floor (a : F64) : Int :=
  if 0 ≤ a.e then a.m * 2 ^ a.e.toNat else a.m / 2 ^ (-a.e).toNat

/-- Nearest integer, ties away from zero (05 R157). -/
def round (a : F64) : Int :=
  if 0 ≤ a.e then a.m * 2 ^ a.e.toNat else rdiv a.m (2 ^ (-a.e).toNat)

/-- Nearest integer, halves up (05 R161 `rnd_us`). -/
def roundUp (a : F64) : Int :=
  if 0 ≤ a.e then a.m * 2 ^ a.e.toNat
  else
    let d : Int := 2 ^ (-a.e).toNat
    (2 * a.m + d) / (2 * d)

/-! Sine and natural logarithm (06 R204, R211): the exact value rounded once to binary64. The spec names the functions and the format
and not their rounding (log 7). Fixed-point values below carry 256 fraction bits. -/

/-- Fraction bits of the fixed-point values. -/
def fixBits : Nat := 256

/-- π. -/
def fixPi : Int := 363771576891766324280234942777729862653393377328392429958772151117938894466185

/-- A number as a fixed-point value, rounded down. -/
def toFix (a : F64) : Int :=
  if 0 ≤ a.e + fixBits then a.m * 2 ^ (a.e + fixBits).toNat else a.m / 2 ^ (-(a.e + fixBits)).toNat

/-- A fixed-point value in binary64. -/
def ofFix (x : Int) : F64 := mk' (x < 0) x.natAbs (-fixBits) true

/-- Sum of the sine's series: `t` is the term of degree `n`, `sq` the square of the argument, `k` the terms still to add. -/
def sinSeries (sq : Int) : Nat → Nat → Int → Int → Int
  | 0, _, _, sum => sum
  | k + 1, n, t, sum =>
    let t := -(tdiv (t * sq) (2 ^ (2 * fixBits) * ((n + 1) * (n + 2))))
    sinSeries sq k (n + 2) t (sum + t)

/-- Sine of an angle in radians. -/
def sin (a : F64) : F64 :=
  let x := toFix a
  let x := x - 2 * fixPi * rdiv x (2 * fixPi)
  ofFix (sinSeries (x * x) 45 1 x x)

/-- Sum of the odd powers `z, z^3/3, …`: `t` is the power of degree `n`, `sq` the square of `z` rounded down, `k` the terms to add. -/
def oddSeries (sq : Int) : Nat → Nat → Int → Int → Int
  | 0, _, _, sum => sum
  | k + 1, n, t, sum =>
    let t := tdiv (t * sq) (2 ^ fixBits)
    oddSeries sq k (n + 2) t (sum + tdiv t (n + 2))

/-- Twice the inverse hyperbolic tangent of `p / q`: the logarithm of `(q + p) / (q - p)`. -/
def logOf (p q : Int) : Int :=
  let z := tdiv (p * 2 ^ fixBits) q
  2 * oddSeries (tdiv (z * z) (2 ^ fixBits)) 90 1 z z

/-- Natural logarithm of a positive number: of `f * 2^n` with `f` from 1 to 2. -/
def ln (a : F64) : F64 :=
  if a.m ≤ 0 then zero
  else
    let len := a.m.natAbs.log2
    ofFix (logOf (a.m - 2 ^ len) (a.m + 2 ^ len) + (a.e + len) * logOf 1 3)

/-- 10^-6 as the nearest binary64 number: a microsecond in seconds. -/
def micro : F64 := (ofInt 1).div (ofInt 1000000)

end F64

end Sys2Proof.Machine
end

