-- ==== Sys2Proof/Machine/Model.lean ====
section
/-! DEFINITION. The building model in force as records (02 R51 to R61): what an applied image makes of its sections. -/

namespace Sys2Proof.Machine

/-- One LANDINGS record (02 R57). -/
structure Landing where
  level  : Int
  dzHalf : Int
  magnet : Bool          -- FLAGS bit 0
  fireRecall : Bool      -- FLAGS bit 1
  zone   : Nat
  label  : BitVec 32
  deriving DecidableEq, Repr

/-- One CARS record (02 R58). -/
structure CarRec where
  car         : Fin 16
  rear        : Bool
  loadWeigh   : Bool
  capacity    : Nat
  ratedSpeed  : Int
  frontMask   : BitVec 128
  rearMask    : BitVec 128
  topLimit    : Int
  bottomLimit : Int
  frontWidth  : Nat
  rearWidth   : Nat
  frontMass   : Nat
  rearMass    : Nat
  deriving DecidableEq, Repr

/-- One ZONES record (08 R270). -/
structure ZoneRec where
  zone      : Nat
  cars      : Tab 4 (BitVec 16)
  park      : Tab 4 Nat
  parkCount : Tab 4 Nat
  deriving DecidableEq, Repr

/-- One PORTS record (03 R118). -/
structure PortRec where
  mode    : Nat
  htl     : Bool
  dir     : Bool
  inv     : BitVec 3
  idxEdge : Bool
  listen  : Bool
  filt    : Nat
  tstop   : Nat
  role    : Nat
  car     : Nat          -- 0xFF none
  supply  : Nat
  ssiBits : Nat
  gray    : Bool
  errEn   : Bool
  errLow  : Bool
  posLsb  : Nat
  posBits : Nat
  errPos  : Nat
  rate    : Nat
  delay   : Nat
  scale   : Int          -- Q16.16, 0.1 mm per count
  zero    : Int
  idxWin  : Nat
  deriving DecidableEq, Repr

/-- One POLDERS record (12 R396). -/
structure PolRec where
  role      : Nat
  car       : Nat        -- 0xFF none
  inv       : Bool
  wbEn      : Bool
  safeOn    : Bool
  filter    : Nat
  partner   : Nat        -- 0xFF none
  prio      : Nat
  disc      : Nat
  wdog      : Nat
  inrush    : Nat
  budget    : Nat
  modBudget : Nat
  deriving DecidableEq, Repr

/-- Node classes (02 R59). -/
inductive NodeClass where
  | hdv | don | ctn | ptn | lfn | wit
  deriving DecidableEq, Repr

/-- One NODES record (02 R59). -/
structure NodeRec where
  cls      : NodeClass
  bus      : Fin 12
  car      : Nat         -- 0xFF none
  side     : Nat         -- 0xFF none
  addr     : BitVec 16
  safety   : Bool
  nodeId   : BitVec 32
  watchdog : Nat
  pubkey   : List Byte
  deriving DecidableEq, Repr

/-- A hoist PROFILES record (05 R152), defaults of R126 substituted. -/
structure HoistRec where
  accel         : Int
  decel         : Int
  jerk          : Int
  brakeLift     : Nat    -- 10 ms
  brakeDrop     : Nat    -- 10 ms
  posTolFine    : Int
  posTolCoarse  : Int
  absJump       : Int
  absBridge     : Nat
  slipBase      : Int
  slipPermille  : Int
  corrSpeed     : Int
  refSpeed      : Int
  relevelStart  : Int
  relevelStop   : Int
  relevelSpeed  : Int
  learnSpeed    : Int
  deriving DecidableEq, Repr

/-- A door PROFILES record (05 R153), QS defaults substituted. -/
structure DoorRec where
  openPos    : Int
  vOpen      : Int
  vClose     : Int
  accel      : Int
  decel      : Int
  jerk       : Int
  revDecel   : Int
  refSpeed   : Int
  nudgeSpeed : Int
  qsRise     : Int
  qsFall     : Int
  fitted     : Bool
  deriving DecidableEq, Repr

/-- A stored segment (05 R155): duration [µs], end position, end velocity; `phase` is 1 to 7, or 0 (05 R184). -/
structure Seg where
  dur    : Nat
  endPos : Int
  endVel : Int
  phase  : Nat
  deriving DecidableEq, Repr

/-- One user table (05 R174). -/
structure TableRec where
  kind     : Nat
  car      : Nat
  side     : Nat
  landing  : Nat
  from_    : Nat
  startPos : Int
  segs     : List Seg
  deriving DecidableEq, Repr

/-- One FORCE_MAPS record (07 R237). -/
structure ForceMap where
  car     : Nat
  side    : Nat
  landing : Nat
  margin  : Int          -- [N], default substituted
  f       : List Int     -- 64 points
  deriving DecidableEq, Repr

/-- One DOOR_TIMES record (08 R274). -/
structure DoorTime where
  car     : Nat
  side    : Nat
  landing : Nat
  openMs  : Int
  closeMs : Int
  deriving DecidableEq, Repr

/-- The weights of one pattern (08 R277), raw Q8.8. -/
structure Weights where
  wait   : Int
  long   : Int
  ride   : Int
  energy : Int
  regen  : Int
  load   : Int
  deriving DecidableEq, Repr

/-- The DISPATCH record (08 R277). -/
structure DispatchRec where
  patternDefault : Nat
  lanternLate    : Bool
  ctnCancel      : Bool
  startDelay     : Int
  dwellHall      : Int
  dwellCar       : Int
  dwellAccess    : Int
  doorOpenDef    : Int
  doorCloseDef   : Int
  paxMass        : Int
  hallPax        : Int
  lanternLead    : Int
  parkDelay      : Nat
  swapBudget     : Nat
  longWait       : Int
  loadFull       : Int
  weights        : Tab 4 Weights
  deriving DecidableEq, Repr

/-- One MODE_POLICY record (09 R303), defaults substituted where a field of 0 selects one. -/
structure PolicyRec where
  car         : Fin 16
  nudge       : Bool
  recallClose : Bool
  epwrSelect  : Bool
  seisClose   : Bool
  hostAllow   : BitVec 16
  obstTime    : Nat      -- 100 ms
  recallMain  : Nat
  recallAlt   : Nat      -- 0xFF none
  evacLanding : Nat      -- 0xFF none
  inspSpeed   : Int
  epwrSpeed   : Int
  seisSpeed   : Int
  deriving DecidableEq, Repr

/-- One gain set (06 R189), Q16.16. -/
structure GainSet where
  kvf : Int
  kp  : Int
  ki  : Int
  kd  : Int
  deriving DecidableEq, Repr

/-- One GAINS record (06 R189). -/
structure GainRec where
  kind      : Nat
  regionMap : BitVec 8
  corrMax   : Int
  uMax      : Int
  iMax      : Int
  feLimit   : Int
  regA      : Int
  regB      : Int
  p1        : Int
  p2        : Int
  p3        : Int
  p4        : Int
  sets      : Tab 4 GainSet
  deriving DecidableEq, Repr

/-- One BUSES record (13 R423). -/
structure BusRec where
  en        : Bool
  fd        : Bool
  brs       : Bool
  auto      : Bool
  txq       : Bool
  txord     : Bool
  raw       : Bool
  boff      : Nat
  nbrp      : Nat
  ntseg1    : Nat
  ntseg2    : Nat
  nsjw      : Nat
  dbrp      : Nat
  dtseg1    : Nat
  dtseg2    : Nat
  dsjw      : Nat
  tdcOffset : Nat
  deriving DecidableEq, Repr

/-- One section of an image (02 R53): type and bytes without padding. -/
structure Section where
  type  : Nat
  bytes : List Byte
  deriving DecidableEq, Repr

/-- The building model of one image: its header values, its records and its section bytes, which R70 compares. -/
structure Model where
  seq       : BitVec 32
  groupId   : BitVec 32
  digest    : List Byte
  landings  : List Landing
  carMask   : BitVec 16
  cars      : List CarRec
  zones     : List ZoneRec
  ports     : Tab 48 PortRec
  polders   : Tab 96 PolRec
  nodes     : List NodeRec
  hoists    : Tab 16 HoistRec
  doors     : Tab 32 DoorRec
  tables    : List TableRec
  maps      : List ForceMap
  times     : List DoorTime
  dispatch  : DispatchRec
  policies  : List PolicyRec
  gains     : Tab 48 GainRec
  instKey   : List Byte
  keyId     : BitVec 32
  buses     : Tab 12 BusRec
  sections  : List Section
  deriving DecidableEq, Repr

namespace Model

/-- The CARS record of a car. -/
def car? (m : Model) (c : Fin 16) : Option CarRec := m.cars.find? (·.car = c)

/-- Car `c` is present (R56). -/
def present (m : Model) (c : Fin 16) : Bool := m.carMask.getLsbD c

/-- The present cars in car order. -/
def presentCars (m : Model) : List (Fin 16) := (idx 16).filter m.present

/-- The rear door of a car is fitted. -/
def rearFitted (m : Model) (c : Fin 16) : Bool := (m.car? c).elim false (·.rear)

/-- Side `side` (0 front, 1 rear) of car `c` serves landing `l`. -/
def serves (m : Model) (c : Fin 16) (side l : Nat) : Bool :=
  match m.car? c with
  | some r => if side = 0 then r.frontMask.getLsbD l else if side = 1 then r.rearMask.getLsbD l else false
  | none => false

/-- Some side of car `c` serves landing `l`. -/
def served (m : Model) (c : Fin 16) (l : Nat) : Bool := m.serves c 0 l || m.serves c 1 l

/-- The landings a car serves, lowest first. -/
def servedLandings (m : Model) (c : Fin 16) : List Nat := (List.range m.landings.length).filter (m.served c)

/-- The level of a landing; 0 beyond the last. -/
def level (m : Model) (l : Nat) : Int := (m.landings[l]?).elim 0 (·.level)

/-- The door-zone half-width of a landing. -/
def dzHalf (m : Model) (l : Nat) : Int := (m.landings[l]?).elim 0 (·.dzHalf)

/-- Landing `l` has a door-zone magnet. -/
def magnet (m : Model) (l : Nat) : Bool := (m.landings[l]?).elim false (·.magnet)

/-- The MODE_POLICY record of a car. -/
def policy? (m : Model) (c : Fin 16) : Option PolicyRec := m.policies.find? (·.car = c)

/-- The port of a car with a role, if it has one (04 R125: at most one). -/
def rolePort? (m : Model) (c : Fin 16) (role : Nat) : Option (Fin 48) :=
  (idx 48).find? fun n => (m.ports.get n).role = role && (m.ports.get n).car = c.val

/-- The polder channel of a car with a role. -/
def polCh? (m : Model) (c : Fin 16) (role : Nat) : Option (Fin 96) :=
  (idx 96).find? fun i => (m.polders.get i).role = role && (m.polders.get i).car = c.val

/-- The index in NODES of a node of a class bound to a car. -/
def node? (m : Model) (c : Fin 16) (cls : NodeClass) : Option Nat :=
  m.nodes.findIdx? fun n => n.cls = cls && n.car = c.val

/-- The indices in NODES of every node of a class bound to a car; a car may have several PTNs. -/
def nodesIdx (m : Model) (c : Fin 16) (cls : NodeClass) : List Nat :=
  (List.range m.nodes.length).filter fun i => (m.nodes[i]?).any fun n => n.cls = cls && n.car = c.val

/-- The index in NODES of a car's door operator on a side. -/
def don? (m : Model) (c : Fin 16) (side : Nat) : Option Nat :=
  m.nodes.findIdx? fun n => n.cls = .don && n.car = c.val && n.side = side

/-- The bytes of a section, where the image has it. -/
def sectionOf (m : Model) (t : Nat) : Option (List Byte) := (m.sections.find? (·.type = t)).map (·.bytes)

/-- A fitted door side (07: front always, rear where the car has one). -/
def sideFitted (m : Model) (c : Fin 16) (side : Nat) : Bool :=
  m.present c && (side = 0 || (side = 1 && m.rearFitted c))

end Model

end Sys2Proof.Machine
end

