-- ==== Sys2Proof/Machine/Plans.lean ====
section
/-! DEFINITION. Planning (05 R155 to R162, R170, R173): the segment table's evaluation and the plans, in binary64. -/

namespace Sys2Proof.Machine

/-- A whole number of microseconds as binary64 seconds (R156 `dur / 1e6`). -/
def secs (us : Nat) : F64 := (F64.ofInt us).div (F64.ofInt 1000000)

/-- R161 `rnd_us`: whole microseconds of a duration in seconds, halves up; never negative. -/
def rndUs (t : F64) : Nat := (t.mul (F64.ofInt 1000000)).roundUp.toNat

/-- A reference: position, velocity and acceleration, with the segment and phase in force. -/
structure Ref where
  p     : F64
  v     : F64
  a     : F64
  ix    : Nat
  phase : Nat
  deriving DecidableEq, Repr

/-- R156 `eval`, with the operations in the order written there. -/
def hermite (p0 v0 p1 v1 : Int) (dur t : Nat) : F64 × F64 × F64 :=
  let n := F64.ofInt
  let d := secs dur
  let s := (n t).div (n dur)
  let c2 := ((n 3).mul (n (p1 - p0))).sub (d.mul (n (2 * v0 + v1)))
  let c3 := ((n (-2)).mul (n (p1 - p0))).add (d.mul (n (v0 + v1)))
  let p := (((n p0).add ((d.mul (n v0)).mul s)).add ((c2.mul s).mul s)).add (((c3.mul s).mul s).mul s)
  let v := (((d.mul (n v0)).add (((n 2).mul c2).mul s)).add ((((n 3).mul c3).mul s).mul s)).div d
  let a := (((n 2).mul c2).add (((n 6).mul c3).mul s)).div (d.mul d)
  (p, v, a)

/-- The plan's reference at plan time `tau` (R157): a segment end belongs to the next segment. -/
def refAt : Int → Int → List Seg → Nat → Nat → Ref
  | p0, _, [], _, ix => ⟨F64.ofInt p0, F64.zero, F64.zero, ix - 1, 0⟩
  | p0, v0, g :: gs, tau, ix =>
    if tau < g.dur then
      let r := hermite p0 v0 g.endPos g.endVel g.dur tau
      ⟨r.1, r.2.1, r.2.2, ix, g.phase⟩
    else refAt g.endPos g.endVel gs (tau - g.dur) (ix + 1)

/-- Length of a plan [µs]. -/
def planLen (l : List Seg) : Nat := (l.map (·.dur)).sum

/-- R161 `ch`: tj and ta in µs and the travel. -/
def ch (v1 v2 a j : F64) : Nat × Nat × F64 :=
  let dv := (v2.sub v1).abs
  let q := (a.mul a).div j
  let (tj, ta) := if q.le dv then (a.div j, (dv.div a).sub (a.div j)) else ((dv.div j).sqrt, F64.zero)
  let tj := rndUs tj
  let ta := rndUs ta
  (tj, ta, ((v1.add v2).div (F64.ofInt 2)).mul (((F64.ofInt 2).mul (secs tj)).add (secs ta)))

/-- The travel of `ch`. -/
def chS (v1 v2 a j : F64) : F64 := (ch v1 v2 a j).2.2

/-- The bisection of R161. -/
def bisect (v0 a d j s : F64) : Nat → F64 → F64 → F64
  | 0, lo, _ => lo
  | k + 1, lo, hi =>
    let m := (lo.add hi).div (F64.ofInt 2)
    if ((chS v0 m a j).add (chS m F64.zero d j)).le s then bisect v0 a d j s k m hi else bisect v0 a d j s k lo m

/-- The running motion along travel from which end values are taken (R162). -/
structure Motion where
  s   : F64
  v   : F64
  a   : F64
  out : List Seg

/-- Emit one constant-jerk phase; a phase of zero duration is omitted. `vset` sets the end velocity. -/
def emit (p0 sg : Int) (m : Motion) (dur : Nat) (jerk : F64) (phase : Nat) (vset : Option Int) : Motion :=
  if dur = 0 then m
  else
    let n := F64.ofInt
    let t := secs dur
    let s := ((m.s.add (m.v.mul t)).add (((m.a.mul t).mul t).div (n 2))).add ((((jerk.mul t).mul t).mul t).div (n 6))
    let v := (m.v.add (m.a.mul t)).add (((jerk.mul t).mul t).div (n 2))
    let a := m.a.add (jerk.mul t)
    let (v, a) := match vset with
      | some x => (n x, F64.zero)
      | none => (v, a)
    { s := s, v := v, a := a,
      out := m.out ++ [⟨dur, ((n p0).add ((n sg).mul s)).round, ((n sg).mul v).round, phase⟩] }

/-- The last segment ends at a given position with velocity 0. -/
def endAtPos (x : Int) : List Seg → List Seg
  | [] => []
  | [g] => [{ g with endPos := x, endVel := 0 }]
  | g :: gs => g :: endAtPos x gs

/-- What `plan()` returns. -/
inductive PlanRes where
  | late | refused | ok (segs : List Seg)
  deriving DecidableEq, Repr

/-- The top speed that R161 chooses, or why there is none. -/
def topSpeed (v0 s vmax a d j : F64) : Option F64 ⊕ Bool :=
  if vmax.lt v0 then
    if s.lt ((chS v0 vmax d j).add (chS vmax F64.zero d j)) then .inr true else .inl (some vmax)
  else if ((chS v0 vmax a j).add (chS vmax F64.zero d j)).le s then .inl (some vmax)
  else if s.lt (chS v0 F64.zero d j) then .inr false
  else .inl (some (F64.ofInt (bisect v0 a d j s 48 v0 vmax).floor))

/-- R161 `plan` and the phases of R162; `v0` is along travel. A cruise over the 60 s of R155 is one segment: that it is not split is the
model's choice (DESIGN CHOICE, log 145). -/
def plan (p0 v0 x vmax acc dec jerk : Int) : PlanRes :=
  let n := F64.ofInt
  let sg : Int := if p0 ≤ x then 1 else -1
  let s := n (x - p0).natAbs
  match topSpeed (n v0) s (n vmax) (n acc) (n dec) (n jerk) with
  | .inr true => .late
  | .inr false => .refused
  | .inl none => .refused
  | .inl (some vc) =>
    let vci := vc.floor
    let up := v0 ≤ vci
    let u := ch (n v0) vc (n (if up then acc else dec)) (n jerk)
    let w := ch vc F64.zero (n dec) (n jerk)
    let tv := if 0 < vci then rndUs (((s.sub u.2.2).sub w.2.2).div vc) else 0
    let j := n jerk
    let ju := if up then j else j.neg
    let m : Motion := { s := F64.zero, v := n v0, a := F64.zero, out := [] }
    let m := emit p0 sg m u.1 ju 1 none
    let m := emit p0 sg m u.2.1 F64.zero 2 none
    let m := emit p0 sg m u.1 ju.neg 3 (some vci)
    let m := emit p0 sg m tv F64.zero 4 (some vci)
    let m := emit p0 sg m w.1 j.neg 5 none
    let m := emit p0 sg m w.2.1 F64.zero 6 none
    let m := emit p0 sg m w.1 j 7 (some 0)
    .ok (endAtPos x m.out)

/-- The last END_VEL stored as 0. -/
def stillAtEnd : List Seg → List Seg
  | [] => []
  | [g] => [{ g with endVel := 0 }]
  | g :: gs => g :: stillAtEnd gs

/-- R170 `stop_plan` from a signed state: the plan's origin is the rounded state. -/
def stopPlan (p v a : F64) (dec jerk : Int) : List Seg :=
  let n := F64.ofInt
  let sg : Int := if v.m < 0 then -1 else if 0 < v.m then 1 else if a.m < 0 then -1 else 1
  let v := (n sg).mul v
  let a := (n sg).mul a
  let d := n dec
  let j := n jerk
  let p0 := p.round
  let m : Motion := { s := F64.zero, v := v, a := a, out := [] }
  if a.lt F64.zero && (((n 2).mul j).mul v).lt (a.mul a) then
    let t := rndUs (((n 2).mul v).div a.neg)
    stillAtEnd (emit p0 sg m t (a.neg.div (secs t)) 0 (some 0)).out
  else
    let lim := a.lt d.neg
    let t1 := rndUs ((d.neg.sub a).div j)
    let m := if lim then { emit p0 sg m t1 j 0 none with a := d.neg } else m
    let v := if lim then v.add (((a.sub d).div (n 2)).mul (secs t1)) else v
    let a := if lim then d.neg else a
    let w := v.add ((a.mul a).div ((n 2).mul j))
    let q := (d.mul d).div j
    let (dp, tb) := if q.le w then (d, (w.sub q).div d) else ((j.mul w).sqrt, F64.zero)
    let m := { emit p0 sg m (rndUs ((a.add dp).div j)) j.neg 0 none with a := dp.neg }
    let m := emit p0 sg m (rndUs tb) F64.zero 0 none
    stillAtEnd (emit p0 sg m (rndUs (dp.div j)) j 0 (some 0)).out

/-- R173's reversal segment from a signed state. -/
def reversalSeg (p v : F64) (rev : Int) : Seg :=
  let t := rndUs (v.abs.div (F64.ofInt rev))
  ⟨t, (p.add ((v.mul (secs t)).div (F64.ofInt 2))).round, 0, 0⟩

/-- Greatest speed magnitude of one segment from plan time `from_` within it: its ends and any interior extremum. -/
def segPeak (p0 v0 : Int) (g : Seg) (from_ : Nat) : F64 :=
  let n := F64.ofInt
  let d := secs g.dur
  let c2 := ((n 3).mul (n (g.endPos - p0))).sub (d.mul (n (2 * v0 + g.endVel)))
  let c3 := ((n (-2)).mul (n (g.endPos - p0))).add (d.mul (n (v0 + g.endVel)))
  let vAt (s : F64) : F64 := ((((d.mul (n v0)).add (((n 2).mul c2).mul s)).add ((((n 3).mul c3).mul s).mul s)).div d).abs
  let s0 := (n from_).div (n g.dur)
  let ends := [vAt s0, (n g.endVel).abs]
  let all := if c3.m = 0 then ends
    else
      let s := (c2.neg).div ((n 3).mul c3)
      if s0.lt s && s.lt (n 1) then vAt s :: ends else ends
  all.foldl (fun m x => if m.lt x then x else m) F64.zero

/-- Greatest speed magnitude of a plan from plan time `tau` on (R168, R176). -/
def planPeak : Int → Int → List Seg → Nat → F64
  | _, _, [], _ => F64.zero
  | p0, v0, g :: gs, tau =>
    if g.dur ≤ tau then planPeak g.endPos g.endVel gs (tau - g.dur)
    else
      let here := segPeak p0 v0 g tau
      let rest := planPeak g.endPos g.endVel gs 0
      if here.lt rest then rest else here

/-- The end of phase 3 seen from a point of a plan: the segments up to it, the first one cut to what remains of it (R165).
Where a plan holds more than one acceleration, the re-plan point is the end of the last phase 3 before the cruise: which one the spec
does not say (DESIGN CHOICE, log 146). -/
def toPhase3 : List Seg → Nat → List Seg
  | [], _ => []
  | g :: gs, tau =>
    if g.dur ≤ tau then toPhase3 gs (tau - g.dur)
    else { g with dur := g.dur - tau } :: gs.takeWhile fun h => h.phase = 1 || h.phase = 2 || h.phase = 3

/-- Run time from rest [µs] by the PG's own plan (R162, 08 R276): 0 below 1 mm. -/
def runUs (p0 x vmax acc dec jerk : Int) : Nat :=
  if (x - p0).natAbs < 10 then 0
  else match plan p0 0 x vmax acc dec jerk with
    | .ok l => planLen l
    | _ => 0

/-- The door closing cap of R160: energy E in J, MASS in 0.1 kg. -/
def energyCap (mass : Nat) (e : Int) : Int :=
  let n := F64.ofInt
  ((n 10000).mul ((((n 2).mul (n e)).div ((n mass).div (n 10))).sqrt)).floor

end Sys2Proof.Machine
end

