-- ==== Sys2Proof/Machine/Crypto.lean ====
section
/-! DEFINITION. The cryptographic functions the spec takes from published standards (00, the table of standards): SHA-256 to
FIPS 180-4, ECDSA P-256 to FIPS 186-4 (02 R54), ECDH on the same curve, HKDF to RFC 5869 (11 R368) and AES-128-CMAC to NIST
SP 800-38B (11 R375). They are written from those standards (log 5). -/

namespace Sys2Proof.Machine

/-- A number from bytes, most significant first. -/
def beNat (bs : List Byte) : Nat := bs.foldl (fun n b => 256 * n + b.toNat) 0

/-- `n` bytes of a number, most significant first. -/
def beBytes (n x : Nat) : List Byte := (leBytes n x).reverse

/-! SHA-256 (FIPS 180-4). -/

/-- The round constants. -/
def shaK : List (BitVec 32) :=
  [0x428a2f98, 0x71374491, 0xb5c0fbcf, 0xe9b5dba5, 0x3956c25b, 0x59f111f1, 0x923f82a4, 0xab1c5ed5,
   0xd807aa98, 0x12835b01, 0x243185be, 0x550c7dc3, 0x72be5d74, 0x80deb1fe, 0x9bdc06a7, 0xc19bf174] ++
  [0xe49b69c1, 0xefbe4786, 0x0fc19dc6, 0x240ca1cc, 0x2de92c6f, 0x4a7484aa, 0x5cb0a9dc, 0x76f988da,
   0x983e5152, 0xa831c66d, 0xb00327c8, 0xbf597fc7, 0xc6e00bf3, 0xd5a79147, 0x06ca6351, 0x14292967] ++
  [0x27b70a85, 0x2e1b2138, 0x4d2c6dfc, 0x53380d13, 0x650a7354, 0x766a0abb, 0x81c2c92e, 0x92722c85,
   0xa2bfe8a1, 0xa81a664b, 0xc24b8b70, 0xc76c51a3, 0xd192e819, 0xd6990624, 0xf40e3585, 0x106aa070] ++
  [0x19a4c116, 0x1e376c08, 0x2748774c, 0x34b0bcb5, 0x391c0cb3, 0x4ed8aa4a, 0x5b9cca4f, 0x682e6ff3,
   0x748f82ee, 0x78a5636f, 0x84c87814, 0x8cc70208, 0x90befffa, 0xa4506ceb, 0xbef9a3f7, 0xc67178f2]

/-- The eight words of the hash value. -/
structure Sha where
  a : BitVec 32
  b : BitVec 32
  c : BitVec 32
  d : BitVec 32
  e : BitVec 32
  f : BitVec 32
  g : BitVec 32
  h : BitVec 32
  deriving DecidableEq, Repr

/-- The initial hash value. -/
def Sha.init : Sha :=
  { a := 0x6a09e667, b := 0xbb67ae85, c := 0x3c6ef372, d := 0xa54ff53a, e := 0x510e527f, f := 0x9b05688c, g := 0x1f83d9ab, h := 0x5be0cd19 }

/-- Rotate right. -/
def rotr (x : BitVec 32) (n : Nat) : BitVec 32 := (x >>> n) ||| (x <<< (32 - n))

/-- The message schedule: the words so far, newest first, extended by `n`. -/
def shaSchedule : Nat → List (BitVec 32) → List (BitVec 32)
  | 0, ws => ws
  | n + 1, ws =>
    let w (i : Nat) : BitVec 32 := ws.getD (i - 1) 0
    let s0 := rotr (w 15) 7 ^^^ rotr (w 15) 18 ^^^ (w 15 >>> 3)
    let s1 := rotr (w 2) 17 ^^^ rotr (w 2) 19 ^^^ (w 2 >>> 10)
    shaSchedule n ((w 16 + s0 + w 7 + s1) :: ws)

/-- One round. -/
def Sha.round (s : Sha) (kw : BitVec 32) : Sha :=
  let t1 := s.h + (rotr s.e 6 ^^^ rotr s.e 11 ^^^ rotr s.e 25) + ((s.e &&& s.f) ^^^ (~~~s.e &&& s.g)) + kw
  let t2 := (rotr s.a 2 ^^^ rotr s.a 13 ^^^ rotr s.a 22) + ((s.a &&& s.b) ^^^ (s.a &&& s.c) ^^^ (s.b &&& s.c))
  { a := t1 + t2, b := s.a, c := s.b, d := s.c, e := s.d + t1, f := s.e, g := s.f, h := s.g }

/-- One block of 16 words. -/
def Sha.block (s : Sha) (ws : List (BitVec 32)) : Sha :=
  let r := (List.zipWith (· + ·) shaK (shaSchedule 48 ws.reverse).reverse).foldl Sha.round s
  { a := s.a + r.a, b := s.b + r.b, c := s.c + r.c, d := s.d + r.d, e := s.e + r.e, f := s.f + r.f, g := s.g + r.g, h := s.h + r.h }

/-- Cut a list into `k` pieces of `n`. -/
def pieces {α : Type} (n : Nat) : Nat → List α → List (List α)
  | 0, _ => []
  | k + 1, l => l.take n :: pieces n k (l.drop n)

/-- SHA-256 of a message. -/
@[irreducible] def sha256 (m : List Byte) : List Byte :=
  let zeros := (119 - m.length % 64) % 64
  let padded := m ++ [0x80] ++ List.replicate zeros 0 ++ beBytes 8 (8 * m.length)
  let words := (pieces 4 (padded.length / 4) padded).map fun b => BitVec.ofNat 32 (beNat b)
  let s := (pieces 16 (words.length / 16) words).foldl Sha.block Sha.init
  [s.a, s.b, s.c, s.d, s.e, s.f, s.g, s.h].flatMap fun w => beBytes 4 w.toNat

/-! HMAC and HKDF (RFC 5869) with SHA-256. -/

/-- HMAC-SHA-256. -/
def hmac (key msg : List Byte) : List Byte :=
  let k0 := if 64 < key.length then sha256 key else key
  let k := k0 ++ List.replicate (64 - k0.length) 0
  sha256 (k.map (· ^^^ 0x5C) ++ sha256 (k.map (· ^^^ 0x36) ++ msg))

/-- HKDF-extract: salt, input. -/
@[irreducible] def hkdfExtract (salt ikm : List Byte) : List Byte := hmac salt ikm

/-- Blocks of HKDF-expand from number `i`, `last` being the block before. -/
def hkdfBlocks (prk info : List Byte) : Nat → Nat → List Byte → List Byte
  | 0, _, _ => []
  | n + 1, i, last =>
    let t := hmac prk (last ++ info ++ [BitVec.ofNat 8 i])
    t ++ hkdfBlocks prk info n (i + 1) t

/-- HKDF-expand: prk, info, length. -/
@[irreducible] def hkdfExpand (prk info : List Byte) (n : Nat) : List Byte := (hkdfBlocks prk info ((n + 31) / 32) 1 []).take n

/-! The curve P-256 (FIPS 186-4). -/

/-- The prime of the field. -/
def p256P : Nat := 0xffffffff00000001000000000000000000000000ffffffffffffffffffffffff
/-- The order of the base point. -/
def p256N : Nat := 0xffffffff00000000ffffffffffffffffbce6faada7179e84f3b9cac2fc632551
/-- The coefficient b; a is -3. -/
def p256B : Nat := 0x5ac635d8aa3a93e7b3ebbd55769886bc651d06b0cc53b0f63bce3c3e27d2604b
/-- The base point. -/
def p256G : Nat × Nat :=
  (0x6b17d1f2e12c4247f8bce6e563a440f277037d812deb33a0f4a13945d898c296,
   0x4fe342e2fe1a7f9b8ee7eb4a7c0f9e162bce33576b315ececbb6406837bf51f5)

/-- A power modulo `n`, over `k` bits of the exponent. -/
def powMod (n : Nat) : Nat → Nat → Nat → Nat
  | 0, _, _ => 1 % n
  | k + 1, x, e => if e % 2 = 1 then x * powMod n k (x * x % n) (e / 2) % n else powMod n k (x * x % n) (e / 2)

/-- The inverse modulo a 256-bit prime. -/
def invMod (n x : Nat) : Nat := powMod n 256 x (n - 2)

/-- The difference modulo `n`. -/
def subMod (n x y : Nat) : Nat := (x % n + (n - y % n)) % n

/-- A point lies on the curve: coordinates in the field, and the equation. -/
def onCurve (x y : Nat) : Bool :=
  x < p256P && y < p256P && y * y % p256P = (subMod p256P (x * x % p256P * x) (3 * x) + p256B) % p256P

/-- Addition of points; none is the point at infinity. -/
def addPoint : Option (Nat × Nat) → Option (Nat × Nat) → Option (Nat × Nat)
  | none, q => q
  | p, none => p
  | some (x1, y1), some (x2, y2) =>
    if x1 = x2 && (y1 + y2) % p256P = 0 then none
    else
      let l := if x1 = x2 then subMod p256P (3 * x1 * x1) 3 * invMod p256P (2 * y1 % p256P) % p256P
        else subMod p256P y2 y1 * invMod p256P (subMod p256P x2 x1) % p256P
      let x := subMod p256P (l * l) (x1 + x2)
      some (x, subMod p256P (l * subMod p256P x1 x) y1)

/-- A multiple of a point, over `k` bits of the factor. -/
def mulPoint : Nat → Nat → Option (Nat × Nat) → Option (Nat × Nat)
  | 0, _, _ => none
  | k + 1, e, p =>
    let r := mulPoint k (e / 2) (addPoint p p)
    if e % 2 = 1 then addPoint p r else r

/-- A public key of 64 bytes, X then Y, each most significant byte first, is a valid curve point (02 R59). -/
@[irreducible] def curvePoint (key : List Byte) : Bool := key.length = 64 && onCurve (beNat (key.take 32)) (beNat (key.drop 32))

/-- The point of a public key. -/
def keyPoint (key : List Byte) : Option (Nat × Nat) := some (beNat (key.take 32), beNat (key.drop 32))

/-- ECDSA verification of a signature, r then s, over a digest (02 R54, 17 R561). -/
@[irreducible] def ecdsaOk (key digest sig : List Byte) : Bool :=
  let r := beNat (sig.take 32)
  let s := beNat (sig.drop 32)
  let w := invMod p256N s
  let u1 := beNat digest * w % p256N
  let u2 := r * w % p256N
  curvePoint key && sig.length = 64 && 1 ≤ r && r < p256N && 1 ≤ s && s < p256N &&
    (addPoint (mulPoint 256 u1 (some p256G)) (mulPoint 256 u2 (keyPoint key))).any fun q => q.1 % p256N = r

/-- The ECDH product of a private key with a public key: the x-coordinate, 32 bytes, most significant first (11 R368). -/
@[irreducible] def ecdhBytes (priv : Nat) (key : List Byte) : List Byte := beBytes 32 ((mulPoint 256 priv (keyPoint key)).elim 0 (·.1))

/-- The public key of a private key, X then Y (11 R367). -/
@[irreducible] def publicKey (priv : Nat) : List Byte :=
  let q := (mulPoint 256 priv (some p256G)).getD (0, 0)
  beBytes 32 q.1 ++ beBytes 32 q.2

/-! AES-128 and its CMAC (FIPS 197, NIST SP 800-38B). -/

/-- Multiplication by x in the field of AES. -/
def xtime (b : Byte) : Byte := (b <<< 1) ^^^ (if b.getLsbD 7 then 0x1B else 0)

/-- Multiplication in the field of AES, over `k` bits of the second factor. -/
def gmul : Nat → Byte → Byte → Byte
  | 0, _, _ => 0
  | k + 1, a, b => (if b.getLsbD 0 then a else 0) ^^^ gmul k (xtime a) (b >>> 1)

/-- The inverse in the field of AES, x to the 254th; 0 for 0. -/
def ginv (x : Byte) : Byte :=
  let m := gmul 8
  let x2 := m x x
  let x4 := m x2 x2
  let x8 := m x4 x4
  let x16 := m x8 x8
  let x32 := m x16 x16
  let x64 := m x32 x32
  m (m (m x2 x4) (m x8 x16)) (m (m x32 x64) (m x64 x64))

/-- SubBytes of one byte. -/
def sbox (x : Byte) : Byte :=
  let b := ginv x
  let rot (n : Nat) : Byte := (b <<< n) ||| (b >>> (8 - n))
  b ^^^ rot 1 ^^^ rot 2 ^^^ rot 3 ^^^ rot 4 ^^^ 0x63

/-- The bytes of two lists added in the field. -/
def xorBytes (a b : List Byte) : List Byte := List.zipWith (· ^^^ ·) a b

/-- The next round key, with its round constant. -/
def nextKey (k : List Byte) (rc : Byte) : List Byte :=
  let w (i : Nat) : List Byte := (k.drop (4 * i)).take 4
  let l := w 3
  let t := (l.drop 1 ++ l.take 1).map sbox
  let a := xorBytes (xorBytes (w 0) t) [rc, 0, 0, 0]
  let b := xorBytes (w 1) a
  let c := xorBytes (w 2) b
  a ++ b ++ c ++ xorBytes (w 3) c

/-- ShiftRows on a state held column by column. -/
def shiftRows (s : List Byte) : List Byte := (List.range 16).map fun i => s.getD ((i + 4 * (i % 4)) % 16) 0

/-- MixColumns of one column. -/
def mixColumn (c : List Byte) : List Byte :=
  let b (i : Nat) : Byte := c.getD (i % 4) 0
  (List.range 4).map fun i => xtime (b i) ^^^ (xtime (b (i + 1)) ^^^ b (i + 1)) ^^^ b (i + 2) ^^^ b (i + 3)

/-- The rounds after the first key addition, each with its round constant; the last one mixes no columns. -/
def aesRounds : List Byte → List Byte → List Byte → List Byte
  | [], _, s => s
  | rc :: rcs, k, s =>
    let k := nextKey k rc
    let s := shiftRows (s.map sbox)
    let s := if rcs.isEmpty then s else (pieces 4 4 s).flatMap mixColumn
    aesRounds rcs k (xorBytes s k)

/-- AES-128 of one block. -/
def aes128 (key block : List Byte) : List Byte :=
  aesRounds [0x01, 0x02, 0x04, 0x08, 0x10, 0x20, 0x40, 0x80, 0x1B, 0x36] key (xorBytes block key)

/-- Doubling in the field of CMAC. -/
def cmacDouble (l : List Byte) : List Byte :=
  let n := 2 * beNat l
  beBytes 16 (if 2 ^ 128 ≤ n then (n % 2 ^ 128) ^^^ 0x87 else n)

/-- AES-128-CMAC: 16 bytes in output order (11 R375). -/
@[irreducible] def cmac (key msg : List Byte) : List Byte :=
  let k1 := cmacDouble (aes128 key (List.replicate 16 0))
  let n := (msg.length + 15) / 16
  let whole := msg.length ≠ 0 && msg.length % 16 = 0
  let head := pieces 16 (n - 1) msg
  let tail := msg.drop (16 * (n - 1))
  let last := if whole then xorBytes tail k1
    else xorBytes (tail ++ [0x80] ++ List.replicate (15 - tail.length) 0) (cmacDouble k1)
  (head ++ [last]).foldl (fun c b => aes128 key (xorBytes c b)) (List.replicate 16 0)

end Sys2Proof.Machine
end

