-- ==== Sys2Proof/Config.lean ====
section
/-! DEFINITION. What an implementation or an outside standard fixes, as constants without a body: nothing in Lean can
evaluate them, so a claim holds for every value of them. -/

namespace Sys2Proof

/-- Free values: the value an instruction leaves open, taken from the counter of the state that the step reads (log 9). -/
opaque Config.free : Nat → BitVec 64

/-- The private key made in manufacture (11 R367): it never leaves the module. -/
opaque Config.privateKey : Nat

/-- The private key as a number of the curve's order. -/
def Config.moduleKey : Nat := 1 + Config.privateKey % (Machine.p256N - 1)

/-- The ECDH product of the module's private key with a peer's public key (11 R368). -/
def Config.ecdh (key : List Byte) : List Byte := Machine.ecdhBytes Config.moduleKey key

/-- The Qualladar firmware key, fixed in PD0 at manufacture (17 R561). -/
opaque Config.firmwareKey : List Byte

/-- Factory identity (18 R579): MODULE_ID. -/
opaque Config.moduleId : BitVec 32

/-- Factory identity (18 R579): MOD_PUBKEY, X then Y, the public key of the private key (11 R367). -/
def Config.modPubkey : List Byte := Machine.publicKey Config.moduleKey

/-- The variant of the module (R1): conformal coating or none. -/
opaque Config.coated : Bool

/-- Factory identity words of R579 by BAR0 offset: ID_PCI.VID, ID_PART, ID_SERIAL, ID_MFG, ID_ROM. -/
opaque Config.factoryWord : Nat → BitVec 32

/-- The highest RSI version this firmware supports (15 R493): fixed by the firmware. -/
opaque Config.rsiVersion : BitVec 16

/-- Capacity in bytes of a firmware slot, which R563's `LENGTH fits the slot` compares with. -/
opaque Config.slotSize : Nat

/-- The byte form of a dispatch result (08 R287), which the spec does not give (log 8): each inner list is one stop. -/
opaque Config.resultBytes : List (List Int) → List Byte

/-- The bytes of a dispatch snapshot in the replication format (14 R480), which the spec does not lay out (log 8). -/
opaque Config.snapBytes : List (List Int) → List Byte

/-- The levee core whose SRAM region holds an address (16 R529), where one does: the spec gives no address of the region. -/
opaque Config.leveeOwner : BitVec 32 → Option (Fin 2)

end Sys2Proof
end

