-- ==== Sys2Proof/Machine/StateGroup.lean ====
section
/-! DEFINITION. The state of the door sides, the dispatch solver and twin operation (07, 08, 15). Comments name the register
a field is read through. -/

namespace Sys2Proof.Machine

/-- DS_STAT.STATE (07 R228), codes 0 to 11 in order. -/
inductive DoorState where
  | unref | homing | closed | opening | open_ | closing | locking | reversing | nudging | stopped | fault | released
  deriving DecidableEq, Repr

/-- The current modes (07 R218), codes 0 to 3 in order. -/
inductive CurMode where
  | free | hold | quiet | strong
  deriving DecidableEq, Repr

/-- A landing being learnt on one side (07 R251, R252). -/
structure DoorLearn where
  landing : Nat
  clean   : Nat
  acc     : List (Option Int)      -- 64 points
  opens   : List Int               -- ms
  closes  : List Int
  done    : Bool
  failed  : Bool
  deriving DecidableEq, Repr

/-- One door side (07). -/
structure Side where
  state     : DoorState
  ref       : Bool
  mode      : CurMode
  ilim      : Nat
  homingBit : Bool
  locked    : Bool          -- contact and landing lock made by the last reply
  contact   : Bool
  curtain   : Bool
  edge      : Bool
  buzzer    : Bool
  enc       : BitVec 32     -- DS_ENC
  encZero   : BitVec 32
  pm        : Int           -- DS_POS
  vm        : Int           -- DS_VEL
  current   : Int           -- DS_CURRENT
  lastCause : Nat
  stopRev   : Nat           -- DS_OBST.STOP_REV
  timer     : Option Nat    -- obstruction timer in T0
  obstT0    : BitVec 32
  landing   : Option Nat    -- DS_LANDING
  reversals : Byte
  missed    : Byte
  rehomes   : Byte
  lockFail  : Byte
  nudges    : BitVec 16
  openObst  : BitVec 16
  seqSent   : BitVec 16
  seqPrev   : BitVec 16
  seqEcho   : BitVec 16
  nStatus   : Byte
  nContacts : Byte
  nTemp     : Byte
  nFault    : BitVec 16
  lastSof   : Option (BitVec 32)   -- start of frame of the last accepted reply
  replyNew  : Bool          -- a reply accepted since the last computation
  guardNew  : Bool          -- a reply accepted since the last guard
  noReply   : Nat           -- consecutive computations without one
  forceRun  : Nat           -- consecutive computations with F_EST over the threshold
  openRun   : Nat           -- the same while opening (R239)
  closeAge  : Nat           -- computations since the closing run began
  contraRun : Nat           -- R245
  stallRun  : Nat           -- R248
  planEnd   : Nat           -- T1 since the homing plan ended
  lockAge   : Nat           -- T0 in LOCKING
  lockFails : Nat           -- consecutive lock failures at this stop
  lockRev   : Bool          -- the reversal after the third lock failure
  homeFails : Nat
  stopT1    : BitVec 32     -- T1CNT when it was STOPPED
  opObst    : Nat           -- opening obstructions at this stop
  nudgeRev  : Nat           -- reversals in NUDGING at this stop
  held      : Bool          -- side kept open by R243
  openDem   : Bool          -- open demand held
  closeDem  : Bool          -- close demand held
  dwell     : Option Nat    -- T1 left of the dwell; none when no timed close runs
  openT1    : Nat           -- T1 since the OPENING run's first packet
  closeT1   : Nat
  cleanRun  : Bool          -- the close in progress is clean so far (R250)
  lastOpen  : Int           -- ms of the preceding open
  learn     : List DoorLearn
  release   : Bool          -- the mode demands release
  btnHeld   : Nat           -- M5: 0 none, 1 open button, 2 close button
  pLost     : Bool          -- a reply with LOST since the last guard
  pRose     : Bool          -- READY has risen since the last guard
  pFault    : Bool          -- a reply with FAULT since the last guard
  reqRev    : Option Bool   -- reversed on demand since the last guard (R240): whether out of NUDGING
  guardT0   : Option (BitVec 32)   -- T0CNT of the guard that last changed the side (R229)
  sentMode  : CurMode       -- DS_STAT.MODE and ILIM: those of the last packet sent (R257)
  sentIlim  : Nat
  regs      : List (BitVec 32)     -- the side's registers as its last computation left them (R257)
  sample    : List (Option Int)    -- F_EST of the close in progress at 64 points (R251)
  deriving DecidableEq, Repr

/-- A door learning command in execution (07 R250). -/
structure DoorLearnCmd where
  e : CmdEntry
  n : Nat
  deriving DecidableEq, Repr

/-- KIND of a hall or destination call (08 R260). -/
inductive CallKind where
  | up | down | dest
  deriving DecidableEq, Repr

/-- States of a pending call (08 R264). -/
inductive CallState where
  | open_ | assigned | frozen | boarded
  deriving DecidableEq, Repr

/-- Where a call came from (14 R473). -/
inductive CallSource where
  | host | lfn (node : Nat) (seq : BitVec 16) | ctn
  deriving DecidableEq, Repr

/-- One pending hall or destination call (08 R258 to R264). -/
structure Call where
  slot     : Nat
  kind     : CallKind
  access   : Bool
  origin   : Nat
  side     : Nat
  dest     : Nat            -- 0xFF for a hall call
  pax      : Nat            -- 0 for a hall call
  allow    : BitVec 16
  ref      : BitVec 32      -- HOST_REF, 0 when none
  source   : CallSource
  regT0    : BitVec 32
  state    : CallState
  car      : Option (Fin 16)
  again    : Bool           -- next assignment is reported as reallocated (R266)
  announce : Nat            -- ALLOCATION RESULT the publication owes (R265), 0 none
  reopen   : Option (Fin 16)   -- car whose closing side was asked to open again for it (R263)
  more     : List (BitVec 32)  -- HOST_REFs of host calls merged into it (R262, 14 R471)
  deriving DecidableEq, Repr

/-- One car call (08 R262). -/
structure CarCall where
  landing : Nat
  regT0   : BitVec 32
  access  : Bool
  ref     : BitVec 32
  host    : Bool
  more    : List (BitVec 32)   -- HOST_REFs of host calls merged into it
  deriving DecidableEq, Repr

/-- One stop of a route (08: routes). Calls are named by slot; `dir` is the departure direction: -1, 0 or +1. -/
structure Stop where
  landing : Nat
  sides   : BitVec 2
  dir     : Int
  picks   : List Nat
  drops   : List Nat
  carCall : Bool
  park    : Bool
  runOut  : Bool
  arr     : Nat             -- arrival [µs from the snapshot's boundary]
  deriving DecidableEq, Repr

/-- A route with the arrival time of its first stop [µs]. -/
structure Route where
  stops : List Stop
  eta   : Nat
  deriving DecidableEq, Repr

/-- What a snapshot holds of one car (08 R268, R272, R275, R278, R283). -/
structure CarSnap where
  cls       : Nat
  eligible  : Bool                       -- the car's own part of R268
  pos       : Int
  landing   : Nat
  moving    : Bool
  dir       : Int
  region    : List Nat                   -- sweep 1 region of a moving car
  replan    : Option (Nat × Int × Nat)   -- re-plan point: µs from B, position, speed along travel
  fixedUs   : Nat                        -- arrival at the plan target
  target    : Nat                        -- landing of the plan target
  doorsOpen : Bool                       -- a side is not CLOSED
  readyUs   : Nat
  load      : Int
  boarded   : Int                        -- boarded passengers
  vmax      : Int
  still     : Nat                        -- T0 stood with doors closed
  deriving DecidableEq, Repr

/-- A dispatch snapshot (08 R280). -/
structure Snap where
  t2      : BitVec 32
  t0      : BitVec 32
  seq     : BitVec 32
  pattern : Fin 4
  calls   : List Call
  carCalls : Tab 16 (List CarCall)
  cars    : Tab 16 CarSnap
  deriving DecidableEq, Repr

/-- A solver result (08 R280 to R284). -/
structure Result where
  t2       : BitVec 32
  routes   : Tab 16 Route
  etas     : List (Nat × Nat)         -- call slot and estimated arrival at its pickup [µs from B]
  pairs    : Nat
  swaps    : Nat
  deferred : Nat
  deriving DecidableEq, Repr

/-- What a car's lanterns show: side, direction, whether lit. -/
structure Lantern where
  landing : Nat
  side    : Nat
  up      : Bool
  car     : Fin 16
  deriving DecidableEq, Repr

/-- The dispatch solver and the calls (08). -/
structure Dsx where
  pattern   : Fin 4            -- DSX_CTRL.PATTERN
  trace     : Bool
  fallback  : Bool
  lastPat   : Fin 4            -- DSX_STAT.PATTERN
  mismatch  : Bool
  late      : Bool
  runT2     : BitVec 32
  runTime   : BitVec 32
  pairs     : BitVec 32
  swaps     : BitVec 32
  digest    : BitVec 32
  fallbacks : BitVec 16
  refused   : BitVec 16
  mismatches : BitVec 16
  deferred  : BitVec 16
  calls     : List Call
  carCalls  : Tab 16 (List CarCall)
  snap      : Option Snap      -- the run in progress
  result    : Option Result    -- completed, not yet in force
  nearRes   : Option Result    -- the nearest-car phase of the run in progress
  force_    : Tab 16 Route     -- routes in force
  taken     : Tab 16 Bool      -- the car core has taken its route in force (R291)
  publish   : Tab 4 Bool       -- fixtures publication owed by a car core
  sent      : List (Nat × List Byte)   -- contents last sent to a fixture or CTN, by NODES index (R297)
  lanterns  : List Lantern
  eligible  : BitVec 16        -- DSX_CAR[k].ELIGIBLE
  standT0   : Tab 16 Nat       -- T0 a car has stood with doors closed
  ownDigest : Option (BitVec 32 × BitVec 32)    -- T2CNT and digest of the last run of this module
  peerDigest : Option (BitVec 32 × BitVec 32)   -- the same of the active's (R287)
  traceSeq  : BitVec 32        -- CAP blocks of the trace of this run
  gone      : List Nat         -- slots of calls that have ended since the snapshot (R284)
  summary   : Tab 16 (List (BitVec 32))   -- DSX_CAR, DSX_CAR_CALLS and DSX_CAR_ETA as the last result left them (R300)
  holding   : Bool             -- the host's publication of this boundary is abandoned (01 R31)
  heldEv    : List (Nat × List Byte)      -- CALL events kept for the next publication: car and data
  deriving DecidableEq, Repr

/-- The twin states (15 R499), codes 0 to 6 in order. -/
inductive TwState where
  | negotiating | holder | unsynced | resync | synced | claiming | released
  deriving DecidableEq, Repr

/-- The witness's own state (15 R507). -/
structure Wit where
  epoch   : Nat
  bound   : Nat             -- TW_WIT_BOUND, kept in flash
  holder  : Nat             -- holder slot, 0 none
  hclaim  : BitVec 32
  exp     : Int             -- µs from the last T0 boundary to the lease's end
  quiet   : Int             -- µs from the last T0 boundary to the end of the quiet time
  granted : Bool
  deriving DecidableEq, Repr

/-- A heartbeat of the peer (15 R493). -/
structure PeerHb where
  state    : Byte
  twState  : Byte
  flags    : BitVec 16
  claim    : BitVec 32
  t0       : BitVec 32
  t1       : BitVec 32
  t2       : BitVec 32
  rsi      : BitVec 16
  epochSeq : BitVec 32
  imgSeq   : BitVec 32
  imgDig   : List Byte
  deriving DecidableEq, Repr

/-- A request sent to the witness: its SEQ, start of frame and KIND (15 R506, R508). -/
structure LeaseReq where
  seq  : BitVec 16
  sof  : BitVec 32
  kind : Byte
  deriving DecidableEq, Repr

/-- Twin operation (15). Leases are held as the µs from the last T0 boundary to their end. -/
structure Tw where
  state     : TwState
  prior     : TwState            -- state before CLAIMING
  lanes     : BitVec 2
  peer      : Bool               -- peer heartbeat present
  lastHb    : Option PeerHb
  hbAge     : Nat                -- T0 boundaries since the last heartbeat accepted
  hbMiss    : Nat                -- consecutive T0 without one that counts
  hbThis    : Bool               -- a heartbeat counted for the T0 in progress
  gate      : Bool               -- TW_STAT.GATE
  wLease    : Nat                -- W-lease [µs]
  pLease    : Nat                -- P-lease [µs]
  endorse   : Bool
  endorsed  : Option (BitVec 32) -- T0CNT of the last endorsement given or accepted
  claimOk   : Bool
  claimOwn  : BitVec 32
  claimPeer : BitVec 32
  claimBad  : BitVec 16          -- invalid words since the last valid one
  hbSeq     : BitVec 32
  epochTx   : BitVec 32
  epochRx   : BitVec 32
  epochGap  : Bool               -- an epoch was dropped (R31)
  epochWait : Option (List Byte) -- accepted epoch body not yet applied
  snapT2    : BitVec 32
  snapBase  : BitVec 32          -- BASE_EPOCH of the snapshot being sent
  snapBytes : Option (List Byte) -- RSI of the snapshot being sent
  parts     : List (Nat × List Byte)   -- offset and data of the parts received in order
  partsCrc  : BitVec 32
  partsBase : BitVec 32
  partsT2   : BitVec 32
  kept      : List (List Byte)   -- epochs kept for RESYNC, oldest first
  install   : Bool               -- all parts verified; installed at the next T1 boundary
  takeovers : BitVec 16
  hbLosses  : BitVec 16
  epochDisc : BitVec 16
  resyncs   : BitVec 16
  linkErr   : BitVec 16
  claimErr  : BitVec 16
  takeT0    : BitVec 32
  listen    : Nat                -- T0 of role negotiation
  asking    : Bool               -- negotiation has begun to act after its 64 T0
  reqWait   : Nat                -- T0 until the next new-grant request may be sent
  reqs      : List LeaseReq      -- requests sent and not answered, newest first
  lastAns   : Byte
  granted   : Bool               -- a grant waits for its boundary
  taking    : Bool               -- takeover boundary: this refresh does not defer (R514)
  released  : Bool               -- RELEASED has been set
  muted     : Bool               -- R512: nothing but LEASE_REL is sent until BOOT
  relSeen   : Bool               -- the peer's heartbeat has shown RELEASED
  holderSlot : Byte              -- WIT_STATUS
  holderClaim : BitVec 32
  wit       : Wit
  epochE    : Nat                -- standalone epoch E; its reserved bound is kept in flash (R505)
  adopt     : Nat                -- T0 boundaries until the tick counters are adopted, 0 none due (R20)
  wLost     : Bool               -- W_LOST has been raised
  rsiBad    : Bool               -- RSI has been raised
  linkOut   : List (List Byte)   -- link frames sent in this T0
  claimOut  : BitVec 64          -- last claim word sent
  syncOwed  : Tab 16 Bool        -- the car's slot sends SYNC for the entry to ACTIVE (11 R388)
  imgTx     : Option Nat         -- offset of the image being sent to the standby
  imgOwe    : List (BitVec 32 × List Byte)   -- IMAGE frames owed to the peer beside it: SEQ and body (02 R77)
  deriving DecidableEq, Repr

end Sys2Proof.Machine
end

