-- ==== Sys2Proof/Machine/StateHost.lean ====
section
/-! DEFINITION. The state of the timebase, the fault collector, the check-value units, the image store, the host interface,
the buses and the supervisor. Comments name the register a field is read through. -/

namespace Sys2Proof.Machine

/-- Module states with the STATE codes of R463 in order (01 R46). -/
inductive ModState where
  | off | boot | config | standby | active | witness | safeHold | update
  deriving DecidableEq, Repr

/-- The timebase (01 R15 to R20, R37). -/
structure Tick where
  started : Bool         -- the first T0 boundary has come
  tb0     : BitVec 64    -- ID_TB0
  tb      : BitVec 64    -- TBASE at the last T0 boundary
  t0      : BitVec 32    -- TICK_T0CNT
  t1      : BitVec 32    -- TICK_T1CNT
  t2      : BitVec 32    -- TICK_T2CNT
  t1Due   : Bool         -- this boundary is a T1 boundary whose jobs have not started (log 4)
  t2Done  : Bool         -- the T2 part of the coming boundary has been done (log 4)
  hi      : BitVec 32    -- TICK_TBASE_HI as latched
  t1Stamp : BitVec 32    -- stamp of the last T1 boundary
  syncT0  : BitVec 32    -- TICK_SYNC_T0CNT
  syncTb  : BitVec 64    -- TICK_SYNC_TB
  deriving DecidableEq, Repr

/-- The drop counters (01 R31 to R36). -/
structure Spill where
  cnt       : Tab 12 (Tab 3 (BitVec 32))   -- SPILL_CNT[u, l]
  lane      : Tab 48 (BitVec 32)           -- SPILL_LANE[k]
  build     : Tab 16 Nat                   -- consecutive frame-build drops of a car
  core      : Tab 4 Nat                    -- consecutive car-core T1 drops
  miss      : Tab 2 Nat                    -- consecutive missed levee evaluations
  solver    : Nat                          -- consecutive solver drops
  told      : Tab 4 Bool                   -- the four consecutive drops of a car core have been reported
  abandoned : List Job                     -- jobs whose next run is the abandoned one (log 11)
  deriving DecidableEq, Repr

/-- A fault message with the reactions the collector gave it (16 R522). -/
structure FaultRec where
  msg      : FaultMsg
  reaction : BitVec 5
  deriving DecidableEq, Repr

/-- A targeted self-test pending or running (16 R534 to R536). -/
structure TestRun where
  unit    : TestUnit
  source  : BitVec 10
  kind    : Byte
  context : BitVec 32
  running : Bool
  clear   : Bool         -- started by CLEAR_RETIRED (R540)
  age     : Nat          -- T0 since it started
  last    : Nat          -- 1 + the channel last given a test pulse in step B (12 R410)
  deriving DecidableEq, Repr

/-- A class C message remembered for R534's "repeated". -/
structure SeenC where
  source  : BitVec 10
  kind    : Byte
  context : BitVec 32
  t0      : BitVec 32
  deriving DecidableEq, Repr

/-- The fault collector (16). -/
structure Fc where
  batch       : List FaultMsg                 -- arrival order (R531)
  arrived     : List FaultRec                 -- class F messages that acted on arrival, with what they found
  firstValid  : Bool                          -- FC_STAT.FIRST_VALID
  first       : Option FaultRec               -- FC_FIRST
  nerr        : Bool                          -- FC_STAT.NERR
  fSeen       : Bool                          -- FC_STAT.F_SEEN
  commitErr   : Bool                          -- FC_STAT.COMMIT_ERR
  cntC        : BitVec 16
  cntU        : BitVec 16
  cntF        : BitVec 16
  suppressed  : BitVec 16
  transient   : BitVec 16
  retiredCnt  : BitVec 16
  sluice      : List (Nat × BitVec 32)        -- FC_SLUICE words in force that differ from the minimum
  shadow      : List (Nat × BitVec 32)        -- shadow words written since the last commit
  commit      : Option (List (Nat × BitVec 32))
  tests       : List TestRun
  hist        : List (TestUnit × List Nat)    -- passes, as powered T0 (R537)
  powered     : Nat                           -- powered T0 so far
  retired     : List TestUnit                 -- the retirement map (R550)
  flashMap    : List TestUnit                 -- the map in flash (R538)
  flashHist   : List (TestUnit × List Nat)
  flashDue    : Bool
  seenC       : List SeenC
  countC      : List (BitVec 10 × Nat)        -- class C messages per source in this T1 (R533)
  clearing    : Option (List TestUnit × Bool) -- units CLEAR_RETIRED still tests, and whether one failed
  plog        : List (Nat × List Byte)        -- the persistent ring by index (R541)
  plogNext    : Fin 1024
  plogSel     : Fin 1024
  boots       : BitVec 32                     -- BOOTs since manufacture
  crst        : Bool                          -- a CRST reaction waits for standstill (R525)
  nmiPorts    : Bool                          -- an NMI of PD5 reaches the coming evaluation (R529)
  nmiInputs   : Bool                          -- an NMI of PD7 reaches it (R529)
  deriving DecidableEq, Repr

/-- One check-value channel (16 R551). -/
structure Cv where
  poly     : Fin 4
  count    : BitVec 32
  fail     : BitVec 32
  mismatch : BitVec 16
  bad      : Bool            -- a mismatch spoils the channel's next result (R546)
  deriving DecidableEq, Repr

/-- IMG_STATUS.STATE (02 R83). -/
inductive ImgState where
  | idle | receiving | verifying | pending | applying
  deriving DecidableEq, Repr

/-- Where an image came from: the host (R62), the active's pending image (R77), or the active's model in force (15 R501). -/
inductive ImgOrigin where
  | host | peer | sync
  deriving DecidableEq, Repr

/-- An image that has passed stage 6 (02 R64). -/
structure PendingImg where
  model    : Model
  slot     : Fin 4
  changed  : List Nat        -- SEAL0 sections that differ (R70)
  cars     : BitVec 16       -- the cars the changes belong to (R71)
  applyT2  : Option (BitVec 32)
  waited   : Nat             -- T2 boundaries at which R72 held it back
  origin   : ImgOrigin
  peerOk   : Bool            -- the standby has verified it (R77)
  deriving DecidableEq, Repr

/-- A proposal (02 R81). -/
structure Proposal where
  id      : BitVec 32
  kind    : Byte
  side    : Byte
  count   : Byte
  bytes   : List Byte        -- header and payload
  deriving DecidableEq, Repr

/-- The image store (02). -/
structure Img where
  state    : ImgState
  reject   : Byte                       -- IMG_STATUS.REJECT
  key      : Option (List Byte × BitVec 32)   -- enrolled key and KEY_ID (R66 to R68)
  group    : Option (BitVec 32)         -- GROUP_ID of the model last applied, kept with the key (R79)
  slots    : Tab 4 (Option (List Byte)) -- configuration slots; none = empty or failed
  inforce  : Fin 4                      -- IMG_SLOT.INFORCE
  work     : Option (List Byte × ImgOrigin)   -- image received and being verified
  pending  : Option PendingImg
  props    : List Proposal              -- oldest first
  propLost : BitVec 32                  -- IMG_PROP_LOST
  nextProp : BitVec 32
  linkBuf  : List Byte                  -- image bytes received over the Yilz link (15 R501)
  linkLen  : Nat                        -- total length announced; 0 = none
  deriving DecidableEq, Repr

/-- A completion (14 R464). -/
structure Cpl where
  ring   : Byte
  op     : Byte
  status : Byte
  code   : Byte
  tag    : BitVec 32
  result : BitVec 32
  deriving DecidableEq, Repr

/-- One ring (14 R458, R484). `data` holds, for the rings the module produces, the entries between HEAD and TAIL. -/
structure Ring where
  base : BitVec 64
  size : BitVec 15
  vec  : Fin 16
  irq  : Bool
  head : Nat
  tail : Nat
  data : List (List Byte)
  deriving DecidableEq, Repr

/-- A command in execution (14 R468); `silent` when its completion is to be discarded (R457). -/
structure Running where
  e      : CmdEntry
  silent : Bool
  deriving DecidableEq, Repr

/-- One MSI-X vector (14 R483). -/
structure Vec where
  masked  : Bool
  pba     : Bool
  holdoff : Bool          -- within HI_IRQ_MOD of the last message
  want    : Bool          -- a change fell inside the hold-off
  sent    : BitVec 32     -- messages sent (the model's count)
  deriving DecidableEq, Repr

/-- The host interface (14). -/
structure Hi where
  en        : Bool
  msixEn    : Bool
  crcEn     : Bool
  cfgErr    : Bool
  werr      : Bool
  dbErr     : Bool
  dbLost    : Bool
  dmaErr    : Bool
  accErr    : Bool
  hrdy      : Bool                 -- pin HRDY
  hatn      : Bool                 -- pin HATN asserted
  sb        : BitVec 64            -- HI_SB
  evtThresh : BitVec 12
  irqMod    : BitVec 16
  rings     : Tab 6 Ring
  cplVec    : Fin 16
  cplIrq    : Bool
  cplHead   : Nat
  cplTail   : Nat
  cpl       : Tab 16 Cpl           -- completion queue entries as written
  cplWait   : List Cpl             -- completions waiting for a free entry
  bootId    : BitVec 32
  enableSeq : BitVec 32
  sbOld     : List Byte            -- the status block as last written
  evtSeq    : BitVec 32
  backlog   : List (List (List Byte))   -- events held in DRAM, each as its entries (R474)
  lostNow   : BitVec 32            -- events discarded since the last LOST event
  evtLost   : BitVec 16
  telDrop   : BitVec 16
  capDrop   : BitVec 16
  dbIgn     : BitVec 16
  telSeq    : BitVec 32
  energyDue : List (Nat × List Byte)   -- cars and bodies of the ENERGY records completed in this T1 (R475)
  ripe      : Bool                 -- the module was in a state with HRDY at the last T0 boundary (R481)
  logSeq    : BitVec 32
  logHeld   : List (List Byte)     -- LOG entries held in DRAM (R479)
  fHeld     : Bool                 -- a class F fault with no enabled EVT ring (R482)
  tags      : Tab 7 Nat            -- tags in use per class of R44
  telHeld   : List (List Byte)     -- TEL records that wait for a tag
  dataOut   : Option (BitVec 64 × List Byte)   -- the last data buffer written to host memory (02 R80)
  timeouts  : Nat                  -- completion timeouts in this T2
  waiting   : List CmdEntry        -- fetched, not started (R470)
  running   : List Running
  calls     : List (List Byte)     -- fetched CALL entries
  d3        : Bool                 -- D3hot (R455)
  vecs      : Tab 16 Vec
  deriving DecidableEq, Repr

/-- Bus channel states, codes 0 to 9 in order (13 R446). -/
inductive BusState where
  | off | detect | listen | active | passive | busoff | recover | test | sleep | retired
  deriving DecidableEq, Repr

/-- A frame of a transmit list (13 R432). -/
structure TxFrame where
  ext     : Bool
  fd      : Bool
  brs     : Bool
  ident   : BitVec 29
  data    : List Byte
  cyclic  : Bool
  dest    : Nat            -- NODES index, or 0xFFFF
  buf     : Option (Fin 3) -- hardware buffer holding it
  raw     : Option (BitVec 32)   -- CMD_TAG of the RAW_SEND it belongs to
  answer  : Option (BitVec 32)   -- start of frame of the DEST_CALL an ALLOCATION answers (R434)
  deriving DecidableEq, Repr

/-- One bus channel (13). -/
structure Bus where
  state     : BusState
  prior     : BusState          -- state before a test
  noack     : Bool
  noRate    : Bool
  woke      : Bool
  collision : Bool
  busoff    : Bool              -- BUSOFF_SEEN
  rxOvr     : Bool
  werr      : Bool
  tec       : BitVec 8
  recv      : BitVec 8          -- K_ERR.REC
  lastErr   : Fin 8
  errPhase  : Bool
  nom       : BitVec 16
  dat       : BitVec 16
  tdcMeas   : BitVec 8
  ssp       : BitVec 8
  txOk      : BitVec 16
  rxOk      : BitVec 16
  errors    : BitVec 8
  busoffs   : BitVec 8
  txDrop    : BitVec 8
  rxDrop    : BitVec 8
  replaced  : BitVec 8
  unknown   : BitVec 8
  late      : BitVec 8
  wakes     : BitVec 8
  sleepReq  : Bool
  wakeMode  : Bool
  wakeId    : BitVec 29
  wakeExt   : Bool
  wakeMask  : BitVec 29
  wakeD0    : Byte
  wakeD1    : Byte
  wakeM0    : Byte
  wakeM1    : Byte
  tx        : List TxFrame      -- arrival order
  fifo      : Nat               -- frames taken since the last T0 latch
  sleepT1   : Nat               -- T1 boundaries since the sleep request
  cand      : Nat               -- candidate of the sweep, 0 to 8
  swept     : Bool              -- the first whole sweep has failed
  adopted   : Bool              -- a rate waits for its T0 boundary
  start     : Bool              -- the channel leaves OFF at the next T0 boundary
  onWait    : Bool              -- waits for its transceiver in the supply chain (12 R417)
  trxOn     : Bool              -- transceiver switched on
  restate   : Bool              -- every LANDING_STATUS on it counts as changed (R451)
  deriving DecidableEq, Repr

/-- A firmware slot (17 R561, R562): its image and its state, 0 EMPTY, 1 VALID, 2 TRIAL, 3 FAILED. -/
structure FwSlot where
  image : List Byte
  state : Fin 4
  deriving DecidableEq, Repr

/-- Where start-up stands (17 R567). `step` is the step in progress, 4 to 11; 12 when start-up is over. -/
structure Boot where
  step     : Nat
  first    : Fin 2            -- slot tried first
  tried    : Nat              -- slots tried
  startT0  : BitVec 32        -- T0CNT when the running firmware started (R564)
  age      : Nat              -- T0 since then
  trial    : Bool             -- the running slot is TRIAL and not committed
  halted   : Bool             -- a class F fault halted start-up (16 R526)
  hot      : Bool             -- that fault is THERMAL_TRIP
  failed   : Bool             -- the slot in use has failed (R563): the ROM goes back to step 4
  loaded   : Bool             -- step 7 done
  deriving DecidableEq, Repr

/-- A firmware update in progress (17 R571). -/
structure Update where
  image   : List Byte
  e       : CmdEntry
  checked : Bool
  writing : Bool
  waited  : Nat
  deriving DecidableEq, Repr

/-- The supervisor (17). -/
structure Pwr where
  pd0       : Bool              -- PD0 is powered (R552)
  domOn     : BitVec 8
  domOk     : BitVec 8
  domLock   : BitVec 8          -- domains off until the next BOOT (R555)
  lastOn    : Nat               -- T0 since the last domain switch-on (R557)
  vinMv     : BitVec 16
  vinOk     : Bool
  vinBad    : Bool              -- the excursion of R552 lasts
  vinRepT2  : BitVec 32         -- T2CNT of its last report
  rails     : Tab 8 (BitVec 16 × BitVec 16)
  die0      : Int
  die1      : Int
  base      : Int
  derate    : Bool
  tripped   : Bool              -- THERMAL_TRIP since the last BOOT (R574)
  recovery  : Bool
  nrstin    : Bool              -- nRSTIN held low
  slots     : Tab 2 FwSlot
  preferred : Fin 2
  running   : Fin 2
  fallback  : Bool
  minSec    : Nat               -- MIN_SEC_VER
  boot      : Boot
  parkReq   : BitVec 6
  parked    : BitVec 6
  parkAuto  : BitVec 6
  recState  : Fin 8             -- PWR_RECOV_STAT.STATE
  recCode   : Byte
  recWin    : List Byte         -- the chunk window
  recImg    : List Byte         -- the image received
  update    : Option Update
  deriving DecidableEq, Repr

end Sys2Proof.Machine
end

