-- ==== Sys2Proof/Machine/StateMotion.lean ====
section
/-! DEFINITION. The state of the position ports, the encoder supplies, the car positions, the profile generator and the
control engine (03 to 06). Comments name the register a field is read through. -/

namespace Sys2Proof.Machine

/-- PP_CFG (03 R120). -/
structure PortCfg where
  mode    : Fin 8
  htl     : Bool
  listen  : Bool
  inv     : BitVec 3
  dir     : Bool
  idxEdge : Bool
  filt    : BitVec 8
  tstop   : BitVec 8
  deriving DecidableEq, Repr

/-- The RWC fields of a port (03 R120). -/
structure PortRwc where
  idxArm  : Bool
  cmpEn   : Bool
  bits    : BitVec 6
  gray    : Bool
  errEn   : Bool
  posLsb  : BitVec 5
  errLow  : Bool
  errPos  : BitVec 5
  rate    : BitVec 8
  posBits : BitVec 5
  delay   : BitVec 8
  idxExp  : BitVec 32
  idxWin  : BitVec 24
  cmp     : BitVec 32
  spacing : BitVec 32
  deriving DecidableEq, Repr

/-- The speed estimator (03 R108). -/
structure Est where
  moving  : Bool
  dir     : Int
  anchorT : BitVec 32
  lastT   : BitVec 32
  edgeT   : BitVec 32
  n       : Nat
  speed   : Int
  deriving DecidableEq, Repr

/-- The W1C flags of PP_STAT (03 R120). -/
structure PortFlags where
  illegal   : Bool
  wrap      : Bool
  idxOvr    : Bool
  cmpOvr    : Bool
  ssiErr    : Bool
  line      : Bool
  noclk     : Bool
  werr      : Bool
  commitErr : Bool
  deriving DecidableEq, Repr

/-- What one T0 latch shows of a port (03 R93, R97). -/
structure PortLatch where
  count     : BitVec 32        -- PP_COUNT
  speed     : Int              -- PP_SPEED
  edgeTs    : BitVec 32
  still     : Bool
  moving    : Bool
  falling   : Bool             -- DIRN
  ssiValid  : Bool
  idxSeen   : Bool
  idxResult : Fin 4
  cmpHit    : Bool
  absent    : Bool             -- the port delivered no data at this latch
  deriving DecidableEq, Repr

/-- What one sample makes of pairs 1 and 2 (03 R85 to R88): a counting edge or an illegal transition. -/
inductive EdgeKind where
  | up | down | illegal
  deriving DecidableEq, Repr

/-- One position port (03). -/
structure Port where
  en        : Bool
  cfg       : PortCfg
  rwc       : PortRwc
  shadow    : PortRwc
  commit    : Option PortRwc
  count     : BitVec 32          -- running count
  est       : Est
  edgeTs    : BitVec 32
  flags     : PortFlags
  linePair  : BitVec 3
  level     : BitVec 3           -- the accepted line levels of pairs 1 to 3 (R91), before INV
  idxCap    : BitVec 32
  idxTs     : BitVec 32
  capNow    : Bool               -- an index capture was made in this T0 (R96)
  seenNow   : Bool
  resNow    : Fin 4
  missEdge  : Bool               -- the latest count edge gave the result 3 of this T0
  entered   : Bool               -- the count has entered the armed window (R95)
  hits      : List (BitVec 32 × BitVec 32)
  hitNow    : Bool
  evCmp     : BitVec 16
  evIllegal : BitVec 16
  ssiRaw    : BitVec 32
  ssiNow    : Option (BitVec 32) -- value of the frame of this T0
  ssiOpen   : Bool               -- a read of this T0 is not complete
  driving   : Bool               -- claim gate sampled open at this boundary (R105)
  latch     : PortLatch
  saved     : Option (BitVec 32 × PortFlags × BitVec 16 × BitVec 16)   -- saved over a self-test (R116)
  prev      : Option (BitVec 32) -- count at the latch before, where it delivered data
  deriving DecidableEq, Repr

/-- One encoder supply group (03 R111 to R114, R121). -/
structure Supply where
  sel     : Fin 4
  en      : Bool
  on      : Bool
  oc      : Bool
  trip    : Bool               -- tripped, its test not passed since (R114)
  settle  : Nat                -- T0 of the 20 ms still to run plus 1; 1 when they have run, 0 when settled
  current : BitVec 16
  voltage : BitVec 16
  deriving DecidableEq, Repr

/-- A member of the supply chain (12 R417). -/
inductive ChainItem where
  | group (g : Fin 6)
  | trx (n : Fin 12)
  deriving DecidableEq, Repr

/-- The encoder supplies and the chain that switches them (12 R417). -/
structure Supplies where
  groups : Tab 6 Supply
  werr   : Bool
  queue  : List ChainItem
  wait   : Nat                 -- T0 until the next switch-on may act
  deriving DecidableEq, Repr

/-- CP_STAT.HEALTH (04 R136), lowest first. -/
inductive Health where
  | lost | suspect | degraded | valid
  deriving DecidableEq, Repr

/-- The special runs of a car (04 R139 to R148) and the brake-holding test's moves belong to the car core. -/
inductive SpecKind where
  | none | suspectStop | correction | homing | learn | relevel | brakeTest
  deriving DecidableEq, Repr

/-- A capture of a learn run: landing and position [2^-16 of 0.1 mm]. -/
structure Capture where
  landing : Nat
  pos     : Int
  deriving DecidableEq, Repr

/-- A special run in progress. `leg` counts from 1; `mark` holds the position a leg measures from. -/
structure SpecRun where
  kind    : SpecKind
  leg     : Nat
  landing : Nat
  mark    : Option Int
  up      : Bool
  capU    : Option Int
  capD    : Option Int
  capsU   : List Capture
  capsD   : List Capture
  reason  : Nat               -- abort reason of the LEARN event
  age     : Nat               -- T0 since its start
  travel  : Int               -- position by the travel source of a learn run (R146), 16 fraction bits
  source  : Nat               -- that source: 1 absolute, 2 ROLE 3, 3 motor encoder
  wait    : Option Nat        -- landing whose capture window is armed
  zone    : Bool              -- DZ2 has been active in this leg
  deriving DecidableEq, Repr

/-- Dispatch holds that CLEAR_DISPATCH_HOLD clears (14 R468): R135, R145, R164, R200 and R243. -/
structure Holds where
  slip      : Bool
  relevel   : Bool
  start     : Bool
  following : Bool
  door      : Bool
  deriving DecidableEq, Repr

/-- One car's position (04). Fixed-point values carry 16 fraction bits (R127). -/
structure CarPos where
  base      : Int
  corr      : Int
  corrTgt   : Int
  slew      : Nat               -- steps of the 8-step slew still to make
  pos       : Int               -- CP_POS
  posFx     : Int               -- the position posted, before its rounding
  vel       : Int               -- CP_SPEED
  health    : Health
  stale     : Bool
  absOk     : Bool
  barred    : Bool              -- a failed absolute source that only a correction run decides on (R129)
  motorOk   : Bool
  secOk     : Bool
  landing   : Nat               -- CP_STAT.LANDING
  rejects   : Nat               -- consecutive rejected frames
  series    : Nat               -- consecutive consistent valid frames (R129, R137)
  lastRaw   : Option Int        -- last valid frame's position
  gap       : Nat               -- CP_ABS_GAP
  accepts   : List (Nat × Int)  -- accepted frames within ABS_BRIDGE: age in T0 and position
  lastAcc   : Int               -- last accepted frame's position, for the ABS_FAIL context
  counts    : List (BitVec 32)  -- motion-source counts of the last 32 latches, newest first (R149)
  slip      : Int
  slipFrom  : Int               -- position at run start
  slipLast  : Option (Int × BitVec 32)   -- last accepted frame of the run and the motor count at its boundary
  slipWarn  : Bool
  slipRaised : Bool
  drops     : Nat               -- consecutive dropped fusions
  nextIdx   : Option Nat                 -- last landing considered by R131 in this run
  tsBad     : Nat               -- consecutive T0 with a terminal switch contradiction
  lastDelta : Int
  levelErr  : Int
  levelDue  : Option Int        -- target whose stopping error R143 records at the next STILL latch
  evFine    : BitVec 8
  evCoarse  : BitVec 8
  evSuspect : BitVec 8
  evSkipped : BitVec 8
  refT0     : BitVec 32
  spec      : SpecRun
  relevT1   : Nat               -- consecutive T1 with the re-level deviation (R144)
  relevels  : List Nat          -- ages in T0 of the re-levels at this stop (R145)
  takeOut   : Bool              -- re-level hold waits for the doors to close
  holds     : Holds
  motSec    : Bool              -- the ROLE 3 port is the motion source
  regain    : Nat               -- T0 a restored motor encoder has agreed (R137)
  regainRef : Int               -- its position less its travel at the first of them
  regain3   : Nat               -- the same of a restored ROLE 3 port
  regainRef3 : Int
  secPrev   : Option (BitVec 32)   -- ROLE 3 count at the last latch
  secD      : Int               -- ROLE 3 travel over the last T0
  motD      : Int               -- motion-source travel over the last T0
  dz2Now    : Bool              -- DZ2 at the last fusion
  dz2Prev   : Bool              -- DZ2 at the fusion before
  inspect   : Bool              -- homing failed: LOST until inspected (R142)
  startUp   : Bool              -- no position since start-up, PD5's return or an unpark (R137)
  deriving DecidableEq, Repr

/-- PG_STAT.STATE (05 R184), codes 0 to 5 in order. -/
inductive PgState where
  | idle | start | run | stopping | mstop | end_
  deriving DecidableEq, Repr

/-- PG_STAT.LAST_TGT (05 R184). -/
inductive LastTgt where
  | none | taken | notTaken | refused
  deriving DecidableEq, Repr

/-- Special-run and mode contributions to the cap of a run (05 R160). -/
inductive RunKind where
  | normal | correction | ref | relevel | learn | nudge | homing
  deriving DecidableEq, Repr

/-- A run handed over to an idle axis. -/
structure NewRun where
  target : Int
  kind   : RunKind
  from_  : Option Nat        -- landing it starts from, for user tables
  dest   : Option Nat        -- landing it ends at
  cap    : Option Int        -- further cap (mode, creep)
  deriving DecidableEq, Repr

/-- Requests waiting for the lane's next computation (05 R171). -/
structure PgReq where
  mstop  : Bool
  istop  : Bool
  cstop  : Bool
  target : Option Int
  cap    : Option Int
  run    : Option NewRun
  deriving DecidableEq, Repr

/-- The energy record of a hoist run in progress (05 R181, 14 R478). -/
structure Energy where
  mot     : Nat              -- µJ
  reg     : Nat
  pMax    : Int
  pMin    : Int
  any     : Bool             -- some P_DC accepted
  from_   : Nat
  mode    : Nat
  load    : Nat
  startT0 : BitVec 32
  startPos : Int
  incomplete : Bool
  mstop   : Bool
  lastSof : Option (BitVec 32)
  deriving DecidableEq, Repr

/-- One axis of the PG (05). -/
structure Axis where
  state     : PgState
  segIx     : Nat
  phase     : Nat
  table     : Bool
  lastTgt   : LastTgt
  capLate   : Bool
  target    : Int            -- PG_TARGET
  refPos    : Int
  refVel    : Int
  refAcc    : Int
  planT     : Nat
  stopPos   : Int
  runId     : BitVec 32
  accel     : Int
  decel     : Int
  jerk      : Int
  revDecel  : Int
  vmax      : Int
  startT0   : BitVec 32
  replans   : BitVec 16
  deferred  : BitVec 16
  originPos : Int
  originVel : Int
  segs      : List Seg
  req       : PgReq
  held      : Option NewRun  -- the run of state START (R163 step 1)
  runKind   : RunKind        -- kind of the present or last run
  kept      : Option Int     -- target kept for the next run (R166)
  startWait : Nat            -- T1 since step 1
  magAt     : Option (BitVec 32)   -- T0CNT of step 2
  endAt     : Option (BitVec 32)   -- T0CNT of step 4
  failures  : Nat            -- consecutive start failures
  lifted    : Bool           -- brake lift requested
  due       : Bool           -- step 3 of R163 acts at the coming computation
  landed    : Bool           -- the run ended at its target, not by a stop
  energy    : Energy
  fRun      : Bool           -- frame FLAGS.RUN
  fHold     : Bool           -- frame FLAGS.HOLD
  deriving DecidableEq, Repr

/-- An injection on a lane (06 R203 to R206). -/
structure Inject where
  point    : Nat
  signal   : Nat
  capu     : BitVec 4
  ampl     : Int
  dur      : Nat
  p1       : Nat
  p2       : Nat
  started  : Bool
  i        : Nat
  q        : BitVec 15
  wait     : Nat              -- computations since acceptance, before it starts
  identify : Option (Fin 4)   -- the capture unit taken
  set0     : Fin 4            -- gain set in force at the start
  e        : CmdEntry
  deriving DecidableEq, Repr

/-- One lane of the control engine (06). -/
structure Lane where
  gain     : Option GainRec    -- latched record (R188)
  set      : Fin 4
  region   : Fin 4
  sat      : Bool
  fbClamp  : Bool
  iHold    : Bool
  feOver   : Bool
  fValid   : Bool
  repeat_  : Bool
  drops    : Nat
  err      : Int               -- e of R190
  fe       : Int               -- following error: e without the position injection (R200)
  verr     : Int
  out      : Int               -- CE_OUT
  aux      : Int               -- CE_AUX
  integ    : Int
  bias     : Int
  frac     : Int
  inj      : Int               -- injection value of the last computation
  injecting : Bool             -- the last computation injected
  evSwitch : BitVec 16
  evSat    : BitVec 16
  evFe     : BitVec 16
  evRep    : BitVec 16
  lastT0   : BitVec 32
  feRun    : Nat               -- consecutive FE_OVER computations
  dir      : Int               -- last nonzero sign of v_ref
  uc       : Int
  itTerm   : Int
  stopped  : Bool              -- stopped by the escalation of R31 or by retirement
  missNow  : Bool              -- this slot's computation was dropped
  missRun  : Nat               -- consecutive slots with a drop of the lane or of its car's frame build (01 R31)
  injection : Option Inject
  deriving DecidableEq, Repr

/-- The RWC fields of a capture unit (06 R214). -/
structure CapuRwc where
  arm      : Bool
  stream   : Bool
  rate     : Fin 4
  trig     : Fin 8
  decim    : BitVec 8
  unitSel  : BitVec 6
  trigPort : BitVec 6
  sig      : BitVec 12
  pre      : BitVec 13
  deriving DecidableEq, Repr

/-- One capture unit (06 R207 to R214). -/
structure Capu where
  en        : Bool
  rwc       : CapuRwc
  shadow    : CapuRwc
  commit    : Option CapuRwc
  state     : Fin 8            -- CAPU_STAT.STATE
  commitErr : Bool
  ovr       : Bool
  count     : BitVec 32
  trigT0    : BitVec 32
  drop      : BitVec 32
  skip      : Nat              -- occasions since the last sample (DECIM)
  samples   : List (List Byte) -- samples held, oldest first
  taken     : List (List Int)  -- records of an identification
  fired     : Bool
  blockSeq  : BitVec 32
  dropped   : BitVec 32        -- blocks dropped since the last delivered
  last      : Bool             -- the remaining samples end the capture
  deriving DecidableEq, Repr

/-- CE_INJ_STAT (06 R215). -/
structure InjStat where
  lane   : BitVec 6
  result : Byte
  done   : BitVec 16
  deriving DecidableEq, Repr

end Sys2Proof.Machine
end

