-- ==== Sys2Proof/Machine/StateSafety.lean ====
section
/-! DEFINITION. The state of the polders, the connections, the levee, the seal switches and the service modes (09 to 12).
Comments name the register a field is read through. -/

namespace Sys2Proof.Machine

/-- POL_CH_STAT.CLASS (12 R399, R420), codes 0 to 3 in order. -/
inductive PolClass where
  | wireBreak | open_ | closed | none
  deriving DecidableEq, Repr

/-- W1C flags of a polder channel (12 R420). -/
structure PolFlags where
  wb       : Bool
  guard    : Bool
  shortLp  : Bool
  ovld     : Bool
  cross    : Bool
  darkFail : Bool
  wdog     : Bool
  deriving DecidableEq, Repr

/-- One polder channel (12). -/
structure PolCh where
  cls       : PolClass          -- accepted class of the field side
  guard     : Bool              -- R401 holds
  lcls      : PolClass          -- class at the last latch
  active    : Bool              -- value delivered at the last latch
  demand    : Bool
  cmd       : Bool              -- POL_CH_STAT.CMD
  on        : Bool
  rb        : Bool              -- readback at the last latch
  defer     : Bool
  pulse     : Bool              -- dark or test pulse begun at the last refresh
  tpulse    : Bool              -- it is a test pulse of R410
  current   : BitVec 16
  flags     : PolFlags
  deferrals : BitVec 16
  pulses    : BitVec 16
  abandoned : BitVec 16
  reqT0     : Option (BitVec 32)   -- T0 at which the present on-demand appeared
  onT0      : Option (BitVec 32)   -- T0 of the refresh that switched the channel on
  heldOff   : Bool              -- held off by R408 until its self-test ends
  badRb     : Nat               -- consecutive checked latches with a wrong readback
  skipRb    : Bool              -- the next latch is not checked
  pulseT0   : BitVec 32         -- T0CNT of the last pulse
  wdogOff   : Bool              -- field side in its safe state after a watchdog expiry
  deriving DecidableEq, Repr

/-- One polder (12 R421). -/
structure Polder where
  lpOk     : Bool
  lpLow    : Bool
  volt     : BitVec 16
  deferred : BitVec 16
  coupler  : BitVec 16
  deriving DecidableEq, Repr

/-- The polder interface (12). `switched` holds the energisations inside the inrush window: T0CNT, channel, inrush. -/
structure Pol where
  ch       : Tab 96 PolCh
  pol      : Tab 12 Polder
  gout     : Tab 3 (BitVec 32)
  switched : List (BitVec 32 × Fin 96 × Nat)
  deriving DecidableEq, Repr

/-- SF_CONN.STATE (11 R386, R392), codes 0 to 3 in order. -/
inductive ConnState where
  | none | wait | up | lost
  deriving DecidableEq, Repr

/-- Sources of a CTN_REP (11 R379). -/
structure CtnRep where
  doors     : Byte
  station   : Byte
  switches  : Byte
  attendant : Byte
  load      : BitVec 16
  deriving DecidableEq, Repr

/-- What a node last reported in an accepted frame. -/
structure NodeData where
  hdv      : Byte              -- HDV_REP byte 0
  torque   : BitVec 16         -- T_APPLIED
  ctn      : CtnRep
  ptn      : Byte
  any      : Bool              -- some report accepted since the connection entered WAIT
  -- HDV feedback (05 R180)
  fbStatus : Byte
  speedAct : BitVec 32
  torqAct  : BitVec 16
  fbFault  : BitVec 16
  pDc      : BitVec 32
  loadT0   : BitVec 32         -- T0CNT of the last CTN report
  deriving DecidableEq, Repr

/-- One connection (11 R366, R392). -/
structure Conn where
  state     : ConnState
  key       : List Byte        -- K of R368
  connId    : BitVec 16
  waitT0    : BitVec 32        -- T0CNT of the latch at which it entered WAIT
  sent      : Bool             -- some safety frame has been sent
  seqTx     : BitVec 16        -- SF_SEQ.TX
  seqBased  : Bool
  seqRx     : BitVec 16        -- SF_SEQ.RX
  seen      : BitVec 9         -- bit d: SEQ d behind the highest accepted
  based     : Bool
  stamp     : BitVec 32        -- SF_LAST_STAMP
  rx        : BitVec 32        -- SF_LAST_RX
  lastSof   : BitVec 32        -- start of frame of the last accepted frame of any kind
  age       : Nat              -- T0 since the last accepted frame or the entry to WAIT
  rxOk      : BitVec 32
  rejFormat : Byte
  rejId     : Byte
  rejCrc    : Byte
  rejTag    : Byte
  rejClaim  : Byte
  rejSeq    : Byte
  rejTime   : Byte
  losses    : Byte
  joins     : BitVec 16
  joinNonce : Option (List Byte)   -- JOIN to be answered in the car's slot (R387)
  echoBased : Bool                 -- the sequence rules of R180, R221 and R297 have a value
  echo      : BitVec 16
  data      : NodeData
  deriving DecidableEq, Repr

/-- Requests of a car core to the levee (10 R323). -/
structure LvReq where
  start   : Bool
  relevel : Bool           -- the start belongs to a re-level
  lift    : Bool
  drop    : Bool
  runEnd  : Bool
  sf1     : Bool
  deriving DecidableEq, Repr

/-- The brake-holding test (10 R342). Phase 0 none; 1 contactors; 2 circuit 2 lifted, +T; 3 −T; 4 to 6 the same for the
other circuit; 7 ends. -/
structure BrakeTest where
  phase    : Nat
  circuit  : Nat            -- 1 or 2
  torque   : Int
  age      : Nat            -- T0 in the phase
  p0       : Int
  slip     : Int
  e        : Option CmdEntry    -- the M11 command, none for an automatic test
  res1     : Fin 4
  res2     : Fin 4
  maxSlip  : Nat            -- LV_BTEST.SLIP
  ageT0    : Nat            -- T0 since both circuits last passed
  torq     : BitVec 16      -- LV_BTEST_AGE.TORQ
  retry    : Option Nat     -- T0 until an aborted automatic test is retried
  overdue  : Bool           -- the 48 h event has been raised
  noTorq   : Nat            -- T0 since the last event of a missing torque
  deriving DecidableEq, Repr

/-- The start-up tests of a car (10 R359). `step` 1 to 7 is the test in progress, 8 passed, 0 not started. -/
structure StartTests where
  step   : Nat
  age    : Nat              -- T0 in the step; 1 from the T0 after the last test passed
  phase  : Nat              -- phase of the contactor test; run of good T0 of the input test
  sub    : Nat              -- T0 in the phase
  failed : Bool
  deriving DecidableEq, Repr

/-- A dual source (10 R326). -/
structure Dual where
  disagree : Nat            -- T0 for which the channels have disagreed
  latched  : Bool
  sawDem   : Bool           -- both have shown demand together since the latch
  sawNon   : Bool           -- and then non-demand together
  deriving DecidableEq, Repr

/-- Feedback of one command (10 R340, R341). -/
structure FbWatch where
  age    : Nat              -- T0 since the command's change reached the output
  bad    : Nat              -- consecutive T0 of disagreement outside the window
  seen   : Bool             -- the feedback has followed since the change
  window : Nat              -- T0 in which it may follow
  deriving DecidableEq, Repr

/-- One car of the levee (10). -/
structure Lv where
  prevA     : Option Int            -- last valid absolute frame
  pFx       : Int                   -- p_L with 16 fraction bits
  pos       : Int                   -- LV_POS
  posPrev   : Int                   -- p_L of the T0 before (R329)
  cpPrev    : Int                   -- CP_POS at the last evaluation
  speed     : Int                   -- LV_SPEED
  absOk     : Bool
  est       : Bool                  -- p_L established
  posOk     : Bool
  rejects   : Nat
  series    : Nat
  accepts   : List (Nat × Int)
  wasUp     : Bool                  -- the car core's health was VALID or DEGRADED
  adopt     : Bool                  -- its rise waits for a standstill with DZ active (R327)
  stillRun  : Nat
  still     : Bool
  xRun      : Nat
  liftPos   : Int                   -- position at the last brake lift
  slip      : Int
  slipA     : Option (Int × BitVec 32)   -- last accepted frame and the motor count at its boundary
  causes    : List Nat              -- active causes, ascending
  trip      : BitVec 8              -- LV_TRIP
  demand    : Bool                  -- a demand is in force
  first     : Byte
  last      : Byte
  lastT0    : BitVec 32             -- T0CNT at which LAST was written
  demandT0  : BitVec 32
  mstop     : Bool
  immediate : Bool
  acted     : Bool                  -- R336 has acted in the demand in force
  vd        : Int
  dir       : Int                   -- direction recorded at the demand
  k         : Nat
  env       : Int
  torqueOff : Bool
  tqAge     : Nat                   -- T0 since the first torque-removal frame
  stoSeen   : Bool
  stoRaised : Bool
  mc        : Bool                  -- contactors commanded on
  brk1      : Bool
  brk2      : Bool
  wMc       : FbWatch
  wBrk1     : FbWatch
  wBrk2     : FbWatch
  mcPulled  : Bool                  -- MC_FB was inactive in the last evaluation
  b1Up      : Bool                  -- BRK1_FB was active
  b2Up      : Bool
  lockedF   : Bool
  lockedR   : Bool
  exc       : Bool
  startOk   : Bool
  hold      : Bool
  holdCause : Byte                  -- what the service hold persists on
  modeLv    : Nat                   -- mode in force in the levee's view
  vmode     : Nat                   -- mode whose variants apply (R306)
  inspReq   : Bool                  -- an M9 source was active in the last evaluation
  rescReq   : Bool                  -- an M10 source was
  lifted    : Bool                  -- a brake lift has latched DECEL and the cap
  decel     : Int                   -- DECEL latched at brake lift
  cap       : Int                   -- SF6 cap latched
  limit     : Int                   -- LV_LIMIT
  capFall   : Option (Int × Nat)    -- v_d and k of the decay of R352
  osRun     : Nat
  termRun   : Nat
  sf6Run    : Nat
  tsRun     : Nat
  tsUp      : Bool
  tsDn      : Bool
  locks     : Tab 2 Dual
  stopD     : Dual
  inspD     : Dual
  press     : Option Nat            -- T0 of the press in progress
  released  : Option Nat            -- length of a press that has ended in this T0
  pressMs   : BitVec 16
  resetSeen : Bool                  -- RESET has had an accepted class since the start
  stuck     : Bool                  -- it was closed then (R355)
  req       : LvReq
  moveSafe  : Bool                  -- cause 0x41 lasts
  illegal   : Bool                  -- cause 0x42 lasts
  demands   : Byte
  breaches  : Byte
  resetHeld : Byte
  discreps  : Byte
  tests     : StartTests
  bt        : BrakeTest
  tqFrame   : Bool                  -- a torque-removal frame is owed in this T0
  tqSent    : Bool                  -- one has been queued since torque was removed (R337)
  deriving DecidableEq, Repr

/-- The seal switches (10 R356 to R358, R365). -/
structure Seal where
  now       : BitVec 8
  lastRead  : BitVec 8
  pwrup     : BitVec 8
  role      : Fin 4              -- 0 slot 1, 1 slot 2, 2 witness, 3 standalone
  fixed     : Bool               -- the role is fixed
  reads     : Nat                -- start-up reads made
  changeErr : Bool
  changes   : BitVec 16
  resvOn    : Bool               -- SEAL4 to SEAL7 on at start-up: class F at the first T0 after BOOT
  deriving DecidableEq, Repr

/-- One car's service mode (09). -/
structure Mode where
  mode      : Nat                -- MS_STAT.MODE
  target    : Nat                -- MS_STAT.TARGET
  sub       : Nat
  epwr      : Bool
  alt       : Bool
  hold      : Bool               -- service hold
  active    : BitVec 12          -- MS_REQ.ACTIVE
  host      : BitVec 12          -- MS_REQ.HOST
  fireReq   : Bool               -- latched M4 request
  fireman   : Bool               -- latched M5 request
  seismic   : Bool               -- latched M8 request
  clear8    : Bool               -- CLEAR_MODE(M8) received since
  entryT0   : BitVec 32
  changes   : BitVec 16
  refused   : BitVec 16
  fresh     : Bool               -- started in M3 under R320, waiting for position and tests
  setCmds   : List (CmdEntry × Nat × Nat)   -- SET_MODE commands to complete: entry, mode, T1 waited
  m5Call    : Option Nat         -- landing of the M5 car call in force
  m5Next    : Option Nat         -- the held one
  evac      : Option Nat         -- pickup landing of M6
  runCmd    : Option CmdEntry    -- host RUN in execution
  doorCmd   : List (CmdEntry × Nat)         -- host DOOR in execution: entry, 0 open or 1 close
  holdRun   : Int                -- hold-to-run direction in force: -1, 0, +1
  tookTgt   : Bool               -- the R312 target has been handed over in this run
  opened    : Bool               -- the doors have opened on this arrival
  attend    : Bool               -- M2: a direction button has been pressed for the coming start
  srcs      : Tab 12 Nat         -- source of each mode's request when it was last active (14 R473)
  regs      : List (BitVec 32)   -- the MS registers as the last T1 job left them (R320)
  deriving DecidableEq, Repr

end Sys2Proof.Machine
end

