-- ==== Sys2Proof/Machine/State.lean ====
section
/-! DEFINITION. The whole state of the block, the reasons a step can stop, and the state after reset: the module OFF, every
register at the reset value of its register table, and what the spec gives no value at the values of log 1. -/

namespace Sys2Proof.Machine

/-- Why a step can end in a fault. The type is empty: no command of the table ends in a fault, so this model never claims one
(safe). -/
inductive Fault where
  deriving DecidableEq, Repr

/-- Why a step can be refused. -/
inductive Refusal where
  /-- Raised by an arm of `exec` whose command has no meaning yet, under the command's mnemonic; safe, since the machine stops. -/
  | notModelled (mnemonic : String)
  deriving DecidableEq, Repr

/-- Registers that the module refreshes at a T0 latch, as the last one left them: the SF block of each connection (11 R392), STAT, CNT
and CNT2 of each polder channel (12 R420), and the TW block (15 R521). -/
structure Shown where
  conns : List (List (BitVec 32))
  chans : List (List (BitVec 32))
  tw    : List (BitVec 32)
  deriving DecidableEq, Repr

/-- The state of the block. -/
structure State where
  mod     : ModState              -- module state (01 R46)
  tick    : Tick
  spill   : Spill
  fc      : Fc
  cvs     : Tab 16 Cv
  img     : Img
  model   : Option Model          -- building model in force
  hi      : Hi
  buses   : Tab 12 Bus
  pwr     : Pwr
  page    : Fin 4                 -- MAP_PAGE.SEL
  ports   : Tab 48 Port
  sup     : Supplies
  cars    : Tab 16 CarPos
  axes    : Tab 48 Axis
  lanes   : Tab 48 Lane
  capus   : Tab 4 Capu
  injStat : InjStat
  pol     : Pol
  conns   : List Conn             -- one per NODES record, in order (11 R366)
  lv      : Tab 16 Lv
  seals   : Seal
  modes   : Tab 16 Mode
  sides   : Tab 32 Side
  learn   : Tab 16 (Option DoorLearnCmd)
  dsx     : Dsx
  tw      : Tw
  coreTest : Tab 2 Nat            -- T0 of the levee-core start-up test still to run (10 R359)
  calm    : Nat                   -- T0 for which every output has read back safe (14 R481)
  shown   : Shown                 -- registers as the last T0 latch left them
  freeCtr : Nat                   -- the model's own: index of the next free value (log 9)
  pending : List Instr            -- the model's own: the commands that wait, first in first out
  deriving DecidableEq, Repr

/-- `Tick` after reset. -/
def Tick.zero : Tick :=
  { started := false, tb0 := 0, tb := 0, t0 := 0, t1 := 0, t2 := 0, t1Due := false, t2Done := false, hi := 0,
    t1Stamp := 0, syncT0 := 0, syncTb := 0 }

/-- `Spill` after reset. -/
def Spill.zero : Spill :=
  { cnt := Tab.all (Tab.all 0), lane := Tab.all 0, build := Tab.all 0, core := Tab.all 0, miss := Tab.all 0,
    solver := 0, told := Tab.all false, abandoned := [] }

/-- `Fc` after reset. -/
def Fc.zero : Fc :=
  { batch := [], arrived := [], firstValid := false, first := none, nerr := false, fSeen := false,
    commitErr := false, cntC := 0, cntU := 0, cntF := 0, suppressed := 0, transient := 0, retiredCnt := 0,
    sluice := [], shadow := [], commit := none, tests := [], hist := [], powered := 0, retired := [], flashMap := [],
    flashHist := [], flashDue := false, seenC := [], countC := [], clearing := none, plog := [], plogNext := 0,
    plogSel := 0, boots := 0, crst := false, nmiPorts := false, nmiInputs := false }

/-- `Cv` after reset. -/
def Cv.zero : Cv :=
  { poly := 0, count := 0, fail := 0, mismatch := 0, bad := false }

/-- `Img` after reset. -/
def Img.zero : Img :=
  { state := .idle, reject := 0, key := none, group := none, slots := Tab.all none, inforce := 0, work := none, pending := none,
    props := [], propLost := 0, nextProp := 0, linkBuf := [], linkLen := 0 }

/-- `Ring` after reset. -/
def Ring.zero : Ring :=
  { base := 0, size := 0, vec := 0, irq := false, head := 0, tail := 0, data := [] }

/-- `Cpl` after reset. -/
def Cpl.zero : Cpl :=
  { ring := 0, op := 0, status := 0, code := 0, tag := 0, result := 0 }

/-- `Vec` after reset. -/
def Vec.zero : Vec :=
  { masked := false, pba := false, holdoff := false, want := false, sent := 0 }

/-- `Hi` after reset. -/
def Hi.zero : Hi :=
  { en := false, msixEn := false, crcEn := false, cfgErr := false, werr := false, dbErr := false, dbLost := false,
    dmaErr := false, accErr := false, hrdy := false, hatn := false, sb := 0, evtThresh := 0, irqMod := 0,
    rings := Tab.all Ring.zero, cplVec := 0, cplIrq := false, cplHead := 0, cplTail := 0, cpl := Tab.all Cpl.zero,
    cplWait := [], bootId := 0, enableSeq := 0, sbOld := [], evtSeq := 0, backlog := [], lostNow := 0, evtLost := 0,
    telDrop := 0, capDrop := 0, dbIgn := 0, telSeq := 0, energyDue := [], ripe := false, logSeq := 0, logHeld := [],
    fHeld := false, tags := Tab.all 0, telHeld := [], dataOut := none, timeouts := 0, waiting := [], running := [], calls := [], d3 := false,
    vecs := Tab.all Vec.zero }

/-- `Bus` after reset. -/
def Bus.zero : Bus :=
  { state := .off, prior := .off, noack := false, noRate := false, woke := false, collision := false,
    busoff := false, rxOvr := false, werr := false, tec := 0, recv := 0, lastErr := 0, errPhase := false, nom := 0,
    dat := 0, tdcMeas := 0, ssp := 0, txOk := 0, rxOk := 0, errors := 0, busoffs := 0, txDrop := 0, rxDrop := 0,
    replaced := 0, unknown := 0, late := 0, wakes := 0, sleepReq := false, wakeMode := false, wakeId := 0,
    wakeExt := false, wakeMask := 0, wakeD0 := 0, wakeD1 := 0, wakeM0 := 0, wakeM1 := 0, tx := [], fifo := 0,
    sleepT1 := 0, cand := 0, swept := false, adopted := false, start := false, onWait := false, trxOn := false,
    restate := false }

/-- `FwSlot` after reset. -/
def FwSlot.zero : FwSlot :=
  { image := [], state := 0 }

/-- `Boot` after reset. -/
def Boot.zero : Boot :=
  { step := 0, first := 0, tried := 0, startT0 := 0, age := 0, trial := false, halted := false, hot := false,
    failed := false, loaded := false }

/-- `Pwr` after reset. -/
def Pwr.zero : Pwr :=
  { pd0 := false, domOn := 0x01, domOk := 0x01, domLock := 0, lastOn := 0, vinMv := 0, vinOk := false,
    vinBad := false, vinRepT2 := 0, rails := Tab.all ((0, 0)), die0 := 0, die1 := 0, base := 0, derate := false, tripped := false,
    recovery := false, nrstin := false, slots := Tab.all FwSlot.zero, preferred := 0, running := 0,
    fallback := false, minSec := 0, boot := Boot.zero, parkReq := 0, parked := 0, parkAuto := 0, recState := 0,
    recCode := 0, recWin := [], recImg := [], update := none }

/-- `PortCfg` after reset. -/
def PortCfg.zero : PortCfg :=
  { mode := 0, htl := false, listen := false, inv := 0, dir := false, idxEdge := false, filt := 5, tstop := 50 }

/-- `PortRwc` after reset. -/
def PortRwc.zero : PortRwc :=
  { idxArm := false, cmpEn := false, bits := 25, gray := true, errEn := false, posLsb := 0, errLow := false,
    errPos := 0, rate := 100, posBits := 25, delay := 0, idxExp := 0, idxWin := 0, cmp := 0, spacing := 0 }

/-- `Est` after reset. -/
def Est.zero : Est :=
  { moving := false, dir := 0, anchorT := 0, lastT := 0, edgeT := 0, n := 0, speed := 0 }

/-- `PortFlags` after reset. -/
def PortFlags.zero : PortFlags :=
  { illegal := false, wrap := false, idxOvr := false, cmpOvr := false, ssiErr := false, line := false,
    noclk := false, werr := false, commitErr := false }

/-- `PortLatch` after reset. -/
def PortLatch.zero : PortLatch :=
  { count := 0, speed := 0, edgeTs := 0, still := false, moving := false, falling := false, ssiValid := false,
    idxSeen := false, idxResult := 0, cmpHit := false, absent := false }

/-- `Port` after reset. -/
def Port.zero : Port :=
  { en := false, cfg := PortCfg.zero, rwc := PortRwc.zero, shadow := PortRwc.zero, commit := none, count := 0,
    est := Est.zero, edgeTs := 0, flags := PortFlags.zero, linePair := 0, level := 0, missEdge := false, idxCap := 0, idxTs := 0, capNow := false,
    seenNow := false, resNow := 0, entered := false, hits := [], hitNow := false, evCmp := 0, evIllegal := 0,
    ssiRaw := 0, ssiNow := none, ssiOpen := false, driving := false, latch := PortLatch.zero, saved := none,
    prev := none }

/-- `Supply` after reset. -/
def Supply.zero : Supply :=
  { sel := 0, en := false, on := false, oc := false, trip := false, settle := 0, current := 0, voltage := 0 }

/-- `Supplies` after reset. -/
def Supplies.zero : Supplies :=
  { groups := Tab.all Supply.zero, werr := false, queue := [], wait := 0 }

/-- `SpecRun` after reset. -/
def SpecRun.zero : SpecRun :=
  { kind := .none, leg := 0, landing := 0, mark := none, up := false, capU := none, capD := none, capsU := [],
    capsD := [], reason := 0, age := 0, travel := 0, source := 0, wait := none, zone := false }

/-- `Holds` after reset. -/
def Holds.zero : Holds :=
  { slip := false, relevel := false, start := false, following := false, door := false }

/-- `CarPos` after reset. -/
def CarPos.zero : CarPos :=
  { base := 0, corr := 0, corrTgt := 0, slew := 0, pos := 0, posFx := 0, vel := 0, health := .lost, stale := false,
    absOk := false, barred := false, motorOk := false, secOk := false, landing := 0, rejects := 0, series := 0, lastRaw := none,
    gap := 0, accepts := [], lastAcc := 0, counts := [], slip := 0, slipFrom := 0, slipLast := none,
    slipWarn := false, slipRaised := false, drops := 0, nextIdx := none, tsBad := 0, lastDelta := 0, levelErr := 0,
    levelDue := none, evFine := 0, evCoarse := 0, evSuspect := 0, evSkipped := 0, refT0 := 0, spec := SpecRun.zero,
    relevT1 := 0, relevels := [], takeOut := false, holds := Holds.zero, motSec := false, regain := 0,
    regainRef := 0, regain3 := 0, regainRef3 := 0, secPrev := none, secD := 0, motD := 0, dz2Now := false, dz2Prev := false, inspect := false, startUp := false }

/-- `PgReq` after reset. -/
def PgReq.zero : PgReq :=
  { mstop := false, istop := false, cstop := false, target := none, cap := none, run := none }

/-- `Energy` after reset. -/
def Energy.zero : Energy :=
  { mot := 0, reg := 0, pMax := 0, pMin := 0, any := false, from_ := 0, mode := 0, load := 0, startT0 := 0,
    startPos := 0, incomplete := false, mstop := false, lastSof := none }

/-- `Axis` after reset. -/
def Axis.zero : Axis :=
  { state := .idle, segIx := 0, phase := 0, table := false, lastTgt := .none, capLate := false, target := 0,
    refPos := 0, refVel := 0, refAcc := 0, planT := 0, stopPos := 0, runId := 0, accel := 0, decel := 0, jerk := 0,
    revDecel := 0, vmax := 0, startT0 := 0, replans := 0, deferred := 0, originPos := 0, originVel := 0, segs := [],
    req := PgReq.zero, held := none, runKind := .normal, kept := none, startWait := 0, magAt := none, endAt := none, failures := 0,
    lifted := false, due := false, landed := false, energy := Energy.zero, fRun := false, fHold := false }

/-- `Lane` after reset. -/
def Lane.zero : Lane :=
  { gain := none, set := 0, region := 0, sat := false, fbClamp := false, iHold := false, feOver := false,
    fValid := false, repeat_ := false, drops := 0, err := 0, fe := 0, verr := 0, out := 0, aux := 0, integ := 0, bias := 0,
    frac := 0, inj := 0, injecting := false, evSwitch := 0, evSat := 0, evFe := 0, evRep := 0, lastT0 := 0, feRun := 0, dir := 0,
    uc := 0, itTerm := 0, stopped := false, missNow := false, missRun := 0, injection := none }

/-- `CapuRwc` after reset. -/
def CapuRwc.zero : CapuRwc :=
  { arm := false, stream := false, rate := 0, trig := 0, decim := 1, unitSel := 0, trigPort := 0, sig := 0, pre := 0 }

/-- `Capu` after reset. -/
def Capu.zero : Capu :=
  { en := false, rwc := CapuRwc.zero, shadow := CapuRwc.zero, commit := none, state := 0, commitErr := false,
    ovr := false, count := 0, trigT0 := 0, drop := 0, skip := 0, samples := [], taken := [], fired := false,
    blockSeq := 0, dropped := 0, last := false }

/-- `InjStat` after reset. -/
def InjStat.zero : InjStat :=
  { lane := 0, result := 0, done := 0 }

/-- `PolFlags` after reset. -/
def PolFlags.zero : PolFlags :=
  { wb := false, guard := false, shortLp := false, ovld := false, cross := false, darkFail := false, wdog := false }

/-- `PolCh` after reset. -/
def PolCh.zero : PolCh :=
  { cls := .none, guard := false, lcls := .none, active := false, demand := false, cmd := false, on := false,
    rb := false, defer := false, pulse := false, tpulse := false, current := 0, flags := PolFlags.zero,
    deferrals := 0, pulses := 0, abandoned := 0, reqT0 := none, onT0 := none, heldOff := false, badRb := 0,
    skipRb := false, pulseT0 := 0, wdogOff := false }

/-- `Polder` after reset. -/
def Polder.zero : Polder :=
  { lpOk := false, lpLow := false, volt := 0, deferred := 0, coupler := 0 }

/-- `Pol` after reset. -/
def Pol.zero : Pol :=
  { ch := Tab.all PolCh.zero, pol := Tab.all Polder.zero, gout := Tab.all 0, switched := [] }

/-- `FbWatch` after reset. -/
def FbWatch.zero : FbWatch :=
  { age := 0, bad := 0, seen := false, window := 0 }

/-- `Dual` after reset. -/
def Dual.zero : Dual :=
  { disagree := 0, latched := false, sawDem := false, sawNon := false }

/-- `LvReq` after reset. -/
def LvReq.zero : LvReq :=
  { start := false, relevel := false, lift := false, drop := false, runEnd := false, sf1 := false }

/-- `StartTests` after reset. -/
def StartTests.zero : StartTests :=
  { step := 0, age := 0, phase := 0, sub := 0, failed := false }

/-- `BrakeTest` after reset. -/
def BrakeTest.zero : BrakeTest :=
  { phase := 0, circuit := 0, torque := 0, age := 0, p0 := 0, slip := 0, e := none, res1 := 0, res2 := 0,
    maxSlip := 0, ageT0 := 0, torq := 0, retry := none, overdue := false, noTorq := 0 }

/-- `Lv` after reset. -/
def Lv.zero : Lv :=
  { prevA := none, pFx := 0, pos := 0, posPrev := 0, cpPrev := 0, speed := 0, absOk := false, est := false,
    posOk := false, rejects := 0, series := 0, accepts := [], wasUp := false, adopt := false, stillRun := 0,
    still := false, xRun := 0, liftPos := 0, slip := 0, slipA := none, causes := [], trip := 0, demand := false,
    first := 0, last := 0, lastT0 := 0, demandT0 := 0, mstop := false, immediate := false, acted := false, vd := 0, dir := 0, k := 0,
    env := 0, torqueOff := false, tqAge := 0, stoSeen := false, stoRaised := false, mc := false, brk1 := false,
    brk2 := false, wMc := FbWatch.zero, wBrk1 := FbWatch.zero, wBrk2 := FbWatch.zero, mcPulled := false, b1Up := false, b2Up := false, lockedF := false,
    lockedR := false, exc := false, startOk := false, hold := false, holdCause := 0, modeLv := 3, vmode := 0,
    inspReq := false, rescReq := false, lifted := false, decel := 0, cap := 0, limit := 0, capFall := none, osRun := 0, termRun := 0,
    sf6Run := 0, tsRun := 0, tsUp := false, tsDn := false, locks := Tab.all Dual.zero, stopD := Dual.zero,
    inspD := Dual.zero, press := none, released := none, pressMs := 0, resetSeen := false, stuck := false,
    req := LvReq.zero, moveSafe := false, illegal := false, demands := 0, breaches := 0, resetHeld := 0,
    discreps := 0, tests := StartTests.zero, bt := BrakeTest.zero, tqFrame := false, tqSent := false }

/-- `Seal` after reset. -/
def Seal.zero : Seal :=
  { now := 0, lastRead := 0, pwrup := 0, role := 0, fixed := false, reads := 0, changeErr := false, changes := 0,
    resvOn := false }

/-- `Mode` after reset. -/
def Mode.zero : Mode :=
  { mode := 3, target := 3, sub := 0, epwr := false, alt := false, hold := false, active := 0, host := 0,
    fireReq := false, fireman := false, seismic := false, clear8 := false, entryT0 := 0, changes := 0, refused := 0,
    fresh := false, setCmds := [], m5Call := none, m5Next := none, evac := none, runCmd := none, doorCmd := [],
    holdRun := 0, tookTgt := false, opened := false, attend := false, srcs := Tab.all 0, regs := [0x33, 0, 0, 0] }

/-- `Side` after reset. -/
def Side.zero : Side :=
  { state := .unref, ref := false, mode := .free, ilim := 0, homingBit := false, locked := false, contact := false,
    curtain := false, edge := false, buzzer := false, enc := 0, encZero := 0, pm := 0, vm := 0, current := 0,
    lastCause := 0, stopRev := 0, timer := none, obstT0 := 0, landing := none, reversals := 0, missed := 0,
    rehomes := 0, lockFail := 0, nudges := 0, openObst := 0, seqSent := 0, seqPrev := 0, seqEcho := 0, nStatus := 0,
    nContacts := 0, nTemp := 0, nFault := 0, lastSof := none, replyNew := false, guardNew := false, noReply := 0,
    forceRun := 0, openRun := 0, closeAge := 0, contraRun := 0, stallRun := 0, planEnd := 0, lockAge := 0,
    lockFails := 0, lockRev := false, homeFails := 0, stopT1 := 0, opObst := 0, nudgeRev := 0, held := false,
    openDem := false, closeDem := false, dwell := none, openT1 := 0, closeT1 := 0, cleanRun := false, lastOpen := 0,
    learn := [], release := false, btnHeld := 0, pLost := false, pRose := false, pFault := false, reqRev := none,
    guardT0 := none, sentMode := .free, sentIlim := 0, regs := [], sample := [] }

/-- `Route` after reset. -/
def Route.zero : Route :=
  { stops := [], eta := 0 }

/-- `Dsx` after reset. -/
def Dsx.zero : Dsx :=
  { pattern := 0, trace := false, fallback := false, lastPat := 0, mismatch := false, late := false, runT2 := 0,
    runTime := 0, pairs := 0, swaps := 0, digest := 0, fallbacks := 0, refused := 0, mismatches := 0, deferred := 0,
    calls := [], carCalls := Tab.all [], snap := none, result := none, nearRes := none, force_ := Tab.all Route.zero,
    taken := Tab.all false, publish := Tab.all false, sent := [], lanterns := [], eligible := 0,
    standT0 := Tab.all 0, ownDigest := none, peerDigest := none, traceSeq := 0, gone := [], summary := Tab.all [],
    holding := false, heldEv := [] }

/-- `Wit` after reset. -/
def Wit.zero : Wit :=
  { epoch := 0, bound := 0, holder := 0, hclaim := 0, exp := 0, quiet := 0, granted := false }

/-- `Tw` after reset. -/
def Tw.zero : Tw :=
  { state := .negotiating, prior := .negotiating, lanes := 0, peer := false, lastHb := none, hbAge := 0, hbMiss := 0,
    hbThis := false, gate := false, wLease := 0, pLease := 0, endorse := false, endorsed := none, claimOk := false,
    claimOwn := 0, claimPeer := 0, claimBad := 0, hbSeq := 0, epochTx := 0, epochRx := 0, epochGap := false,
    epochWait := none, snapT2 := 0, snapBase := 0, snapBytes := none, parts := [], partsCrc := 0, partsBase := 0,
    partsT2 := 0, kept := [], install := false, takeovers := 0, hbLosses := 0, epochDisc := 0, resyncs := 0,
    linkErr := 0, claimErr := 0, takeT0 := 0, listen := 0, asking := false, reqWait := 0, reqs := [], lastAns := 0,
    granted := false, taking := false, released := false, muted := false, relSeen := false, holderSlot := 0,
    holderClaim := 0, wit := Wit.zero, epochE := 0, adopt := 0, wLost := false, rsiBad := false, linkOut := [],
    claimOut := 0, imgTx := none, imgOwe := [], syncOwed := Tab.all false }

/-- `NewRun` after reset. -/
def NewRun.zero : NewRun :=
  { target := 0, kind := .normal, from_ := none, dest := none, cap := none }

/-- `CtnRep` after reset. -/
def CtnRep.zero : CtnRep :=
  { doors := 0, station := 0, switches := 0, attendant := 0, load := 0xFFFF }

/-- `NodeData` after reset. -/
def NodeData.zero : NodeData :=
  { hdv := 0, torque := 0, ctn := CtnRep.zero, ptn := 0, any := false, fbStatus := 0, speedAct := 0, torqAct := 0,
    fbFault := 0, pDc := 0, loadT0 := 0 }

/-- `Conn` after reset. -/
def Conn.zero : Conn :=
  { state := .none, key := [], connId := 0, waitT0 := 0, sent := false, seqTx := 0, seqBased := false, seqRx := 0,
    seen := 0, based := false, stamp := 0, rx := 0, lastSof := 0, age := 0, rxOk := 0, rejFormat := 0, rejId := 0,
    rejCrc := 0, rejTag := 0, rejClaim := 0, rejSeq := 0, rejTime := 0, losses := 0, joins := 0, joinNonce := none,
    echoBased := false, echo := 0, data := NodeData.zero }

/-- The block right after reset. -/
def State.reset : State :=
  { mod := .off, tick := Tick.zero, spill := Spill.zero, fc := Fc.zero, cvs := Tab.all Cv.zero, img := Img.zero,
    model := none, hi := Hi.zero, buses := Tab.all Bus.zero, pwr := Pwr.zero, page := 0, ports := Tab.all Port.zero,
    sup := Supplies.zero, cars := Tab.all CarPos.zero, axes := Tab.all Axis.zero, lanes := Tab.all Lane.zero,
    capus := Tab.all Capu.zero, injStat := InjStat.zero, pol := Pol.zero, conns := [], lv := Tab.all Lv.zero,
    seals := Seal.zero, modes := Tab.all Mode.zero, sides := Tab.all Side.zero, learn := Tab.all none,
    dsx := Dsx.zero, tw := Tw.zero, coreTest := Tab.all 0, calm := 0, shown := { conns := [], chans := [], tw := [] }, freeCtr := 0, pending := [] }

end Sys2Proof.Machine
end

