-- ==== Sys2Proof/Machine/Ops.lean ====
section
/-! DEFINITION. The named operations every command shares: changing one unit of the state, stamps and free values, ring
entries and completions (14), fault reports (16) and the transmit lists (13). -/

namespace Sys2Proof.Machine

/-- What a meaning answers. -/
abbrev Out := Host.Outcome State Fault Refusal

/-- A word packed from fields (low bit, width, value); a wider value is cut to its field, and every other bit reads 0. -/
def pk (fs : List (Nat × Nat × Nat)) : BitVec 32 :=
  BitVec.ofNat 32 (fs.foldl (fun acc f => acc + f.2.2 % 2 ^ f.2.1 * 2 ^ f.1) 0)

/-- Single-bit fields from a low bit up. -/
def pkBits (lo : Nat) (l : List Bool) : Nat × Nat × Nat := (lo, l.length, packBits l)

/-- LV_BTEST (10 R364). -/
def BrakeTest.word (b : BrakeTest) : BitVec 32 := pk [(0, 2, b.res1.val), (2, 2, b.res2.val), (16, 16, min b.maxSlip 65535)]

namespace State

/-! Changing one unit. -/

/-- Port `n` changed. -/
def updPort (s : State) (n : Fin 48) (f : Port → Port) : State := { s with ports := s.ports.upd n f }
/-- Position of car `c` changed. -/
def updCar (s : State) (c : Fin 16) (f : CarPos → CarPos) : State := { s with cars := s.cars.upd c f }
/-- Axis `k` changed. -/
def updAxis (s : State) (k : Fin 48) (f : Axis → Axis) : State := { s with axes := s.axes.upd k f }
/-- Lane `k` changed. -/
def updLane (s : State) (k : Fin 48) (f : Lane → Lane) : State := { s with lanes := s.lanes.upd k f }
/-- Capture unit `u` changed. -/
def updCapu (s : State) (u : Fin 4) (f : Capu → Capu) : State := { s with capus := s.capus.upd u f }
/-- Polder channel `i` changed. -/
def updCh (s : State) (i : Fin 96) (f : PolCh → PolCh) : State := { s with pol := { s.pol with ch := s.pol.ch.upd i f } }
/-- Polder `p` changed. -/
def updPol (s : State) (p : Fin 12) (f : Polder → Polder) : State :=
  { s with pol := { s.pol with pol := s.pol.pol.upd p f } }
/-- Connection `i` changed; nothing where there is none. -/
def updConn (s : State) (i : Nat) (f : Conn → Conn) : State := { s with conns := s.conns.modify i f }
/-- Levee state of car `c` changed. -/
def updLv (s : State) (c : Fin 16) (f : Lv → Lv) : State := { s with lv := s.lv.upd c f }
/-- Mode state of car `c` changed. -/
def updMode (s : State) (c : Fin 16) (f : Mode → Mode) : State := { s with modes := s.modes.upd c f }
/-- Door side `d` changed. -/
def updSide (s : State) (d : Fin 32) (f : Side → Side) : State := { s with sides := s.sides.upd d f }
/-- Bus channel `n` changed. -/
def updBus (s : State) (n : Fin 12) (f : Bus → Bus) : State := { s with buses := s.buses.upd n f }
/-- Supply group `g` changed. -/
def updSup (s : State) (g : Fin 6) (f : Supply → Supply) : State :=
  { s with sup := { s.sup with groups := s.sup.groups.upd g f } }
/-- Fault collector changed. -/
def updFc (s : State) (f : Fc → Fc) : State := { s with fc := f s.fc }
/-- Host interface changed. -/
def updHi (s : State) (f : Hi → Hi) : State := { s with hi := f s.hi }
/-- Image store changed. -/
def updImg (s : State) (f : Img → Img) : State := { s with img := f s.img }
/-- Supervisor changed. -/
def updPwr (s : State) (f : Pwr → Pwr) : State := { s with pwr := f s.pwr }
/-- Dispatch changed. -/
def updDsx (s : State) (f : Dsx → Dsx) : State := { s with dsx := f s.dsx }
/-- Twin operation changed. -/
def updTw (s : State) (f : Tw → Tw) : State := { s with tw := f s.tw }
/-- Check-value channel `n` changed. -/
def updCv (s : State) (n : Fin 16) (f : Cv → Cv) : State := { s with cvs := s.cvs.upd n f }

/-- Act on every unit of a list in order. -/
def each {α : Type} (s : State) (l : List α) (f : State → α → State) : State := l.foldl f s

/-! Time. -/

/-- The 1 µs stamp of the last T0 boundary (R16). -/
def stamp (s : State) : BitVec 32 := BitVec.ofNat 32 (s.tick.tb.toNat / 100)

/-- T1CNT of the T1 in progress, counting a boundary whose T1 jobs are still to start (log 4). -/
def t1Now (s : State) : BitVec 32 := if s.tick.t1Due then s.tick.t1 + 1 else s.tick.t1

/-- Slot number of the T0 in progress (R18). -/
def slot (s : State) : Nat := s.tick.t0.toNat % 8

/-- The next free value and the state that has used it (log 9). -/
def take (s : State) : BitVec 64 × State := (Config.free s.freeCtr, { s with freeCtr := s.freeCtr + 1 })

/-- The landing records, axes and sides of a car. -/
def hoist (c : Fin 16) : Fin 48 := ⟨c.val, by omega⟩
/-- The door axis of a car's side, 0 front and 1 rear (R28). -/
def doorAxis (d : Fin 32) : Fin 48 := ⟨16 + d.val, by omega⟩
/-- Door side index of a car's front side. -/
def front (c : Fin 16) : Fin 32 := ⟨c.val, by omega⟩
/-- Door side index of a car's rear side. -/
def rear (c : Fin 16) : Fin 32 := ⟨16 + c.val, by omega⟩
/-- The car of a door side. -/
def sideCar (d : Fin 32) : Fin 16 := ⟨d.val % 16, by omega⟩
/-- 0 front, 1 rear. -/
def sideNo (d : Fin 32) : Nat := d.val / 16
/-- The privileged bus of a car (13). -/
def carBus (c : Fin 16) : Fin 12 := ⟨c.val / 4, by omega⟩
/-- The car core of a car (R38). -/
def carCore (c : Fin 16) : Fin 4 := ⟨c.val / 4, by omega⟩
/-- The levee core of a car (R38). -/
def carLevee (c : Fin 16) : Fin 2 := ⟨c.val / 8, by omega⟩
/-- The cars of a levee core. -/
def leveeCars (lc : Fin 2) : List (Fin 16) := (idx 16).filter (carLevee · = lc)
/-- The cars of a car core. -/
def coreCars (cc : Fin 4) : List (Fin 16) := (idx 16).filter (carCore · = cc)
/-- The car of a lane or axis. -/
def laneCar (k : Fin 48) : Fin 16 := ⟨k.val % 16, by omega⟩
/-- The lane drives a hoist. -/
def isHoist (k : Fin 48) : Bool := k.val < 16
/-- The door side of a door lane (R28); side 0 of car 0 for a hoist lane, which no caller asks. -/
def laneSide (k : Fin 48) : Fin 32 := ⟨(k.val - 16) % 32, by omega⟩
/-- The fitted door sides of a car. -/
def carSides (m : Model) (c : Fin 16) : List (Fin 32) := if m.rearFitted c then [front c, rear c] else [front c]

/-- The present cars; none without a model. -/
def present (s : State) : List (Fin 16) := s.model.elim [] (·.presentCars)

/-- The module follows or drives the group (R46). -/
def groupState (s : State) : Bool := s.mod = .active || s.mod = .standby

/-- The job's next run is dropped (01 R29). -/
def abandoned (s : State) (j : Job) : Bool := s.spill.abandoned.contains j

/-- A unit is retired (16 R538). -/
def isRetired (s : State) (u : TestUnit) : Bool := s.fc.retired.contains u

/-- A targeted self-test of a unit is running (16 R536). -/
def underTest (s : State) (u : TestUnit) : Bool := s.fc.tests.any fun t => t.running && t.unit = u

/-- STATE code of R463. -/
def modCode : ModState → Nat
  | .off => 0 | .boot => 1 | .config => 2 | .standby => 3 | .active => 4 | .witness => 5 | .safeHold => 6 | .update => 7

/-! Ring entries (14). -/

/-- The ring is full (R459): one entry always stays unused. -/
def ringFull (r : Ring) : Bool := (r.tail + 1) % r.size.toNat = r.head

/-- Free entries of a ring. -/
def ringRoom (r : Ring) : Nat :=
  if r.size = 0 then 0 else r.size.toNat - 1 - (r.tail + r.size.toNat - r.head) % r.size.toNat

/-- An entry appended to a ring the module produces. -/
def ringPut (r : Ring) (e : List Byte) : Ring := { r with tail := (r.tail + 1) % r.size.toNat, data := r.data ++ [e] }

/-- The rings run (R455, R457, R484). -/
def ringsRun (s : State) : Bool := s.hi.en && !s.hi.d3

/-- Bytes padded with zeros, or cut, to `n`. -/
def pad (n : Nat) (bs : List Byte) : List Byte := (bs ++ List.replicate n 0).take n

/-- An event entry with its SEQ filled in (R472). -/
def withSeq (seq : BitVec 32) (e : List Byte) : List Byte := e.take 4 ++ leBytes 4 seq.toNat ++ e.drop 8

/-! Tags of accesses towards host memory (01 R44). -/

/-- Tags of each class. -/
def tagLimit : TagClass → Nat
  | .cmd | .call | .evtLog | .tel => 8
  | .data => 16
  | .cap => 12
  | .status => 4

/-- Index of a class in the table of tags in use. -/
def tagIx : TagClass → Fin 7
  | .cmd => 0 | .call => 1 | .data => 2 | .evtLog => 3 | .tel => 4 | .cap => 5 | .status => 6

/-- A class has a tag free. -/
def tagFree (h : Hi) (c : TagClass) : Bool := h.tags.get (tagIx c) < tagLimit c

/-- An access of a class begins: it holds a tag until its HOST_MEMORY_ACCESS_DONE. -/
def useTag (h : Hi) (c : TagClass) : Hi := { h with tags := h.tags.upd (tagIx c) (· + 1) }

/-- Write a group of entries to EVT in one access; its first entry takes the next SEQ. -/
def putEvt (h : Hi) (g : List (List Byte)) : Hi :=
  match g with
  | [] => h
  | e :: es =>
    useTag { h with rings := h.rings.upd 2 fun r => es.foldl ringPut (ringPut r (withSeq h.evtSeq e)), evtSeq := h.evtSeq + 1 } .evtLog

/-- The LOST event of R474. -/
def lostEvent (stamp t0 : BitVec 32) (n : BitVec 32) : List Byte :=
  leBytes 2 0x0010 ++ [0xFF, 0] ++ leBytes 4 0 ++ leBytes 4 stamp.toNat ++ leBytes 4 t0.toNat ++ pad 16 (leBytes 4 n.toNat)

/-- Deliver what EVT has room and the class a tag for: a LOST event first where events were discarded, then the backlog (R474). -/
def drainGo (stamp t0 : BitVec 32) : Nat → Hi → Hi
  | 0, h => h
  | k + 1, h =>
    match h.backlog with
    | [] => h
    | g :: gs =>
      if !tagFree h .evtLog then h
      else if h.lostNow ≠ 0 then
        if ringRoom (h.rings.get 2) < 1 then h
        else drainGo stamp t0 k { putEvt h [lostEvent stamp t0 h.lostNow] with lostNow := 0 }
      else if ringRoom (h.rings.get 2) < g.length then h
      else drainGo stamp t0 k (putEvt { h with backlog := gs } g)

/-- The EVT backlog written as space appears (R474). -/
def drainEvt (s : State) : State :=
  if s.ringsRun then { s with hi := drainGo s.stamp s.tick.t0 (s.hi.backlog.length + 1) s.hi } else s

/-- An event arises (R472 to R474): it joins the backlog, and the backlog drains into EVT. A stopped or unset ring holds
events as a full one does (log 17). -/
def putEvent (s : State) (g : List (List Byte)) : State :=
  if 1024 ≤ s.hi.backlog.length then
    { s with hi := { s.hi with lostNow := s.hi.lostNow + 1, evtLost := s.hi.evtLost + 1 } }
  else drainEvt { s with hi := { s.hi with backlog := s.hi.backlog ++ [g] } }

/-- The 32 bytes of an event, its STAMP inside the T0 in progress left free (log 9). -/
def eventBytes (type car : Nat) (stamp t0 : BitVec 32) (data : List Byte) : List Byte :=
  leBytes 2 type ++ leBytes 1 car ++ [0] ++ leBytes 4 0 ++ leBytes 4 stamp.toNat ++ leBytes 4 t0.toNat ++ pad 16 data

/-- Raise one event (R473). `car` is 0xFF where no car is meant. -/
def event (s : State) (type car : Nat) (data : List Byte) : State :=
  let (v, s) := s.take
  putEvent s [eventBytes type car (s.stamp + BitVec.ofNat 32 (v.toNat % 250)) s.tick.t0 data]

/-- An event with a kind byte, a second byte and a signed value at D4 (types 8, 9 and 11). -/
def event4 (s : State) (type car : Nat) (d0 d1 d2 : Nat) (v : Int) : State :=
  s.event type car ([BitVec.ofNat 8 d0, BitVec.ofNat 8 d1, BitVec.ofNat 8 d2, 0] ++ leBytes 4 (w32 v).toNat)

/-- POSITION event (R473). -/
def positionEvent (s : State) (c : Fin 16) (kind : Nat) (v : Int) : State :=
  s.event 8 c.val ([BitVec.ofNat 8 kind, 0, 0, 0] ++ leBytes 4 (w32 v).toNat)

/-- TEL records that wait for a tag are written as tags come free (01 R44). -/
def drainTelGo : Nat → Hi → Hi
  | 0, h => h
  | k + 1, h =>
    match h.telHeld with
    | [] => h
    | e :: es => if tagFree h .tel then drainTelGo k (useTag { h with telHeld := es, rings := h.rings.upd 3 (ringPut · e) } .tel) else h

/-- The waiting TEL records written. -/
def drainTel (s : State) : State := if s.ringsRun then { s with hi := drainTelGo s.hi.telHeld.length s.hi } else s

/-- A TEL record (R475): its SEQ counts dropped records too. The caller gives TYPE, CAR and bytes 16 to 255. -/
def putTel (s : State) (type car : Nat) (t1 : BitVec 32) (stamp : BitVec 32) (body : List Byte) : State :=
  if !s.ringsRun then s
  else
    let e := leBytes 1 type ++ leBytes 1 car ++ [1, 0] ++ leBytes 4 s.hi.telSeq.toNat ++ leBytes 4 t1.toNat ++
      leBytes 4 stamp.toNat ++ pad 240 body
    let h : Hi := { s.hi with telSeq := s.hi.telSeq + 1 }
    if ringRoom (h.rings.get 3) ≤ h.telHeld.length then { s with hi := { h with telDrop := h.telDrop + 1 } }
    else { s with hi := drainTelGo (h.telHeld.length + 1) { h with telHeld := h.telHeld ++ [e] } }

/-- LOG entries held in DRAM, written as space appears (R479). -/
def drainLogGo : Nat → Hi → Hi
  | 0, h => h
  | k + 1, h =>
    match h.logHeld with
    | [] => h
    | e :: es =>
      if ringRoom (h.rings.get 4) = 0 || !tagFree h .evtLog then h
      else drainLogGo k (useTag { h with logHeld := es, rings := h.rings.upd 4 (ringPut · e) } .evtLog)

/-- The held LOG entries written as space appears (R479). -/
def drainLog (s : State) : State :=
  if s.ringsRun then { s with hi := drainLogGo s.hi.logHeld.length s.hi } else s

/-- A LOG entry recorded (R479): beyond 4,096 held entries it is not delivered. -/
def putLog (s : State) (msg : List Byte) (first : Bool) : State :=
  let seq := s.hi.logSeq + 1
  let (v, s) := s.take
  let tb := s.tick.tb.toNat + v.toNat % 25000
  let e := msg ++ leBytes 4 seq.toNat ++ leBytes 4 tb ++ pad 8 [if first then 1 else 0]
  let h : Hi := { s.hi with logSeq := seq }
  if 4096 ≤ h.logHeld.length then { s with hi := h }
  else drainLog { s with hi := { h with logHeld := h.logHeld ++ [e] } }

/-- Completions waiting for room are written (R464). -/
def drainCplGo : Nat → Hi → Hi
  | 0, h => h
  | k + 1, h =>
    match h.cplWait with
    | [] => h
    | c :: cs =>
      if (h.cplTail + 1) % 16 = h.cplHead then h
      else drainCplGo k { h with cplWait := cs, cpl := h.cpl.put (Fin.ofNat 16 h.cplTail) c, cplTail := (h.cplTail + 1) % 16 }

/-- Write a completion (R464); with the rings stopped it is discarded (R457, R484). -/
def complete (s : State) (c : Cpl) : State :=
  if s.hi.en then
    let h : Hi := { s.hi with cplWait := s.hi.cplWait ++ [c] }
    { s with hi := drainCplGo h.cplWait.length h }
  else s

/-- STATUS codes of a completion (R464). -/
inductive CplStatus where
  | done | registered | entered | refused | failed | aborted | cancelled
  deriving DecidableEq, Repr

/-- The byte of a STATUS. -/
def CplStatus.code : CplStatus → Byte
  | .done => 0 | .registered => 1 | .entered => 2 | .refused => 3 | .failed => 4 | .aborted => 5 | .cancelled => 6

/-- The completion of a CMD entry. -/
def cplOf (e : CmdEntry) (st : CplStatus) (code : Nat) (result : BitVec 32) : Cpl :=
  { ring := 0, op := e.opcode, status := st.code, code := BitVec.ofNat 8 code, tag := e.tag, result := result }

/-- Complete a command that has not become a running one. -/
def answer (s : State) (e : CmdEntry) (st : CplStatus) (code : Nat) (result : BitVec 32 := 0) : State :=
  s.complete (cplOf e st code result)

/-- A command goes on in execution. -/
def startRunning (s : State) (e : CmdEntry) : State :=
  { s with hi := { s.hi with running := s.hi.running ++ [⟨e, false⟩] } }

/-- Remove the first running command with an entry. -/
def dropRunning (e : CmdEntry) : List Running → List Running
  | [] => []
  | r :: rs => if r.e = e then rs else r :: dropRunning e rs

/-- A running command ends; a silent one leaves no completion (R457). -/
def finish (s : State) (e : CmdEntry) (st : CplStatus) (code : Nat) (result : BitVec 32 := 0) : State :=
  match s.hi.running.find? (·.e = e) with
  | none => s
  | some r =>
    let s := { s with hi := { s.hi with running := dropRunning e s.hi.running } }
    if r.silent then s else s.answer e st code result

/-- The running command of an opcode for a car, if there is one. -/
def runningOf (s : State) (op : Byte) (car : Nat) : Option CmdEntry :=
  (s.hi.running.find? fun r => r.e.opcode = op && r.e.car.toNat = car).map (·.e)

/-- End the running command of an opcode for a car. -/
def finishOp (s : State) (op : Byte) (car : Nat) (st : CplStatus) (code : Nat) (result : BitVec 32 := 0) : State :=
  match s.runningOf op car with
  | some e => s.finish e st code result
  | none => s

/-- Commands in execution (R45): started or fetched and waiting to start. -/
def inExec (s : State) : Nat := s.hi.waiting.length + s.hi.running.length

/-- PERST#, link down, hot reset, or EN cleared (R457): the rings stop; running commands go on in silence, a fetched one
that has not started is lost. -/
def stopRings (s : State) : State :=
  { s with hi := { s.hi with en := false, waiting := [], calls := [], cplWait := [], tags := Tab.all 0, telHeld := [],
                             running := s.hi.running.map fun r => { r with silent := true } } }

/-- An EVT entry carries a class F fault message (R473). -/
def evtFatal (e : List Byte) : Bool := fld e 0 2 = 2 && fld e 16 4 / 2 ^ 18 % 4 = 3

/-- The registers of the HI block at reset (R457, R484), the module's own books kept. HATN stays asserted for a class F fault that no
host has read (R482). -/
def resetHi (s : State) : State :=
  let fatal := s.hi.fHeld || (s.hi.rings.get 2).data.any evtFatal
  let s := s.stopRings
  { s with hi := { s.hi with msixEn := false, crcEn := false, cfgErr := false, werr := false, dbErr := false, dbLost := false,
                             dmaErr := false, accErr := false, sb := 0, evtThresh := 0, irqMod := 0, rings := Tab.all Ring.zero,
                             cplVec := 0, cplIrq := false, cplHead := 0, cplTail := 0, vecs := Tab.all Vec.zero,
                             evtLost := 0, telDrop := 0, capDrop := 0, dbIgn := 0, hatn := s.hi.hatn && fatal } }

/-! Proposals (02 R80, R81). -/

/-- A proposal is produced: the 65th discards the oldest. Its CRC is computed by CV12 with fold value PROP_ID. -/
def addProposal (s : State) (kind car side count : Nat) (payload : List Byte) : State :=
  let id := s.img.nextProp + 1
  let head := [0x4B, 0x56, 0x58, 0x50] ++ leBytes 1 kind ++ leBytes 1 car ++ leBytes 1 side ++ leBytes 1 count ++
    leBytes 4 (s.model.elim 0 (·.seq.toNat)) ++ leBytes 4 s.tick.t2.toNat ++ leBytes 4 id.toNat ++ leBytes 4 payload.length
  let crc := cv id (head ++ payload)
  let p : Proposal :=
    { id := id, kind := BitVec.ofNat 8 kind, side := BitVec.ofNat 8 side, count := BitVec.ofNat 8 count,
      bytes := head ++ leBytes 4 crc.toNat ++ leBytes 4 0 ++ payload }
  let full := 64 ≤ s.img.props.length
  let s := s.updImg fun i =>
    { i with props := (if full then i.props.drop 1 else i.props) ++ [p], propLost := if full then i.propLost + 1 else i.propLost,
             nextProp := id }
  let s := s.updCv 12 fun c => { c with poly := 0, count := c.count + 1 }
  s.event 4 car ([BitVec.ofNat 8 kind, BitVec.ofNat 8 side, BitVec.ofNat 8 count, 0] ++ leBytes 4 id.toNat ++
    leBytes 4 payload.length ++ leBytes 4 s.img.propLost.toNat)

/-! Fault reports (16). -/

/-- Sources that exist (R524, R409, R443, R519). -/
def sourceExists (n : Nat) : Bool :=
  n < 0x30 || (0x40 ≤ n && n < 0x4C) || (0x60 ≤ n && n < 0x6C) || (0x70 ≤ n && n < 0x78) || (0x80 ≤ n && n ≤ 0x82) ||
  (0x90 ≤ n && n < 0xA4) || (0xB0 ≤ n && n < 0xB8) || (0xC0 ≤ n && n ≤ 0xC2) || (0xD0 ≤ n && n ≤ 0xF2)

/-- R527's first row: sources whose U and F messages reach the levee. -/
def nmiSource (n : Nat) : Bool :=
  n < 0x30 || (0x40 ≤ n && n < 0x4C) || n = 0xB3 || n = 0xB5 || n = 0xB7 || n = 0xC0 || n = 0xF1

/-- R527's second row: sources whose blocks are reset. -/
def brstSource (n : Nat) : Bool := (0x90 ≤ n && n < 0xA0) || n = 0xA0

/-- The minimum FC_SLUICE word of a source (R527, R549); reaction bits INT 1, NMI 2, BRST 4, CRST 8, EPIN 16. -/
def sluiceMin (n : Nat) : BitVec 32 :=
  if !sourceExists n then 0
  else
    let u := if nmiSource n then 3 else if brstSource n then 5 else 1
    BitVec.ofNat 32 (u * 2 ^ 8 + (u + 16) * 2 ^ 16)

/-- The FC_SLUICE word in force of a source. -/
def sluiceWord (fc : Fc) (n : Nat) : BitVec 32 := ((fc.sluice.find? (·.1 = n)).map (·.2)).getD (sluiceMin n)

/-- The reactions of a class from a source (R525). -/
def reactionOf (fc : Fc) (src : Nat) (cls : BitVec 2) : BitVec 5 :=
  let w := (sluiceWord fc src).toNat
  if cls = 1 then BitVec.ofNat 5 w
  else if cls = 2 then BitVec.ofNat 5 (w / 2 ^ 8)
  else if cls = 3 then BitVec.ofNat 5 (w / 2 ^ 16)
  else 0

/-- A unit from an index, where the index is one of the type. -/
def unitAt (n : Nat) (x : Nat) (f : Fin n → TestUnit) : Option TestUnit := if h : x < n then some (f ⟨x, h⟩) else none

/-- The unit a message names (R523, R535). -/
def unitOf (m : FaultMsg) : Option TestUnit :=
  let src := m.source.toNat
  let k := m.kind.toNat
  let ctx := m.context.toNat
  if src < 0x30 then unitAt 48 src .port
  else if 0x40 ≤ src ∧ src < 0x4C then unitAt 96 ctx .channel
  else if 0x60 ≤ src ∧ src < 0x6C then unitAt 12 (src - 0x60) .bus
  else if 0x72 ≤ src ∧ src < 0x76 ∧ k = 3 then unitAt 4 (src - 0x72) .carCore
  else if 0x76 ≤ src ∧ src < 0x78 ∧ (k = 1 ∨ k = 2) then unitAt 2 (src - 0x76) .levee
  else if (src = 0x81 ∨ src = 0x82) ∧ k = 1 then unitAt 48 ctx .lane
  else if 0x90 ≤ src ∧ src < 0xA0 then unitAt 16 (src - 0x90) .cv
  else if src = 0xB5 ∧ k = 2 then unitAt 6 ctx .supply
  else if src = 0xC0 ∧ (k = 1 ∨ k = 2) then some (.sramPage (ctx / 4096))
  else if src = 0xC1 then some (.dramPage (ctx / 65536))
  else if 0xD0 ≤ src ∧ src < 0xE0 ∧ k = 0x0B then unitAt 16 (src - 0xD0) .resetInput
  else none

/-- The fault message's four words as bytes (R522). -/
def msgBytes (r : FaultRec) : List Byte :=
  leBytes 8 (r.msg.source.toNat + r.msg.kind.toNat * 2 ^ 10 + r.msg.cls.toNat * 2 ^ 18 + r.reaction.toNat * 2 ^ 20 +
    r.msg.detail.toNat * 2 ^ 25) ++ leBytes 4 r.msg.context.toNat ++ leBytes 4 r.msg.t0.toNat

/-- Class C messages of a source in the T1 in progress (R533). -/
def countOf (l : List (BitVec 10 × Nat)) (src : BitVec 10) : Nat := ((l.find? (·.1 = src)).map (·.2)).getD 0

/-- One more class C message of a source. -/
def bumpCount (l : List (BitVec 10 × Nat)) (src : BitVec 10) : List (BitVec 10 × Nat) :=
  (src, countOf l src + 1) :: l.filter (·.1 ≠ src)

/-- The FAULT event of a message (14 R473): its car for the sources of one. -/
def faultEvent (s : State) (r : FaultRec) : State :=
  let n := r.msg.source.toNat
  s.event 2 (if 0xD0 ≤ n ∧ n < 0xF0 then n % 16 else 0xFF) (msgBytes r)

/-- A unit is retired (R538): its bit, the write to flash, and the FAULT event with the unit's own source and kind and DETAIL
bit 38. What the retirement does to the group is its caller's. -/
def markRetired (s : State) (u : TestUnit) (src : BitVec 10) (kind : Byte) (cls : BitVec 2) (ctx : BitVec 32) : State :=
  if s.isRetired u then s
  else
    let m : FaultMsg := { source := src, kind := kind, cls := cls, detail := 0x4000000000, context := ctx, t0 := s.tick.t0 }
    (s.updFc fun f =>
      { f with retired := f.retired ++ [u], retiredCnt := f.retiredCnt + 1, flashDue := true,
               tests := f.tests.filter (·.unit ≠ u) }).faultEvent ⟨m, reactionOf s.fc src.toNat cls⟩

/-- BRST on arrival (R525): a check-value channel or the host interface goes back to its state after enable. -/
def brst (s : State) (src : Nat) : State :=
  if src = 0xA0 then s.resetHi
  else if src < 0x90 then s
  else match unitAt 16 (src - 0x90) .cv with
    | some (.cv n) => s.updCv n fun c => { c with poly := 0 }
    | _ => s

/-! Starting again (17 R559). -/

/-- The levee's flash record: the brake-test torque (10 R343, 17 R554). -/
def keptLevee (s : State) : Tab 16 Lv := s.lv.map fun l => { Lv.zero with bt := { BrakeTest.zero with torq := l.bt.torq } }

/-- The module without power (17 R553): what flash and the one-time-programmable counter hold is left (01 R39, 17 R554). -/
def powerLost (s : State) : State :=
  { State.reset with
    fc := { Fc.zero with retired := s.fc.flashMap, hist := s.fc.flashHist, flashMap := s.fc.flashMap, flashHist := s.fc.flashHist,
                         powered := s.fc.powered, plog := s.fc.plog, plogNext := s.fc.plogNext, boots := s.fc.boots },
    img := { Img.zero with key := s.img.key, group := s.img.group, slots := s.img.slots },
    pwr := { Pwr.zero with slots := s.pwr.slots, preferred := s.pwr.preferred, minSec := s.pwr.minSec, nrstin := s.pwr.nrstin },
    tw := { Tw.zero with wit := { Wit.zero with bound := s.tw.wit.bound }, epochE := s.tw.wit.bound },
    lv := s.keptLevee, freeCtr := s.freeCtr, pending := s.pending }

/-- PD1 to PD7 reset, into BOOT at step 4 (17 R559): PD0 runs on with the timebase, the seal reader, the supervisor, the retirement
map and the fault counters; the record of the first fault, nERR and the sluice start anew with each BOOT (16 R528, R530, R532). -/
def reboot (s : State) : State :=
  let p := s.pwr
  { s.powerLost with
    mod := .boot, tick := s.tick,
    fc := { Fc.zero with retired := s.fc.retired, hist := s.fc.hist, flashMap := s.fc.flashMap, flashHist := s.fc.flashHist,
                         flashDue := s.fc.flashDue, powered := s.fc.powered, plog := s.fc.plog, plogNext := s.fc.plogNext,
                         boots := s.fc.boots + 1, cntC := s.fc.cntC, cntU := s.fc.cntU, cntF := s.fc.cntF,
                         suppressed := s.fc.suppressed, transient := s.fc.transient, retiredCnt := s.fc.retiredCnt },
    seals := { s.seals with resvOn := s.seals.pwrup.toNat / 16 ≠ 0 },
    pwr := { p with domOn := 0x01, domOk := p.domOk &&& 0x01, domLock := 0, recovery := false, fallback := false, lastOn := 0, tripped := false,
                    boot := { Boot.zero with step := if s.seals.fixed then 4 else 3 }, recWin := [], recImg := [], update := none } }

/-- The message tells that the firmware's start-up self-test failed or that it trapped (R526). -/
def failsSlot (s : State) (m : FaultMsg) : Bool :=
  let n := m.source.toNat
  5 ≤ s.pwr.boot.step && ((0x70 ≤ n && n < 0x78 && m.kind = 4) || (s.pwr.boot.step = 6 && ((0x70 ≤ n && n < 0x78) || (0x90 ≤ n && n < 0xA0) || n = 0xC0)))

/-- A class F fault in BOOT (R526): it fails the slot in use, or halts start-up. -/
def haltBoot (s : State) (m : FaultMsg) : State :=
  if s.failsSlot m then { s with pwr := { s.pwr with boot := { s.pwr.boot with failed := true } } }
  else { s with pwr := { s.pwr with boot := { s.pwr.boot with halted := true, hot := m.source = 0xF2 && m.kind = 3 } }, hi := { s.hi with hrdy := false } }

/-- What acts on a message's arrival (R531): BRST, EPIN and, for class F, entry to SAFE-HOLD at the next boundary or, in
BOOT, the halt of start-up. A class F fault asserts HATN even without an EVT ring (R482). -/
def onArrival (s : State) (m : FaultMsg) : State :=
  let r := reactionOf s.fc m.source.toNat m.cls
  let s := if r.getLsbD 2 then s.brst m.source.toNat else s
  let s := if r.getLsbD 4 then s.updFc fun f => { f with nerr := true } else s
  if m.cls = 3 then
    let s := s.updFc fun f => { f with arrived := f.arrived ++ [⟨m, r⟩], crst := f.crst || r.getLsbD 3 }
    let s := s.updHi fun h => { h with hatn := h.hatn || !h.en, fHeld := h.fHeld || !h.en }
    if s.mod = .boot then s.haltBoot m else s
  else s

/-- The firmware slot in use fails a start-up self-test (17 R563): a TRIAL slot is FAILED, and the ROM goes back to step 4 to try
the other slot once. It is the same BOOT, so the collector goes on. -/
def failSlot (s : State) : State :=
  let p := s.pwr
  let t := s.reboot
  { t with
    fc := s.fc,
    pwr := { t.pwr with slots := p.slots.upd p.running fun x => if x.state = 2 then { x with state := 3 } else x,
                        boot := { Boot.zero with step := 4, first := p.boot.first, tried := p.boot.tried } } }

/-- A slot that a message has failed is left: at the report itself, else at the next T0 boundary. -/
def settleBoot (s : State) : State := if s.mod = .boot && s.pwr.boot.failed then s.failSlot else s

/-- The batch has no room for a class C message: 256 messages, less the room kept for one message of class U or F from every source that
has none in it yet (R533). -/
def batchFull (b : List FaultMsg) : Bool :=
  let kept := (List.range 256).filter fun n => sourceExists n && !(b.any fun m => m.source.toNat = n && m.cls ≠ 1)
  256 ≤ b.length + kept.length

/-- A unit that sends no messages: one that is retired (R533), a port of a parked group (17 R569). -/
def silenced (s : State) (u : TestUnit) : Bool :=
  s.isRetired u || (match u with | .port n => s.pwr.parked.getLsbD (n.val / 8) | _ => false)

/-- A fault message reaches the collector (R531, R533). -/
def report (s : State) (m : FaultMsg) : State :=
  if s.mod = .off || m.cls = 0 then s
  else if (unitOf m).any s.silenced then s
  else if m.cls = 1 && (8 ≤ countOf s.fc.countC m.source || batchFull s.fc.batch) then
    s.updFc fun f => { f with suppressed := f.suppressed + 1, countC := bumpCount f.countC m.source }
  else
    (s.updFc fun f => { f with batch := f.batch ++ [m],
                               countC := if m.cls = 1 then bumpCount f.countC m.source else f.countC }).onArrival m

/-- A message the module itself raises, stamped with the T0 in progress. -/
def raise (s : State) (src kind cls : Nat) (ctx : BitVec 32) (detail : Nat) : State :=
  s.report { source := BitVec.ofNat 10 src, kind := BitVec.ofNat 8 kind, cls := BitVec.ofNat 2 cls,
             detail := BitVec.ofNat 39 detail, context := ctx, t0 := s.tick.t0 }

/-- A message stamped with the T0 before the one in progress: a condition the latch shows now (R522, R93). -/
def raisePrev (s : State) (src kind cls : Nat) (ctx : BitVec 32) (detail : Nat) : State :=
  s.report { source := BitVec.ofNat 10 src, kind := BitVec.ofNat 8 kind, cls := BitVec.ofNat 2 cls,
             detail := BitVec.ofNat 39 detail, context := ctx, t0 := s.tick.t0 - 1 }

/-- A finding of a car, class U (R524). -/
def finding (s : State) (c : Fin 16) (kind : Nat) (ctx : BitVec 32) (detail : Nat) : State :=
  s.raise (0xD0 + c.val) kind 2 ctx detail

/-! Transmit lists (13). -/

/-- Arbitration order (R432): the 11-bit part first, an 11-bit identifier before a 29-bit one with the same part. -/
def txKey (f : TxFrame) : Nat :=
  if f.ext then f.ident.toNat / 2 ^ 18 * 2 ^ 19 + 2 ^ 18 + f.ident.toNat % 2 ^ 18 else f.ident.toNat * 2 ^ 19

/-- Class of an identifier (R452, R453). -/
def txClass (f : TxFrame) : Nat := if f.ext then f.ident.toNat / 2 ^ 26 else f.ident.toNat / 2 ^ 8 % 8

/-- The list's frames in arbitration order, the earlier first among equals. -/
def txSorted (l : List TxFrame) : List TxFrame := sortBy (fun a b => txKey a ≤ txKey b) l

/-- Give the buffers to the frames at the given places: a frame that holds one keeps it. -/
def fillBufs (chosen : List Nat) : List Nat → List (Nat × TxFrame) → List (Nat × TxFrame)
  | _, [] => []
  | free, (i, f) :: rest =>
    if !chosen.contains i then (i, { f with buf := none }) :: fillBufs chosen free rest
    else if f.buf.isSome then (i, f) :: fillBufs chosen free rest
    else match free with
      | [] => (i, f) :: fillBufs chosen [] rest
      | b :: bs => (i, { f with buf := some (Fin.ofNat 3 b) }) :: fillBufs chosen bs rest

/-- The three buffers hold the three frames of lowest identifier (R432). -/
def rebuffer (l : List TxFrame) : List TxFrame :=
  let ix := (List.range l.length).zip l
  let chosen := ((sortBy (fun a b => txKey a.2 ≤ txKey b.2) ix).take 3).map (·.1)
  let kept := ix.filterMap fun p => if chosen.contains p.1 then p.2.buf.map (·.val) else none
  (fillBufs chosen ([0, 1, 2].filter (!kept.contains ·)) ix).map (·.2)

/-- Remove the last frame that satisfies a test. -/
def dropLast1 (p : TxFrame → Bool) (l : List TxFrame) : List TxFrame :=
  match (l.reverse.findIdx? p) with
  | some j => l.eraseIdx (l.length - 1 - j)
  | none => l

/-- Capacity of a channel's transmit list (R432). -/
def txCap (n : Fin 12) : Nat := if n.val < 4 then 64 else 256

/-- The channel can send: it is in a run state of a module that sends, or, in STANDBY, the frame is a class 1 frame on K0 or
K1 (R448). -/
def txLive (b : Bus) : Bool := b.state = .active || b.state = .passive || b.state = .recover || b.state = .busoff || b.state = .test

/-- Queue one frame on a channel (R432 to R434): a channel that cannot take it discards it into TXDROP (R429, R449). -/
def queueOn (b : Bus) (n : Fin 12) (txq : Bool) (f : TxFrame) (listenOk : Bool) : Bus :=
  if !(txLive b || (b.state = .listen && listenOk)) then { b with txDrop := b.txDrop + 1 }
  else
    let old := b.tx.findIdx? fun g => g.cyclic && g.ext = f.ext && g.ident = f.ident && g.dest = f.dest
    let b := if f.cyclic then
        match old with
        | some j => { b with tx := b.tx.eraseIdx j, replaced := b.replaced + 1 }
        | none => b
      else b
    let b := if txCap n ≤ b.tx.length then
        if 5 ≤ txClass f then { b with txDrop := b.txDrop + 1 }
        else
          let top := b.tx.foldl (fun m g => max m (txKey g)) 0
          { b with tx := dropLast1 (fun g => txKey g = top) b.tx ++ [f], txDrop := b.txDrop + 1 }
      else { b with tx := b.tx ++ [f] }
    if txq then b else { b with tx := rebuffer b.tx }

/-- CMD_TAGs of the host raw frames of a list. -/
def rawTags (l : List TxFrame) : List (BitVec 32) := l.filterMap (·.raw)

/-- Raw frames that left a list unsent end their command ABORTED, its CODE left free (R468, log 9). -/
def abortRaw (s : State) (before after : List TxFrame) : State :=
  s.each ((rawTags before).filter (!(rawTags after).contains ·)) fun s tag =>
    match s.hi.running.find? fun r => r.e.opcode = 0x40 && r.e.tag = tag with
    | none => s
    | some r => let (v, s) := s.take; s.finish r.e .aborted (v.toNat % 256)

/-- After R512 a module sends nothing but LEASE_REL (15). -/
def mutes (s : State) (f : TxFrame) : Bool := s.tw.muted && !(!f.ext && f.ident.toNat / 256 = 1 && byteAt f.data 0 = 0x32)

/-- Queue one frame on a channel. -/
def queue (s : State) (n : Fin 12) (f : TxFrame) : State :=
  if s.mutes f then s
  else
  let txq := s.model.elim false fun m => (m.buses.get n).txq
  let t := s.updBus n fun b => queueOn b n txq f ((s.mod = .standby || s.mod = .boot || s.mod = .config) && n.val < 2 && txClass f = 1)
  t.abortRaw ((s.buses.get n).tx ++ [f]) (t.buses.get n).tx

/-- Every listed frame of a channel is discarded (R426, R449). -/
def dropTx (s : State) (n : Fin 12) (count : Bool) : State :=
  let old := (s.buses.get n).tx
  let s := s.updBus n fun b =>
    { b with tx := [], txDrop := if count then b.txDrop + BitVec.ofNat 8 old.length else b.txDrop }
  s.abortRaw old []

/-- A power domain is on (17 R575). -/
def pd (s : State) (d : Nat) : Bool := s.pwr.domOn.getLsbD d

/-- The host reaches BAR0 and BAR2: PD1 on, not in recovery mode, not in D3hot (17 R565, R455). -/
def hostUp (s : State) : Bool := s.mod ≠ .off && s.pd 1 && !s.pwr.recovery && !s.hi.d3

/-- The car core asks the levee for SF1 (10 R323). -/
def askSf1 (s : State) (c : Fin 16) : State := s.updLv c fun l => { l with req := { l.req with sf1 := true } }

/-- A service hold of car `c` (09), naming the finding it follows; LV_STAT.HOLD shows those of a levee cause, 0xF1 stands for a
retirement. -/
def serviceHold (s : State) (c : Fin 16) (cause : Nat) : State :=
  (s.updMode c fun m => { m with hold := true }).updLv c fun l =>
    if cause = 0xF1 then (if l.hold then l else { l with holdCause := 0xF1 }) else { l with hold := true, holdCause := if l.holdCause = 0x0A then 0x0A else BitVec.ofNat 8 cause }

/-- One more drop of a unit at a tick level, SPILL_CNT (01 R34, R35). -/
def countSpill (s : State) (u : Fin 12) (l : Fin 3) : State :=
  { s with spill := { s.spill with cnt := s.spill.cnt.upd u fun r => r.upd l (· + 1) } }

/-- A lease is valid (15 R504). -/
def leased (s : State) : Bool := s.tw.wLease ≠ 0 || s.tw.pLease ≠ 0

/-- The claim gate is open, or the role is standalone (R105, R339). -/
def gateOpen (s : State) : Bool := s.tw.gate || s.seals.role = 3
/-- An 11-bit CAN FD frame with BRS of the module (R452). -/
def canFrame (ident : Nat) (data : List Byte) (cyclic : Bool) (dest : Nat) : TxFrame :=
  { ext := false, fd := true, brs := true, ident := BitVec.ofNat 29 ident, data := data, cyclic := cyclic, dest := dest,
    buf := none, raw := none, answer := none }

/-- A 29-bit frame on a fixture bus (R453). -/
def fixFrame (brs : Bool) (ident : Nat) (data : List Byte) (cyclic : Bool) (dest : Nat) : TxFrame :=
  { ext := true, fd := true, brs := brs, ident := BitVec.ofNat 29 ident, data := data, cyclic := cyclic, dest := dest,
    buf := none, raw := none, answer := none }

/-- Identifier of a class, car and node address (R452). -/
def privId (cls car addr : Nat) : Nat := cls * 256 + car * 16 + addr

/-! Check values (16). -/

/-- A channel computes a value that agrees or not with a received one (R544, R551): it counts the result and a difference. A result that
a mismatch has spoilt is not delivered (R546). -/
def useCv (s : State) (n : Fin 16) (ok : Bool) : State :=
  if s.isRetired (.cv n) then s
  else s.updCv n fun c =>
    if c.bad then { c with poly := 0, bad := false }
    else { c with poly := 0, count := c.count + 1, fail := if ok then c.fail else c.fail + 1 }

/-- A mismatch spoils the next result of a channel in service (R546). -/
def cvSpoilt (s : State) (n : Fin 16) : Bool := (s.cvs.get n).bad && !s.isRetired (.cv n)

/-- A channel that can deliver its next result (R539, R546). Under test, a request waits at most 1 T0 and is then computed (R547). -/
def cvUsable (s : State) (n : Fin 16) : Bool := !s.isRetired (.cv n) && !(s.cvs.get n).bad

end State

end Sys2Proof.Machine
end

