-- ==== Sys2Proof/Machine/Ports.lean ====
section
/-! DEFINITION. The position ports and encoder supplies (03): edges, index and compare events, SSI frames, the latch of each T0
and the commit of the RWC fields. -/

namespace Sys2Proof.Machine

/-- The estimator's `on_edge` (R108). -/
def Est.onEdge (e : Est) (t : BitVec 32) (d : Int) : Est :=
  if !e.moving || d ≠ e.dir then { e with moving := true, dir := d, speed := 0, anchorT := t, n := 0, edgeT := t }
  else { e with n := e.n + 1, lastT := t, edgeT := t }

/-- The least of a magnitude and the bound of R108, which is absent at distance 0. -/
def Est.bounded (mag : Int) (since : Nat) : Int := if since = 0 then mag else min mag (tdiv 1600000000 since)

/-- The estimator's `on_latch` (R108), `tstop` in 10 ns. -/
def Est.onLatch (e : Est) (now : BitVec 32) (tstop : Nat) : Est :=
  if !e.moving then e
  else
    let since := (now - e.edgeT).toNat
    if tstop ≤ since then { e with moving := false, speed := 0, n := 0 }
    else
      let mag : Int := if 0 < e.n then tdiv (e.n * 1600000000) (e.lastT - e.anchorT).toNat else e.speed.natAbs
      let e := { e with speed := e.dir * Est.bounded mag since }
      if 0 < e.n then { e with anchorT := e.lastT, n := 0 } else e

/-- TSTOP in 10 ns. -/
def Port.tstop10 (p : Port) : Nat := p.cfg.tstop.toNat * 100000

/-- An incremental mode (R84). -/
def Port.incremental (p : Port) : Bool := p.cfg.mode.val = 1 || p.cfg.mode.val = 2 || p.cfg.mode.val = 3

/-- A count lies in the index window (R95). -/
def inIdxWin (r : PortRwc) (count : BitVec 32) : Bool := (diff32 count r.idxExp).natAbs ≤ r.idxWin.toNat

/-- A new level is accepted (R91): it has stood for FILT + 1 samples. -/
def Port.accepts (p : Port) (held : Nat) : Bool := p.cfg.filt.toNat < held

/-- What a mode makes of pairs 1 and 2, `a` before and `b` after the sample, INV applied (R85 to R87): bit 0 is pair 1. -/
def edgeOf (mode : Nat) (a b : BitVec 3) : Option EdgeKind :=
  let rise (i : Nat) := !a.getLsbD i && b.getLsbD i
  let change (i : Nat) := a.getLsbD i != b.getLsbD i
  match mode with
  | 1 => if !rise 0 then none else if change 1 then some .illegal else if b.getLsbD 1 then some .up else some .down
  | 2 => if rise 0 && rise 1 then some .illegal else if rise 0 then some .up else if rise 1 then some .down else none
  | 3 =>
    if change 0 && change 1 then some .illegal
    else if change 0 then (if b.getLsbD 0 != b.getLsbD 1 then some .up else some .down)
    else if change 1 then (if b.getLsbD 0 == b.getLsbD 1 then some .up else some .down)
    else none
  | _ => none

/-- The levels of the three pairs after a sample that gives pairs 1 and 2 the levels `lv`. -/
def Port.levels12 (p : Port) (lv : BitVec 2) : BitVec 3 := (p.level &&& 4) ||| lv.setWidth 3

/-- The levels of the three pairs after a sample that gives pair 3 the level `lv`. -/
def Port.level3 (p : Port) (lv : Bool) : BitVec 3 := (p.level &&& 3) ||| (if lv then 4 else 0)

/-- What the sample of a PORT_EDGE is to the port, INV applied (R85 to R87). -/
def Port.edgeKind (p : Port) (lv : BitVec 2) : Option EdgeKind :=
  edgeOf p.cfg.mode.val (p.level ^^^ p.cfg.inv) (p.levels12 lv ^^^ p.cfg.inv)

/-- The sample of an INDEX_EVENT is the edge of pair 3 that IDX_EDGE selects, INV applied (R94). -/
def Port.indexEdge (p : Port) (lv : Bool) : Bool :=
  (p.level ^^^ p.cfg.inv).getLsbD 2 == p.cfg.idxEdge && (p.level3 lv ^^^ p.cfg.inv).getLsbD 2 != p.cfg.idxEdge

/-- The window's missed result (R95): the count has entered the window and left it. -/
def Port.watchWindow (p : Port) : Port :=
  if !p.rwc.idxArm || !p.incremental then p
  else if inIdxWin p.rwc p.count then { p with entered := true }
  else if p.entered then
    { p with rwc := { p.rwc with idxArm := false }, entered := false, resNow := if p.resNow = 0 then 3 else p.resNow, missEdge := p.resNow = 0 }
  else p

/-- A compare hit (R98, R99). -/
def Port.compare (p : Port) (d : Int) (t : BitVec 32) : Port :=
  if p.rwc.cmpEn && p.count = p.rwc.cmp && sgn (s32 p.rwc.spacing) = d then
    let p := { p with evCmp := p.evCmp + 1, hitNow := true, rwc := { p.rwc with cmp := p.rwc.cmp + p.rwc.spacing } }
    if p.hits.length < 16 then { p with hits := p.hits ++ [(p.count, t)] }
    else { p with flags := { p.flags with cmpOvr := true } }
  else p

/-- One counting edge in direction `d` after DIR (R85 to R89). -/
def Port.countEdge (p : Port) (d : Int) (t : BitVec 32) : Port :=
  let wrap := if d = 1 then p.count = 0x7FFFFFFF else p.count = 0x80000000
  let p := { p with count := if d = 1 then p.count + 1 else p.count - 1, edgeTs := t, est := p.est.onEdge t d, missEdge := false,
                    flags := { p.flags with wrap := p.flags.wrap || wrap } }
  (p.compare d t).watchWindow

/-- The index event (R94 to R96). In the sample of the count edge that left the window it is captured outside: a result 2. -/
def Port.index (p : Port) (t : BitVec 32) : Port :=
  let p := { p with seenNow := true }
  if p.capNow then { p with flags := { p.flags with idxOvr := true } }
  else
    let p := { p with capNow := true, idxCap := p.count, idxTs := t,
                      resNow := if p.missEdge && p.edgeTs = t then 2 else p.resNow, missEdge := false }
    if p.rwc.idxArm then
      { p with rwc := { p.rwc with idxArm := false }, entered := false,
               resNow := if p.resNow ≠ 0 then p.resNow else if inIdxWin p.rwc p.count then 1 else 2 }
    else p

/-- The pairs a mode uses (R84): bit 0 for pair 1. -/
def Port.usedPairs (p : Port) : BitVec 3 :=
  if p.incremental then 7 else if p.cfg.mode = 4 then 3 else 0

/-- A pair whose data the port's count or value comes from is in line fault (R115): not the index pair, nor the clock the port drives. -/
def Port.dataFault (p : Port) : Bool := (p.linePair &&& p.usedPairs &&& (if p.cfg.mode = 4 && p.driving then 1 else 3)) ≠ 0

namespace State

/-- The supply group of a port (R111). -/
def portGroup (n : Fin 48) : Fin 6 := ⟨n.val / 8, by omega⟩

/-- The model calls for the group (R558): SUPPLY is 1 or 2. -/
def groupCalled (m : Model) (g : Fin 6) : Bool := (m.ports.get ⟨8 * g.val, by omega⟩).supply ≠ 0

/-- PP_STAT.SETTLE (R113): the group is called for and not yet fed and settled. -/
def settling (s : State) (n : Fin 48) : Bool :=
  (s.model.elim false fun m => groupCalled m (portGroup n)) &&
    (!(s.sup.groups.get (portGroup n)).on || (s.sup.groups.get (portGroup n)).settle ≠ 0)

/-- The port works on its lines: enabled, powered, neither retired nor under test (R116, R117, R120). -/
def portLive (s : State) (n : Fin 48) : Bool :=
  (s.ports.get n).en && s.pd 5 && !s.isRetired (.port n) && !s.underTest (.port n)

/-- The port delivers data (R113, R115 to R117). -/
def portData (s : State) (n : Fin 48) : Bool := s.portLive n && !s.settling n && !(s.ports.get n).dataFault

/-- An edge or an illegal transition of a port that counts (R85 to R88). -/
def countSample (s : State) (n : Fin 48) (kind : EdgeKind) (ts : BitVec 32) : State :=
  match kind with
  | .illegal =>
    (s.updPort n fun p => { p with flags := { p.flags with illegal := true }, evIllegal := p.evIllegal + 1 }).raise
      n.val 1 1 (s.ports.get n).latch.count 0
  | .up => s.updPort n fun p => p.countEdge (if p.cfg.dir then -1 else 1) ts
  | .down => s.updPort n fun p => p.countEdge (if p.cfg.dir then 1 else -1) ts

/-- PORT_EDGE. A level that does not stand long enough leaves no trace (R91); on a line fault of its pairs, and while it is not
live, the port follows the levels and counts nothing. -/
def portEdge (s : State) (n : Fin 48) (lv : BitVec 2) (held : Nat) (ts : BitVec 32) : State :=
  let p := s.ports.get n
  if !p.accepts held then s
  else
    let s := s.updPort n fun p => { p with level := p.levels12 lv }
    if !s.portLive n || !p.incremental || p.dataFault then s
    else match p.edgeKind lv with
      | none => s
      | some kind => s.countSample n kind ts

/-- INDEX_EVENT. -/
def indexEvent (s : State) (n : Fin 48) (lv : Bool) (held : Nat) (ts : BitVec 32) : State :=
  let p := s.ports.get n
  if !p.accepts held then s
  else
    let s := s.updPort n fun p => { p with level := p.level3 lv }
    if s.portLive n && p.incremental && !p.linePair.getLsbD 2 && p.indexEdge lv then s.updPort n (·.index ts) else s

end State

/-- Why a complete frame is discarded (R102), as the fault's detail; none when it is good. -/
def ssiFault (r : PortRwc) (fr : SsiBits) : Option Nat :=
  if !fr.idleHigh then some 1
  else if fr.endBit then some 2
  else if r.errEn && (fr.bits.getLsbD r.errPos.toNat != r.errLow) then some 3
  else none

/-- The position of a frame (R103). -/
def ssiValue (r : PortRwc) (raw : BitVec 32) : BitVec 32 :=
  let field := raw.toNat / 2 ^ r.posLsb.toNat % 2 ^ r.posBits.toNat
  BitVec.ofNat 32 (if r.gray then grayToBin r.posBits.toNat field else field)

namespace State

/-- SSI_FRAME (R101 to R103). -/
def ssiFrame (s : State) (n : Fin 48) (fr : SsiBits) : State :=
  let p := s.ports.get n
  if !s.portLive n || p.cfg.mode ≠ 4 || !p.ssiOpen || p.dataFault then s
  else
    let raw := BitVec.ofNat 32 (fr.bits.toNat % 2 ^ p.rwc.bits.toNat)
    match ssiFault p.rwc fr with
    | some d =>
      (s.updPort n fun p => { p with ssiOpen := false, flags := { p.flags with ssiErr := true } }).raise n.val 2 1 raw d
    | none => s.updPort n fun p => { p with ssiOpen := false, ssiRaw := raw, ssiNow := some (ssiValue p.rwc raw) }

/-- SSI_FRAME_LATE (R25, R102, R106). The raw bits of an unfinished frame are stated nowhere: a free value (log 9). -/
def ssiFrameLate (s : State) (n : Fin 48) (started : Bool) : State :=
  let p := s.ports.get n
  if !s.portLive n || p.cfg.mode ≠ 4 || !p.ssiOpen || p.dataFault then s
  else if !p.driving && !started then
    s.updPort n fun p => { p with ssiOpen := false, flags := { p.flags with noclk := true } }
  else
    let (v, s) := s.take
    let s := s.updPort n fun p => { p with ssiOpen := false, flags := { p.flags with ssiErr := true } }
    let s := { s with spill := { s.spill with cnt := s.spill.cnt.upd 11 fun r => r.upd 0 (· + 1) } }
    s.raise n.val 2 1 (v.setWidth 32) 4

/-- A group is parked (17 R569). -/
def parked (s : State) (g : Fin 6) : Bool := s.pwr.parked.getLsbD g.val

/-- PORT_LINE_FAULT (R115): a used pair goes into line fault or leaves it, which the port sees at any time. -/
def portLineFault (s : State) (n : Fin 48) (pair : Fin 3) (present : Bool) : State :=
  let p := s.ports.get n
  let mask := BitVec.ofNat 3 (2 ^ pair.val)
  if !present then s.updPort n fun p => { p with linePair := p.linePair &&& ~~~ mask }
  else if !s.portLive n || !p.usedPairs.getLsbD pair.val || s.parked (portGroup n) then s
  else
    if p.linePair.getLsbD pair.val then s
    else
      (s.updPort n fun p => { p with linePair := p.linePair ||| mask, flags := { p.flags with line := true } }).raise
        n.val 3 2 p.latch.count (p.linePair ||| mask).toNat

/-- PORT_STANDSTILL (R108, R109): at the coming latch no edge will have arrived for TSTOP. -/
def portStandstill (s : State) (n : Fin 48) : State :=
  let p := s.ports.get n
  let coming : BitVec 32 := (s.tick.tb + 25000).setWidth 32
  if p.incremental && p.est.moving && p.tstop10 ≤ (coming - p.est.edgeT).toNat then
    s.updPort n fun p => { p with est := { p.est with moving := false, speed := 0, n := 0 } }
  else s

/-! Supplies. -/

/-- A group switches off (R113, R114): never deferred. -/
def groupOff (s : State) (g : Fin 6) : State :=
  let s := s.updSup g fun u => { u with on := false, settle := 0 }
  { s with sup := { s.sup with queue := s.sup.queue.filter (· ≠ .group g) } }

/-- A member joins the supply chain once (R417). -/
def joinChain (s : State) (i : ChainItem) : State :=
  if s.sup.queue.contains i then s else { s with sup := { s.sup with queue := s.sup.queue ++ [i] } }

/-- SUPPLY_OVERCURRENT (R114). -/
def supplyOvercurrent (s : State) (g : Fin 6) : State :=
  if (s.sup.groups.get g).on then
    ((s.groupOff g).updSup g fun u => { u with oc := true, trip := true }).raise 0xB5 2 2 (BitVec.ofNat 32 g.val) 0
  else s

/-- SUPPLY_SETTLED (R113). -/
def supplySettled (s : State) (g : Fin 6) : State :=
  s.updSup g fun u => if u.on && u.settle = 1 then { u with settle := 0 } else u

/-- A chain member may start: its domain is on (R558), and a group is neither parked, tripped, retired nor set to off. -/
def chainReady (s : State) : ChainItem → Bool
  | .group g => s.pd 5 && !s.parked g && !(s.sup.groups.get g).trip && !s.isRetired (.supply g) && (s.sup.groups.get g).en &&
      (s.sup.groups.get g).sel ≠ 0
  | .trx _ => s.pd 6

/-- Place of a chain member in the order of R417. -/
def chainKey : ChainItem → Nat
  | .group g => g.val
  | .trx n => 6 + n.val

/-- SUPPLY_CHAIN_START (R417): at most one pending member per 32 T0. A fixture bus that starts leaves OFF or SLEEP at the
next T0 boundary (13 R447). -/
def supplyChainStart (s : State) : State :=
  if s.sup.wait ≠ 0 then s
  else match firstMin (fun a b => chainKey a < chainKey b) (s.sup.queue.filter s.chainReady) with
    | none => s
    | some i =>
      let s := { s with sup := { s.sup with queue := s.sup.queue.filter (· ≠ i), wait := 32 } }
      match i with
      | .group g => s.updSup g fun u => { u with on := true, settle := 81 }
      | .trx n => s.updBus n fun b => { b with trxOn := true, onWait := false, start := true, restate := b.restate || b.state == .sleep }

/-! The latch (R93). -/

/-- One port's latch and the start of its next T0 (R93 to R97, R101, R105, R106). -/
def latchPort (s : State) (n : Fin 48) : State :=
  let p := s.ports.get n
  let now : BitVec 32 := s.tick.tb.setWidth 32
  let live := s.portLive n
  let p := if live && p.incremental then { p with est := p.est.onLatch now p.tstop10 } else p
  let ssi := p.cfg.mode = 4
  let p := match p.ssiNow with
    | some v => if ssi && s.portData n then { p with count := v } else p
    | none => p
  let l : PortLatch :=
    { count := p.count, speed := if ssi || !live then 0 else p.est.speed, edgeTs := p.edgeTs,
      still := !ssi && !p.est.moving && p.en, moving := !ssi && p.est.moving, falling := !ssi && (p.est.dir == -1),
      ssiValid := ssi && s.portData n && p.ssiNow.isSome, idxSeen := p.seenNow, idxResult := p.resNow, cmpHit := p.hitNow,
      absent := !s.portData n }
  let drive := ssi && !p.cfg.listen && s.gateOpen && !s.underTest (.port n)
  s.updPort n fun _ =>
    { p with latch := l, prev := if p.latch.absent then none else some p.latch.count, seenNow := false, resNow := 0, missEdge := false, capNow := false, hitNow := false, hits := [], ssiNow := none,
             driving := drive, ssiOpen := ssi && live }

/-- The consistency of a pending commit (R100, R104). The SSI conditions bind a port in MODE 4 (log 18). -/
def portCommitOk (p : Port) (r : PortRwc) : Bool :=
  (!r.cmpEn || r.spacing ≠ 0) && (!r.idxArm || (r.idxWin ≠ 0 && p.incremental)) &&
  (p.cfg.mode ≠ 4 ||
    (8 ≤ r.bits.toNat && r.bits.toNat ≤ 32 && 10 ≤ r.rate.toNat && r.rate.toNat ≤ 200 && 8 ≤ r.posBits.toNat &&
     r.posLsb.toNat + r.posBits.toNat ≤ r.bits.toNat &&
     (!r.errEn || (r.errPos.toNat < r.bits.toNat && (r.errPos.toNat < r.posLsb.toNat || r.posLsb.toNat + r.posBits.toNat ≤ r.errPos.toNat))) &&
     (r.bits.toNat + 2) * 10000 + r.delay.toNat * r.rate.toNat ≤ 22000 * r.rate.toNat))

/-- PP_COMMIT (R95, R100, R582): the pending set is taken or rejected whole. -/
def commitPort (s : State) (n : Fin 48) : State :=
  s.updPort n fun p =>
    match p.commit with
    | none => p
    | some r =>
      if portCommitOk p r then
        { p with rwc := r, commit := none, entered := r.idxArm && inIdxWin r p.count }
      else { p with commit := none, flags := { p.flags with commitErr := true } }

/-- The RWC fields of a PORTS record (R118). -/
def rwcOf (r : PortRec) : PortRwc :=
  { idxArm := false, cmpEn := false, bits := BitVec.ofNat 6 r.ssiBits, gray := r.gray, errEn := r.errEn,
    posLsb := BitVec.ofNat 5 r.posLsb, errLow := r.errLow, errPos := BitVec.ofNat 5 r.errPos, rate := BitVec.ofNat 8 r.rate,
    posBits := BitVec.ofNat 5 r.posBits, delay := BitVec.ofNat 8 r.delay, idxExp := 0, idxWin := BitVec.ofNat 24 r.idxWin,
    cmp := 0, spacing := 0 }

/-- The car core copies a record into a port and enables it (R118, R120): EN goes through 0 for the RS fields, so an enabled port
starts from count 0 and STILL with its flags cleared; its event counters, captures and line faults stand. A record without a car
(CAR 0xFF) has no owning car core: the model loads and enables it all the same (DESIGN CHOICE, log 140). -/
def loadPort (s : State) (n : Fin 48) (r : PortRec) : State :=
  s.updPort n fun p =>
    let p := if r.mode ≠ 0 then { p with count := 0, est := Est.zero, flags := PortFlags.zero } else p
    let p := { p with
      en := r.mode ≠ 0, rwc := rwcOf r, shadow := rwcOf r, commit := none, entered := false, ssiNow := none, ssiOpen := false,
      driving := false,
      cfg := { mode := Fin.ofNat 8 r.mode, htl := r.htl, listen := r.listen, inv := r.inv, dir := r.dir, idxEdge := r.idxEdge,
               filt := BitVec.ofNat 8 r.filt, tstop := BitVec.ofNat 8 r.tstop } }
    { p with linePair := p.linePair &&& p.usedPairs }

/-- A group's SEL and EN from the model (R111, R118); it joins the chain when it is called for and off (R113, R558). -/
def loadGroup (s : State) (m : Model) (g : Fin 6) : State :=
  let sup := (m.ports.get ⟨8 * g.val, by omega⟩).supply
  let u := s.sup.groups.get g
  if sup = u.sel.val && (sup = 0 || u.on) then s
  else
    let s := (s.groupOff g).updSup g fun u => { u with sel := Fin.ofNat 4 sup, en := sup ≠ 0 }
    if sup ≠ 0 && !s.parked g then s.joinChain (.group g) else s

/-- The start of a port's targeted self-test (R116): count, flags and event counters are saved. What the pattern leaves in
PP_IDX_CAP, PP_IDX_TS, PP_CMP, IDX_ARM and PP_SSI_RAW the spec does not say: the model leaves them untouched (DESIGN CHOICE,
log 139). -/
def portTestStart (s : State) (n : Fin 48) : State :=
  s.updPort n fun p => { p with saved := some (p.count, p.flags, p.evCmp, p.evIllegal), ssiOpen := false, ssiNow := none, driving := false }

/-- Its end (R116): they are restored and the estimator restarts in STILL. -/
def portTestEnd (s : State) (n : Fin 48) : State :=
  s.updPort n fun p =>
    match p.saved with
    | none => p
    | some (c, f, a, b) => { p with count := c, flags := f, evCmp := a, evIllegal := b, saved := none, est := Est.zero }

/-- What every T0 makes of the supplies: the settling time and the chain's spacing run (R113, R417). -/
def tickSupplies (s : State) : State :=
  let s := s.each (idx 6) fun s g => s.updSup g fun u => if 1 < u.settle then { u with settle := u.settle - 1 } else u
  { s with sup := { s.sup with wait := s.sup.wait - 1 } }

/-- The measurements refreshed each T1 (R121): free values (log 9). -/
def measureSupplies (s : State) : State :=
  s.each (idx 6) fun s g =>
    let (v, s) := s.take
    s.updSup g fun u => if u.on then { u with current := v.setWidth 16, voltage := (v >>> 16).setWidth 16 } else { u with current := 0, voltage := 0 }

end State

/-- INDEX_EVENT, R95. -/
def execIndexEvent (n : Fin 48) (x : IndexLine) (s : State) : Out := .next (s.indexEvent n x.lv x.held x.ts)
/-- SSI_FRAME, R102. -/
def execSsiFrame (n : Fin 48) (fr : SsiBits) (s : State) : Out := .next (s.ssiFrame n fr)
/-- SSI_FRAME_LATE, R25. -/
def execSsiFrameLate (n : Fin 48) (started : Bool) (s : State) : Out := .next (s.ssiFrameLate n started)
/-- PORT_LINE_FAULT, R115. -/
def execPortLineFault (n : Fin 48) (pair : Fin 3) (present : Bool) (s : State) : Out := .next (s.portLineFault n pair present)
/-- PORT_STANDSTILL, R109. -/
def execPortStandstill (n : Fin 48) (s : State) : Out := .next (s.portStandstill n)
/-- SUPPLY_OVERCURRENT, R114. -/
def execSupplyOvercurrent (g : Fin 6) (s : State) : Out := .next (s.supplyOvercurrent g)
/-- SUPPLY_SETTLED, R113. -/
def execSupplySettled (g : Fin 6) (s : State) : Out := .next (s.supplySettled g)
/-- SUPPLY_CHAIN_START, R417. -/
def execSupplyChainStart (s : State) : Out := .next s.supplyChainStart

end Sys2Proof.Machine
end

