-- ==== Sys2Proof/Machine/Sources.lean ====
section
/-! DEFINITION. Reading a car's field inputs and node reports (04 R122, 10 R324, 12 R397, R398). -/

namespace Sys2Proof.Machine

/-- Role codes of R397. -/
def Role.dz : Nat := 0x01
/-- TS_UP. -/
def Role.tsUp : Nat := 0x02
/-- TS_DN. -/
def Role.tsDn : Nat := 0x03
/-- MC_A. -/
def Role.mcA : Nat := 0x40
/-- MC_B. -/
def Role.mcB : Nat := 0x41
/-- BRK1. -/
def Role.brk1 : Nat := 0x42
/-- BRK2. -/
def Role.brk2 : Nat := 0x43

namespace State

/-- The value a channel delivered at the last latch (R402). -/
def chActive (s : State) (i : Fin 96) : Bool := (s.pol.ch.get i).active

/-- A car's input of a role; inactive where it has none. -/
def carIn (s : State) (m : Model) (c : Fin 16) (role : Nat) : Bool := (m.polCh? c role).elim false s.chActive

/-- The channels of a role of a car, in index order. -/
def carChs (m : Model) (c : Fin 16) (role : Nat) : List (Fin 96) :=
  (idx 96).filter fun i => (m.polders.get i).role = role && (m.polders.get i).car = c.val

/-- The Group channel a car uses (R398): the one that names it, else the one with CAR 0xFF. -/
def groupCh? (m : Model) (c : Fin 16) (role : Nat) : Option (Fin 96) :=
  match m.polCh? c role with
  | some i => some i
  | none => (idx 96).find? fun i => (m.polders.get i).role = role && (m.polders.get i).car = 0xFF

/-- A car's group input. -/
def groupIn (s : State) (m : Model) (c : Fin 16) (role : Nat) : Bool := (groupCh? m c role).elim false s.chActive

/-- DZ2 of a car (R122). -/
def dz2 (s : State) (m : Model) (c : Fin 16) : Bool := s.carIn m c Role.dz

/-- The connection of a car's node of a class, with its index. -/
def nodeConn? (s : State) (m : Model) (c : Fin 16) (cls : NodeClass) : Option (Nat × Conn) :=
  (m.node? c cls).bind fun i => (s.conns[i]?).map (i, ·)

/-- The connection of a side's door operator. -/
def donConn? (s : State) (m : Model) (d : Fin 32) : Option (Nat × Conn) :=
  (m.don? (sideCar d) (sideNo d)).bind fun i => (s.conns[i]?).map (i, ·)

/-- The connection is UP. -/
def connUp (c : Conn) : Bool := c.state = .up

/-- A node has reported and its watchdog has not expired since (11 R325, R388). -/
def connLive (c : Conn) : Bool := (c.state = .up || c.state = .wait) && c.data.any

/-- What a car's CTN last reported (11 R379), while its values hold (10 R325). -/
def ctn? (s : State) (m : Model) (c : Fin 16) : Option CtnRep :=
  (s.nodeConn? m c .ctn).bind fun p => if connLive p.2 then some p.2.data.ctn else none

/-- What each PTN of a car last reported (11 R380), while its values hold. -/
def ptns (s : State) (m : Model) (c : Fin 16) : List Byte :=
  (m.nodesIdx c .ptn).filterMap fun i => ((s.conns[i]?).filter connLive).map (·.data.ptn)

/-- What a car's HDV last reported (11 R378). -/
def hdv? (s : State) (m : Model) (c : Fin 16) : Option NodeData :=
  (s.nodeConn? m c .hdv).bind fun p => if connLive p.2 then some p.2.data else none

/-- The car's load from the last CTN report [kg]; 0xFFFF when not available (R476). -/
def loadOf (s : State) (m : Model) (c : Fin 16) : BitVec 16 := (s.ctn? m c).elim 0xFFFF (·.load)

/-- A side is CLOSED (07 R228). -/
def sideClosed (s : State) (d : Fin 32) : Bool := (s.sides.get d).state = .closed

/-- Every fitted side of a car is CLOSED. -/
def doorsClosed (s : State) (m : Model) (c : Fin 16) : Bool := (carSides m c).all s.sideClosed

/-- Every fitted side of a car is CLOSED with its landing lock and contact made. -/
def doorsLocked (s : State) (m : Model) (c : Fin 16) : Bool :=
  (carSides m c).all fun d => s.sideClosed d && (s.sides.get d).locked

/-- The hoist axis of a car is idle. -/
def hoistIdle (s : State) (c : Fin 16) : Bool := (s.axes.get (hoist c)).state = .idle

/-- The car is stationary for its car core: the motion port shows STILL, or the fused speed is 0 without one (log 19). -/
def carStill (s : State) (m : Model) (c : Fin 16) : Bool :=
  match m.rolePort? c (if (s.cars.get c).motSec then 3 else 1) with
  | some n => (s.ports.get n).latch.still || ((s.ports.get n).latch.absent && (s.cars.get c).vel = 0)
  | none => (s.cars.get c).vel = 0

end State

end Sys2Proof.Machine
end

