-- ==== Sys2Proof/Machine/Position.lean ====
section
/-! DEFINITION. Position fusion (04 R127 to R138): absolute acceptance, the motion source, index results, terminal switches,
slip and health of one car in one T0. Fixed-point values carry 16 fraction bits. -/

namespace Sys2Proof.Machine

/-- 0.1 mm as a fixed-point value. -/
def fx (x : Int) : Int := x * 65536

/-- Index position of a landing's entry edge (R123), `up` for upward travel. -/
def Model.edge (m : Model) (l : Nat) (up : Bool) : Int := if up then m.level l - m.dzHalf l else m.level l + m.dzHalf l

/-- The served landing nearest to a fixed-point position, the lower one of two (R150). -/
def Model.nearest (m : Model) (c : Fin 16) (p : Int) : Nat :=
  (firstMin (fun a b => (fx (m.level a) - p).natAbs < (fx (m.level b) - p).natAbs) (m.servedLandings c)).getD 0

/-- CP_STAT.IN_ZONE: within DZ_HALF of a served level by position. -/
def Model.inZone (m : Model) (c : Fin 16) (pos : Int) : Bool :=
  (m.servedLandings c).any fun l => (pos - m.level l).natAbs ≤ (m.dzHalf l).natAbs

/-- The least spacing from a served landing to its served neighbours (R140, R147). -/
def Model.spacing (m : Model) (c : Fin 16) (l : Nat) : Int :=
  let ds := ((m.servedLandings c).filter (· ≠ l)).map fun k => ((m.level k - m.level l).natAbs : Int)
  (firstMin (· < ·) ds).getD 0

/-- TS_DN and TS_UP contradict a position, on doubled values (R124, R134). -/
def tsContradicts (m : Model) (c : Fin 16) (pos : Int) (up dn : Bool) : Bool :=
  let ls := m.servedLandings c
  match ls, ls.reverse with
  | a :: b :: _, z :: y :: _ =>
    let md := m.level a + m.level b
    let mu := m.level z + m.level y
    (dn && 2 * pos > md + 2000) || (!dn && 2 * pos < md - 2000) || (up && 2 * pos < mu - 2000) ||
      (!up && 2 * pos > mu + 2000) || (up && dn)
  | _, _ => up && dn

/-- abs_speed(n) of R127 over the accepted frames, as ages in T0 and fixed-point positions, newest first. -/
def absSpeed (l : List (Nat × Int)) : Option Int :=
  match l with
  | [] => none
  | (j, a) :: rest => (rest.find? fun q => j + 8 ≤ q.1).map fun q => rdiv ((a - q.2) * 4000) (fx ((q.1 : Int) - j))

/-- The present position, fixed point. -/
def CarPos.fxPos (cp : CarPos) : Int := cp.base + cp.corr

/-- Rank of a health state. -/
def Health.rank : Health → Nat
  | .lost => 0 | .suspect => 1 | .degraded => 2 | .valid => 3

namespace State

/-- A port's data at the last latch. -/
def portPresent (s : State) (n : Fin 48) : Bool := !(s.ports.get n).latch.absent && (s.ports.get n).en

/-- What the fusion reads of one car's ports. -/
structure FuseIn where
  motor : Option (Fin 48)      -- ROLE 1 port
  absP  : Option (Fin 48)      -- ROLE 2 port
  sec   : Option (Fin 48)      -- ROLE 3 port

/-- The ports of a car. -/
def fuseIn (m : Model) (c : Fin 16) : FuseIn :=
  { motor := m.rolePort? c 1, absP := m.rolePort? c 2, sec := m.rolePort? c 3 }

/-- Latched count of a port that delivered data. -/
def latchCount (s : State) (p : Option (Fin 48)) : Option (BitVec 32) :=
  p.bind fun n => if s.portPresent n then some (s.ports.get n).latch.count else none

/-- SCALE of a port (R118). -/
def scaleOf (m : Model) (p : Option (Fin 48)) : Int := p.elim 0 fun n => (m.ports.get n).scale

/-- The valid absolute frame of the last boundary as a fixed-point position (R119, R127). -/
def absFrame (s : State) (m : Model) (p : Option (Fin 48)) : Option Int :=
  p.bind fun n =>
    let l := (s.ports.get n).latch
    if s.portPresent n && l.ssiValid then some (((l.count.toNat : Int) - (m.ports.get n).zero) * (m.ports.get n).scale) else none

/-- Health of an incremental port (R137, R138): lost at once; regained at once while the car is LOST, otherwise once it has counted
for one T1 within POS_TOL_FINE of the position. `d` is the position less the port's travel; the answer is the health, the T0 of
agreement and the `d` they are measured from. -/
def portHealth (h : HoistRec) (ok lost : Bool) (regain : Nat) (ref : Int) (d : Option Int) : Bool × Nat × Int :=
  match d with
  | none => (false, 0, ref)
  | some d =>
    if ok || lost then (true, 0, ref)
    else if regain = 0 then (false, 1, d)
    else if (d - ref).natAbs ≤ (fx h.posTolFine).natAbs then (if 8 ≤ regain then (true, 0, ref) else (false, regain + 1, ref))
    else (false, 1, d)

/-- Health of the motor encoder and of the ROLE 3 port. -/
def motorHealth (h : HoistRec) (cp : CarPos) (c1 c3 : Option (BitVec 32)) (s1 s3 : Int) : CarPos :=
  let lost := cp.health = .lost
  let a := portHealth h cp.motorOk lost cp.regain cp.regainRef (c1.map fun v => cp.base - s32 v * s1)
  let b := portHealth h cp.secOk lost cp.regain3 cp.regainRef3 (c3.map fun v => cp.base - s32 v * s3)
  { cp with motorOk := a.1, regain := a.2.1, regainRef := a.2.2, secOk := b.1, regain3 := b.2.1, regainRef3 := b.2.2 }

/-- The motion source's count and SCALE (R127): the motor encoder, else a healthy ROLE 3 port. -/
def motionOf (cp : CarPos) (c1 c3 : Option (BitVec 32)) (s1 s3 : Int) : Option (BitVec 32 × Int × Bool) :=
  if cp.motorOk then c1.map (·, s1, false) else if cp.secOk then c3.map (·, s3, true) else none

/-- The count of a port at the latch before, where it delivered data. -/
def prevCount (s : State) (p : Option (Fin 48)) : Option (BitVec 32) := p.bind fun n => (s.ports.get n).prev

/-- Take the motion count of this latch and answer the travel since the latch before by the same port: none across a gap in its
data. `w1` and `w3` are the counts of the ROLE 1 and ROLE 3 ports at the latch before. -/
def takeCount (cp : CarPos) (mo : Option (BitVec 32 × Int × Bool)) (w1 w3 : Option (BitVec 32)) : CarPos × Int :=
  match mo with
  | none => ({ cp with counts := [] }, 0)
  | some (v, sc, sec) =>
    let old := if sec = cp.motSec then cp.counts else []
    ({ cp with counts := (v :: old).take 32, motSec := sec }, (if sec then w3 else w1).elim 0 fun w => diff32 v w * sc)

/-- The run of consecutive consistent valid frames (R128, R129, R137). -/
def noteFrame (h : HoistRec) (cp : CarPos) (a : Option Int) : CarPos :=
  match a with
  | none => cp
  | some x =>
    let near := cp.lastRaw.any fun y => (x - y).natAbs ≤ (fx h.absJump).natAbs
    { cp with series := if near then cp.series + 1 else 1, lastRaw := some x }

/-- Acceptance of the absolute frame against the base of the T0 before (R128), and its books. -/
def acceptFrame (h : HoistRec) (cp : CarPos) (a : Option Int) : CarPos × Option Int :=
  let aged := (cp.accepts.map fun q => (q.1 + 1, q.2)).filter (·.1 ≤ h.absBridge)
  match a with
  | none => ({ cp with accepts := aged, gap := satInc cp.gap 0xFFFF }, none)
  | some x =>
    if cp.absOk && (x - cp.base).natAbs ≤ (fx h.absJump).natAbs then
      ({ cp with accepts := (1, x) :: aged, rejects := 0, gap := 0, lastAcc := x }, some x)
    else if cp.absOk then ({ cp with accepts := aged, rejects := cp.rejects + 1, gap := satInc cp.gap 0xFFFF }, none)
    else ({ cp with accepts := aged, gap := satInc cp.gap 0xFFFF }, none)

/-- One step of the 8-step slew towards corr_target (R132); corr is frozen in SUSPECT (R136). -/
def slewStep (cp : CarPos) : CarPos :=
  if cp.slew = 0 || cp.health = .suspect then cp
  else { cp with corr := cp.corr + tdiv (cp.corrTgt - cp.corr) cp.slew, slew := cp.slew - 1 }

/-- A slip [2^-16 × 0.1 mm] exceeds `num`/`den` of the limit L of R135, in exact arithmetic. -/
def slipExceeds (h : HoistRec) (travel slip : Int) (num den : Nat) : Bool :=
  decide (num * fx (1000 * h.slipBase + h.slipPermille * travel.natAbs) < den * 1000 * (slip.natAbs : Int))

/-- Slip accumulated over one T0 (R135). -/
def accumSlip (cp : CarPos) (dm : Int) (c3 : Option (BitVec 32)) (s1 s3 : Int) (acc : Option Int) : CarPos :=
  if !cp.motorOk then cp
  else if cp.secOk then
    match c3, cp.secPrev with
    | some v, some w => { cp with slip := cp.slip + dm - diff32 v w * s3 }
    | _, _ => cp
  else if cp.absOk then
    match acc, cp.counts with
    | some a, _ :: prev :: _ =>
      match cp.slipLast with
      | some (a0, m0) => { cp with slip := cp.slip + diff32 prev m0 * s1 - (a - a0), slipLast := some (a, prev) }
      | none => { cp with slipLast := some (a, prev) }
    | _, _ => cp
  else cp

/-- The motion port (R127): the ROLE 1 port, or the ROLE 3 port that replaces it. -/
def motionPort? (s : State) (m : Model) (c : Fin 16) : Option (Fin 48) := m.rolePort? c (if (s.cars.get c).motSec then 3 else 1)

/-- DZ1 is lost: pair 3 of the motion port in line fault (R138). -/
def dz1Lost (s : State) (m : Model) (c : Fin 16) : Bool := (s.motionPort? m c).any fun n => (s.ports.get n).linePair.getLsbD 2

/-- DZ1 (R122, R123): the level of the motion port's pair 3, while it is not lost. -/
def dz1 (s : State) (m : Model) (c : Fin 16) : Bool :=
  (s.motionPort? m c).any fun n =>
    let p := s.ports.get n
    s.portPresent n && p.incremental && !p.linePair.getLsbD 2 && (p.level ^^^ p.cfg.inv).getLsbD 2

/-- The health that the sources allow a referenced car (R137, R138), with the present health as the upper bound kept by the
order of R133. -/
def sourcesHealth (cp : CarPos) (hasAbs dz1 : Bool) : Health :=
  let motion := cp.motorOk || cp.secOk
  if !motion && !cp.absOk then .lost
  else if dz1 && !cp.absOk then .suspect
  else if cp.motorOk && (!hasAbs || cp.absOk) && !dz1 then .valid
  else .degraded

/-- A car's health set; a rise from LOST or SUSPECT records its T0CNT, a fall to LOST demands SF1 (R136, R150). -/
def setHealth (s : State) (c : Fin 16) (h : Health) : State :=
  let old : Health := (s.cars.get c).health
  let rise := Health.rank old < 2 && 2 ≤ Health.rank h
  let s := s.updCar c fun cp => { cp with health := h, refT0 := if rise then s.tick.t0 else cp.refT0,
                                          startUp := cp.startUp && (h == Health.lost) }
  if h = .lost && old ≠ .lost then s.askSf1 c else s

/-- The SUSPECT rows of R132: counter, finding and health. `delta` in 0.1 mm. -/
def indexSuspect (s : State) (c : Fin 16) (delta : Int) : State :=
  let s := s.updCar c fun cp => { cp with evSuspect := cp.evSuspect + 1 }
  let s := s.finding c 3 (w32 delta) 0
  if 2 ≤ Health.rank (s.cars.get c).health then s.setHealth c .suspect else s

/-- One index result of the motion port (R132, R133). -/
def indexResult (s : State) (m : Model) (c : Fin 16) (h : HoistRec) (n : Fin 48) : State :=
  let p := s.ports.get n
  let cp := s.cars.get c
  let res := p.latch.idxResult.val
  if p.latch.absent then s
  else if res = 1 || res = 2 then
    let d := diff32 p.idxCap p.rwc.idxExp * (m.ports.get n).scale
    let s := s.updCar c fun cp => { cp with lastDelta := fxRound d }
    if res = 2 || d.natAbs > (fx h.posTolCoarse).natAbs then s.indexSuspect c (fxRound d)
    else if cp.absOk && (cp.corrTgt - d).natAbs > (fx h.posTolCoarse).natAbs then s.indexSuspect c (fxRound d)
    else if cp.health = .suspect then s
    else
      let fine := d.natAbs ≤ (fx h.posTolFine).natAbs
      let s := s.updCar c fun cp =>
        { cp with corrTgt := cp.corrTgt - d, slew := 8, evFine := if fine then cp.evFine + 1 else cp.evFine,
                  evCoarse := if fine then cp.evCoarse else cp.evCoarse + 1 }
      if fine then s else s.positionEvent c 1 (fxRound d)
  else if res = 3 then s.indexSuspect c 0
  else if p.latch.idxSeen then
    let far := (m.servedLandings c).all fun l => (cp.pos - m.level l).natAbs > (m.dzHalf l + h.posTolCoarse).natAbs
    if far then s.indexSuspect c 0 else s
  else s

/-- Magnet landings whose entry edge lies ahead, in travel order, after the last one considered (R131). -/
def ahead (m : Model) (c : Fin 16) (up : Bool) (from_ : Int) (last : Option Nat) : List Nat :=
  let ls := (m.servedLandings c).filter fun l =>
    m.magnet l && (if up then fx (m.edge l up) > from_ else fx (m.edge l up) < from_) &&
      last.all fun k => if up then k < l else l < k
  if up then ls else ls.reverse

/-- Write an index window into a port's shadow and commit it (R95, R131). -/
def armWindow (s : State) (n : Fin 48) (exp : BitVec 32) (win : BitVec 24) : State :=
  s.updPort n fun p =>
    let sh := { p.shadow with idxArm := true, idxExp := exp, idxWin := win }
    { p with shadow := sh, commit := some sh }

/-- A window is armed or about to be. -/
def windowBusy (p : Port) : Bool := p.rwc.idxArm || p.commit.any (·.idxArm)

/-- Skip landings whose window cannot be armed in time and arm the next (R131). `two` is 2 T0 of travel. -/
def armNext (s : State) (m : Model) (c : Fin 16) (n : Fin 48) (up : Bool) (at_ two : Int) : List Nat → State
  | [] => s
  | l :: ls =>
    let r := m.ports.get n
    let edge := fx (m.edge l up)
    let dist := if up then edge - r.idxWin * r.scale - at_ else at_ - (edge + r.idxWin * r.scale)
    let s := s.updCar c fun cp => { cp with nextIdx := some l }
    if two ≤ dist then
      match (s.cars.get c).counts with
      | cm :: _ => s.armWindow n (cm + w32 (rdiv (edge - at_) r.scale)) (BitVec.ofNat 24 r.idxWin)
      | [] => s
    else armNext (s.updCar c fun cp => { cp with evSkipped := cp.evSkipped + 1 }) m c n up at_ two ls

/-- Index windows are the car core's own outside re-levelling, correction, homing and learn runs (R131), and DZ1 is there (R138). A
standby knows the kind of a special run from the replicated axis (R149, log 142). -/
def indexRun (s : State) (m : Model) (c : Fin 16) : Bool :=
  let k := (s.cars.get c).spec.kind
  let a := s.axes.get (hoist c)
  (k = .none || k = .suspectStop) && !s.dz1Lost m c &&
    (s.mod ≠ .standby || a.state = .idle || !(a.runKind = .relevel || a.runKind = .correction || a.runKind = .homing || a.runKind = .learn))

/-- Arming in a run (R131), on the motion port: with a ROLE 3 port as the motion source, that port's own pair 3 and IDX_WIN serve
(DEDUCED: R131 names the motion port, log 143). -/
def armIndex (s : State) (m : Model) (c : Fin 16) : State :=
  let cp := s.cars.get c
  match s.motionPort? m c with
  | none => s
  | some n =>
    let p := s.ports.get n
    if !s.indexRun m c || !p.latch.moving || p.latch.absent || windowBusy p || cp.health = .lost ||
        (s.axes.get (hoist c)).state = .idle then s
    else
      let up := !p.latch.falling
      let at_ := cp.base + cp.corrTgt
      s.armNext m c n up at_ (fx cp.vel.natAbs * 2 / 4000) (ahead m c up at_ cp.nextIdx)

/-- Re-adoption of a failed absolute source at standstill (R129). A difference over POS_TOL_COARSE is reported once and bars the source
until a correction run has ended; that it is not reported again while it stays is the model's choice (DESIGN CHOICE, log 144). -/
def readopt (s : State) (c : Fin 16) (h : HoistRec) (still : Bool) (a : Option Int) : State :=
  let cp := s.cars.get c
  match a with
  | none => s
  | some x =>
    if cp.absOk || cp.barred || cp.health = .lost || !still || cp.series < 64 then s
    else if (cp.fxPos - x).natAbs > (fx h.posTolCoarse).natAbs then
      (s.updCar c fun cp => { cp with series := 0, barred := true }).positionEvent c 3 (fxRound (cp.fxPos - x))
    else s.updCar c fun cp =>
      { cp with corr := cp.fxPos - x, corrTgt := cp.fxPos - x, slew := 0, base := x, absOk := true, rejects := 0, gap := 0,
                accepts := [(1, x)], lastAcc := x }

/-- First reference at start-up from the absolute source (R137). -/
def startReference (s : State) (m : Model) (c : Fin 16) (a : Option Int) (dm : Int) (hasAbs dz1 : Bool) : State :=
  let cp := s.cars.get c
  match a with
  | none => s
  | some x =>
    let pos := fxRound (x + dm)
    if cp.health ≠ .lost || !cp.startUp || cp.series < 8 || !(cp.motorOk || cp.secOk) ||
        tsContradicts m c pos (s.carIn m c Role.tsUp) (s.carIn m c Role.tsDn) then s
    else
      let s := s.updCar c fun cp =>
        { cp with base := x + dm, corr := 0, corrTgt := 0, slew := 0, absOk := true, barred := false, rejects := 0,
                  gap := 0, accepts := [(1, x)], lastAcc := x, pos := pos, posFx := x + dm }
      s.setHealth c (sourcesHealth (s.cars.get c) hasAbs dz1)

/-- SLIP_LIMIT (R135). -/
def slipLimits (s : State) (c : Fin 16) (h : HoistRec) : State :=
  let cp := s.cars.get c
  let beyond := slipExceeds h (cp.pos - cp.slipFrom) cp.slip 1
  let v := fxRound cp.slip
  if (s.axes.get (hoist c)).state = .idle then s
  else
    let s := if !cp.slipWarn && beyond 2 then
        (s.updCar c fun cp => { cp with slipWarn := true }).positionEvent c 2 v
      else s
    if !cp.slipRaised && beyond 1 then
      (s.updCar c fun cp => { cp with slipRaised := true, holds := { cp.holds with slip := true } }).finding c 4 (w32 v) 0
    else s

/-- A fusion of one car that is abandoned (R31, R128, R130, R133). -/
def dropFusion (s : State) (m : Model) (c : Fin 16) : State :=
  let f := fuseIn m c
  let res := s.indexRun m c && (s.motionPort? m c).any fun n => (s.ports.get n).latch.idxResult ≠ 0
  let s := s.updCar c fun cp =>
    let c3 := s.latchCount f.sec
    let mo := motionOf cp (s.latchCount f.motor) c3 (scaleOf m f.motor) (scaleOf m f.sec)
    let (cp, dm) := takeCount cp mo (s.prevCount f.motor) (s.prevCount f.sec)
    let p := cp.posFx + tdiv (fx cp.vel) 4000
    { cp with base := cp.base + dm, pos := fxRound p, posFx := p, stale := true, drops := cp.drops + 1, secPrev := c3,
              gap := satInc cp.gap 0xFFFF, accepts := (cp.accepts.map fun q => (q.1 + 1, q.2)) }
  if res then s.indexSuspect c 0 else s

/-- A port of the car belongs to a parked encoder group (17 R569). -/
def carParked (s : State) (m : Model) (c : Fin 16) : Bool :=
  (idx 48).any fun n => (m.ports.get n).car = c.val && (m.ports.get n).role ≠ 0 && s.pwr.parked.getLsbD (n.val / 8)

/-- The motion port's DZ1 result is judged where the car core arms the windows (R131 to R133), against the position before the slew. -/
def fuseIndex (s : State) (m : Model) (c : Fin 16) (h : HoistRec) : State :=
  let s := s.updCar c fun cp => { cp with pos := fxRound cp.fxPos }
  match s.motionPort? m c with
  | some n => if s.indexRun m c && (s.cars.get c).health ≠ .lost then s.indexResult m c h n else s
  | none => s

/-- The nearest landing, and the run of terminal-switch contradictions (R134). -/
def fuseLanding (s : State) (m : Model) (c : Fin 16) : State :=
  s.updCar c fun cp =>
    { cp with landing := m.nearest c cp.fxPos,
              tsBad := if 2 ≤ Health.rank cp.health &&
                  tsContradicts m c cp.pos (s.carIn m c Role.tsUp) (s.carIn m c Role.tsDn) then cp.tsBad + 1 else 0 }

/-- The health that the sources allow (R136, R137). -/
def fuseHealth (s : State) (c : Fin 16) (hasAbs dz1 : Bool) : State :=
  let cp := s.cars.get c
  let allowed := sourcesHealth cp hasAbs dz1
  match cp.health with
  | .lost => s
  | .suspect => if allowed == Health.lost then s.setHealth c .lost else s
  | _ => if allowed ≠ cp.health then s.setHealth c allowed else s

/-- The fusion of one car in one T0 (R127 to R138). A car with a parked group stays LOST without a finding (17 R569). -/
def fuse (s : State) (m : Model) (c : Fin 16) : State :=
  if s.carParked m c then s.updCar c fun cp => { cp with health := .lost, counts := [], accepts := [], motorOk := false, absOk := false,
                                                               secOk := false, vel := 0 }
  else
  let h := m.hoists.get c
  let f := fuseIn m c
  let c1 := s.latchCount f.motor
  let c3 := s.latchCount f.sec
  let s1 := scaleOf m f.motor
  let s3 := scaleOf m f.sec
  let a := s.absFrame m f.absP
  let dz2 := s.dz2 m c
  let cp := motorHealth h { s.cars.get c with stale := false, drops := 0, dz2Prev := (s.cars.get c).dz2Now, dz2Now := dz2 } c1 c3 s1 s3
  let cp := if f.absP.any (fun n => s.isRetired (.port n)) then { cp with absOk := false } else cp
  let mo := motionOf cp c1 c3 s1 s3
  let (cp, dm) := takeCount cp mo (s.prevCount f.motor) (s.prevCount f.sec)
  let (cp, acc) := acceptFrame h (noteFrame h cp a) a
  let base := match acc with
    | some x => x + dm
    | none => if mo.isSome then cp.base + dm else a.getD cp.base
  let cp := { cp with base := base }
  let sp : Int := match mo with
    | some (_, _, sec) => (if sec then f.sec else f.motor).elim 0 fun n => (s.ports.get n).latch.speed
    | none => 0
  let vel := match mo with
    | some (_, sc, _) => rdiv (sp * sc) (16 * 65536)
    | none => (absSpeed cp.accepts).getD cp.vel
  let cp := if (s.axes.get (hoist c)).fRun then accumSlip cp dm c3 s1 s3 acc else cp
  let secD : Int := match c3, cp.secPrev with
    | some v, some w => diff32 v w * s3
    | _, _ => 0
  let s := s.updCar c fun _ => { cp with vel := vel, secPrev := c3, motD := dm, secD := secD }
  let s := (s.fuseIndex m c h).updCar c fun cp =>
    let cp := slewStep cp
    { cp with pos := fxRound cp.fxPos, posFx := cp.fxPos }
  let dz1 := s.dz1Lost m c
  let s := s.startReference m c a dm f.absP.isSome dz1
  let s := s.readopt c h ((s.motionPort? m c).any fun n => (s.ports.get n).latch.still) a
  let s := (s.fuseLanding m c).fuseHealth c f.absP.isSome dz1
  (s.slipLimits c h).armIndex m c

/-- FUSION_DROP_HEALTH (R130): 4 drops give SUSPECT, 8 give LOST and SF1. -/
def fusionDropHealth (s : State) (c : Fin 16) : State :=
  let cp := s.cars.get c
  if 8 ≤ cp.drops && cp.health ≠ .lost then s.setHealth c .lost
  else if 4 ≤ cp.drops && 2 ≤ Health.rank cp.health then s.setHealth c .suspect
  else s

/-- TS_CONTRADICTION (R134). -/
def tsContradiction (s : State) (c : Fin 16) : State :=
  let cp := s.cars.get c
  if 2 ≤ cp.tsBad && 2 ≤ Health.rank cp.health then
    ((s.updCar c fun cp => { cp with tsBad := 0 }).finding c 3 0 0).setHealth c .suspect
  else s

/-- The absolute source of a car fails (R128). -/
def failAbs (s : State) (c : Fin 16) : State :=
  let cp := s.cars.get c
  (s.updCar c fun cp => { cp with absOk := false, rejects := 0, series := 0 }).finding c 2 (w32 (fxRound cp.lastAcc)) 0

/-- ABS_SOURCE_FAIL (R128): 3 rejections, or no accepted frame for ABS_BRIDGE. -/
def absSourceFail (s : State) (c : Fin 16) : State :=
  match s.model with
  | none => s
  | some m =>
    let cp := s.cars.get c
    if cp.absOk && (3 ≤ cp.rejects || (m.hoists.get c).absBridge ≤ cp.gap) then s.failAbs c else s

end State

/-- FUSION_DROP_HEALTH, R130. -/
def execFusionDropHealth (c : Fin 16) (s : State) : Out := .next (s.fusionDropHealth c)
/-- TS_CONTRADICTION, R134. -/
def execTsContradiction (c : Fin 16) (s : State) : Out := .next (s.tsContradiction c)
/-- ABS_SOURCE_FAIL, R128. -/
def execAbsSourceFail (c : Fin 16) (s : State) : Out := .next (s.absSourceFail c)

end Sys2Proof.Machine
end

