-- ==== Sys2Proof/Machine/Profiles.lean ====
section
/-! DEFINITION. The profile generator (05): runs, targets, caps and stops of every axis, and the steps of a hoist run (R163). -/

namespace Sys2Proof.Machine

/-- D_MS of R334. -/
def dMs : Int := 10000
/-- J_MS of R334. -/
def jMs : Int := 50000

/-- The speed cap of a mode (09 R301, R302). -/
def modeLimit (m : Model) (c : Fin 16) (mode : Nat) (epwr : Bool) : Int :=
  match m.car? c, m.policy? c with
  | some r, some p =>
    let own := if mode = 7 then p.epwrSpeed else if mode = 8 then p.seisSpeed
      else if mode = 9 then min p.inspSpeed 6300 else if mode = 10 then 3000 else r.ratedSpeed
    if epwr then min own p.epwrSpeed else own
  | some r, none => r.ratedSpeed
  | none, _ => 0

/-- The cap of a normal run in a mode (R160): the lower of the mode's limit and RATED_SPEED. -/
def modeCap (m : Model) (c : Fin 16) (mode : Nat) (epwr : Bool) : Int :=
  min (modeLimit m c mode epwr) ((m.car? c).elim 0 (·.ratedSpeed))

/-- A special run's contribution to the cap of a hoist run (R160). -/
def kindCap (h : HoistRec) : RunKind → Option Int
  | .correction => some h.corrSpeed
  | .ref => some h.refSpeed
  | .homing => some h.refSpeed
  | .relevel => some h.relevelSpeed
  | .learn => some h.learnSpeed
  | _ => none

/-- The lower of a value and an optional one. -/
def minOpt (x : Int) : Option Int → Int
  | some y => min x y
  | none => x

/-- Clear sides of a door axis in the model's records: MASS [0.1 kg] of a side (R160). -/
def doorMass (m : Model) (d : Fin 32) : Nat :=
  (m.car? (State.sideCar d)).elim 0 fun r => if State.sideNo d = 0 then r.frontMass else r.rearMass

/-- The door column of R160. -/
def doorCap (m : Model) (d : Fin 32) (closing : Bool) (k : RunKind) : Int :=
  let r := m.doors.get d
  let base := if closing then r.vClose else r.vOpen
  let base := match k with
    | .homing | .ref => min base r.refSpeed
    | .nudge => min base r.nudgeSpeed
    | _ => base
  if closing then min base (energyCap (doorMass m d) (if k = .nudge then 4 else 10)) else base

/-- A plan in force: install segments with an origin at a boundary (R157). -/
def Axis.install (a : Axis) (t0 : BitVec 32) (p v : Int) (segs : List Seg) : Axis :=
  { a with originPos := p, originVel := v, segs := segs, startT0 := t0 }

/-- Plan time at the boundary of a T0 [µs]. -/
def Axis.tauAt (a : Axis) (t0 : BitVec 32) : Nat := (t0 - a.startT0).toNat * 250

/-- The reference of the plan in force at a plan time; at rest the held position. -/
def Axis.refOf (a : Axis) (tau : Nat) : Ref :=
  if a.segs.isEmpty then ⟨F64.ofInt a.refPos, F64.zero, F64.zero, 0, 0⟩ else refAt a.originPos a.originVel a.segs tau 0

/-- Where the axis comes to rest: the target of its run, or the end of the plan in force where a stop governs. -/
def Axis.goal (a : Axis) : Int :=
  if a.state = .run || a.state = .start then a.target else (a.segs.getLast?).elim a.refPos (·.endPos)

/-- A plan moves the axis. -/
def Axis.moving (a : Axis) : Bool := a.state = .run || a.state = .stopping || a.state = .mstop

/-- No request. -/
def PgReq.none : PgReq := { mstop := false, istop := false, cstop := false, target := .none, cap := .none, run := .none }

/-- The targets that a higher rank discards are reported as not taken (R171). -/
def Axis.discard (a : Axis) : Axis :=
  { a with req := PgReq.none, lastTgt := if a.req.target.isSome || a.req.run.isSome then .notTaken else a.lastTgt }

/-- A hoist stop at a decision boundary (R169, R170): in START it abandons the start and ends through END (R164).
A stop has no target of its own, so PG_TARGET keeps the last one (log 30). -/
def Axis.hoistStop (a : Axis) (t0 : BitVec 32) (present : Int) (mon : Bool) : Axis :=
  match a.state with
  | .start =>
    { a with state := .end_, endAt := some t0, held := .none, due := false, fHold := true, refPos := present, refVel := 0, refAcc := 0,
             landed := false, segs := [], segIx := 0, phase := 0, energy := { a.energy with mstop := a.energy.mstop || mon } }
  | .run | .stopping =>
    if a.state = .stopping && !mon then a
    else
      let r := a.refOf (a.tauAt t0)
      let segs := stopPlan r.p r.v r.a (if mon then dMs else a.decel) (if mon then jMs else a.jerk)
      { (a.install t0 r.p.round r.v.round segs) with
        state := if mon then .mstop else .stopping, table := false, landed := false,
        energy := { a.energy with mstop := a.energy.mstop || mon } }
  | _ => a

/-- A controlled stop of a door: the reversal segment alone (R169, R173). -/
def Axis.doorStop (a : Axis) (t0 : BitVec 32) : Axis :=
  if a.state = .run then
    let r := a.refOf (a.tauAt t0)
    let g := reversalSeg r.p r.v a.revDecel
    if g.dur = 0 then { a with state := .idle, segs := [], segIx := 0, phase := 0, refPos := r.p.round, refVel := 0, refAcc := 0, landed := false }
    else { (a.install t0 r.p.round r.v.round [g]) with state := .stopping, table := false, landed := false }
  else a

/-- An immediate stop of a door: the plan is cleared and the reference held (R169). -/
def Axis.doorHalt (a : Axis) (t0 : BitVec 32) : Axis :=
  let p := if a.moving then (a.refOf (a.tauAt t0)).p.round else a.refPos
  { a with state := .idle, segs := [], segIx := 0, phase := 0, planT := 0, refPos := p, refVel := 0, refAcc := 0, table := false, landed := false, held := .none }

/-- Outcome of a re-plan (R165, R166, R168). -/
inductive Replan where
  | taken (a : Axis) | notTaken | late
  deriving DecidableEq, Repr

/-- Re-plan a running axis to `x` under the cap `v` (R165, R166): at the end of phase 3, or at the boundary in phase 4. -/
def Axis.replan (a : Axis) (t0 : BitVec 32) (x v : Int) : Replan :=
  let tau := a.tauAt t0
  let r := a.refOf tau
  let p := r.p.round
  let w := r.v.round
  if a.state ≠ .run || a.table || r.phase = 0 || 4 < r.phase then .notTaken
  else
    let first := if r.phase = 4 then [] else toPhase3 a.segs tau
    let p1 := if r.phase = 4 then p else (first.getLast?).elim p (·.endPos)
    let v1 := if r.phase = 4 then w else (first.getLast?).elim w (·.endVel)
    let dir : Int := if v1 < 0 then -1 else if 0 < v1 then 1 else sgn (a.target - a.originPos)
    if dir * (x - p1) ≤ 0 then .notTaken
    else match plan p1 (v1.natAbs) x v a.accel a.decel a.jerk with
      | .late => .late
      | .refused => .notTaken
      | .ok segs => .taken { (a.install t0 p w (first ++ segs)) with target := x, vmax := v, lastTgt := .taken }

/-- A lowered cap judged against a plan that has no re-plan point (R168). -/
def Axis.judgeCap (a : Axis) (t0 : BitVec 32) (v : Int) : Axis :=
  if (planPeak a.originPos a.originVel a.segs (a.tauAt t0)).le (F64.ofInt v) then { a with vmax := v } else { a with capLate := true }

/-- A cap alone is handled like a target equal to the committed one (R168). It is no new target: LAST_TGT and the REPLAN count stay
(DESIGN CHOICE, log 147). -/
def Axis.takeCap (a : Axis) (t0 : BitVec 32) (v : Int) : Axis :=
  if a.vmax ≤ v then a
  else match a.replan t0 a.target v with
    | .taken b => { b with lastTgt := a.lastTgt }
    | .late => { a with capLate := true }
    | .notTaken => a.judgeCap t0 v

/-- A target for a running hoist (R165, R166), with the cap that came with it in one plan (R168). LATE sets CAP_LATE and leaves the
target not taken; a target that is not taken leaves the cap to be applied alone by a second plan (DESIGN CHOICE, log 148). -/
def Axis.takeTarget (a : Axis) (t0 : BitVec 32) (x : Int) (cap : Option Int) : Axis :=
  let v := minOpt a.vmax cap
  if x = a.target then a.takeCap t0 v
  else match a.replan t0 x v with
    | .taken b => { b with replans := a.replans + 1 }
    | .late => { a with capLate := true, lastTgt := .notTaken, deferred := a.deferred + 1, kept := some x }
    | .notTaken =>
      { (if v < a.vmax then a.takeCap t0 v else a) with lastTgt := .notTaken, deferred := a.deferred + 1, kept := some x }

/-- A target for a moving door (R173): a re-plan where one exists, else a reversal. The plan follows the reversal even where it is
shorter than the 1 mm below which R162 plans no move from rest (DESIGN CHOICE, log 149). -/
def Axis.doorTarget (a : Axis) (t0 : BitVec 32) (m : Model) (d : Fin 32) (x : Int) (k : RunKind) : Axis :=
  if x = a.target && a.state = .run then a
  else match a.replan t0 x a.vmax with
    | .taken b => { b with replans := a.replans + 1 }
    | _ =>
      let r := a.refOf (a.tauAt t0)
      let g := reversalSeg r.p r.v a.revDecel
      let from_ := if g.dur = 0 then r.p.round else g.endPos
      let cap := doorCap m d (x < from_) k
      let rest := match plan from_ 0 x cap a.accel a.decel a.jerk with
        | .ok l => l
        | _ => []
      { (a.install t0 r.p.round r.v.round ((if g.dur = 0 then [] else [g]) ++ rest)) with
        state := .run, target := x, vmax := cap, table := false, lastTgt := .taken, replans := a.replans + 1 }

/-- The user table a hoist run uses (R176). -/
def hoistTable (m : Model) (c : Fin 16) (r : NewRun) (p vmax : Int) : Option TableRec :=
  match r.from_, r.dest with
  | some f, some l =>
    if r.kind ≠ .normal || r.target ≠ m.level l || (p - m.level f).natAbs > (m.hoists.get c).relevelStop.natAbs then none
    else m.tables.find? fun t =>
      t.kind = 1 && t.car = c.val && t.landing = l && t.from_ = f && (planPeak 0 0 t.segs 0).le (F64.ofInt vmax)
  | _, _ => none

/-- The user table a door run uses (R176). -/
def doorTable (m : Model) (d : Fin 32) (ref : Bool) (landing : Option Nat) (x p vmax : Int) (k : RunKind) : Option TableRec :=
  let kind := if x < p then 3 else 2
  let goal := if kind = 3 then 0 else (m.doors.get d).openPos
  match landing with
  | none => none
  | some l =>
    if k = .nudge || k = .homing || !ref || x ≠ goal then none
    else m.tables.find? fun t =>
      t.kind = kind && t.car = (State.sideCar d).val && t.side = State.sideNo d && t.landing = l &&
        (p - t.startPos).natAbs ≤ 50 && (planPeak t.startPos 0 t.segs 0).le (F64.ofInt vmax)

/-- The segments of a run from rest, and whether they are a user table's. -/
def runSegs (t : Option TableRec) (off p x vmax acc dec jerk : Int) : List Seg × Bool :=
  match t with
  | some t => (endAtPos x (t.segs.map fun g => { g with endPos := g.endPos + off, phase := 0 }), true)
  | none =>
    match plan p 0 x vmax acc dec jerk with
    | .ok l => (l, false)
    | _ => ([], false)

/-- PG_STOP_POS (R167). -/
def Axis.stopPosAt (a : Axis) (t0 : BitVec 32) (present : Int) : Int :=
  let n := F64.ofInt
  let tau := a.tauAt t0
  let r := a.refOf tau
  let far (p v : F64) : Int :=
    let d := chS v.abs F64.zero (n a.decel) (n a.jerk)
    (if v.lt F64.zero then p.sub d else p.add d).round
  match a.state with
  | .idle | .start => present
  | .run =>
    if r.phase = 0 || 4 < r.phase then (a.segs.getLast?).elim present (·.endPos)
    else if r.phase = 4 then far r.p r.v
    else match (toPhase3 a.segs tau).getLast? with
      | some g => far (n g.endPos) (n g.endVel)
      | none => present
  | _ => (a.segs.getLast?).elim present (·.endPos)

/-- Evaluate the plan in force and post the reference (R157). In END the plan still posts its end; after the run the last table,
its length and τ keep their values. -/
def Axis.post (a : Axis) (t0 : BitVec 32) (present : Int) : Axis :=
  let a := { a with stopPos := a.stopPosAt t0 present }
  if a.moving || (a.state = .end_ && !a.segs.isEmpty) then
    let tau := a.tauAt t0 + 2000
    let r := a.refOf tau
    { a with refPos := r.p.round, refVel := r.v.round, refAcc := r.a.round, planT := tau, segIx := r.ix,
             phase := if planLen a.segs ≤ tau then (a.segs.getLast?).elim 0 (·.phase) else r.phase }
  else { a with refVel := 0, refAcc := 0 }

namespace State

/-- Present position of an axis at rest: the car's position, or the door's held reference. -/
def axisPos (s : State) (k : Fin 48) : Int := if isHoist k then (s.cars.get (laneCar k)).pos else (s.axes.get k).refPos

/-- The emergency-power input of a car's group is active (R302). -/
def epwrIn (s : State) (m : Model) (c : Fin 16) : Bool := s.groupIn m c 0x09

/-- The cap of a hoist run (R160). -/
def hoistCap (s : State) (m : Model) (c : Fin 16) (r : NewRun) : Int :=
  minOpt (minOpt (modeCap m c (s.modes.get c).mode (s.epwrIn m c)) (kindCap (m.hoists.get c) r.kind)) r.cap

/-- The landing a car stands in by position, or 0xFF (R478). -/
def zoneLanding (s : State) (m : Model) (c : Fin 16) : Nat :=
  if m.inZone c (s.cars.get c).pos then (s.cars.get c).landing else 0xFF

/-- The energy record at step 1 of R163 (R181, R478). -/
def newEnergy (s : State) (m : Model) (c : Fin 16) : Energy :=
  { mot := 0, reg := 0, pMax := 0, pMin := 0, any := false, from_ := s.zoneLanding m c, mode := (s.modes.get c).mode,
    load := (s.loadOf m c).toNat, startT0 := s.tick.t0, startPos := (s.cars.get c).pos, incomplete := false, mstop := false,
    lastSof := (s.axes.get (hoist c)).energy.lastSof }

/-- What a run start resets in the car's position books (R131, R135). -/
def runStartPos (s : State) (c : Fin 16) : State :=
  s.updCar c fun cp => { cp with slip := 0, slipFrom := cp.pos, slipLast := none, slipWarn := false, slipRaised := false, nextIdx := none }

/-- A hoist run handed to an idle axis (R162, R163 step 1): the car core asks the levee for a start, and the step acts when the
start conditions are met. -/
def hoistStart (s : State) (m : Model) (c : Fin 16) (r : NewRun) : State :=
  let k := hoist c
  let h := m.hoists.get c
  let cp := s.cars.get c
  match m.car? c with
  | none => s
  | some cr =>
    if r.target < cr.bottomLimit || cr.topLimit < r.target then
      s.updAxis k fun a => { a with lastTgt := .refused, req := PgReq.none }
    else if (r.target - cp.pos).natAbs < 10 then
      s.updAxis k fun a => { a with req := PgReq.none, landed := true, target := r.target }
    else
      let s := s.updLv c fun l => { l with req := { l.req with start := true, relevel := r.kind == .relevel } }
      if !(s.lv.get c).startOk && !((s.lv.get c).mc && (s.lv.get c).bt.phase = 0) then s
      else
        let s := s.updAxis k fun a =>
          { a with state := .start, accel := h.accel, decel := h.decel, jerk := h.jerk, revDecel := 0,
                   vmax := s.hoistCap m c r, runId := a.runId + 1, fRun := true, fHold := true, held := some r,
                   startWait := 0, magAt := none, endAt := none, lifted := false, due := false, landed := false,
                   target := r.target, refPos := cp.pos, refVel := 0, refAcc := 0, capLate := false, segs := [], segIx := 0, phase := 0,
                   planT := 0, lastTgt := .taken, runKind := r.kind,
                   energy := s.newEnergy m c, req := PgReq.none, table := false, kept := none }
        s.runStartPos c

/-- A new target in state START replaces the pending one (R164): the run then ends at the landing of that level, if any (R176). -/
def startTarget (m : Model) (c : Fin 16) (a : Axis) (x : Int) : Axis :=
  { a with held := a.held.map fun r => { r with target := x, dest := (m.servedLandings c).find? (m.level · = x) },
           target := x, req := { a.req with target := none } }

/-- A target lies in the axis's range (R166, R172). -/
def targetOk (m : Model) (k : Fin 48) (x : Int) : Bool :=
  if isHoist k then (m.car? (laneCar k)).elim false fun r => decide (r.bottomLimit ≤ x) && decide (x ≤ r.topLimit)
  else decide (0 ≤ x) && decide (x ≤ (m.doors.get (laneSide k)).openPos)

/-- A start that a stop abandons asks for the brake drop when it had asked for the lift (R164); `a` is the axis before the stop. -/
def dropLifted (s : State) (c : Fin 16) (a : Axis) : State :=
  if a.state = .start && a.lifted then s.updLv c fun l => { l with req := { l.req with drop := true } } else s

/-- The requests of a hoist axis at its computation, in the ranks of R171. -/
def hoistRequests (s : State) (m : Model) (c : Fin 16) : State :=
  let k := hoist c
  let a := s.axes.get k
  let t0 := s.tick.t0
  let mon := (s.lv.get c).mstop || a.req.mstop
  let here := (s.cars.get c).pos
  if mon && a.state ≠ .idle then
    (s.updAxis k fun a =>
      if a.state = .mstop || a.state = .end_ then (a.req.cap.elim a (a.judgeCap t0 ·)).discard else a.discard.hoistStop t0 here true).dropLifted c a
  else if a.req.cstop || a.req.istop then
    (s.updAxis k fun a => a.discard.hoistStop t0 here false).dropLifted c a
  else match a.state with
    | .run =>
      match a.req.target with
      | some x =>
        if targetOk m k x then s.updAxis k fun a => { (a.takeTarget t0 x a.req.cap) with req := { a.req with target := none, cap := none } }
        else s.updAxis k fun a => { a with lastTgt := .refused, req := { a.req with target := none } }
      | none =>
        match a.req.cap with
        | some v => s.updAxis k fun a => { (a.takeCap t0 v) with req := { a.req with cap := none } }
        | none => s
    | .start =>
      match a.req.target with
      | some x =>
        if targetOk m k x then s.updAxis k (startTarget m c · x)
        else s.updAxis k fun a => { a with lastTgt := .refused, req := { a.req with target := none } }
      | none => s.updAxis k fun a => { a with vmax := minOpt a.vmax a.req.cap, req := { a.req with cap := none } }
    | .idle =>
      match a.req.run with
      | some r => s.hoistStart m c r
      | none => s
    | _ =>
      s.updAxis k fun a =>
        let a := match a.req.target with
          | none => a
          | some x =>
            if targetOk m k x then { a with kept := some x, lastTgt := .notTaken, deferred := a.deferred + 1 } else { a with lastTgt := .refused }
        let a := a.req.cap.elim a (a.judgeCap t0 ·)
        { a with req := { a.req with target := none, cap := none } }

/-- START waits: T1 since step 1, and step 2, the brake lift request when the feedback shows MAGNETISED (R163, R164). -/
def startSteps (s : State) (m : Model) (c : Fin 16) : State :=
  let k := hoist c
  let a := s.axes.get k
  if a.state = .start then
    let mag := (s.nodeConn? m c .hdv).any fun p => p.2.data.fbStatus.getLsbD 1
    if a.magAt.isNone && mag then
      (s.updAxis k fun a => { a with magAt := some s.tick.t0, lifted := true }).updLv c fun l => { l with req := { l.req with lift := true } }
    else s.updAxis k fun a => { a with startWait := a.startWait + 1 }
  else s

/-- A lane latches its GAINS record at the start of a run (06 R188); a door lane clears its integrator, bias and remainder (06
R197). -/
def latchGain (s : State) (m : Model) (k : Fin 48) : State :=
  s.updLane k fun l =>
    { l with gain := some (m.gains.get k), integ := if isHoist k then l.integ else 0, bias := if isHoist k then l.bias else 0,
             frac := 0 }

/-- The requests of a door axis at its computation, in the ranks of R171: a target that comes while the door stops waits for its
standstill. -/
def doorRequests (s : State) (m : Model) (d : Fin 32) : State :=
  let k := doorAxis d
  let a := s.axes.get k
  let t0 := s.tick.t0
  let r := m.doors.get d
  if a.req.istop then s.updAxis k fun a => a.discard.doorHalt t0
  else if a.req.cstop then s.updAxis k fun a => a.discard.doorStop t0
  else if a.state = .stopping then s
  else match a.req.run with
    | none => s
    | some q =>
      if !targetOk m k q.target && q.kind ≠ .homing then s.updAxis k fun a => { a with lastTgt := .refused, req := PgReq.none }
      else if a.moving then s.updAxis k fun a => { (a.doorTarget t0 m d q.target q.kind) with req := PgReq.none }
      else
        let p := a.refPos
        if (q.target - p).natAbs < 10 then s.updAxis k fun a => { a with req := PgReq.none, landed := true, target := q.target }
        else
          let cap := doorCap m d (q.target < p) q.kind
          let t := doorTable m d (s.sides.get d).ref (s.sides.get d).landing q.target p cap q.kind
          let g := runSegs t 0 p q.target cap r.accel r.decel r.jerk
          (s.latchGain m k).updAxis k fun a =>
            { (a.install t0 p 0 g.1) with
              state := .run, accel := r.accel, decel := r.decel, jerk := r.jerk, revDecel := r.revDecel, vmax := cap, runKind := q.kind,
              runId := a.runId + 1, table := g.2, target := q.target, landed := false, capLate := false,
              lastTgt := .taken, req := PgReq.none }

/-- A door plan that has ended leaves the axis at rest. -/
def doorEnd (a : Axis) : Axis :=
  if a.moving && planLen a.segs ≤ a.planT then
    { a with state := .idle, landed := a.state == .run }
  else a

/-- Step 3 of R163: the plan is installed at this computation, from the position of this T0. -/
def installRun (s : State) (m : Model) (c : Fin 16) : State :=
  let k := hoist c
  let a := s.axes.get k
  match a.held with
  | some r =>
    if a.state = .start && a.due then
      let p := (s.cars.get c).pos
      let g := runSegs (hoistTable m c r p a.vmax) p p r.target a.vmax a.accel a.decel a.jerk
      (s.latchGain m k).updAxis k fun a =>
        { (a.install s.tick.t0 p 0 g.1) with
          state := .run, due := false, fHold := false, table := g.2, target := r.target, held := none, failures := 0 }
    else s
  | none => s

/-- The PG part of one lane's computation (R157, R171); a module that does not drive only evaluates (R183). -/
def pgLane (s : State) (m : Model) (k : Fin 48) : State :=
  let drive := s.mod = .active || s.mod = .safeHold
  if isHoist k then
    let c := laneCar k
    let s := if drive then ((s.startSteps m c).hoistRequests m c).installRun m c else s
    let here := (s.cars.get c).pos
    s.updAxis k fun a =>
      let a := a.post s.tick.t0 here
      if a.state = .idle || a.state = .start then { a with refPos := here } else a
  else
    let s := if drive then s.doorRequests m (laneSide k) else s
    s.updAxis k fun a =>
      let a := if a.state = .idle && !a.segs.isEmpty then { a with planT := a.tauAt s.tick.t0 + 2000 } else a
      doorEnd (a.post s.tick.t0 a.refPos)

/-- The coming T0 is the car's slot: a step of R163 acts at the computation there (log 20). -/
def comingSlot (s : State) (c : Fin 16) : Bool := (s.tick.t0 + 1).toNat % 8 = c.val % 8

/-- BRAKE_LIFT_WAIT (R163 step 3): BRAKE_LIFT has run since step 2 at the coming computation of the car, which installs the plan. -/
def brakeLiftWait (s : State) (c : Fin 16) : State :=
  match s.model with
  | none => s
  | some m =>
    let k := hoist c
    let a := s.axes.get k
    let t := s.tick.t0 + 1
    match a.magAt with
    | some mag =>
      if a.state = .start && s.comingSlot c && (m.hoists.get c).brakeLift * 40 ≤ (t - mag).toNat then
        s.updAxis k fun a => { a with due := true }
      else s
    | none => s

/-- PLAN_END (R163 step 4): τ of the coming computation reaches the plan's end. -/
def planEnd (s : State) (c : Fin 16) : State :=
  let k := hoist c
  let a := s.axes.get k
  let t := s.tick.t0 + 1
  if a.moving && s.comingSlot c && planLen a.segs ≤ a.tauAt t + 2000 then
    let e := (a.segs.getLast?).elim a.refPos (·.endPos)
    let s := s.updAxis k fun a =>
      { a with state := .end_, fHold := true, endAt := some t, landed := a.state == .run, refPos := e, refVel := 0, refAcc := 0 }
    let s := s.updLv c fun l => { l with req := { l.req with drop := true } }
    if a.state = .run && (s.model.any fun m => m.landings.any (·.level = a.target)) && (s.cars.get c).spec.kind = .none then
      s.updCar c fun cp => { cp with levelDue := some a.target }
    else s
  else s

/-- The bytes 16 to 55 of an ENERGY record (R478). -/
def energyBody (s : State) (m : Model) (c : Fin 16) (a : Axis) : List Byte :=
  let e := a.energy
  let dest := s.zoneLanding m c
  let wh (x : Nat) : Nat := (x + 18000000) / 36000000
  leBytes 4 a.runId.toNat ++ leBytes 1 e.from_ ++ leBytes 1 dest ++
  leBytes 1 (b2n e.incomplete + 2 * b2n e.mstop + 4 * b2n (dest = 0xFF)) ++ leBytes 1 e.mode ++ leBytes 2 e.load ++ leBytes 2 0 ++
  leBytes 4 e.startT0.toNat ++ leBytes 4 (s.tick.t0 + 1).toNat ++ leBytes 4 (wh e.mot) ++ leBytes 4 (wh e.reg) ++
  leBytes 4 ((s.cars.get c).pos - e.startPos).natAbs ++ leBytes 4 (w32 e.pMax).toNat ++ leBytes 4 (w32 e.pMin).toNat

/-- The ENERGY record of a run that ends (R478): it is written after the CAR records of its T1 (R475). -/
def putEnergy (s : State) (m : Model) (c : Fin 16) : State :=
  s.updHi fun h => { h with energyDue := h.energyDue ++ [(c.val, s.energyBody m c (s.axes.get (hoist c)))] }

/-- The RUN command of a car ends with its run (R468). -/
def endRunCmd (s : State) (c : Fin 16) (landed : Bool) : State :=
  match (s.modes.get c).runCmd with
  | none => s
  | some e =>
    let s := s.updMode c fun m => { m with runCmd := none }
    if landed then s.finish e .done 0 (w32 (s.cars.get c).levelErr) else s.finish e .aborted (s.lv.get c).first.toNat

/-- BRAKE_DROP_WAIT (R163 step 5): the run ends at the coming computation. -/
def brakeDropWait (s : State) (c : Fin 16) : State :=
  match s.model with
  | none => s
  | some m =>
    let k := hoist c
    let a := s.axes.get k
    match a.endAt with
    | none => s
    | some e =>
      if a.state = .end_ && s.comingSlot c && (m.hoists.get c).brakeDrop * 40 ≤ (s.tick.t0 + 1 - e).toNat then
        let s := s.putEnergy m c
        let s := s.updAxis k fun a => { a with state := .idle, fRun := false, fHold := false, endAt := none }
        let s := s.updLv c fun l => { l with req := { l.req with runEnd := true } }
        s.endRunCmd c a.landed
      else s

/-- START_FAILURE (R164): MAGNETISED has not appeared 250 T1 after step 1. -/
def startFailure (s : State) (c : Fin 16) : State :=
  let k := hoist c
  let a := s.axes.get k
  if a.state = .start && a.magAt.isNone && 250 ≤ a.startWait then
    let n := a.failures + 1
    let s := s.updAxis k fun a => { a with state := .idle, fRun := false, fHold := false, held := none, due := false, failures := n }
    let s := s.updLv c fun l => { l with req := { l.req with runEnd := true } }
    let s := if 3 ≤ n then s.updCar c fun cp => { cp with holds := { cp.holds with start := true } } else s
    (s.positionEvent c 5 n).endRunCmd c false
  else s

/-- Energy of one accepted feedback frame (R181). -/
def addEnergy (e : Energy) (sof : BitVec 32) (p : Int) : Energy :=
  let dt := e.lastSof.elim 0 fun l => min (sof - l).toNat 4000
  { e with lastSof := some sof, mot := if 0 < p then e.mot + p.natAbs * dt else e.mot,
           reg := if p < 0 then e.reg + p.natAbs * dt else e.reg,
           pMax := if e.any then max e.pMax p else p, pMin := if e.any then min e.pMin p else p, any := true }

end State

/-- BRAKE_LIFT_WAIT, R163. -/
def execBrakeLiftWait (c : Fin 16) (s : State) : Out := .next (s.brakeLiftWait c)
/-- PLAN_END, R163. -/
def execPlanEnd (c : Fin 16) (s : State) : Out := .next (s.planEnd c)
/-- BRAKE_DROP_WAIT, R163. -/
def execBrakeDropWait (c : Fin 16) (s : State) : Out := .next (s.brakeDropWait c)
/-- START_FAILURE, R164. -/
def execStartFailure (c : Fin 16) (s : State) : Out := .next (s.startFailure c)

end Sys2Proof.Machine
end

