-- ==== Sys2Proof/Machine/Control.lean ====
section
/-! DEFINITION. The control engine (06): the control law of every lane, test-signal injection, the capture units and
identification. -/

namespace Sys2Proof.Machine

/-- The gain set of a region (R189, R192). -/
def GainRec.setOf (g : GainRec) (region : Nat) : Fin 4 := Fin.ofNat 4 (g.regionMap.toNat / 4 ^ region)

/-- Region of a hoist lane (R192). -/
def hoistRegion (g : GainRec) (pRef vRef aRef target : Int) : Fin 4 :=
  if vRef.natAbs ≤ g.regA.natAbs then 0
  else if (target - pRef).natAbs ≤ g.regB.natAbs then 3
  else if 0 < aRef * vRef then 1
  else 2

/-- Region of a door lane (R192). -/
def doorRegion (g : GainRec) (pRef vRef aRef : Int) : Fin 4 :=
  if pRef ≤ 500 && vRef ≤ 0 then 3
  else if 0 < vRef && 0 < aRef then 0
  else if vRef < 0 && pRef ≤ g.regA then 2
  else 1

/-- R193 `rescale`. -/
def rescale (gr : GainRec) (l : Lane) (g : Fin 4) (e ev vr : Int) : Lane :=
  let f := gr.sets.get l.set
  let n := gr.sets.get g
  let uo := qmul f.kvf vr + qmul f.kp e + qmul f.kd ev + qmul f.ki l.integ + l.bias
  let raw := uo - qmul n.kvf vr - qmul n.kp e - qmul n.kd ev
  let b := clamp raw (-gr.iMax) gr.iMax
  { l with integ := if n.ki ≠ 0 then rdiv (b * 65536) n.ki else 0, bias := if n.ki ≠ 0 then 0 else b, set := g,
           evSwitch := l.evSwitch + 1, iHold := decide (b ≠ raw) }

/-- What a computation of the law takes. -/
structure LawIn where
  pRef   : Int
  vRef   : Int
  pM     : Int
  vM     : Int
  injPos : Int
  injVel : Int
  injOut : Int
  region : Fin 4

/-- R190 `lane()`: the lane with its errors, flags and uc. -/
def law (gr : GainRec) (l : Lane) (x : LawIn) : Lane :=
  let pr := x.pRef + x.injPos
  let vr := x.vRef + x.injVel
  let e := pr - x.pM - rdiv x.vM 500
  let ev := vr - x.vM
  let g := gr.setOf x.region.val
  let l := { l with iHold := false, region := x.region }
  let l := if g ≠ l.set then rescale gr l g e ev vr else l
  let k := gr.sets.get g
  let i0 := clamp (l.integ + e) (-2147483647) 2147483647
  let t0 := qmul k.ki i0
  let beyond := gr.iMax < (t0.natAbs : Int)
  let i1 := if beyond then l.integ else i0
  let it := if beyond then clamp (qmul k.ki i1) (-gr.iMax) gr.iMax else t0
  let fb := qmul k.kp e + qmul k.kd ev + it + l.bias
  let fbc := clamp fb (-gr.corrMax) gr.corrMax
  let u := qmul k.kvf vr + fbc + x.injOut
  let uc := clamp u (-gr.uMax) gr.uMax
  let held := (fbc ≠ fb || uc ≠ u) && sgn e = sgn u
  { l with integ := if held then l.integ else i1, uc := uc, itTerm := it, err := e, fe := e - x.injPos, verr := ev,
           sat := decide (uc ≠ u), fbClamp := decide (fbc ≠ fb), iHold := l.iHold || held || beyond }

/-- The integrator, bias and set as in IDLE (R194). -/
def Lane.clear (l : Lane) (gr : GainRec) : Lane := { l with integ := 0, bias := 0, set := gr.setOf 0 }

/-- Injection value of computation `i` (R204) and the PRBS register after it. -/
def injValue (j : Inject) : Int × BitVec 15 :=
  match j.signal with
  | 1 =>
    let v := if j.q.getLsbD 0 then j.ampl else -j.ampl
    let next := (j.q <<< 1) ||| (if j.q.getLsbD 14 != j.q.getLsbD 13 then 1 else 0)
    (v, if j.p1 ≠ 0 && (j.i + 1) % j.p1 = 0 then next else j.q)
  | 2 =>
    let n := F64.ofInt
    let step := (n 2).div (n 1000)
    let t := step.mul (n j.i)
    let tt := step.mul (n j.dur)
    let df := n ((j.p2 : Int) - j.p1)
    let ph := ((n j.p1).mul t).add ((df.mul (t.mul t)).div ((n 2).mul tt))
    let arg := (((n 2).mul pi).mul ph).div (n 100)
    (((n j.ampl).mul arg.sin).round, j.q)
  | _ => (j.ampl, j.q)
where
  /-- The binary64 number nearest to π. -/
  pi : F64 := ⟨7074237752028440, -51⟩

namespace State

/-- Every injection of R205 ends here: result, status register and the command's completion (R205, R468). -/
def endInjection (s : State) (k : Fin 48) (code : Nat) (st : CplStatus) (result : BitVec 32 := 0) : State :=
  match (s.lanes.get k).injection with
  | none => s
  | some j =>
    let s := s.updLane k fun l => { l with injection := none }
    let s := match j.identify with
      | some u => s.updCapu u fun c => { c with state := 0, taken := [] }
      | none => s
    let s := { s with injStat := { lane := BitVec.ofNat 6 k.val, result := BitVec.ofNat 8 code, done := BitVec.ofNat 16 (min j.i 65535) } }
    s.finish j.e st code result

/-- Abort an injection (R205). -/
def abortInjection (s : State) (k : Fin 48) (code : Nat) : State := s.endInjection k code .aborted

/-- The hoist load condition of code 0x11 (R205): load weighing, a report not more than 100 ms old, load at most 3 % of CAPACITY. -/
def injectLoadOk (s : State) (m : Model) (c : Fin 16) : Bool :=
  match m.car? c, s.nodeConn? m c .ctn with
  | some r, some (_, cn) =>
    r.loadWeigh && cn.data.any && connUp cn && decide ((s.tick.t0 - cn.data.loadT0).toNat ≤ 400) &&
      decide (cn.data.ctn.load ≠ 0xFFFF) && decide (cn.data.ctn.load.toNat * 100 ≤ r.capacity * 3)
  | _, _ => false

/-- The load term of R195. -/
def loadTerm (s : State) (m : Model) (c : Fin 16) (g : GainRec) : Int :=
  match m.car? c, s.nodeConn? m c .ctn with
  | some r, some (_, cn) =>
    if r.loadWeigh && cn.data.any && decide ((s.tick.t0 - cn.data.loadT0).toNat < 400) && cn.data.ctn.load ≠ 0xFFFF then
      qmul g.p2 ((cn.data.ctn.load.toNat : Int) - g.p3)
    else 0
  | _, _ => 0

/-- A capture unit waits for a trigger on a lane or port. -/
def waits (c : Capu) (trig : Nat) : Bool := c.en && (c.state = 2) && c.rwc.trig.val = trig

/-- Fire the capture units that wait for a trigger on a lane (R208). -/
def fireLane (s : State) (trig : Nat) (k : Fin 48) : State :=
  s.each (idx 4) fun s u => s.updCapu u fun c =>
    if waits c trig && c.rwc.rate = 0 && c.rwc.unitSel.toNat = k.val then { c with fired := true } else c

/-- The car a capture unit's lane or port belongs to. -/
def capuCar (m : Model) (c : Capu) : Option Nat :=
  if c.rwc.rate = 0 then (if c.rwc.unitSel.toNat < 48 then some (c.rwc.unitSel.toNat % 16) else none)
  else (m.ports.get? c.rwc.unitSel.toNat).map (·.car)

/-- Fire the units whose car has a new SF1 demand (R208). -/
def fireSf1 (s : State) (c : Fin 16) : State :=
  match s.model with
  | none => s
  | some m => s.each (idx 4) fun s u => s.updCapu u fun q =>
    if waits q 5 && capuCar m q = some c.val then { q with fired := true } else q

/-- Fire the units that wait for a compare hit on a port (R208). -/
def fireCompare (s : State) (n : Fin 48) : State :=
  s.each (idx 4) fun s u => s.updCapu u fun c => if waits c 2 && c.rwc.trigPort.toNat = n.val then { c with fired := true } else c

/-- A unit takes one sample (R207, R208): before the trigger it keeps CAPU_PRE of them. -/
def pushSample (c : Capu) (bytes : List Byte) : Capu :=
  if c.state = 1 || c.state = 2 then
    if c.rwc.stream then c
    else
      let l := c.samples ++ [bytes]
      let l := l.drop (l.length - c.rwc.pre.toNat)
      { c with samples := l, state := if c.rwc.pre.toNat ≤ l.length then 2 else 1 }
  else if c.state = 3 then
    let c := { c with samples := c.samples ++ [bytes], count := c.count + 1 }
    if !c.rwc.stream && 8192 - c.rwc.pre.toNat ≤ c.count.toNat then { c with state := 4 } else c
  else c

/-- DECIM (R214): whether this occasion is sampled. -/
def decimate (c : Capu) (bytes : List Byte) : Capu :=
  let d := max 1 c.rwc.decim.toNat
  if d ≤ c.skip + 1 then { pushSample c bytes with skip := 0 } else { c with skip := c.skip + 1 }

/-- The selected signals of a RATE 0 or 1 sample, ascending (R207, R480). -/
def sampleBytes (t0 : BitVec 32) (sig : BitVec 12) (vals : List Int) : List Byte :=
  leBytes 4 t0.toNat ++ ((List.range 12).zip vals).flatMap fun p =>
    if sig.getLsbD p.1 then leBytes 4 (w32 p.2).toNat else []

/-- CE_STAT (R213). -/
def ceStat (s : State) (k : Fin 48) : BitVec 32 :=
  let l := s.lanes.get k
  let act := s.model.any fun m => (m.gains.get k).kind ≠ 0
  BitVec.ofNat 32 (l.set.val + 4 * l.region.val + 2 ^ 4 * packBits
    [l.sat, l.fbClamp, l.iHold, l.feOver, l.fValid, l.injecting, l.repeat_] + 2 ^ 11 * min l.drops 2 + 2 ^ 13 * b2n act)

/-- Sample the lane of a completed computation (R207). -/
def sampleLane (s : State) (k : Fin 48) (ff : Int) (pm vm : Int) : State :=
  let l := s.lanes.get k
  let a := s.axes.get k
  let vals := [a.refPos, a.refVel, a.refAcc, pm, vm, l.err, l.verr, if isHoist k then l.uc else l.out, l.itTerm, ff, l.inj,
    ((s.ceStat k).toNat : Int)]
  s.each (idx 4) fun s u => s.updCapu u fun c =>
    if c.en && c.state ≠ 0 && c.state ≠ 6 && c.rwc.rate = 0 && c.rwc.unitSel.toNat = k.val then
      decimate c (sampleBytes s.tick.t0 c.rwc.sig vals)
    else c

/-- The identification record of a computation that injects (R210). -/
def recordIdentify (s : State) (k : Fin 48) (vm cur : Int) : State :=
  match (s.lanes.get k).injection with
  | some j =>
    match j.identify with
    | some u =>
      if (s.lanes.get k).injecting then
        s.updCapu u fun c =>
          if c.taken.length < 8192 then { c with taken := c.taken ++ [[(s.lanes.get k).uc, vm, (s.axes.get k).refAcc, cur]] } else c
      else s
    | none => s
  | none => s

/-- The injection value of this computation, advancing the injection and CE_INJ_STAT.DONE (R204, R206, R215): only in PG state RUN. -/
def injectNow (s : State) (k : Fin 48) : State × Int × Int × Int :=
  let none_ : State × Int × Int × Int := (s.updLane k fun l => { l with inj := 0, injecting := false }, 0, 0, 0)
  match (s.lanes.get k).injection with
  | none => none_
  | some j =>
    if j.started && (s.axes.get k).state = .run && j.i < j.dur then
      let (v, q) := injValue j
      let s := s.updLane k fun l => { l with inj := v, injecting := true, injection := some { j with i := j.i + 1, q := q } }
      let s := if s.injStat.lane.toNat = k.val then { s with injStat := { s.injStat with done := BitVec.ofNat 16 (min (j.i + 1) 65535) } } else s
      (s, if j.point = 1 then v else 0, if j.point = 2 then v else 0, if j.point = 3 then v else 0)
    else none_

/-- The record of a lane: latched, or the model's before its first run (R188). -/
def laneRec (s : State) (m : Model) (k : Fin 48) : GainRec := (s.lanes.get k).gain.getD (m.gains.get k)

/-- Following error books (R200, R213). -/
def noteFe (s : State) (k : Fin 48) (g : GainRec) : State :=
  let l := s.lanes.get k
  let beyond := g.feLimit < (l.fe.natAbs : Int)
  let st := (s.axes.get k).state
  let s := s.updLane k fun l =>
    { l with feOver := beyond, evFe := if beyond then l.evFe + 1 else l.evFe,
             feRun := if beyond && (st = .run || st = .stopping) then l.feRun + 1 else 0 }
  if beyond then s.fireLane 3 k else s

/-- A hoist lane's computation (R194, R195). -/
def hoistLane (s : State) (m : Model) (k : Fin 48) : State :=
  let g := s.laneRec m k
  let a := s.axes.get k
  let c := laneCar k
  let cp := s.cars.get c
  let (s, ip, iv, io) := s.injectNow k
  let l := s.lanes.get k
  let x : LawIn := { pRef := a.refPos, vRef := a.refVel, pM := cp.pos, vM := cp.vel, injPos := ip, injVel := iv, injOut := io,
                     region := hoistRegion g a.refPos a.refVel a.refAcc a.target }
  let n := law g l x
  let moving := a.moving && !l.stopped
  let lt := s.loadTerm m c g
  let ff := if moving then clamp (qmul g.p1 a.refAcc + lt) (-3000) 3000
    else if a.state = .idle || l.stopped then 0 else clamp lt (-3000) 3000
  let l' := if moving then { n with out := n.uc, aux := ff }
    else
      let l := { l with err := n.err, fe := n.fe, verr := n.verr, region := n.region, uc := 0, itTerm := 0, out := 0, aux := ff, sat := false,
                        fbClamp := false, iHold := false }
      if a.state = .end_ && !l.stopped then { l with iHold := true } else l.clear g
  let s := s.updLane k fun _ =>
    { l' with lastT0 := s.tick.t0, drops := 0, repeat_ := false, evSat := if l'.sat then l'.evSat + 1 else l'.evSat }
  let s := if l'.evSwitch ≠ l.evSwitch then s.fireLane 4 k else s
  let s := s.noteFe k g
  (s.recordIdentify k cp.vel 0).sampleLane k ff cp.pos cp.vel

/-- F_EST of R198. -/
def forceEst (g : GainRec) (mass : Int) (cur aRef vm dir : Int) : Int :=
  dir * (rdiv (g.p1 * cur) (100 * 65536) - rdiv (mass * aRef) 10000 - rdiv (g.p4 * vm) (1000 * 65536) - g.p3 * sgn vm)

/-- The microstep conversion of R196 and R197. -/
def stepCount (g : GainRec) (l : Lane) : Lane :=
  let total := l.frac + l.uc * g.p2
  let unit : Int := 500 * 65536
  let steps := total / unit
  if 32767 < steps.natAbs then { l with out := clamp steps (-32767) 32767, frac := 0, sat := true }
  else { l with out := steps, frac := total - steps * unit }

/-- A door lane's computation (R196 to R199): it sends its count in QUIET and STRONG only, and a stopped one clears its state (R201). -/
def doorLane (s : State) (m : Model) (k : Fin 48) : State :=
  let g := s.laneRec m k
  let a := s.axes.get k
  let d := laneSide k
  let sd := s.sides.get d
  let (s, ip, iv, io) := s.injectNow k
  let l := s.lanes.get k
  let x : LawIn := { pRef := a.refPos, vRef := a.refVel, pM := sd.pm, vM := sd.vm, injPos := ip, injVel := iv, injOut := io,
                     region := doorRegion g a.refPos a.refVel a.refAcc }
  let n := law g l x
  let sends := (sd.mode = .quiet || sd.mode = .strong) && !l.stopped
  let l' := if sends then stepCount g n
    else if l.stopped then { { n with out := 0, evSwitch := l.evSwitch, frac := 0 } with iHold := false }.clear g
    else { n with out := 0, integ := l.integ, bias := l.bias, set := l.set, evSwitch := l.evSwitch, iHold := true }
  let dir := if a.refVel ≠ 0 then sgn a.refVel else l.dir
  let f := if sd.replyNew then forceEst g (doorMass m d) sd.current a.refAcc sd.vm dir else l.aux
  let l' := { l' with aux := f, fValid := sd.replyNew, dir := dir }
  let s := s.updLane k fun _ =>
    { l' with lastT0 := s.tick.t0, drops := 0, repeat_ := false, evSat := if l'.sat then l'.evSat + 1 else l'.evSat }
  let s := if l'.evSwitch ≠ l.evSwitch then s.fireLane 4 k else s
  let s := s.noteFe k g
  (s.recordIdentify k sd.vm sd.current).sampleLane k f sd.pm sd.vm

/-- The CE part of one lane; a lane of KIND 0 is not computed (R187). -/
def ceLane (s : State) (m : Model) (k : Fin 48) : State :=
  if (m.gains.get k).kind = 0 then s else if isHoist k then s.hoistLane m k else s.doorLane m k

/-- A computation of a lane is dropped (R31, R201): the output repeats, an injection ends (R205). -/
def dropLane (s : State) (k : Fin 48) : State :=
  if s.model.any (fun m => (m.gains.get k).kind = 0) then s
  else (s.updLane k fun l => { l with drops := l.drops + 1, repeat_ := true, evRep := l.evRep + 1, missNow := true }).abortInjection k 0x21

/-- An injection that waits counts its time; what ends one in a T0 (R205): mode, load, run end, FE_OVER. A stop request ends it
where it is ordered. -/
def watchInjection (s : State) (m : Model) (k : Fin 48) : State :=
  match (s.lanes.get k).injection with
  | none => s
  | some j =>
    let c := laneCar k
    let a := s.axes.get k
    if (s.modes.get c).mode ≠ 11 || (isHoist k && !s.injectLoadOk m c) then s.abortInjection k 0x20
    else if (s.lanes.get k).feOver || a.state = .stopping || a.state = .mstop || a.req.cstop || a.req.istop || (s.lv.get c).mstop then
      s.abortInjection k 0x21
    else if j.started && j.i < j.dur && a.state ≠ .run then s.abortInjection k 0x22
    else s.updLane k fun l => { l with injection := some { j with wait := j.wait + 1 } }

/-- INJECTION_START (R206): the axis is in RUN, so the coming computation injects. The units of the injection's CAPU mask refer
to this lane (R203). -/
def injectionStart (s : State) (k : Fin 48) : State :=
  match (s.lanes.get k).injection with
  | none => s
  | some j =>
    if !j.started && (s.axes.get k).state = .run then
      let s := (s.updLane k fun l => { l with injection := some { j with started := true, set0 := l.set } }).fireLane 1 k
      s.each (idx 4) fun s u => s.updCapu u fun c => if waits c 1 && j.capu.getLsbD u.val then { c with fired := true } else c
    else s

/-- INJECTION_COMPLETE (R205): DURATION computations have been injected. An identification goes on to its fit. -/
def injectionComplete (s : State) (k : Fin 48) : State :=
  match (s.lanes.get k).injection with
  | none => s
  | some j =>
    if j.started && j.dur ≤ j.i then
      match j.identify with
      | none => s.endInjection k 0x02 .done
      | some _ =>
        { s with injStat := { lane := BitVec.ofNat 6 k.val, result := 2, done := BitVec.ofNat 16 (min j.i 65535) } }
    else s

/-- INJECTION_WAIT_TIMEOUT (R205): no run has started within 60 s of acceptance. -/
def injectionWaitTimeout (s : State) (k : Fin 48) : State :=
  match (s.lanes.get k).injection with
  | none => s
  | some j => if !j.started && 30000 ≤ j.wait then s.abortInjection k 0x22 else s

/-! Identification (R211, R212). -/

/-- The sum of products of two lists in order. -/
def dot (xs ys : List F64) : F64 := (xs.zip ys).foldl (fun t p => t.add (p.1.mul p.2)) F64.zero

/-- Two-parameter least squares by the normal equations; none when singular. -/
def lsq2 (x1 x2 y : List F64) : Option (F64 × F64) :=
  let a := dot x1 x1
  let b := dot x1 x2
  let d := dot x2 x2
  let p := dot x1 y
  let q := dot x2 y
  let det := (a.mul d).sub (b.mul b)
  if det.m = 0 then none else some ((((p.mul d).sub (q.mul b)).div det), (((a.mul q).sub (b.mul p)).div det))

/-- A 3 by 3 determinant. -/
def det3 (a b c d e f g h i : F64) : F64 :=
  ((a.mul ((e.mul i).sub (f.mul h))).sub (b.mul ((d.mul i).sub (f.mul g)))).add (c.mul ((d.mul h).sub (e.mul g)))

/-- Three-parameter least squares by the normal equations; none when singular. -/
def lsq3 (x1 x2 x3 y : List F64) : Option (F64 × F64 × F64) :=
  let a := dot x1 x1
  let b := dot x1 x2
  let c := dot x1 x3
  let d := dot x2 x2
  let e := dot x2 x3
  let f := dot x3 x3
  let p := dot x1 y
  let q := dot x2 y
  let r := dot x3 y
  let det := det3 a b c b d e c e f
  if det.m = 0 then none
  else some ((det3 p b c q d e r e f).div det, (det3 a p c b q e c r f).div det, (det3 a b p b d q c e r).div det)

/-- Sum of squared residuals of the hoist fit. -/
def resid (x1 x2 y : List F64) (a b : F64) : F64 :=
  ((x1.zip x2).zip y).foldl (fun t q => let r := (q.2.sub (a.mul q.1.1)).sub (b.mul q.1.2); t.add (r.mul r)) F64.zero

/-- The hoist fit for one delay: the residual and the parameters. -/
def hoistFit (v u : List F64) (d : Nat) : Option (F64 × Nat × F64 × F64) :=
  let n := v.length - 1 - d
  let x1 := (v.drop d).take n
  let x2 := u.take n
  let y := (v.drop (d + 1)).take n
  (lsq2 x1 x2 y).map fun p => (resid x1 x2 y p.1 p.2, d, p.1, p.2)

/-- A value in Q16.16 within a range. -/
def toQ (x : F64) (lo hi : Int) : Int := clamp (x.mul (F64.ofInt 65536)).round lo hi

/-- The hoist proposal's gain set (R211). -/
def fitHoist (recs : List (List Int)) : Option GainSet :=
  let n := F64.ofInt
  let u := recs.map fun r => n (r.getD 0 0)
  let v := recs.map fun r => n (r.getD 1 0)
  let fits := [0, 1, 2, 3, 4].filterMap (hoistFit v u)
  match firstMin (fun a b => a.1.lt b.1) fits with
  | none => none
  | some (_, d, a, b) =>
    if !(F64.zero.lt a && a.lt (n 1) && F64.zero.lt b) then none
    else
      let k := b.div ((n 1).sub a)
      let ms2 := (n 2).div (n 1000)
      let l := (ms2.neg.div a.ln).add (ms2.mul (n d))
      let w := (n 1).div ((n 2).mul l)
      some { kvf := toQ ((n 1).div k) 0 0x20000, kp := toQ (w.div k) 0 0x640000,
             ki := toQ ((ms2.mul (w.mul w)).div ((n 4).mul k)) 0 0x100000, kd := 0 }

/-- The door fit (R211): M as Q16.16 kg, B and FC as the fields P4 and P3. -/
def fitDoor (g : GainRec) (recs : List (List Int)) : Option (Int × Int × Int) :=
  let n := F64.ofInt
  let rs := recs.filter fun r => 100 ≤ (r.getD 1 0).natAbs
  let y := rs.map fun r => n (rdiv (g.p1 * r.getD 3 0) (100 * 65536))
  match lsq3 (rs.map fun r => n (r.getD 2 0)) (rs.map fun r => n (r.getD 1 0)) (rs.map fun r => n (sgn (r.getD 1 0))) y with
  | none => none
  | some (mm, b, fc) =>
    if F64.zero.lt mm && F64.zero.le b && F64.zero.le fc then
      some (((mm.mul (n 1000)).mul (n 65536)).round, clamp ((b.mul (n 1000)).mul (n 65536)).round 0 0xC80000, clamp fc.round 0 2000)
    else none

/-- A GAINS record's 96 bytes (R189). -/
def gainBytes (g : GainRec) : List Byte :=
  let w (n : Nat) (x : Int) : List Byte := leBytes n (w32 x).toNat
  leBytes 1 g.kind ++ leBytes 1 g.regionMap.toNat ++ w 2 g.corrMax ++ w 4 g.uMax ++ w 2 g.iMax ++ w 2 g.feLimit ++ w 2 g.regA ++
  w 2 g.regB ++ w 4 g.p1 ++ w 4 g.p2 ++ w 2 g.p3 ++ leBytes 2 0 ++ w 4 g.p4 ++
  (idx 4).flatMap fun j => let k := g.sets.get j; w 4 k.kvf ++ w 4 k.kp ++ w 4 k.ki ++ w 4 k.kd

/-- LEARN event (14 R473). -/
def learnEvent (s : State) (c : Fin 16) (kind src reason : Nat) (v : Int) : State := s.event4 0x000A c.val kind src reason v

/-- The fit's proposal (R212), or none. The second part is M for a door, 0 for a hoist. -/
def identifyProposal (g : GainRec) (hoist : Bool) (set0 : Fin 4) (recs : List (List Int)) : Option (GainRec × Int) :=
  if hoist then (fitHoist recs).map fun k => ({ g with sets := g.sets.put set0 k }, 0)
  else (fitDoor g recs).map fun p => ({ g with p4 := p.2.1, p3 := p.2.2 }, p.1)

/-- IDENTIFY_FIT (R211, R212). -/
def identifyFit (s : State) (k : Fin 48) : State :=
  match s.model, (s.lanes.get k).injection with
  | some m, some j =>
    match j.identify with
    | none => s
    | some u =>
      if !(j.started && j.dur ≤ j.i) then s
      else
        let c := laneCar k
        match identifyProposal (s.laneRec m k) (isHoist k) j.set0 (s.capus.get u).taken with
        | none => (s.learnEvent c 5 0 6 0).endInjection k 0x30 .failed
        | some (g, mass) =>
          let s := s.addProposal 0x0F c.val (if isHoist k then 0xFF else sideNo (laneSide k)) 1 (gainBytes g)
          (s.learnEvent c 4 0 0 mass).endInjection k 0x02 .done s.img.nextProp
  | _, _ => s

/-! Capture units. -/

/-- A pending capture commit is consistent (R207, R208). -/
def capuCommitOk (r : CapuRwc) : Bool :=
  let n := ((List.range 12).filter fun i => r.sig.getLsbD i).length
  r.rate ≠ 3 && r.trig.val < 6 && r.unitSel.toNat < 48 && r.trigPort.toNat < 48 &&
    (r.rate = 2 || (1 ≤ n && n ≤ 8)) && !(r.rate = 1 && 256 ≤ r.sig.toNat)

/-- CAPU_COMMIT (R207, R208): at the T0 boundary. The shadow then equals the values in force but for what was written after the COMMIT
(18 R582, log 170). -/
def commitCapu (s : State) (u : Fin 4) : State :=
  s.updCapu u fun c =>
    match c.commit with
    | none => c
    | some r =>
      if c.state = 6 || !capuCommitOk r then { c with commit := none, commitErr := true }
      else
        let c := { c with rwc := r, commit := none }
        if r.arm && c.en then
          { c with state := if !r.stream && r.pre ≠ 0 then 1 else 2, samples := [], count := 0, skip := 0, blockSeq := 0, dropped := 0,
                   last := false, fired := r.trig = 0 }
        else if c.state = 3 && r.stream then { c with state := 4, last := true }
        else { c with state := 0, samples := [], fired := false }

/-- CAPU_CTRL_WRITE (R214, R582). -/
def capuCtrlWrite (s : State) (u : Fin 4) (v : BitVec 32) : State :=
  if !s.hostUp then s
  else s.updCapu u fun c =>
    let sh := { c.shadow with arm := bit v 2, stream := bit v 3, rate := Fin.ofNat 4 (bits v 5 4), trig := Fin.ofNat 8 (bits v 8 6),
                              decim := BitVec.ofNat 8 (bits v 23 16) }
    let c := { c with shadow := sh }
    let c := if bit v 0 then { c with en := true }
      else if c.state = 6 then { c with en := false }
      else { c with en := false, state := 0, samples := [], fired := false, rwc := { c.rwc with arm := false } }
    if bit v 1 then (if c.state = 6 then { c with commitErr := true } else { c with commit := some sh }) else c

/-- CAPU_TRIGGER (R208): the unit's trigger has come while it is armed. -/
def capuTrigger (s : State) (u : Fin 4) : State :=
  s.updCapu u fun c =>
    if c.en && c.state = 2 && c.fired then { c with state := 3, fired := false, count := 0, trigT0 := s.tick.t0 } else c

/-- Record length of a unit (R480). -/
def recSize (r : CapuRwc) : Nat :=
  if r.rate = 2 then 8 else 4 + 4 * ((List.range 12).filter fun i => r.sig.getLsbD i).length

/-- The 4,096 bytes of a CAP block (R480). -/
def capBlock (source rate flags : Nat) (seq trig : BitVec 32) (sig size count : Nat) (dropped : BitVec 32) (body : List Byte) : List Byte :=
  leBytes 1 source ++ leBytes 1 rate ++ leBytes 2 flags ++ leBytes 4 seq.toNat ++ leBytes 4 trig.toNat ++ leBytes 2 sig ++
  leBytes 2 size ++ leBytes 2 count ++ leBytes 2 0 ++ leBytes 4 dropped.toNat ++ leBytes 8 0 ++ pad 4064 body

/-- A CAP block goes to the ring and takes a tag (01 R44), or, without room or tag, is dropped whole (R43, R209): the answer tells
which. -/
def putCap (s : State) (b : List Byte) : State × Bool :=
  if s.ringsRun && ringRoom (s.hi.rings.get 5) ≠ 0 && tagFree s.hi .cap then
    ({ s with hi := useTag { s.hi with rings := s.hi.rings.upd 5 (ringPut · b) } .cap }, true)
  else ({ s with hi := { s.hi with capDrop := s.hi.capDrop + 1 } }, false)

/-- CAPU_BLOCK_DELIVER (R208, R209): the next block of a unit that delivers. -/
def capuBlockDeliver (s : State) (u : Fin 4) : State :=
  let c := s.capus.get u
  let size := recSize c.rwc
  let per := 4064 / size
  let full := per ≤ c.samples.length
  if !(c.state = 4 || (c.state = 3 && c.rwc.stream && full)) then s
  else
    let n := min per c.samples.length
    let rest := c.samples.drop n
    let ends := c.state = 4 && rest.isEmpty
    let flags := b2n (c.blockSeq = 0) + 2 * b2n ends + 4 * b2n (c.dropped ≠ 0)
    let b := capBlock u.val c.rwc.rate.val flags c.blockSeq c.trigT0 c.rwc.sig.toNat size n c.dropped (c.samples.take n).flatten
    let (s, ok) := if s.pwr.derate then (s, false) else s.putCap b
    s.updCapu u fun c =>
      { c with samples := rest, blockSeq := c.blockSeq + 1, dropped := if ok then 0 else c.dropped + 1,
               drop := if ok then c.drop else c.drop + 1, ovr := c.ovr || !ok, state := if ends then 5 else c.state,
               rwc := if ends then { c.rwc with arm := false } else c.rwc }

/-- A RATE 2 sample of an accepted count edge (R207). -/
def sampleEdge (s : State) (n : Fin 48) : State :=
  let p := s.ports.get n
  s.each (idx 4) fun s u => s.updCapu u fun c =>
    if c.en && c.rwc.rate = 2 && c.rwc.unitSel.toNat = n.val && c.state ≠ 0 && c.state ≠ 6 then
      pushSample c (leBytes 4 p.edgeTs.toNat ++ leBytes 4 p.count.toNat)
    else c

/-- The host's INJECT parameter block (R203) is in range for a lane; what CAPU's reserved bits hold is ignored (R11). -/
def injectParams (g : GainRec) (p : List Byte) (identify : Bool) : Bool :=
  let point := fld p 1 1
  let sig := fld p 2 1
  let a := sfld p 4 4
  let dur := fld p 8 4
  let p1 := fld p 12 2
  let p2 := fld p 14 2
  1 ≤ point && point ≤ 3 && 1 ≤ sig && sig ≤ 3 && a ≠ 0 &&
    (if point = 1 then 2 * (a.natAbs : Int) ≤ g.feLimit else (a.natAbs : Int) ≤ g.corrMax) && 1 ≤ dur && dur ≤ 65535 &&
    (if sig = 1 then 1 ≤ p1 && p1 ≤ 64 && 1 ≤ p2 && p2 ≤ 0x7FFF
     else if sig = 2 then 1 ≤ p1 && p1 ≤ 25000 && 1 ≤ p2 && p2 ≤ 25000 else p1 = 0 && p2 = 0) &&
    zeroAt p 16 16 && (!identify || (sig = 1 && point = 3))

/-- The injection of a parameter block. -/
def injectOf (e : CmdEntry) (u : Option (Fin 4)) (set0 : Fin 4) : Inject :=
  let p := e.param
  { point := fld p 1 1, signal := fld p 2 1, capu := BitVec.ofNat 4 (fld p 3 1), ampl := sfld p 4 4, dur := fld p 8 4, p1 := fld p 12 2,
    p2 := fld p 14 2, started := false, i := 0, q := BitVec.ofNat 15 (fld p 14 2), wait := 0, identify := u, set0 := set0, e := e }

/-- The free capture unit of lowest number (R210). -/
def freeCapu (s : State) : Option (Fin 4) :=
  (idx 4).find? fun u => let c := s.capus.get u; (c.state = 0 || c.state = 5) && c.commit.isNone

/-- Why an injection is refused (R205), in the order of the checks of 14 R467 that the codes stand for; an absent lane is named first,
since its record gives no range. -/
def injectCode (s : State) (m : Model) (k : Fin 48) (e : CmdEntry) (identify : Bool) : Option Nat :=
  let c := laneCar k
  if (m.gains.get k).kind = 0 then some 0x13
  else if !injectParams (s.laneRec m k) e.param identify then some 0x12
  else if s.mod ≠ .active || s.isRetired (.lane k) then some 0x13
  else if (s.modes.get c).mode ≠ 11 then some 0x10
  else if isHoist k && !s.injectLoadOk m c then some 0x11
  else if (s.lanes.get k).injection.isSome then some 0x13
  else if identify && s.freeCapu.isNone then some 0x14
  else none

/-- INJECT and IDENTIFY (R203, R205, R210), once their entry may start. -/
def startInject (s : State) (e : CmdEntry) (identify : Bool) : State :=
  let lane := fld e.param 0 1
  match s.model, unitAt 48 lane .lane with
  | some m, some (.lane k) =>
    match s.injectCode m k e identify with
    | some code =>
      { s with injStat := { lane := BitVec.ofNat 6 lane, result := BitVec.ofNat 8 code, done := 0 } }.answer e .refused code
    | none =>
      let u := if identify then s.freeCapu else none
      let s := match u with
        | some u => s.updCapu u fun c => { c with state := 6, taken := [], samples := [] }
        | none => s
      let s := s.updLane k fun l => { l with injection := some (injectOf e u l.set) }
      { s with injStat := { lane := BitVec.ofNat 6 lane, result := 1, done := 0 } }.startRunning e
  | none, some _ => { s with injStat := { s.injStat with result := 0x13 } }.answer e .refused 0x13
  | _, _ => { s with injStat := { s.injStat with result := 0x12 } }.answer e .refused 0x12

/-- PORT_EDGE: the edge, then the capture units that sample it or wait for its compare hit (06 R207, R208). -/
def takeEdge (s : State) (n : Fin 48) (lv : BitVec 2) (held : Nat) (ts : BitVec 32) : State :=
  let t := s.portEdge n lv held ts
  let t := if (t.ports.get n).evCmp ≠ (s.ports.get n).evCmp then t.fireCompare n else t
  if (t.ports.get n).count ≠ (s.ports.get n).count then t.sampleEdge n else t

end State

/-- PORT_EDGE, R108. -/
def execPortEdge (n : Fin 48) (x : PortLines) (ts : BitVec 32) (s : State) : Out := .next (s.takeEdge n x.lv x.held ts)
/-- INJECTION_START, R206. -/
def execInjectionStart (k : Fin 48) (s : State) : Out := .next (s.injectionStart k)
/-- INJECTION_COMPLETE, R205. -/
def execInjectionComplete (k : Fin 48) (s : State) : Out := .next (s.injectionComplete k)
/-- INJECTION_WAIT_TIMEOUT, R205. -/
def execInjectionWaitTimeout (k : Fin 48) (s : State) : Out := .next (s.injectionWaitTimeout k)
/-- IDENTIFY_FIT, R211. -/
def execIdentifyFit (k : Fin 48) (s : State) : Out := .next (s.identifyFit k)
/-- CAPU_TRIGGER, R208. -/
def execCapuTrigger (u : Fin 4) (s : State) : Out := .next (s.capuTrigger u)
/-- CAPU_BLOCK_DELIVER, R209. -/
def execCapuBlockDeliver (u : Fin 4) (s : State) : Out := .next (s.capuBlockDeliver u)
/-- CAPU_CTRL_WRITE, R214. -/
def execCapuCtrlWrite (u : Fin 4) (v : BitVec 32) (s : State) : Out := .next (s.capuCtrlWrite u v)

end Sys2Proof.Machine
end

