-- ==== Sys2Proof/Machine/Buses.lean ====
section
/-! DEFINITION. The message buses K0 to K11 (13): bit timing, rate detection, sending, errors, channel states, sleep and wake. -/

namespace Sys2Proof.Machine

/-- Time quanta of a nominal bit times the prescaler: the nominal rate is 80 MHz over it (R424). -/
def BusRec.nomDiv (r : BusRec) : Nat := r.nbrp * (1 + r.ntseg1 + r.ntseg2)
/-- The same for the data phase. -/
def BusRec.datDiv (r : BusRec) : Nat := r.dbrp * (1 + r.dtseg1 + r.dtseg2)

/-- The data rate is above 1,000 kbit/s with BRS (R427): the loop delay is measured. -/
def BusRec.measures (r : BusRec) : Bool := r.brs && decide (r.datDiv < 80)

/-- Candidate rates of the sweep [kbit/s] (R428). -/
def sweepRates : List Nat := [1000, 800, 500, 250, 125, 100, 50, 20, 10]

/-- Data bytes a CAN FD frame of `n` bytes carries (R430). -/
def fdLen (n : Nat) : Nat := if n ≤ 8 then n else ([12, 16, 20, 24, 32, 48, 64].find? (n ≤ ·)).getD 64

/-- 80 MHz over a divisor in kbit/s, its rounding left open (log 9). -/
def rateOf (d : Nat) (free : BitVec 64) : Nat :=
  if d = 0 then 0 else if 80000 % d = 0 then 80000 / d else 80000 / d + free.toNat % 2

/-- The frame the controller offers to arbitration (R432), as an index in the list. `only1` leaves class 1 alone (R448). -/
def offered (txq txord only1 : Bool) (b : Bus) : Option Nat :=
  let l := (List.range b.tx.length).zip b.tx
  let l := if only1 then l.filter fun p => txCls p.2 = 1 else l
  let pick := if txq then l.head?
    else
      let held := l.filter (·.2.buf.isSome)
      if txord then firstMin (fun a c => decide ((a.2.buf.elim 3 (·.val)) < (c.2.buf.elim 3 (·.val)))) held
      else firstMin (fun a c => decide (State.txKey a.2 < State.txKey c.2)) held
  pick.map (·.1)
where
  /-- Class of a listed frame. -/
  txCls (f : TxFrame) : Nat := State.txClass f

namespace State

/-- The BUSES record of a channel; none without a model. -/
def busRec (s : State) (n : Fin 12) : Option BusRec := s.model.map (·.buses.get n)

/-- The module's state has a use for a channel (R446, R448; log 23 for BOOT and CONFIG). -/
def busUsed (s : State) (n : Fin 12) : Bool :=
  match s.mod with
  | .active | .standby | .safeHold => true
  | .witness => n.val < 2
  | .boot => n.val < 2 && s.pwr.boot.loaded
  | .config => n.val < 2 && s.model.isSome
  | _ => false

/-- A channel may leave OFF: enabled, powered, used, not retired (R446). -/
def busWanted (s : State) (n : Fin 12) : Bool :=
  (s.busRec n).any (·.en) && s.pd 6 && s.busUsed n && !s.isRetired (.bus n)

/-- Run state (R447): ACTIVE in a module that sends, LISTEN otherwise. -/
def runState (s : State) : BusState := if s.mod = .standby || s.mod = .boot || s.mod = .config then .listen else .active

/-- The channel starts from OFF, RECOVER or SLEEP: detection with AUTO = 1, else the run state with its rates (R424, R429). -/
def startBus (s : State) (n : Fin 12) : State :=
  match s.busRec n with
  | none => s
  | some r =>
    if r.auto then
      s.updBus n fun b => { b with state := .detect, cand := 0, swept := false, adopted := false, start := false, nom := 0, dat := 0 }
    else
      let (v, s) := s.take
      s.updBus n fun b => { b with state := s.runState, start := false, nom := BitVec.ofNat 16 (rateOf r.nomDiv v),
                                   dat := if r.brs then BitVec.ofNat 16 (rateOf r.datDiv v) else 0 }

/-- The channel is disabled (R446): its list is discarded (R426). -/
def busOff (s : State) (n : Fin 12) : State :=
  (s.dropTx n true).updBus n fun b =>
    { b with state := .off, start := false, adopted := false, sleepT1 := 0, fifo := 0, tec := 0, recv := 0 }

/-- BUS event (R473). -/
def busEvent (s : State) (n : Fin 12) (kind : Nat) : State :=
  s.event 0x000D 0xFF [BitVec.ofNat 8 n.val, BitVec.ofNat 8 kind]

/-- Recovery begins (R444). -/
def recoverBus (s : State) (n : Fin 12) : State := s.updBus n fun b => { b with state := .recover }

/-- One channel at a T0 boundary (R429, R444, R447): the latch empties its FIFO (R436). -/
def tickBus (s : State) (n : Fin 12) : State :=
  let s := s.updBus n fun b => { b with fifo := 0 }
  let b := s.buses.get n
  match b.state with
  | .retired => if s.isRetired (.bus n) then s else s.busOff n
  | .off => if s.busWanted n && (n.val < 4 || b.trxOn) then s.startBus n else s
  | .test => s
  | st =>
    if !((s.busRec n).any (·.en) && s.pd 6 && s.busUsed n) then s.busOff n
    else match st with
      | .detect =>
        if b.adopted then
          s.updBus n fun b => { b with state := s.runState, adopted := false, noRate := false, dat := 0,
                                       nom := BitVec.ofNat 16 (sweepRates.getD b.cand 0) }
        else s
      | .listen => if s.mod = .active || s.mod = .witness then s.updBus n fun b => { b with state := .active } else s
      | .active | .passive => if s.mod = .standby then s.updBus n fun b => { b with state := .listen } else s
      | .busoff => if (s.busRec n).any (·.boff = 0) then s.recoverBus n else s
      | .sleep => if b.start then s.startBus n else s
      | _ => s

/-- A T1 boundary counts for a requested sleep (R449). -/
def tickSleep (s : State) (n : Fin 12) : State :=
  s.updBus n fun b => if b.sleepReq && b.state ≠ .sleep then { b with sleepT1 := b.sleepT1 + 1 } else { b with sleepT1 := 0 }

/-- An image is applied (R426): a changed record takes the channel through OFF; a fixture bus joins the supply chain (17 R558). -/
def applyBus (s : State) (old : Option BusRec) (n : Fin 12) : State :=
  let new := s.busRec n
  let s := if old = new then s else s.busOff n
  if n.val < 4 then s
  else if new.any (·.en) then
    if (s.buses.get n).trxOn then s else (s.joinChain (.trx n)).updBus n fun b => { b with onWait := true }
  else
    { s.updBus n (fun b => { b with trxOn := false, onWait := false }) with
      sup := { s.sup with queue := s.sup.queue.filter (· ≠ .trx n) } }

/-! Receiving (R436 to R438). -/

/-- The channel receives frames. -/
def busHears (b : Bus) : Bool := b.state = .listen || b.state = .active || b.state = .passive

/-- A frame arrives on a channel: it counts, and a full FIFO loses it (R436). `none` when it is not received: a channel with FD = 0
takes the protocol exception at the FDF bit of a CAN FD frame and ignores it (R439). -/
def hear (s : State) (fr : Frame) : Option State :=
  let b := s.buses.get fr.bus
  if !busHears b || (fr.fd && !(s.busRec fr.bus).any (·.fd)) then none
  else if 64 ≤ b.fifo then
    some (s.updBus fr.bus fun b => { b with rxOk := b.rxOk + 1, rxOvr := true, rxDrop := b.rxDrop + 1, fifo := 65 })
  else some (s.updBus fr.bus fun b => { b with rxOk := b.rxOk + 1, fifo := b.fifo + 1 })

/-- The frame was lost to a full FIFO. -/
def lostRx (s : State) (fr : Frame) : Bool := 64 < (s.buses.get fr.bus).fifo

/-- RAW_CONT entries of the bytes beyond the eighth (R473). -/
def rawConts : Nat → Nat → List Byte → List (List Byte)
  | 0, _, _ => []
  | k + 1, i, bs => if bs.isEmpty then [] else (leBytes 2 0x000F ++ leBytes 2 i ++ pad 28 bs) :: rawConts k (i + 1) (bs.drop 28)

/-- The RAW event of a frame with its continuations, together or not at all (R437, R473). -/
def rawEvent (s : State) (fr : Frame) : State :=
  let conts := rawConts 3 0 (fr.data.drop 8)
  let head := eventBytes 0x000E 0xFF fr.sof s.tick.t0
    ([BitVec.ofNat 8 fr.bus.val, BitVec.ofNat 8 (packBits [fr.ext, fr.fd, fr.brs]), BitVec.ofNat 8 fr.data.length,
      BitVec.ofNat 8 conts.length] ++ leBytes 4 fr.ident.toNat ++ pad 8 fr.data)
  s.putEvent (head :: conts)

/-- A frame without an owner (R437). -/
def unowned (s : State) (fr : Frame) : State :=
  if (s.busRec fr.bus).any (·.raw) then s.rawEvent fr else s.updBus fr.bus fun b => { b with unknown := b.unknown + 1 }

/-- The function field of a fixture identifier (R453). -/
def fixFn (fr : Frame) : Nat := fr.ident.toNat % 4096

/-- The privileged identifier's class, car and nibble (R452). -/
def privParts (fr : Frame) : Nat × Nat × Nat := (fr.ident.toNat / 256 % 8, fr.ident.toNat / 16 % 16, fr.ident.toNat % 16)

/-- The node of a car on a privileged bus that a nibble names (R437). -/
def nodeAt (m : Model) (n : Fin 12) (car nib : Nat) : Option Nat :=
  m.nodes.findIdx? fun r => r.bus = n && r.car = car && r.addr.toNat % 16 = nib && r.cls ≠ .lfn && r.cls ≠ .wit

/-- The fixture node that a 29-bit identifier names (R453). -/
def fixtureAt (m : Model) (fr : Frame) : Option Nat :=
  m.nodes.findIdx? fun r => r.cls = .lfn && r.bus = fr.bus && r.addr.toNat % 2 ^ 14 = fr.ident.toNat / 2 ^ 12 % 2 ^ 14

/-- The frame has an owner: a node's connection, a witness identifier of R506, or a dispatch frame of R292 (R437). -/
def ownedFrame (s : State) (fr : Frame) : Bool :=
  match s.model with
  | none => false
  | some m =>
    if fr.bus.val < 4 then
      let (cls, car, nib) := privParts fr
      fr.fd && !fr.ext &&
        ((cls = 1 && 0xF0 ≤ fr.ident.toNat % 256 && fr.ident.toNat % 256 ≤ 0xF2) ||
         ((cls = 2 || cls = 4 || cls = 5) && (nodeAt m fr.bus car nib).isSome))
    else fr.fd && fr.ext && (fixFn fr = 0x10 || fixFn fr = 0x11) && (fixtureAt m fr).isSome

/-- BUS_FRAME_UNOWNED (R437). A frame that has an owner is not this event (log 2). -/
def busFrameUnowned (s : State) (fr : Frame) : State :=
  if s.ownedFrame fr then s
  else match s.hear fr with
    | none => s
    | some t => if t.lostRx fr then t else t.unowned fr

/-! Sending. -/

/-- The frame on offer on a channel, where it may send (R432, R448). -/
def onOffer (s : State) (n : Fin 12) : Option (Nat × TxFrame) :=
  let b := s.buses.get n
  match s.busRec n with
  | none => none
  | some r =>
    let only1 := b.state == .listen
    if only1 && 2 ≤ n.val then none
    else if !(only1 || b.state = .active || b.state = .passive) then none
    else (offered r.txq r.txord only1 b).bind fun i => (b.tx[i]?).map (i, ·)

/-- A lease request that has been sent is remembered with its start of frame, the earlier one of its two copies (15 R506, R508). -/
def noteReq (s : State) (f : TxFrame) (sof : BitVec 32) : State :=
  if !f.ext && (f.ident = 0x1F1 || f.ident = 0x1F2) && byteAt f.data 0 = 0x30 then
    let q := BitVec.ofNat 16 (fld f.data 2 2)
    if s.tw.reqs.any (·.seq = q) then
      s.updTw fun t => { t with reqs := t.reqs.map fun (x : LeaseReq) => if x.seq = q && diff32 sof x.sof < 0 then { x with sof := sof } else x }
    else s.updTw fun t => { t with reqs := ({ seq := q, sof := sof, kind := byteAt f.data 20 } :: t.reqs).take 16 }
  else s

/-- FRAME_SENT (R427, R434, R438): the frame on offer has been sent. -/
def frameSent (s : State) (n : Fin 12) (sof : BitVec 32) (delay : Nat) : State :=
  match s.onOffer n, s.busRec n with
  | some (i, f), some r =>
    let s := (s.noteReq f sof).updBus n fun b =>
      let rest := b.tx.eraseIdx i
      { b with tx := if r.txq then rest else rebuffer rest, txOk := b.txOk + 1, noack := false,
               late := if f.answer.any fun t => 4000 < (sof - t).toNat then b.late + 1 else b.late }
    let s := if f.brs && r.measures then
        let s := s.updBus n fun b => { b with tdcMeas := BitVec.ofNat 8 delay, ssp := BitVec.ofNat 8 (delay + r.tdcOffset) }
        if 40 < delay then s.raise (0x60 + n.val) 3 2 0 delay else s
      else s
    match f.raw with
    | none => s
    | some tag =>
      match s.hi.running.find? fun x => x.e.opcode = 0x40 && x.e.tag = tag with
      | some x => s.finish x.e .done 0 sof
      | none => s
  | _, _ => s

/-- NOACK (R441): 16 attempts of the frame on offer ended in an acknowledgement error, each with its error frame (log 161). -/
def noack (s : State) (n : Fin 12) : State :=
  if (s.onOffer n).isSome then
    (s.updBus n fun b => { b with noack := true, errors := b.errors + 16, lastErr := 3, errPhase := false }).busEvent n 1
  else s

/-- COLLISION (R442): the frame on offer met its third bit error in a row after winning arbitration (log 161). Whether bit 1 or bit 0
failed is left open (log 9). -/
def collision (s : State) (n : Fin 12) : State :=
  match s.onOffer n with
  | some (_, f) =>
    let (v, s) := s.take
    (s.updBus n fun b => { b with collision := true, errors := b.errors + 3, lastErr := Fin.ofNat 8 (4 + v.toNat % 2), errPhase := f.brs }).raise
      (0x60 + n.val) 2 2 0 f.ident.toNat
  | none => s

/-- The saturating form of an error counter (R454). -/
def errCnt (x : Nat) : BitVec 8 := BitVec.ofNat 8 (min x 255)

/-- ERROR_PASSIVE (R447): a counter has crossed 128, in either direction. -/
def errorPassive (s : State) (n : Fin 12) (tec rec_ : Nat) : State :=
  let b := s.buses.get n
  let s1 := s.updBus n fun b => { b with tec := errCnt tec, recv := errCnt rec_ }
  if b.state = .active && (128 ≤ tec || 128 ≤ rec_) then (s1.updBus n fun b => { b with state := .passive }).busEvent n 2
  else if b.state = .passive && tec < 128 && rec_ < 128 then s1.updBus n fun b => { b with state := .active }
  else s

/-- BUSOFF (R444): DETAIL holds the counters before the transition, packed as in K_ERR (log 24). -/
def busoff (s : State) (n : Fin 12) (tec rec_ : Nat) : State :=
  let b := s.buses.get n
  if b.state = .active || b.state = .passive then
    (s.updBus n fun b => { b with state := .busoff, busoff := true, busoffs := b.busoffs + 1, tec := errCnt tec,
                                  recv := errCnt rec_ }).raise
      (0x60 + n.val) 1 2 0 ((errCnt tec).toNat + 256 * (errCnt rec_).toNat)
  else s

/-- BUS_RECOVERED (R444, R447): a BUS_RECOVER command for the channel ends (14 R468). -/
def busRecovered (s : State) (n : Fin 12) : State :=
  if (s.buses.get n).state = .recover then
    let s := ((s.updBus n fun b => { b with tec := 0, recv := 0 }).startBus n).busEvent n 5
    match s.hi.running.find? fun r => r.e.opcode = 0x41 && r.e.arg0.toNat = n.val with
    | some r => s.finish r.e .done 0
    | none => s
  else s

/-- RATE_ADOPTED (R429). -/
def rateAdopted (s : State) (n : Fin 12) : State :=
  s.updBus n fun b => if b.state = .detect then { b with adopted := true } else b

/-- RATE_CANDIDATE_DROP (R428, R429): the sweep moves on; the end of the first whole sweep raises one event. -/
def rateCandidateDrop (s : State) (n : Fin 12) (why : RateDrop) : State :=
  let b := s.buses.get n
  if b.state ≠ .detect || b.adopted then s
  else
    let s := match why with
      | .dwell => s
      | .error =>
        let (v, s) := s.take
        s.updBus n fun b => { b with lastErr := [1, 2, 6].getD (v.toNat % 3) 1 }
    if b.cand < 8 then s.updBus n fun b => { b with cand := b.cand + 1 }
    else
      let s := s.updBus n fun b => { b with cand := 0, swept := true, noRate := b.noRate || !b.swept }
      if b.swept then s else s.busEvent n 3

/-! Sleep and wake (R449 to R451). -/

/-- BUS_SLEEP (R449). -/
def busSleep (s : State) (n : Fin 12) : State :=
  let b := s.buses.get n
  if 4 ≤ n.val && b.sleepReq && (b.state = .active || b.state = .passive) && 1 ≤ b.sleepT1 && (b.tx.isEmpty || 8 ≤ b.sleepT1) then
    (s.dropTx n true).updBus n fun b => { b with state := .sleep, sleepT1 := 0, trxOn := false, start := false, onWait := false }
  else s

/-- A wake waits its turn in the supply chain (R450, 12 R417). -/
def queueWake (s : State) (n : Fin 12) : State :=
  (s.joinChain (.trx n)).updBus n fun b => { b with onWait := true, sleepReq := false, wakes := b.wakes + 1 }

/-- A data byte matches under its mask; a frame too short for a masked byte does not (R450). -/
def wakeByte (data : List Byte) (i : Nat) (d mask : Byte) : Bool :=
  mask = 0 || (data[i]?).any fun x => x &&& mask = d &&& mask

/-- A wake-up frame matches (R450). -/
def wakeMatch (b : Bus) (ext : Bool) (ident : BitVec 29) (data : List Byte) : Bool :=
  ext == b.wakeExt && (ident &&& b.wakeMask) == (b.wakeId &&& b.wakeMask) && wakeByte data 0 b.wakeD0 b.wakeM0 &&
    wakeByte data 1 b.wakeD1 b.wakeM1

/-- BUS_WAKE (R450). -/
def busWake (s : State) (n : Fin 12) (how : BusWake) : State :=
  let b := s.buses.get n
  if b.state ≠ .sleep || b.onWait then s
  else match how with
    | .pattern =>
      if b.wakeMode then s else ((s.queueWake n).updBus n fun b => { b with woke := true }).busEvent n 4
    | .frame ext ident data =>
      if b.wakeMode && wakeMatch b ext ident data then ((s.queueWake n).updBus n fun b => { b with woke := true }).busEvent n 4 else s
    | .host => if b.sleepReq then s else s.queueWake n

/-- K_SLEEP_WRITE (R449, R450, R454): WAKE_MODE is RS, the channel enabled for it while REQ is 1 or it sleeps. -/
def kSleepWrite (s : State) (n : Fin 12) (v : BitVec 32) : State :=
  let b := s.buses.get n
  let req := bit v 0
  if !s.hostUp then s
  else if n.val < 4 then if req then s.updBus n fun b => { b with werr := true } else s
  else
    let live := b.sleepReq || b.state = .sleep
    let s := s.updBus n fun b =>
      { b with wakeMode := if live then b.wakeMode else bit v 1, werr := b.werr || (live && bit v 1 ≠ b.wakeMode) }
    if req then s.updBus n fun b => if b.sleepReq then b else { b with sleepReq := true, sleepT1 := 0 }
    else if b.state = .sleep then if b.onWait then s.updBus n fun b => { b with sleepReq := false } else s.queueWake n
    else s.updBus n fun b => { b with sleepReq := false, sleepT1 := 0 }


end State

/-- BUS_FRAME_UNOWNED, R437. -/
def execBusFrameUnowned (fr : Frame) (s : State) : Out := .next (s.busFrameUnowned fr)
/-- FRAME_SENT, R438. -/
def execFrameSent (n : Fin 12) (sof : BitVec 32) (delay : Nat) (s : State) : Out := .next (s.frameSent n sof delay)
/-- RATE_ADOPTED, R429. -/
def execRateAdopted (n : Fin 12) (s : State) : Out := .next (s.rateAdopted n)
/-- RATE_CANDIDATE_DROP, R429. -/
def execRateCandidateDrop (n : Fin 12) (why : RateDrop) (s : State) : Out := .next (s.rateCandidateDrop n why)
/-- NOACK, R441. -/
def execNoack (n : Fin 12) (s : State) : Out := .next (s.noack n)
/-- COLLISION, R442. -/
def execCollision (n : Fin 12) (s : State) : Out := .next (s.collision n)
/-- ERROR_PASSIVE, R447. -/
def execErrorPassive (n : Fin 12) (tec rec_ : Nat) (s : State) : Out := .next (s.errorPassive n tec rec_)
/-- BUSOFF, R444. -/
def execBusoff (n : Fin 12) (tec rec_ : Nat) (s : State) : Out := .next (s.busoff n tec rec_)
/-- BUS_RECOVERED, R447. -/
def execBusRecovered (n : Fin 12) (s : State) : Out := .next (s.busRecovered n)
/-- BUS_SLEEP, R449. -/
def execBusSleep (n : Fin 12) (s : State) : Out := .next (s.busSleep n)
/-- BUS_WAKE, R450. -/
def execBusWake (n : Fin 12) (how : BusWake) (s : State) : Out := .next (s.busWake n how)
/-- K_SLEEP_WRITE, R449. -/
def execKSleepWrite (n : Fin 12) (v : BitVec 32) (s : State) : Out := .next (s.kSleepWrite n v)

end Sys2Proof.Machine
end

