-- ==== Sys2Proof/Machine/Frames.lean ====
section
/-! DEFINITION. Connections and safety frames (11), and the drive's frames (05 R177 to R182). -/

namespace Sys2Proof.Machine

/-- Why a received frame is rejected (R382). -/
inductive Rej where
  | format | id | crc | tag | claim | seq | time
  deriving DecidableEq, Repr

/-- A rejection is counted (R392). -/
def Conn.reject (c : Conn) : Rej → Conn
  | .format => { c with rejFormat := c.rejFormat + 1 }
  | .id => { c with rejId := c.rejId + 1 }
  | .crc => { c with rejCrc := c.rejCrc + 1 }
  | .tag => { c with rejTag := c.rejTag + 1 }
  | .claim => { c with rejClaim := c.rejClaim + 1 }
  | .seq => { c with rejSeq := c.rejSeq + 1 }
  | .time => { c with rejTime := c.rejTime + 1 }

/-- A frame is accepted (R386): the watchdog restarts and the connection is UP. -/
def Conn.accept (c : Conn) (sof : BitVec 32) : Conn :=
  { c with state := .up, age := 0, lastSof := sof, rxOk := c.rxOk + 1, data := { c.data with any := true } }

/-- The sequence rule (R383): the connection with the number taken, or none. -/
def Conn.takeSeq (c : Conn) (q : BitVec 16) : Option Conn :=
  if !c.seqBased then some { c with seqBased := true, seqRx := q, seen := 1 }
  else
    let d := (q - c.seqRx).toNat
    let back := (c.seqRx - q).toNat
    if 1 ≤ d && d ≤ 32767 then some { c with seqRx := q, seen := (c.seen <<< d) ||| 1 }
    else if 1 ≤ back && back ≤ 8 && !c.seen.getLsbD back then some { c with seen := c.seen ||| (1#9 <<< back) }
    else none

/-- The time expectation (R384): the connection with its baseline moved, or none. -/
def Conn.takeTime (c : Conn) (stamp sof : BitVec 32) : Option Conn :=
  if !c.based then some { c with based := true, stamp := stamp, rx := sof }
  else
    let ds := diff32 stamp c.stamp
    let dr := diff32 sof c.rx
    if 0 ≤ dr && 2000 * (dr - ds).natAbs ≤ 2000000 + dr.natAbs then
      some (if 0 < ds then { c with stamp := stamp, rx := sof } else c)
    else none

/-- FTYPE and PLEN of the frame a node class reports with (R376). -/
def reportType : NodeClass → Option (Nat × Nat)
  | .hdv => some (0x20, 8)
  | .ctn => some (0x21, 12)
  | .ptn => some (0x22, 4)
  | _ => none

/-- Data length of a safety frame with a payload length (R372). -/
def safetyLen (plen : Nat) : Nat := if plen ≤ 4 then 32 else if plen ≤ 20 then 48 else 64

/-- The format of R371 and R372 with a type and payload length. -/
def safetyFormat (fr : Frame) (ftype plen : Nat) : Bool :=
  let bs := fr.data
  fr.fd && fld bs 0 1 = ftype && fld bs 1 1 = plen && bs.length = safetyLen plen && zeroAt bs (20 + plen) (bs.length - 28 - plen)

/-- The first four bytes of the CMAC over a prefix byte, the identifier as 2 bytes and a message (R178, R217, R375). -/
def tag4 (key : List Byte) (pre : Byte) (ident : Nat) (msg : List Byte) : List Byte :=
  (cmac key (pre :: leBytes 2 ident ++ msg)).take 4

/-- No report yet. -/
def NodeData.fresh : NodeData :=
  { hdv := 0, torque := 0, ctn := { doors := 0, station := 0, switches := 0, attendant := 0, load := 0xFFFF }, ptn := 0, any := false,
    fbStatus := 0, speedAct := 0, torqAct := 0, fbFault := 0, pDc := 0, loadT0 := 0 }

/-- HKDF-extract of R368 with a peer's public key. -/
def connPrk (m : Model) (pubkey : List Byte) : List Byte :=
  hkdfExtract ([0x4B, 0x56, 0x58, 0x43] ++ leBytes 4 m.groupId.toNat) (Config.ecdh pubkey)

/-- The WIT record at an address (15 R489): 0 the witness, 1 and 2 the modules of the slots. -/
def Model.wit? (m : Model) (addr : Nat) : Option Nat := m.nodes.findIdx? fun r => r.cls = .wit && r.addr.toNat = addr

/-- This module is the pair's witness: its own identity stands in the witness record. -/
def Model.selfWitness (m : Model) : Bool :=
  ((m.wit? 0).bind fun i => m.nodes[i]?).any fun r => r.nodeId = Config.moduleId

/-- Key and identity of a connection (R368). On a witness connection the witness is the node. -/
def connKeys (m : Model) (r : NodeRec) : List Byte × BitVec 16 :=
  let prk := connPrk m r.pubkey
  let own := leBytes 4 Config.moduleId.toNat
  let other := leBytes 4 r.nodeId.toNat
  let ids := if r.cls = .wit && m.selfWitness then other ++ own else own ++ other
  (hkdfExpand prk (0x4B :: ids) 16, BitVec.ofNat 16 (leNat (hkdfExpand prk (0x49 :: ids) 2)))

/-- A connection that starts afresh in WAIT (R369). -/
def Conn.start (m : Model) (t0 : BitVec 32) (r : NodeRec) : Conn :=
  let k := connKeys m r
  { state := .wait, key := k.1, connId := k.2, waitT0 := t0, sent := false, seqTx := 0, seqBased := false, seqRx := 0, seen := 0,
    based := false, stamp := 0, rx := 0, lastSof := 0, age := 0, rxOk := 0, rejFormat := 0, rejId := 0, rejCrc := 0, rejTag := 0,
    rejClaim := 0, rejSeq := 0, rejTime := 0, losses := 0, joins := 0, joinNonce := none, echoBased := false, echo := 0,
    data := NodeData.fresh }

/-- The connections of an applied image (R369): one is carried over when its record keeps bus, identity, key and watchdog. -/
def connsFor (old : Option Model) (conns : List Conn) (m : Model) (t0 : BitVec 32) : List Conn :=
  m.nodes.map fun r =>
    let kept := (old.elim [] (·.nodes)).zip conns |>.find? fun p =>
      p.1.bus = r.bus && p.1.nodeId = r.nodeId && p.1.pubkey = r.pubkey && p.1.watchdog = r.watchdog
    match kept with
    | some p => p.2
    | none => Conn.start m t0 r

namespace State

/-- The module drives the group's nodes: in ACTIVE, and in SAFE-HOLD while its lease is valid (R177, 07 R256; log 25). -/
def drives (s : State) : Bool := s.mod = .active || (s.mod = .safeHold && (s.leased || s.seals.role = 3))

/-- The claim in force (R385). -/
def claim (s : State) : BitVec 32 := s.tw.claimOwn

/-- The module's claim changes (R385): every sequence baseline is cleared. -/
def setClaim (s : State) (v : BitVec 32) : State :=
  if s.tw.claimOwn = v then s
  else { s.updTw (fun t => { t with claimOwn := v }) with
         conns := s.conns.map fun c => { c with seqBased := false, seen := 0 } }

/-- Every connection enters WAIT. -/
def waitConns (s : State) : State :=
  { s with conns := s.conns.map fun c => { c with state := .wait, waitT0 := s.tick.t0 } }

/-- Entry to ACTIVE (R388): every connection to WAIT and its SEQ 64 ahead of the last epoch's; each car's next slot sends SYNC. -/
def startConns (s : State) : State :=
  { s.waitConns with conns := s.waitConns.conns.map fun c => { c with seqTx := c.seqTx + 64 },
                     tw := { s.tw with syncOwed := Tab.all true } }

/-- Queue a privileged frame to a node. -/
def send (s : State) (n : Fin 12) (ident : Nat) (data : List Byte) (cyclic : Bool) (dest : Nat) : State :=
  s.queue n (canFrame ident data cyclic dest)

/-- The bytes of a safety frame (R371 to R375) and the connection that has sent it. -/
def safetyBytes (s : State) (c : Conn) (r : NodeRec) (claim : BitVec 32) (ident ftype : Nat) (payload : List Byte) : List Byte × Conn :=
  let q := c.seqTx + 1
  let l := safetyLen payload.length
  let body := pad (l - 8) (leBytes 1 ftype ++ leBytes 1 payload.length ++ leBytes 2 q.toNat ++ leBytes 4 Config.moduleId.toNat ++
    leBytes 4 r.nodeId.toNat ++ leBytes 4 s.stamp.toNat ++ leBytes 4 claim.toNat ++ payload)
  let crc := cv (BitVec.ofNat 32 (c.connId.toNat * 65536 + q.toNat)) body
  let msg := body ++ leBytes 4 crc.toNat
  (msg ++ tag4 c.key 0x56 ident msg, { c with seqTx := q, sent := true })

/-- The check-value channel of a privileged bus (16 R544). -/
def busCv (n : Fin 12) : Fin 16 := ⟨n.val, by omega⟩

/-- Build and queue a safety frame on connection `i` (R373, R376). With the bus's check-value channel retired none can be built
(16 R539). -/
def sendSafety (s : State) (m : Model) (i ftype : Nat) (payload : List Byte) (cyclic : Bool) : State :=
  match m.nodes[i]?, s.conns[i]? with
  | some r, some c =>
    if !s.cvUsable (busCv r.bus) then s.useCv (busCv r.bus) true
    else
      let ident := (if ftype = 0x10 then 0 else 2) * 256 + r.car % 16 * 16 + 0xF
      let (bs, c') := s.safetyBytes c r s.claim ident ftype payload
      ((s.updConn i fun _ => c').useCv (busCv r.bus) true).send r.bus ident bs cyclic i
  | _, _ => s

/-- SYNC to a car's CTN and to each of its PTNs (R376, R388). -/
def sendSync (s : State) (m : Model) (c : Fin 16) : State :=
  s.each (m.nodesIdx c .ctn ++ m.nodesIdx c .ptn) fun s i => s.sendSafety m i 0x12 [] true

/-- The safety checks of R382 on a frame that belongs to connection `i`, with the expected type: the connection after checks 5
to 7, or the failed check. `joining` runs checks 1 to 4 alone. -/
def checkSafety (s : State) (r : NodeRec) (c : Conn) (fr : Frame) (ftype plen : Nat) (joining : Bool) : Except Rej Conn :=
  let bs := fr.data
  let l := bs.length
  let q := BitVec.ofNat 16 (fld bs 2 2)
  if !r.safety || !safetyFormat fr ftype plen then .error .format
  else if fld bs 4 4 ≠ r.nodeId.toNat || fld bs 8 4 ≠ Config.moduleId.toNat then .error .id
  else if !s.cvUsable (busCv r.bus) || slice bs (l - 8) 4 ≠ leBytes 4 (cv (BitVec.ofNat 32 (c.connId.toNat * 65536 + q.toNat)) (bs.take (l - 8))).toNat then
    .error .crc
  else if bs.drop (l - 4) ≠ tag4 c.key 0x56 fr.ident.toNat (bs.take (l - 4)) then .error .tag
  else if joining then .ok c
  else if fld bs 16 4 ≠ s.claim.toNat then .error .claim
  else match c.takeSeq q with
    | none => .error .seq
    | some c =>
      match c.takeTime (BitVec.ofNat 32 (fld bs 12 4)) fr.sof with
      | none => .error .time
      | some c => .ok c

/-- The CRC check of a frame was computed (16 R551): it passed FORMAT and ID. -/
def countCv (s : State) (n : Fin 12) : Except Rej Conn → State
  | .error .format | .error .id => s
  | .error .crc => s.useCv (busCv n) false
  | _ => s.useCv (busCv n) true

/-- A privileged frame arrives for a node that its nibble names and that satisfies `p`; a frame without an owner is R437's. -/
def onPrivileged (s : State) (fr : Frame) (cls : Nat) (p : NodeRec → Bool) (f : State → Model → Nat → NodeRec → Conn → State) : State :=
  match s.hear fr, s.model with
  | some t, some m =>
    if t.lostRx fr then t
    else
      let (k, car, nib) := privParts fr
      if 4 ≤ fr.bus.val || fr.ext || !fr.fd then t.unowned fr
      else match nodeAt m fr.bus car nib with
        | none => t.unowned fr
        | some i =>
          match m.nodes[i]?, t.conns[i]? with
          | some r, some c => if k = cls && p r then f t m i r c else s
          | _, _ => s
  | some t, none => if t.lostRx fr then t else t.unowned fr
  | none, _ => s

/-- A node's report passes or fails R382; its source values are taken by `g` (R378 to R380). -/
def onReport (s : State) (fr : Frame) (k : NodeClass) (g : BitVec 32 → List Byte → NodeData → NodeData) : State :=
  s.onPrivileged fr 2 (fun _ => true) fun s _ i r c =>
    let ftype := (reportType k).getD (0, 0)
    let res := if r.cls = k then s.checkSafety r c fr ftype.1 ftype.2 false else .error .format
    let s := s.countCv fr.bus res
    match res with
    | .error e => s.updConn i (·.reject e)
    | .ok c => s.updConn i fun _ =>
        let a := c.accept fr.sof
        { a with data := g s.tick.t0 (slice fr.data 20 ftype.2) a.data }

/-- HDV_REP (R378). -/
def hdvRep (s : State) (fr : Frame) : State :=
  s.onReport fr .hdv fun _ p d => { d with hdv := byteAt p 0, torque := BitVec.ofNat 16 (fld p 2 2) }

/-- CTN_REP (R379). -/
def ctnRep (s : State) (fr : Frame) : State :=
  s.onReport fr .ctn fun t0 p d =>
    { d with ctn := { doors := byteAt p 0, station := byteAt p 1, switches := byteAt p 2, attendant := byteAt p 3,
                      load := BitVec.ofNat 16 (fld p 4 2) },
             loadT0 := t0 }

/-- PTN_REP (R380). -/
def ptnRep (s : State) (fr : Frame) : State := s.onReport fr .ptn fun _ p d => { d with ptn := byteAt p 0 }

/-- JOIN (R387): checks 1 to 4; the answer goes out in the car's slot. Only a module in ACTIVE or in standalone role answers. -/
def join (s : State) (fr : Frame) : State :=
  s.onPrivileged fr 2 (fun _ => true) fun s _ i r c =>
    let res := s.checkSafety r c fr 0x02 8 true
    let s := s.countCv fr.bus res
    match res with
    | .error e => s.updConn i (·.reject e)
    | .ok _ => s.updConn i fun c =>
        { c with rxOk := c.rxOk + 1,
                 joinNonce := if s.mod = .active || s.seals.role = 3 then some (slice fr.data 20 8) else c.joinNonce }

/-- JOINED to each node of a car that has a JOIN to be answered (R381, R387), from a module in ACTIVE or in standalone role. -/
def answerJoins (s : State) (m : Model) (c : Fin 16) : State :=
  s.each (if s.mod = .active || s.seals.role = 3 then List.range m.nodes.length else []) fun s i =>
    match m.nodes[i]?, s.conns[i]? with
    | some r, some k =>
      match k.joinNonce with
      | some nonce =>
        if r.car = c.val then
          let next := if k.seqBased then k.seqRx + 1 else 0
          (s.sendSafety m i 0x01 (nonce ++ leBytes 2 next.toNat) false).updConn i fun k =>
            { k with joinNonce := none, based := false, joins := k.joins + 1 }
        else s
      | none => s
    | _, _ => s

/-- The watchdog of a connection has passed at the present latch (R386). A module in BOOT or CONFIG judges none: no node answers one
that sends nothing, and entry to ACTIVE or STANDBY starts them anew. Of the WIT records a module watches the witness alone, and the
witness its two modules (15 R490). -/
def watchdogDue (s : State) (r : NodeRec) (c : Conn) : Bool :=
  s.mod ≠ .boot && s.mod ≠ .config && !(r.cls = .wit && (r.addr.toNat == 0) == (s.seals.role.val == 2)) && (c.state = .wait || c.state = .up) && decide (r.watchdog * 1000 ≤
    if c.state = .up then (s.stamp - c.lastSof).toNat else (s.tick.t0 - c.waitT0).toNat * 250)

/-- CLASS code of a node (02 R59). -/
def classCode : NodeClass → Nat
  | .hdv => 1 | .don => 2 | .ctn => 3 | .ptn => 4 | .lfn => 5 | .wit => 6

/-- A connection enters LOST (R384, R386): one class U finding per loss, from the car's source; a connection of no car has none.
A lost HDV leaves its run's energy record incomplete (05 R182). -/
def loseConn (s : State) (i : Nat) (r : NodeRec) : State :=
  let s := s.updConn i fun c => { c with state := .lost, based := false, losses := c.losses + 1 }
  if h : r.car < 16 then
    let c : Fin 16 := ⟨r.car, h⟩
    let s := s.raise (0xE0 + r.car) 1 2 (BitVec.ofNat 32 i) (classCode r.cls)
    if r.cls = .hdv then s.updAxis (hoist c) fun a => { a with energy := { a.energy with incomplete := true } } else s
  else s

/-- Ages of the connections at a T0 latch (R392). -/
def ageConns (s : State) : State := { s with conns := s.conns.map fun c => { c with age := satInc c.age 262143 } }

/-! The drive (05 R177 to R181). -/

/-- The speed reference frame of a car (R177, R178). -/
def sendSpeedRef (s : State) (m : Model) (c : Fin 16) : State :=
  match m.node? c .hdv with
  | none => s
  | some i =>
    match m.nodes[i]?, s.conns[i]? with
    | some r, some k =>
      let a := s.axes.get (hoist c)
      let l := s.lanes.get (hoist c)
      let ident := privId 3 c.val (r.addr.toNat % 16)
      let body := [0x01, BitVec.ofNat 8 (packBits [a.fRun, a.fHold, l.repeat_, (s.lv.get c).mstop])] ++
        leBytes 2 s.t1Now.toNat ++ leBytes 4 s.claim.toNat ++ leBytes 4 (if a.fRun && !a.fHold then w32 l.out else 0).toNat ++
        leBytes 2 (BitVec.ofInt 16 l.aux).toNat ++ leBytes 2 0 ++ leBytes 4 s.stamp.toNat
      s.send (carBus c) ident (body ++ tag4 k.key 0x43 ident body) true i
    | _, _ => s

/-- A 24-byte node frame of class 4 (R180, 07 R220): length and VERSION, then TAG. -/
def checkReply (c : Conn) (fr : Frame) (pre : Byte) : Option Rej :=
  if fr.data.length ≠ 24 || byteAt fr.data 0 ≠ 1 then some .format
  else if fr.data.drop 20 ≠ tag4 c.key pre fr.ident.toNat (fr.data.take 20) then some .tag
  else none

/-- HDV_FEEDBACK (R180, R181). -/
def hdvFeedback (s : State) (fr : Frame) : State :=
  s.onPrivileged fr 4 (·.cls = .hdv) fun s _ i r c =>
    match checkReply c fr 0x46 with
    | some e => s.updConn i (·.reject e)
    | none =>
      let bs := fr.data
      let s := s.updConn i fun c =>
        let a := c.accept fr.sof
        { a with data := { a.data with fbStatus := byteAt bs 1, speedAct := BitVec.ofNat 32 (fld bs 4 4),
                                       torqAct := BitVec.ofNat 16 (fld bs 8 2), fbFault := BitVec.ofNat 16 (fld bs 10 2),
                                       pDc := BitVec.ofNat 32 (fld bs 12 4) } }
      if h : r.car < 16 then
        s.updAxis (hoist ⟨r.car, h⟩) fun a =>
          { a with energy := if a.fRun then addEnergy a.energy fr.sof (sfld bs 12 4) else { a.energy with lastSof := some fr.sof } }
      else s

end State

/-- HDV_REP, R378. -/
def execHdvRep (fr : Frame) (s : State) : Out := .next (s.hdvRep fr)
/-- CTN_REP, R379. -/
def execCtnRep (fr : Frame) (s : State) : Out := .next (s.ctnRep fr)
/-- PTN_REP, R380. -/
def execPtnRep (fr : Frame) (s : State) : Out := .next (s.ptnRep fr)
/-- JOIN, R387. -/
def execJoin (fr : Frame) (s : State) : Out := .next (s.join fr)
/-- HDV_FEEDBACK, R180. -/
def execHdvFeedback (fr : Frame) (s : State) : Out := .next (s.hdvFeedback fr)

end Sys2Proof.Machine
end

