-- ==== Sys2Proof/Machine/Polders.lean ====
section
/-! DEFINITION. The 24 V field channels (12): inputs and their filter, outputs and their refresh, dark pulses, the inrush
scheduler, readback and wiring faults. -/

namespace Sys2Proof.Machine

/-- Classes of one current sample [10 µA] (R399); none is indeterminate. -/
def sampleClass (wbEn : Bool) (x : Nat) : Option PolClass :=
  if 190 ≤ x then some .closed
  else if 130 ≤ x then none
  else if !wbEn then some .open_
  else if 45 ≤ x then some .open_
  else if 30 ≤ x then none
  else some .wireBreak

/-- Output roles (R397). -/
def outRole (role : Nat) : Bool := 0x40 ≤ role && role ≤ 0x46
/-- Input roles (R397). -/
def inRole (role : Nat) : Bool := 1 ≤ role && role ≤ 0x15
/-- Roles that receive dark pulses (R413). -/
def darkRole (role : Nat) : Bool := 0x40 ≤ role && role ≤ 0x43

/-- Record of an unused channel. -/
def PolRec.none_ : PolRec :=
  { role := 0, car := 0xFF, inv := false, wbEn := false, safeOn := false, filter := 0, partner := 0xFF, prio := 0, disc := 0, wdog := 0,
    inrush := 0, budget := 0, modBudget := 0 }

namespace State

/-- The POLDERS record of a channel. -/
def polRec (s : State) (i : Fin 96) : PolRec := s.model.elim PolRec.none_ (·.polders.get i)

/-- The polder of a channel (R393). -/
def polOf (i : Fin 96) : Fin 12 := ⟨i.val / 8, by omega⟩

/-- The car of a channel, where its record names one. -/
def polCar (r : PolRec) : Option (Fin 16) := if h : r.car < 16 then some ⟨r.car, h⟩ else none

/-- L+ of a channel's polder is in range. -/
def lpOk (s : State) (i : Fin 96) : Bool := (s.pol.pol.get (polOf i)).lpOk

/-! Inputs. -/

/-- The demand state of an input role (R397): a feedback's is the opposite of what the levee commands. -/
def demandState (s : State) (r : PolRec) : Bool :=
  let fb (f : Lv → Bool) : Bool := (polCar r).elim false fun c => !f (s.lv.get c)
  if r.role = 0x0B then fb (!·.mc)
  else if r.role = 0x0C then fb (·.brk1)
  else if r.role = 0x0D then fb (·.brk2)
  else [0x02, 0x03, 0x06, 0x07, 0x08, 0x09, 0x0E, 0x0F, 0x11, 0x14].contains r.role

/-- The channel delivers its role's demand state (R402); every input does while PD7 is off (17 R556). -/
def inDemand (s : State) (i : Fin 96) : Bool :=
  let c := s.pol.ch.get i
  !s.pd 7 || c.cls = .wireBreak || c.cls = .none || c.guard || !s.lpOk i || s.fc.nmiInputs || s.underTest (.channel i) || s.isRetired (.channel i)

/-- The value an input delivers (R402). -/
def inValue (s : State) (i : Fin 96) : Bool :=
  let r := s.polRec i
  if s.inDemand i then s.demandState r else ((s.pol.ch.get i).cls == .closed) != r.inv

/-- FIELD event (R473). -/
def fieldEvent (s : State) (kind x : Nat) : State := s.event 0x000C 0xFF [BitVec.ofNat 8 kind, BitVec.ofNat 8 x]

/-- The class that samples make accepted (R399, R400): 8 × FILTER consecutive ones of one class. An output's readback path has
no filter. -/
def acceptedClass (r : PolRec) (samples : List Nat) : Option PolClass :=
  let need := if outRole r.role then 1 else 8 * (if r.filter = 0 then 4 else r.filter)
  match samples with
  | [] => none
  | x :: xs =>
    match sampleClass r.wbEn x with
    | none => none
    | some k => if need ≤ samples.length && xs.all (fun y => sampleClass r.wbEn y = some k) then some k else none

/-- INPUT_FILTER_ACCEPT (R399 to R402). -/
def inputFilterAccept (s : State) (i : Fin 96) (samples : List Nat) : State :=
  let r := s.polRec i
  match acceptedClass r samples with
  | none => s
  | some k =>
    let s' := s.updCh i fun c =>
      { c with cls := k, guard := false, current := BitVec.ofNat 16 (samples.getLast?.getD 0),
               flags := { c.flags with wb := c.flags.wb || (inRole r.role && k = .wireBreak) } }
    if inRole r.role && k = .wireBreak && (s.pol.ch.get i).cls ≠ .wireBreak then s'.fieldEvent 1 i.val else s'

/-- INPUT_GUARD (R401). -/
def inputGuard (s : State) (i : Fin 96) : State :=
  if inRole (s.polRec i).role && !(s.pol.ch.get i).guard then
    (s.updCh i fun c => { c with guard := true, flags := { c.flags with guard := true } }).fieldEvent 2 i.val
  else s

/-- LP_LOW (R395). -/
def lpLow (s : State) (p : Fin 12) : State :=
  if (s.pol.pol.get p).lpOk then (s.updPol p fun x => { x with lpOk := false, lpLow := true }).fieldEvent 3 p.val else s

/-- LP_RESTORED (R395). -/
def lpRestored (s : State) (p : Fin 12) : State :=
  if (s.pol.pol.get p).lpOk then s else (s.updPol p fun x => { x with lpOk := true }).fieldEvent 4 p.val

/-- A class U fault of a channel (R409). -/
def polFault (s : State) (i : Fin 96) (kind detail : Nat) : State := s.raise (0x40 + i.val / 8) kind 2 (BitVec.ofNat 32 i.val) detail

/-- COUPLER_FAULT (R394): four failed messages, while L+ is in range. -/
def couplerFault (s : State) (i : Fin 96) : State :=
  if s.lpOk i then (s.updPol (polOf i) fun x => { x with coupler := x.coupler + 4 }).polFault i 5 4 else s

/-! Outputs. -/

/-- The safe state of an output (R406). -/
def safeState (s : State) (r : PolRec) : Bool := r.role = 0x46 && r.safeOn && s.seals.role = 3

/-- FIELD_WATCHDOG (R405): the field side puts the channel in its safe state. -/
def fieldWatchdog (s : State) (i : Fin 96) : State :=
  let r := s.polRec i
  if outRole r.role then s.updCh i fun c => { c with wdogOff := true, on := s.safeState r } else s

/-- Readback checks and their faults are suspended (R395, R407). -/
def rbSuspended (s : State) (i : Fin 96) : Bool := !s.gateOpen || !s.lpOk i

/-- Switch a channel off (R416: never deferred). -/
def switchOff (s : State) (i : Fin 96) : State :=
  s.updCh i fun c => { c with cmd := false, on := false, defer := false, onT0 := none, skipRb := c.skipRb || c.cmd,
                              badRb := if c.cmd then 0 else c.badRb }

/-- READBACK_FAULT (R408): the refresh of the T0 of the finding already commands the channel off. -/
def readbackFault (s : State) (i : Fin 96) (detail : OvldDetail) : State :=
  let c := s.pol.ch.get i
  if !outRole (s.polRec i).role || s.rbSuspended i || c.heldOff then s
  else
    let off (s : State) (short : Bool) : State :=
      (s.updCh i fun c =>
        { c with heldOff := true, badRb := 0,
                 flags := { c.flags with shortLp := c.flags.shortLp || short, ovld := c.flags.ovld || !short } }).switchOff i
    match detail with
    | .currentLimit => if c.cmd then (off s false).polFault i 3 1 else s
    | .thermal => if c.cmd then (off s false).polFault i 3 2 else s
    | .readback =>
      if c.badRb < 2 then s
      else if c.cmd then (off s false).polFault i 3 3
      else (off s true).polFault i 1 0

/-- The demand of an output's driver (R397, R403). -/
def driverDemand (s : State) (i : Fin 96) : Bool :=
  let r := s.polRec i
  let lv (f : Lv → Bool) : Bool := (polCar r).elim false fun c => f (s.lv.get c)
  if r.role = 0x40 then lv fun l => l.mc || (l.tests.step = 6 && l.tests.phase = 1)
  else if r.role = 0x41 then lv fun l => l.mc || (l.tests.step = 6 && l.tests.phase = 3)
  else if r.role = 0x42 then lv (·.brk1)
  else if r.role = 0x43 then lv (·.brk2)
  else if r.role = 0x44 then (polCar r).elim false fun c => (s.sides.get (front c)).buzzer
  else if r.role = 0x45 then (polCar r).elim false fun c => (s.sides.get (rear c)).buzzer
  else if r.role = 0x46 then (s.pol.gout.get ⟨i.val / 32, by omega⟩).getLsbD (i.val % 32)
  else false

/-- R32 holds for a levee core: two evaluations in a row were missed. -/
def leveeMissed (s : State) (lc : Fin 2) : Bool := 2 ≤ s.spill.miss.get lc

/-- The state of an output under the list of R403 without its pulses and deferrals. -/
def outState (s : State) (i : Fin 96) : Bool :=
  let r := s.polRec i
  if s.isRetired (.channel i) || (s.pol.ch.get i).heldOff || s.underTest (.channel i) then false
  else if !s.gateOpen then false
  else if (polCar r).any (fun c => s.leveeMissed (carLevee c)) || [ModState.boot, .config, .witness, .update].contains s.mod then
    s.safeState r
  else s.driverDemand i

/-- Used budget of R415 [10 mA] of a polder, or of the module. -/
def usedBudget (s : State) (p : Option (Fin 12)) : Nat :=
  (s.pol.switched.filterMap fun x =>
    if t0Since s.tick.t0 x.1 < 40 && p.all (· = polOf x.2.1) then some x.2.2 else none).sum

/-- Budget of a polder and of the module [10 mA]. -/
def polBudget (s : State) (p : Fin 12) : Nat :=
  let b := (s.polRec ⟨8 * p.val, by omega⟩).budget
  10 * (if b = 0 then 40 else b)
/-- Budget of the module [10 mA]. -/
def modBudget (s : State) : Nat :=
  let b := (s.polRec 0).modBudget
  10 * (if b = 0 then 160 else b)

/-- The other brake channel of a gang (R398). -/
def gangMate (s : State) (i : Fin 96) : Option (Fin 96) :=
  let r := s.polRec i
  let other := if r.role = 0x42 then 0x43 else if r.role = 0x43 then 0x42 else 0
  if other = 0 then none
  else (idx 96).find? fun j => (s.polRec j).role = other && (s.polRec j).car = r.car

/-- The units that may be switched on (R416), each as its channels in index order. -/
def candidates (s : State) : List (List (Fin 96)) :=
  let wants (i : Fin 96) : Bool := outRole (s.polRec i).role && s.outState i && !(s.pol.ch.get i).cmd && !(s.pol.ch.get i).pulse
  (idx 96).filterMap fun i =>
    if !wants i then none
    else match s.gangMate i with
      | none => some [i]
      | some j => if wants j then (if i < j then some [i, j] else none) else some [i]

/-- Order of R416: priority, then the T0 of the demand, then the lowest index. -/
def candLe (s : State) (a b : List (Fin 96)) : Bool :=
  let key (u : List (Fin 96)) : Nat × Nat × Nat :=
    match u with
    | [] => (0, 0, 0)
    | i :: _ => ((s.polRec i).prio, (s.tick.t0 - ((s.pol.ch.get i).reqT0.getD s.tick.t0)).toNat, i.val)
  let x := key a
  let y := key b
  if x.1 ≠ y.1 then x.1 < y.1 else if x.2.1 ≠ y.2.1 then y.2.1 < x.2.1 else x.2.2 ≤ y.2.2

/-- Polders a unit touches. -/
def touched (u : List (Fin 96)) : List (Fin 12) := (idx 12).filter fun p => u.any fun i => polOf i = p

/-- Inrush of a unit, in one polder or in all [10 mA]. -/
def unitInrush (s : State) (u : List (Fin 96)) (p : Option (Fin 12)) : Nat :=
  ((u.filter fun i => p.all (· = polOf i)).map fun i => (s.polRec i).inrush).sum

/-- One unit of the scheduler: switched on when every budget allows it, else deferred (R416). The first refresh of a takeover defers
nothing (15 R514). -/
def scheduleUnit (s : State) (u : List (Fin 96)) : State :=
  let ok := s.tw.taking || decide (s.usedBudget none + s.unitInrush u none ≤ s.modBudget) &&
    ((touched u).all fun p => decide (s.usedBudget (some p) + s.unitInrush u (some p) ≤ s.polBudget p))
  if ok then
    let s := s.each u fun s i => s.updCh i fun c =>
      { c with cmd := true, on := true, defer := false, onT0 := some s.tick.t0, skipRb := true, badRb := 0 }
    { s with pol := { s.pol with switched := s.pol.switched ++ u.map fun i => (s.tick.t0, i, (s.polRec i).inrush) } }
  else
    let first := u.any fun i => !(s.pol.ch.get i).defer
    let s := if first then s.each (touched u) fun s p => s.updPol p fun x => { x with deferred := x.deferred + 1 } else s
    s.each u fun s i => s.updCh i fun c => { c with defer := true, deferrals := c.deferrals + 1 }

/-- A pulse ends at this refresh (R414): it is judged, unless it was a test pulse of R410. -/
def endPulse (s : State) (i : Fin 96) : State :=
  let c := s.pol.ch.get i
  let on := s.outState i
  let s := s.updCh i fun c => { c with pulse := false, tpulse := false, cmd := on, on := on, skipRb := true, badRb := 0 }
  if c.tpulse then s
  else if !on then s.updCh i fun c => { c with abandoned := c.abandoned + 1 }
  else if c.cls = .closed then
    (s.updCh i fun c => { c with flags := { c.flags with darkFail := true } }).polFault i 4 (c.pulseT0.toNat % 65536)
  else s.updCh i fun c => { c with pulses := c.pulses + 1 }

/-- Some self-test runs in the module (R413). -/
def anyTest (s : State) : Bool := s.fc.tests.any (·.running)

/-- A dark pulse begins at this refresh (R413). -/
def darkDue (s : State) (i : Fin 96) : Bool :=
  let c := s.pol.ch.get i
  darkRole (s.polRec i).role && s.tick.t0.toNat % 4000 = 40 * i.val && c.cmd && s.outState i &&
    c.onT0.any (fun t => 4 ≤ t0Since s.tick.t0 t) && c.rb && s.gateOpen && !s.anyTest

/-- The channel a step B of a channel's self-test pulses in this T0 (R410): the next energised output in index order. -/
def testPulseAt (s : State) : Option (Fin 96) :=
  (s.fc.tests.find? fun t => t.running && 4 ≤ t.age && (t.kind = 1 || t.kind = 4) && outRole (match t.unit with
    | .channel i => (s.polRec i).role
    | _ => 0)).bind fun t =>
    (idx 96).find? fun j => t.last ≤ j.val && t.unit ≠ .channel j && (s.pol.ch.get j).cmd && s.outState j

/-- A pulse begins (R412 to R414). -/
def beginPulse (s : State) (i : Fin 96) (test : Bool) : State :=
  s.updCh i fun c => { c with pulse := true, tpulse := test, cmd := false, on := false, pulseT0 := s.tick.t0, skipRb := true }

/-- One output's part of a refresh before the scheduler. -/
def refreshOne (s : State) (tp : Option (Fin 96)) (i : Fin 96) : State :=
  let r := s.polRec i
  if !outRole r.role then (if r.role = 0 then s.switchOff i else s)
  else
    let dem := s.driverDemand i
    let s := s.updCh i fun c => { c with reqT0 := if dem then some (c.reqT0.getD s.tick.t0) else none }
    let s := if (s.pol.ch.get i).wdogOff then
        (s.updCh i fun c => { c with wdogOff := false, on := c.cmd, flags := { c.flags with wdog := true } }).polFault i 6 0
      else s
    let c := s.pol.ch.get i
    if c.pulse then s.endPulse i
    else if tp = some i then s.beginPulse i true
    else if s.darkDue i then s.beginPulse i false
    else if s.outState i then s
    else s.switchOff i

/-- The refresh of one T0 (R403, R416). A levee core that missed this evaluation leaves its cars' channels as they were (01 R31),
unless R32 holds. -/
def refresh (s : State) (held : Fin 96 → Bool) : State :=
  let tp := s.testPulseAt
  let s := { s with pol := { s.pol with switched := s.pol.switched.filter fun x => t0Since s.tick.t0 x.1 < 40 } }
  let s := { s with fc := { s.fc with tests := s.fc.tests.map fun (t : TestRun) => if t.running && 4 ≤ t.age && tp.isSome then { t with last := tp.elim 0 (·.val + 1) } else t } }
  let s := s.each ((idx 96).filter (!held ·)) fun s i => s.refreshOne tp i
  let cand := sortBy s.candLe (s.candidates.filter fun u => u.all (!held ·))
  s.each cand scheduleUnit

/-- LEVEE_MISS_SAFE_STATE (01 R32): at the second missed consumption point the core's outputs go to their safe state. -/
def leveeMissSafeState (s : State) (lc : Fin 2) : State :=
  if s.leveeMissed lc then
    s.each (idx 96) fun s i =>
      let r := s.polRec i
      if outRole r.role && (polCar r).any (fun c => carLevee c = lc) then
        (s.switchOff i).updCh i fun c => { c with cmd := s.safeState r, on := s.safeState r, pulse := false, tpulse := false }
      else s
  else s

/-- The latch of one channel (R400, R402, R408). -/
def latchCh (s : State) (i : Fin 96) : State :=
  let r := s.polRec i
  let c := s.pol.ch.get i
  let dem := s.inDemand i
  let rb := c.cls == .closed
  let checked := outRole r.role && !c.skipRb && !c.pulse && !s.rbSuspended i && !c.heldOff && !s.isRetired (.channel i) &&
    !s.underTest (.channel i)
  s.updCh i fun c =>
    { c with lcls := c.cls, active := inRole r.role && s.inValue i, demand := inRole r.role && dem, rb := outRole r.role && rb,
             badRb := if !checked then (if c.skipRb || c.pulse then c.badRb else 0) else if rb == c.cmd then 0 else c.badRb + 1,
             skipRb := false }

/-- The latch of all 96 channels (01 R24). -/
def latchPolders (s : State) : State := s.each (idx 96) latchCh

/-- L+ as measured in each T1 (R421): a measurement, its value left open (log 9). -/
def measurePolders (s : State) : State :=
  s.each (idx 12) fun s p => let (v, s) := s.take; s.updPol p fun x => { x with volt := BitVec.ofNat 16 v.toNat }

end State

/-- INPUT_FILTER_ACCEPT, R400. -/
def execInputFilterAccept (i : Fin 96) (samples : List Nat) (s : State) : Out := .next (s.inputFilterAccept i samples)
/-- INPUT_GUARD, R401. -/
def execInputGuard (i : Fin 96) (s : State) : Out := .next (s.inputGuard i)
/-- LP_LOW, R395. -/
def execLpLow (p : Fin 12) (s : State) : Out := .next (s.lpLow p)
/-- LP_RESTORED, R395. -/
def execLpRestored (p : Fin 12) (s : State) : Out := .next (s.lpRestored p)
/-- COUPLER_FAULT, R394. -/
def execCouplerFault (i : Fin 96) (s : State) : Out := .next (s.couplerFault i)
/-- FIELD_WATCHDOG, R405. -/
def execFieldWatchdog (i : Fin 96) (s : State) : Out := .next (s.fieldWatchdog i)
/-- READBACK_FAULT, R408. -/
def execReadbackFault (i : Fin 96) (detail : OvldDetail) (s : State) : Out := .next (s.readbackFault i detail)
/-- LEVEE_MISS_SAFE_STATE, 01 R32. -/
def execLeveeMissSafeState (lc : Fin 2) (s : State) : Out := .next (s.leveeMissSafeState lc)

end Sys2Proof.Machine
end

