-- ==== Sys2Proof/Machine/Levee.lean ====
section
/-! DEFINITION. The levee (10): sources, levee position and speed, causes and demands, SF1 to SF6, brake control, the safety
reset and the start-up tests. -/

namespace Sys2Proof.Machine

/-- Causes of kind M (R331); 0x40 is kind I in M9 and M10. -/
def kindM (vmode code : Nat) : Bool :=
  [0x01, 0x02, 0x03, 0x04, 0x05, 0x34, 0x41, 0x42, 0x51].contains code || (code = 0x40 && vmode ≠ 9 && vmode ≠ 10)

/-- Latched causes in the bit order of LV_TRIP (R364). -/
def tripCodes : List Nat := [0x04, 0x20, 0x30, 0x31, 0x32, 0x33, 0x50, 0x51]

/-- Bit of a latched cause in LV_TRIP. -/
def tripBit (code : Nat) : Option Nat := tripCodes.findIdx? (· = code)

/-- The latched causes of a LV_TRIP mask. -/
def tripList (t : BitVec 8) : List Nat := ((List.range 8).filter t.getLsbD).map fun i => tripCodes.getD i 0

/-- Add the bits of latched causes. -/
def tripAdd (t : BitVec 8) (cs : List Nat) : BitVec 8 :=
  cs.foldl (fun t c => (tripBit c).elim t fun i => t ||| BitVec.ofNat 8 (2 ^ i)) t

/-- The SF1 envelope (R335). -/
def sf1Env (vd : Int) (k : Nat) : Int := vd + 3000 - tdiv (5000 * max 0 (250 * (k : Int) - 500000)) 1000000

/-- The terminal envelope (R349) for a distance to the limit. -/
def termEnv (decel d : Int) : Int := (isqrt (2 * decel * max 0 d).toNat : Int) + 500

/-- One T0 of a dual source whose channels show demand or not (R326). -/
def Dual.step (d : Dual) (a b : Bool) : Dual :=
  let dem := d.latched && (d.sawDem || (a && b))
  { d with disagree := if a == b then 0 else d.disagree + 1, sawDem := dem, sawNon := d.sawNon || (dem && d.sawDem && !a && !b) }

/-- No latch and no disagreement. -/
def Dual.none : Dual := { disagree := 0, latched := false, sawDem := false, sawNon := false }

/-- A watch starts over at a command change (R340, R341, R404). -/
def FbWatch.restart (window : Nat) : FbWatch := { age := 0, bad := 0, seen := false, window := window }

/-- One T0 of a watch: `applied` while the output follows its command, `ok` while the feedback does. -/
def FbWatch.step (w : FbWatch) (applied ok : Bool) : FbWatch :=
  if !applied then { w with age := 0, seen := w.seen && ok }
  else { w with age := w.age + 1, seen := w.seen || ok, bad := if ok || w.age < w.window then 0 else w.bad + 1 }

/-- The feedback has failed (R340, R341): it never followed within its window, or it has disagreed for 4 T1 outside it. -/
def FbWatch.due (w : FbWatch) : Bool := w.window ≤ w.age && ((!w.seen && 1 ≤ w.bad) || 32 ≤ w.bad)

/-- What the levee reads for one car in one T0 (R324 to R326). -/
structure LvSrc where
  dz      : Bool
  tsUp    : Bool
  tsDn    : Bool
  lockedF : Bool
  lockedR : Bool
  locked  : Bool       -- every fitted side LOCKED
  open_   : Bool       -- some fitted side known not to be LOCKED
  stop    : Bool
  insp    : Bool
  rescue  : Bool
  epwr    : Bool
  reset   : Bool
  mcFb    : Bool
  b1Fb    : Bool
  b2Fb    : Bool
  mcKnown : Bool       -- the feedback has a value: a polder's always, a drive's once it has been heard or is LOST
  b1Known : Bool
  b2Known : Bool
  hdvUp   : Bool
  lost    : Bool       -- cause 0x08
  sto     : Bool
  mag     : Bool

namespace State

/-- Every node of a car of a class, with its connection. -/
def carNodes (s : State) (m : Model) (c : Fin 16) (k : NodeClass) : List Conn :=
  (m.nodes.zip s.conns).filterMap fun p => if p.1.cls = k && p.1.car = c.val then some p.2 else none

/-- The delivered values of the two channels of a pair (R398), if the car has one. -/
def pairOf (s : State) (m : Model) (c : Fin 16) (role : Nat) : Option (Bool × Bool) :=
  match carChs m c role with
  | i :: j :: _ => some (s.chActive i, s.chActive j)
  | _ => none

/-- One T0 of the dual sources of a car (R326): the demand of a lock pair is inactive, of STOP and INSPECTION active. -/
def stepDuals (s : State) (m : Model) (c : Fin 16) (l : Lv) : Lv :=
  let one (d : Dual) (role : Nat) (closed : Bool) : Dual :=
    match s.pairOf m c role with
    | some (a, b) => d.step (a != closed) (b != closed)
    | none => Dual.none
  { l with locks := (l.locks.put 0 (one (l.locks.get 0) 0x04 true)).put 1 (one (l.locks.get 1) 0x05 true),
           stopD := one l.stopD 0x06 false, inspD := one l.inspD 0x07 false }

/-- A side's lock chain: closed, open, or unknown while its node has not been heard (R324, R325; log 26). Of several PTNs each must
show it closed. -/
def lockChain (s : State) (m : Model) (c : Fin 16) (l : Lv) (side : Fin 2) : Option Bool :=
  match s.pairOf m c (0x04 + side.val) with
  | some (a, b) => some (a && b && !(l.locks.get side).latched)
  | none =>
    let one (p : Conn) : Option Bool := if connLive p then some (p.data.ptn.getLsbD side.val) else if p.state = .lost then some false else none
    let l := (s.carNodes m c .ptn).map one
    if l.isEmpty || l.contains (some false) then some false else if l.contains none then none else some true

/-- A side's car door contact, likewise. -/
def doorContact (s : State) (m : Model) (c : Fin 16) (side : Fin 2) : Option Bool :=
  match s.nodeConn? m c .ctn with
  | none => some false
  | some p => if connLive p.2 then some (p.2.data.ctn.doors.getLsbD (4 * side.val)) else if p.2.state = .lost then some false else none

/-- A side is LOCKED (R345). -/
def sideLocked (s : State) (m : Model) (c : Fin 16) (l : Lv) (side : Fin 2) : Bool :=
  s.lockChain m c l side == some true && s.doorContact m c side == some true

/-- A side is known not to be LOCKED. -/
def sideOpen (s : State) (m : Model) (c : Fin 16) (l : Lv) (side : Fin 2) : Bool :=
  s.lockChain m c l side == some false || s.doorContact m c side == some false

/-- A bit of a node report that reads active once its node is lost (R325). -/
def nodeBit (c : Conn) (f : NodeData → Bool) : Bool := if connLive c then f c.data else c.state = .lost

/-- The feedback of a polder role or of an HDV report bit (R324); a lost HDV reads as disagreeing with the command. -/
def feedback (s : State) (m : Model) (c : Fin 16) (role bit : Nat) (disagree : Bool) : Bool :=
  match m.polCh? c role with
  | some i => s.chActive i
  | none => (s.hdv? m c).elim disagree fun d => d.hdv.getLsbD bit

/-- The levee's sources of a car. -/
def lvSrc (s : State) (m : Model) (c : Fin 16) (l : Lv) : LvSrc :=
  let ctns := s.carNodes m c .ctn
  let ptns := s.carNodes m c .ptn
  let hdv := s.nodeConn? m c .hdv
  let pair (role : Nat) (d : Dual) : Bool := (s.pairOf m c role).elim false fun p => p.1 || p.2 || d.latched
  let rear := m.rearFitted c
  let lf := s.sideLocked m c l 0
  let lr := rear && s.sideLocked m c l 1
  let ptnLocks := (s.pairOf m c 0x04).isNone || (rear && (s.pairOf m c 0x05).isNone)
  let isLost (k : Conn) : Bool := k.state = .lost
  let known (role : Nat) : Bool := (m.polCh? c role).isSome || !(hdv.any fun p => p.2.state = .wait && !p.2.data.any)
  { dz := s.carIn m c Role.dz, tsUp := s.carIn m c Role.tsUp, tsDn := s.carIn m c Role.tsDn,
    lockedF := lf, lockedR := lr, locked := lf && (!rear || lr),
    open_ := s.sideOpen m c l 0 || (rear && s.sideOpen m c l 1),
    stop := pair 0x06 l.stopD || ctns.any (nodeBit · fun d => d.ctn.station.getLsbD 0) || ptns.any (nodeBit · fun d => d.ptn.getLsbD 2),
    insp := pair 0x07 l.inspD || ctns.any (nodeBit · fun d => d.ctn.station.getLsbD 1) || ptns.any (nodeBit · fun d => d.ptn.getLsbD 3),
    rescue := s.carIn m c 0x08, epwr := s.groupIn m c 0x09, reset := s.carIn m c 0x0A,
    mcFb := s.feedback m c 0x0B 1 l.mc, b1Fb := s.feedback m c 0x0C 2 (!l.brk1), b2Fb := s.feedback m c 0x0D 3 (!l.brk2),
    mcKnown := known 0x0B, b1Known := known 0x0C, b2Known := known 0x0D, hdvUp := hdv.any fun p => connUp p.2,
    lost := (hdv.any fun p => isLost p.2) || ctns.any isLost || (ptnLocks && ptns.any isLost),
    sto := (s.hdv? m c).any fun d => d.hdv.getLsbD 0 || d.fbStatus.getLsbD 3,
    mag := (s.hdv? m c).any fun d => d.fbStatus.getLsbD 1 }

/-! Levee position and speed (R327 to R330). -/

/-- A port is usable for the levee (R327). -/
def lvUsable (s : State) (n : Fin 48) : Bool := s.portPresent n && !s.isRetired (.port n) && !s.fc.nmiPorts

/-- The levee's motion source (R327): ROLE 4, else ROLE 1, else ROLE 3. -/
def lvMotion (s : State) (m : Model) (c : Fin 16) : Option (Fin 48) :=
  ([4, 1, 3].filterMap fun r => (m.rolePort? c r).filter s.lvUsable).head?

/-- Travel of a port over the last T0, fixed point; none without both counts. -/
def portTravel (s : State) (m : Model) (n : Fin 48) : Option Int :=
  if s.lvUsable n then ((s.ports.get n).prev).map fun v => diff32 (s.ports.get n).latch.count v * (m.ports.get n).scale else none

/-- The speed by the accepted absolute frames, rounded towards zero (R328). -/
def lvAbsSpeed (l : List (Nat × Int)) : Option Int :=
  match l with
  | [] => none
  | (j, a) :: rest => (rest.find? fun q => j + 8 ≤ q.1).map fun q => tdiv ((a - q.2) * 4000) (fx ((q.1 : Int) - j))

/-- The absolute frame in the levee's view (R327): acceptance, failure, re-adoption and start-up. -/
def lvAbs (h : HoistRec) (l : Lv) (a : Option Int) (dm : Int) : Lv :=
  let jump := (fx h.absJump).natAbs
  let aged := (l.accepts.map fun q => (q.1 + 1, q.2)).filter (·.1 ≤ h.absBridge)
  match a with
  | none => { l with accepts := aged, pFx := l.pFx + dm }
  | some x =>
    let near := l.prevA.any fun y => (x - y).natAbs ≤ jump
    let l := { l with series := if near then l.series + 1 else 1, prevA := some x }
    let take (l : Lv) : Lv := { l with pFx := x + dm, accepts := (1, x) :: aged, absOk := true, est := true, rejects := 0 }
    if !l.est then if 8 ≤ l.series then take l else { l with accepts := aged }
    else if l.absOk then
      if (x - l.pFx).natAbs ≤ jump then take l
      else { l with accepts := aged, pFx := l.pFx + dm, rejects := l.rejects + 1, absOk := l.rejects + 1 < 3 }
    else if l.still && 64 ≤ l.series && (x - l.pFx).natAbs ≤ (fx h.posTolCoarse).natAbs then take l
    else { l with accepts := aged, pFx := l.pFx + dm }

/-- Slip by the car-coupled source (R330). -/
def lvSlip (s : State) (m : Model) (c : Fin 16) (l : Lv) (acc : Bool) (a : Option Int) : Lv :=
  let f := fuseIn m c
  match f.motor.filter fun n => l.mc && s.lvUsable n with
  | none => { l with slipA := none }
  | some n1 =>
    if l.absOk then
      match acc, a, (s.ports.get n1).prev with
      | true, some x, some cnt =>
        match l.slipA with
        | some (a0, m0) => { l with slip := l.slip + diff32 cnt m0 * (m.ports.get n1).scale - (x - a0), slipA := some (x, cnt) }
        | none => { l with slipA := some (x, cnt) }
      | _, _, _ => l
    else
      let l := { l with slipA := none }
      match s.portTravel m n1, f.sec.bind (s.portTravel m) with
      | some d1, some d3 => { l with slip := l.slip + d1 - d3 }
      | _, _ => l

/-- Without a ROLE 2 port the levee adopts CP_POS (R327). -/
def lvAdopt (h : HoistRec) (cp : CarPos) (l : Lv) (wasStill dz : Bool) : Lv :=
  let up := 2 ≤ Health.rank cp.health
  let l := { l with adopt := up && (l.adopt || !l.wasUp), wasUp := up }
  if !(up && dz && l.still) then l
  else if l.adopt then { l with pFx := fx cp.pos, est := true, adopt := false }
  else if !wasStill && (l.pFx - fx cp.pos).natAbs ≤ (fx h.posTolCoarse).natAbs then { l with pFx := fx cp.pos }
  else l

/-- Position, speed, standstill, cross-check and slip of a car in one T0 (R327 to R330). -/
def lvPosition (s : State) (m : Model) (c : Fin 16) (l : Lv) : Lv :=
  let h := m.hoists.get c
  let cp := s.cars.get c
  let f := fuseIn m c
  let a := s.absFrame m (f.absP.filter s.lvUsable)
  let mo := s.lvMotion m c
  let dm := (mo.bind (s.portTravel m)).getD 0
  let n := l.accepts.length
  let l' := lvAbs h { l with posPrev := l.pos } a dm
  let acc := n < l'.accepts.length || (a.isSome && (l'.accepts.head?).map (·.1) == some 1)
  let v := match mo with
    | some n => tdiv ((s.ports.get n).latch.speed * (m.ports.get n).scale) (16 * 65536)
    | none => (lvAbsSpeed l'.accepts).getD l.speed
  let run := if v.natAbs ≤ 50 then l.stillRun + 1 else 0
  let l' := { l' with speed := v, stillRun := min run 8, still := 8 ≤ run }
  let l' := if f.absP.isNone then lvAdopt h cp l' l.still (s.carIn m c Role.dz) else l'
  let l' := { l' with pos := fxRound l'.pFx, posOk := l'.est && mo.isSome }
  let travel := l'.posPrev - l.liftPos
  let lim := 1000 * (h.posTolCoarse + h.slipBase) + h.slipPermille * travel.natAbs
  let x := l'.posOk && decide (2 ≤ Health.rank cp.health) && decide (lim < 1000 * ((l'.posPrev - l.cpPrev).natAbs : Int))
  let l' := { l' with xRun := if x then min (l.xRun + 1) 8 else 0 }
  { s.lvSlip m c l' acc a with cpPrev := cp.pos }

/-! Causes (R331). -/

/-- Landings of a car within their zones at a position: R346's landing, R347's served landings. -/
def inZoneAt (m : Model) (c : Fin 16) (p : Int) : Bool :=
  (m.servedLandings c).any fun l => ((p - m.level l).natAbs : Int) ≤ m.dzHalf l

/-- R346 asked for by the car core in a mode that allows it (R318). -/
def relevelAsked (l : Lv) : Bool := l.req.relevel && (l.vmode ≤ 8 || l.vmode = 11)

/-- The place conditions of R346. -/
def excPlace (m : Model) (c : Fin 16) (l : Lv) (x : LvSrc) : Bool :=
  x.dz && ((l.pos - m.level (m.nearest c l.pFx)).natAbs : Int) ≤ m.dzHalf (m.nearest c l.pFx)

/-- R346 holds. -/
def excHolds (m : Model) (c : Fin 16) (l : Lv) (x : LvSrc) : Bool :=
  relevelAsked l && excPlace m c l x && l.speed.natAbs ≤ 3000

/-- Distance from a position to the limit in the direction of travel, in a mode (R349). -/
def limitDist (m : Model) (c : Fin 16) (vmode : Nat) (p v : Int) : Int :=
  let lim := (m.car? c).elim (0, 0) fun r => (r.bottomLimit, r.topLimit)
  let t := if vmode = 9 then 1000 else 0
  if 0 < v then lim.2 - t - p else p - (lim.1 + t)

/-- Beyond a travel limit (R349). -/
def beyondLimit (m : Model) (c : Fin 16) (vmode : Nat) (p : Int) : Bool :=
  let lim := (m.car? c).elim (0, 0) fun r => (r.bottomLimit, r.topLimit)
  let t := if vmode = 9 then 1000 else 0
  decide (lim.2 - t < p) || decide (p < lim.1 + t)

/-- Twice the midpoint of a terminal switch (R124): between the two outermost served landings. -/
def tsMid2 (m : Model) (c : Fin 16) (up : Bool) : Int :=
  let ls := m.servedLandings c
  match if up then ls.reverse else ls with
  | a :: b :: _ => m.level a + m.level b
  | _ => 0

/-- Cause 0x33 (R350): a terminal switch entered too fast, its distance rounded down. -/
def tsTooFast (m : Model) (c : Fin 16) (l : Lv) (x : LvSrc) : Bool :=
  let d2 (up : Bool) : Int := (if up then 2 * limitDist m c l.vmode 0 1 - tsMid2 m c true else tsMid2 m c false + 2 * limitDist m c l.vmode 0 (-1)) - 2000
  (x.tsUp && !l.tsUp && decide (0 < l.speed) && decide (termEnv l.decel (d2 true / 2) < l.speed)) ||
    (x.tsDn && !l.tsDn && decide (l.speed < 0) && decide (termEnv l.decel (d2 false / 2) < -l.speed))

/-- Base of the SF6 limit (R351). -/
def sf6Base (vmode : Nat) (cap : Int) : Int := if vmode = 9 || vmode = 10 then cap + 100 else cap + max 100 (cap / 20)

/-- Before its first brake lift a levee checks against the values that a lift would latch (R349, R351; log 44). -/
def preLift (m : Model) (c : Fin 16) (l : Lv) (x : LvSrc) : Lv :=
  if l.lifted then l else { l with cap := modeLimit m c l.vmode x.epwr, decel := (m.hoists.get c).decel, capFall := none }

/-- The SF6 limit of one T0 (R351, R352). -/
def sf6Step (m : Model) (c : Fin 16) (l : Lv) (x : LvSrc) : Lv :=
  let now := modeLimit m c l.vmode x.epwr
  let l := if (l.brk1 || l.brk2) && now < l.cap then { l with cap := now, capFall := some (l.speed.natAbs, 0) }
    else { l with capFall := l.capFall.map fun p => (p.1, p.2 + 1) }
  let base := sf6Base l.vmode l.cap
  match l.capFall with
  | some (vd, k) => if base < sf1Env vd k then { l with limit := sf1Env vd k } else { l with limit := base, capFall := none }
  | none => { l with limit := base }

/-- Counters and books of the checks of one T0. -/
def lvBooks (m : Model) (c : Fin 16) (l : Lv) (x : LvSrc) : Lv :=
  let rated := (m.car? c).elim 0 (·.ratedSpeed)
  let l := sf6Step m c (preLift m c l x) x
  let v : Int := l.speed.natAbs
  let term := l.posOk && decide (l.speed ≠ 0) && decide (termEnv l.decel (limitDist m c l.vmode l.pos l.speed) < v)
  let ts := l.posOk && tsContradicts m c l.pos x.tsUp x.tsDn
  let arisen := (x.insp && !l.inspReq) || (x.rescue && !l.rescReq)
  { l with osRun := if decide (rated * 110 < v * 100) then l.osRun + 1 else 0, termRun := if term then l.termRun + 1 else 0,
           sf6Run := if decide (l.limit < v) then l.sf6Run + 1 else 0, tsRun := if ts then l.tsRun + 1 else 0,
           moveSafe := (l.moveSafe || arisen) && !l.still, inspReq := x.insp, rescReq := x.rescue,
           lockedF := x.lockedF, lockedR := x.lockedR, mcPulled := !x.mcFb, b1Up := x.b1Fb, b2Up := x.b2Fb, exc := !x.locked && l.mc && excHolds m c l x }

/-- A contactor is on: commanded by a run or by the contactor test (R359). -/
def contactorOn (l : Lv) : Bool := l.mc || (l.tests.step = 6 && (l.tests.phase = 1 || l.tests.phase = 3))

/-- The conditions present in one T0, apart from those the command rows raise (R331). -/
def lvConditions (m : Model) (c : Fin 16) (l : Lv) (x : LvSrc) (missed : Bool) : List Nat :=
  let h := m.hoists.get c
  let asked := relevelAsked l
  let place := excPlace m c l x
  let held (code : Nat) (p : Bool) : Bool := l.causes.contains code && p
  let contra := decide (l.speed * l.dir < 0) && decide (100 < l.speed.natAbs)
  ([(0x01, l.req.sf1), (0x02, missed), (0x03, held 0x03 (8 ≤ l.xRun)),
    (0x04, l.mc && slipExceeds h (l.posPrev - l.liftPos) l.slip 2 1),
    (0x05, held 0x05 (l.wBrk1.due || l.wBrk2.due)), (0x06, held 0x06 l.wMc.due),
    (0x07, !l.posOk && (!l.still || contactorOn l)), (0x08, x.lost), (0x09, x.stop),
    (0x10, x.open_ && l.mc && !asked), (0x11, x.open_ && l.mc && asked && place && decide (3000 < l.speed.natAbs)),
    (0x20, x.open_ && (!x.dz || (l.posOk && !inZoneAt m c l.pos))),
    (0x30, held 0x30 (2 ≤ l.osRun)), (0x31, 2 ≤ l.termRun), (0x32, l.posOk && beyondLimit m c l.vmode l.pos),
    (0x33, tsTooFast m c l x), (0x34, 2 ≤ l.tsRun), (0x40, 2 ≤ l.sf6Run), (0x41, l.moveSafe), (0x42, l.illegal),
    (0x50, l.demand && !l.torqueOff && 1 ≤ l.k && (decide (l.env < l.speed.natAbs) || contra)),
    (0x51, (l.locks.get 0).latched && !(l.locks.get 0).sawNon || (l.locks.get 1).latched && !(l.locks.get 1).sawNon ||
      l.stopD.latched && !l.stopD.sawNon || l.inspD.latched && !l.inspD.sawNon)].filter (·.2)).map (·.1)

/-! The demand (R332 to R336). -/

/-- LEVEE event (R473). -/
def leveeEvent (s : State) (c : Fin 16) (kind d1 : Nat) (v : Int) : State := s.event4 0x000B c.val kind d1 0 v

/-- Torque is removed (R336): the demanded states go off, and a torque-removal frame is owed; R337 counts from that frame. -/
def dropTorque (l : Lv) : Lv :=
  let w (on : Bool) (x : FbWatch) (win : Nat) : FbWatch := if on then FbWatch.restart win else x
  { l with mc := false, brk1 := false, brk2 := false, torqueOff := true, tqAge := 0, tqSent := false, tqFrame := true, stoSeen := false, stoRaised := false,
           mstop := false, wMc := w l.mc l.wMc 400, wBrk1 := w l.brk1 l.wBrk1 l.wBrk1.window,
           wBrk2 := w l.brk2 l.wBrk2 l.wBrk2.window }

/-- The T0 in which a brake feedback must follow after a drop (R341). -/
def dropWindow (h : HoistRec) : Nat := 40 * h.brakeDrop + 800
/-- The same after a lift. -/
def liftWindow (h : HoistRec) : Nat := 40 * h.brakeLift + 800

/-- Report a cause that became active (R332). -/
def reportCause (s : State) (c : Fin 16) (code : Nat) : State :=
  if code = 0x41 then s.leveeEvent c 1 0x41 0 else s.finding c 1 (BitVec.ofNat 32 (s.lv.get c).first.toNat) code

/-- The reason of the car core's request lasts: its hoist axis stays stopped (06 R201), or the core is under test or retired (R534,
R539). -/
def sf1Held (s : State) (c : Fin 16) : Bool :=
  (s.lanes.get (hoist c)).stopped || s.underTest (.carCore (carCore c)) || s.isRetired (.carCore (carCore c))

/-- The causes in force: those present and the latched ones, ascending (R332). -/
def activeCauses (l : Lv) (present : List Nat) : List Nat :=
  sortBy (fun a b => decide (a ≤ b)) (present ++ (tripList (tripAdd l.trip present)).filter (!present.contains ·))

/-- The books of the demand at a T0 (R331 to R334); a cause that a command row raises later in the same T0 joins the ones of its
evaluation in FIRST and LAST (R332). -/
def recordDemand (t0 : BitVec 32) (l : Lv) (present : List Nat) : Lv :=
  let active := activeCauses l present
  let fresh := active.filter (!l.causes.contains ·)
  let starts := !l.demand && !active.isEmpty
  let imm := active.any fun x => !kindM l.vmode x
  { l with
    causes := active, trip := tripAdd l.trip present, demand := l.demand || starts,
    first := if starts then BitVec.ofNat 8 (active.head?.getD 0)
      else if l.demand && l.demandT0 = t0 then fresh.foldl (fun (a : Byte) x => if x < a.toNat then BitVec.ofNat 8 x else a) l.first
      else l.first,
    last := match fresh.getLast? with
      | some x => if l.lastT0 = t0 then BitVec.ofNat 8 (max x l.last.toNat) else BitVec.ofNat 8 x
      | none => l.last,
    lastT0 := if fresh.isEmpty then l.lastT0 else t0,
    demandT0 := if starts then t0 else l.demandT0, vd := if starts then l.speed.natAbs else l.vd,
    dir := if starts then sgn l.speed else l.dir, k := if starts then 0 else l.k,
    env := if starts then sf1Env l.speed.natAbs 0 else l.env,
    immediate := (if starts then false else l.immediate) || imm, acted := !starts && l.acted, demands := if starts then l.demands + 1 else l.demands,
    breaches := if fresh.contains 0x50 then l.breaches + 1 else l.breaches }

/-- The demand ends without a cause once torque is off (R333); otherwise R336 acts once in it, at standstill or at an immediate cause,
and the monitored stop runs until torque is off (R334 to R336). Where torque was off already, the frame alone remains to be sent. -/
def actDemand (h : HoistRec) (l : Lv) : Lv :=
  let l := if l.demand && l.causes.isEmpty && l.torqueOff then
      { l with demand := false, immediate := false, acted := false, mstop := false, env := 0 } else l
  let off := l.demand && !l.acted && (l.still || l.immediate)
  let l := { l with mstop := l.demand && !l.torqueOff, acted := l.acted || off }
  if !off then l
  else if l.torqueOff then { l with tqFrame := true }
  else dropTorque { l with wBrk1 := { l.wBrk1 with window := dropWindow h }, wBrk2 := { l.wBrk2 with window := dropWindow h } }

/-- Decide the demand from the conditions present (R331 to R336). -/
def decide_ (s : State) (m : Model) (c : Fin 16) (present : List Nat) : State :=
  let l := s.lv.get c
  let l' := actDemand (m.hoists.get c) (recordDemand s.tick.t0 l present)
  let l' := if l'.torqueOff && !s.sf1Held c then { l' with req := { l'.req with sf1 := false } } else l'
  let s := if !l.demand && (recordDemand s.tick.t0 l present).demand then s.fireSf1 c else s
  (s.updLv c fun _ => l').each ((activeCauses l present).filter (!l.causes.contains ·)) fun s x => s.reportCause c x

/-- The outputs of a car follow the demanded states at once: a command row acts within its T0 (R336, 12 R416). -/
def dropOutputs (s : State) (c : Fin 16) : State :=
  s.each (idx 96) fun s i =>
    let r := s.polRec i
    if darkRole r.role && r.car = c.val && (s.pol.ch.get i).cmd && !s.outState i then s.switchOff i else s

/-- Request granted: the contactors are energised (R339, R340). -/
def startGranted (l : Lv) : Lv :=
  { l with mc := true, torqueOff := false, wMc := FbWatch.restart 400, req := { l.req with start := false } }

/-- The start condition (R339). -/
def startCond (s : State) (m : Model) (c : Fin 16) (l : Lv) (x : LvSrc) : Bool :=
  ((s.mod = .active && s.gateOpen) || (s.seals.role = 3 && s.mod = .active)) && l.tests.step = 8 && !l.demand && l.trip = 0 && l.posOk &&
    (x.locked || (l.req.relevel && excHolds m c l x)) && x.mcFb && !x.b1Fb && !x.b2Fb && x.hdvUp

/-- The levee answers the car core's requests (R340). -/
def serveRequests (s : State) (m : Model) (c : Fin 16) (x : LvSrc) : State :=
  let h := m.hoists.get c
  s.updLv c fun l =>
    let ok := s.startCond m c l x
    let l := { l with startOk := ok }
    if l.bt.phase ≠ 0 then l
    else
      let drop (l : Lv) : Lv :=
        { l with brk1 := false, brk2 := false, wBrk1 := if l.brk1 then FbWatch.restart (dropWindow h) else l.wBrk1,
                 wBrk2 := if l.brk2 then FbWatch.restart (dropWindow h) else l.wBrk2 }
      if l.req.runEnd then
        let l := drop { l with req := { l.req with start := false, lift := false, drop := false } }
        if !x.b1Fb && !x.b2Fb then
          { l with mc := false, wMc := if l.mc then FbWatch.restart 400 else l.wMc, req := { l.req with runEnd := false, relevel := false } }
        else l
      else
        let l := if l.req.start && ok && !l.mc then startGranted l else l
        let l := if l.req.lift && l.mc && !x.mcFb && !l.demand then
            { l with brk1 := true, brk2 := true, wBrk1 := FbWatch.restart (liftWindow h), wBrk2 := FbWatch.restart (liftWindow h),
                     liftPos := l.pos, slip := 0, slipA := none, decel := h.decel, lifted := true,
                     cap := modeLimit m c l.vmode x.epwr, capFall := none, req := { l.req with lift := false } }
          else l
        if l.req.drop then drop { l with req := { l.req with drop := false } } else l

/-- A command's time runs (R404): it does not while the refresh that switches one of its channels on is still deferred. An HDV's
brakes follow at once, and an output kept off for another reason does not stop the time. -/
def applied (s : State) (m : Model) (c : Fin 16) (roles : List Nat) (on : Bool) : Bool :=
  roles.all fun r => (m.polCh? c r).all fun i => (s.pol.ch.get i).cmd == on || (s.pol.ch.get i).pulse || !(s.pol.ch.get i).defer

/-- One T0 of the feedback watches (R340, R341, R404). -/
def stepWatches (s : State) (m : Model) (c : Fin 16) (l : Lv) (x : LvSrc) : Lv :=
  let one (known : Bool) (w : FbWatch) (roles : List Nat) (on ok : Bool) : FbWatch :=
    if known then w.step (s.applied m c roles on) ok else w
  { l with wMc := one x.mcKnown l.wMc [0x40, 0x41] l.mc (x.mcFb != l.mc),
           wBrk1 := one x.b1Known l.wBrk1 [0x42] l.brk1 (x.b1Fb == l.brk1),
           wBrk2 := one x.b2Known l.wBrk2 [0x43] l.brk2 (x.b2Fb == l.brk2) }

/-! The safety reset (R353 to R355). -/

/-- One T0 of the RESET timing (R354, R355). -/
def stepReset (s : State) (m : Model) (c : Fin 16) (l : Lv) (x : LvSrc) : Lv :=
  let known := (m.polCh? c 0x0A).any fun i => (s.pol.ch.get i).lcls ≠ .none
  let l := if known && !l.resetSeen then { l with resetSeen := true, stuck := x.reset } else l
  if x.reset then { l with press := some (l.press.elim 0 (· + 1)), released := none }
  else match l.press with
    | some n => { l with press := none, released := some (n + 1), pressMs := BitVec.ofNat 16 (min ((n + 1) / 4) 65535) }
    | none => { l with released := none }

/-! The mode in the levee's view (R306, R315). -/

/-- At the recall landing in the levee's view (R315). -/
def lvAtRecall (s : State) (m : Model) (c : Fin 16) (l : Lv) : Bool :=
  match m.policy? c with
  | none => false
  | some p =>
    let r := if s.groupIn m c 0x12 && p.recallAlt ≠ 0xFF then p.recallAlt else p.recallMain
    l.still && ((l.pos - m.level r).natAbs : Int) ≤ m.dzHalf r

/-- The transition table of R315. -/
def modeLegal (s : State) (m : Model) (c : Fin 16) (l : Lv) (x : LvSrc) (old new : Nat) : Bool :=
  let seal0 := s.seals.now.getLsbD 0
  let fire := s.groupIn m c 0x11
  let up (ms : List Nat) : Bool := ms.contains new
  let quiet := [3, 9, 10, 11].contains old
  let enter := match new with
    | 0 | 1 | 2 | 6 => !seal0 || !quiet
    | 4 => fire
    | 5 => old = 4 && fire && s.lvAtRecall m c l && !x.locked
    | 7 => s.groupIn m c 0x09
    | 8 => s.groupIn m c 0x14
    | 9 => x.insp
    | 10 => x.rescue && !x.insp
    | 11 => old = 3 && seal0 && l.still && x.locked
    | _ => true
  let leave := match old with
    | 4 => up [5, 8, 9, 10] || !fire
    | 5 => up [8, 9, 10] || (new = 4 && s.lvAtRecall m c l && !x.locked)
    | 7 => up [4, 5, 8, 9, 10] || !s.groupIn m c 0x09
    | 8 => up [9, 10] || !s.groupIn m c 0x14
    | 9 => !x.insp && l.still
    | 10 => up [9] || (!x.rescue && l.still)
    | _ => true
  enter && leave

/-- MODE_CHECK at a T1 boundary (R306, R315, R358): a change that does not meet the table keeps the mode in force. -/
def modeCheck (s : State) (m : Model) (c : Fin 16) (l : Lv) (x : LvSrc) : Lv :=
  let md := s.modes.get c
  if s.tick.t0.toNat % 8 ≠ 0 then l
  else if md.mode = l.modeLv then { l with illegal := false }
  else if s.modeLegal m c l x l.modeLv md.mode then { l with modeLv := md.mode, illegal := false }
  else { l with illegal := true }

/-- The variant mode (R306). -/
def variant (l : Lv) (x : LvSrc) : Lv := { l with vmode := if x.insp then 9 else if x.rescue then 10 else l.modeLv }

/-! The brake-holding test (R342 to R344). -/

/-- The conditions of R342. -/
def btReady (l : Lv) (x : LvSrc) : Bool := l.still && x.locked && !l.demand && x.hdvUp

/-- A brake-holding test begins; its contactors follow in `btStep`. -/
def btStart (s : State) (c : Fin 16) (torque : Int) (e : Option CmdEntry) : State :=
  s.updLv c fun l =>
    { l with
      bt := { l.bt with phase := 1, circuit := 1, torque := torque, age := 0, p0 := l.pos, e := e, res1 := 0, res2 := 0,
                        maxSlip := 0, retry := none } }

/-- The result field of the circuit under test. -/
def btResult (b : BrakeTest) (r : Fin 4) : BrakeTest := if b.circuit = 1 then { b with res1 := r } else { b with res2 := r }

/-- Torque removed at the end of a failed or aborted test (R342, R344). -/
def btOff (h : HoistRec) (l : Lv) : Lv :=
  dropTorque { l with wBrk1 := { l.wBrk1 with window := dropWindow h }, wBrk2 := { l.wBrk2 with window := dropWindow h },
                      bt := { l.bt with phase := 0 } }

/-- A circuit fails (R342, R344). -/
def btFail (s : State) (m : Model) (c : Fin 16) : State :=
  let b := (s.lv.get c).bt
  let s := s.updLv c fun l => btOff (m.hoists.get c) { l with bt := { btResult l.bt 2 with e := none } }
  let s := s.finding c 0x0A (BitVec.ofNat 32 b.maxSlip) b.circuit
  let s := (s.leveeEvent c 5 b.circuit b.maxSlip).serviceHold c 0x0A
  match b.e with
  | some e => s.finish e .failed b.circuit
  | none => s

/-- The test is aborted (R344); an automatic one is retried after 600 s. -/
def btAbort (s : State) (m : Model) (c : Fin 16) : State :=
  let b := (s.lv.get c).bt
  let s := s.updLv c fun l =>
    btOff (m.hoists.get c) { l with bt := { btResult l.bt 3 with e := none, retry := if b.e.isNone then some 2400000 else none } }
  match b.e with
  | some e => s.finish e .aborted (s.lv.get c).first.toNat
  | none => s

/-- One T0 of a test in progress (R342, R344): the contactors are energised by a start of R339 (R337), step 2 begins with MAGNETISED,
the slip is judged, an abort reason ends it. -/
def btStep (s : State) (m : Model) (c : Fin 16) (x : LvSrc) : State :=
  let l := s.lv.get c
  let b := l.bt
  if b.phase = 0 then
    s.updLv c fun l => { l with bt := { l.bt with ageT0 := l.bt.ageT0 + 1, noTorq := l.bt.noTorq + 1, retry := l.bt.retry.map (· - 1) } }
  else
    let s := s.updLv c fun l => { l with bt := { l.bt with ageT0 := l.bt.ageT0 + 1, noTorq := l.bt.noTorq + 1, age := l.bt.age + 1 } }
    let mode := (s.modes.get c).mode
    if l.demand || !x.locked || (b.e.isSome && (mode ≠ 11 || !s.seals.now.getLsbD 1)) || (b.e.isNone && mode ≠ 3) then s.btAbort m c
    else if b.phase = 1 && !l.mc then
      if s.startCond m c l x then s.updLv c startGranted else s
    else if b.phase = 1 || b.phase = 4 then
      if x.mag && !x.mcFb && !x.b1Fb && !x.b2Fb then
        s.updLv c fun l =>
          let one := b.circuit = 1
          { l with brk1 := !one, brk2 := one, wBrk1 := if one then l.wBrk1 else FbWatch.restart (liftWindow (m.hoists.get c)),
                   wBrk2 := if one then FbWatch.restart (liftWindow (m.hoists.get c)) else l.wBrk2,
                   bt := { l.bt with phase := b.phase + 1, age := 0, p0 := l.pos } }
      else s
    else
      let d := (l.pos - b.p0).natAbs
      let s := s.updLv c fun l => { l with bt := { l.bt with maxSlip := max l.bt.maxSlip d } }
      if 20 < d then s.btFail m c else s

/-- BRAKE_TEST_PHASE_END (R342): a torque phase of 1.5 s ends. The last one ends the test as a run ends: the contactors go off once both
brake feedbacks show dropped (R340, log 159). -/
def brakeTestPhaseEnd (s : State) (c : Fin 16) : State :=
  match s.model with
  | none => s
  | some m =>
    let b := (s.lv.get c).bt
    let h := m.hoists.get c
    if b.age < 6000 then s
    else if b.phase = 2 || b.phase = 5 then s.updLv c fun l => { l with bt := { l.bt with phase := b.phase + 1, age := 0 } }
    else if b.phase = 3 then
      s.updLv c fun l =>
        { l with brk1 := false, brk2 := false, wBrk2 := FbWatch.restart (dropWindow h),
                 bt := { btResult l.bt 1 with phase := 4, circuit := 2, age := 0 } }
    else if b.phase = 6 then
      let s := s.updLv c fun l =>
        { l with brk1 := false, brk2 := false, wBrk1 := FbWatch.restart (dropWindow h), req := { l.req with runEnd := true },
                 holdCause := if b.e.isSome && l.holdCause = 0x0A then 0 else l.holdCause,
                 bt := { btResult l.bt 1 with phase := 0, ageT0 := 0, overdue := false, e := none, retry := none,
                                              torq := if b.e.isSome then BitVec.ofInt 16 b.torque else l.bt.torq } }
      let s := s.leveeEvent c 5 0 b.maxSlip
      match b.e with
      | some e => s.finish e .done 0 (s.lv.get c).bt.word
      | none => s
    else s

/-- 24 h in T0. -/
def day : Nat := 345600000

/-- An automatic test starts where R343's conditions hold. -/
def btAuto (s : State) (m : Model) (c : Fin 16) : State :=
  let l := s.lv.get c
  if s.mod = .active && (s.modes.get c).mode = 3 && l.bt.phase = 0 && btReady l (s.lvSrc m c l) && s.hoistIdle c && !s.carParked m c then
    s.btStart c l.bt.torq.toInt none
  else s

/-- BRAKE_TEST_AUTO (R343), at a T2 boundary: the last pass is 24 h old. -/
def brakeTestAuto (s : State) (c : Fin 16) : State :=
  match s.model with
  | none => s
  | some m =>
    let b := (s.lv.get c).bt
    if b.ageT0 < day || s.tick.t0.toNat % 256 ≠ 0 || b.retry.isSome then s
    else if b.torq = 0 then
      if day ≤ b.noTorq then (s.updLv c fun l => { l with bt := { l.bt with noTorq := 0 } }).leveeEvent c 3 0 0 else s
    else s.btAuto m c

/-- BRAKE_TEST_RETRY (R344): 600 s after an aborted automatic test. -/
def brakeTestRetry (s : State) (c : Fin 16) : State :=
  match s.model with
  | none => s
  | some m => if (s.lv.get c).bt.retry = some 0 then s.btAuto m c else s

/-- BRAKE_TEST_OVERDUE (R343). -/
def brakeTestOverdue (s : State) (c : Fin 16) : State :=
  let b := (s.lv.get c).bt
  if 2 * day ≤ b.ageT0 && !b.overdue then
    (s.updLv c fun l => { l with bt := { l.bt with overdue := true } }).leveeEvent c 4 0 0
  else s

/-! Start-up tests (R359). -/

/-- Time limit of a test [T0]; none for the position. -/
def testLimit : Nat → Option Nat
  | 1 => some 512 | 2 => some 256 | 3 => some 8 | 4 => some 2000 | 6 => some 4000 | 7 => some 8 | _ => none

/-- The tests start from the first (R359, R360). -/
def StartTests.first : StartTests := { step := 1, age := 0, phase := 0, sub := 0, failed := false }

/-- Every source of R324 is free of wire break and discrepancy, and RESET is open. -/
def inputsGood (s : State) (m : Model) (c : Fin 16) (l : Lv) (x : LvSrc) : Bool :=
  ((idx 96).all fun i =>
    let r := m.polders.get i
    !(inRole r.role && r.role ≤ 0x0D && r.car = c.val) || ((s.pol.ch.get i).cls ≠ .wireBreak && (s.pol.ch.get i).cls ≠ .none)) &&
    (l.locks.get 0).disagree = 0 && (l.locks.get 1).disagree = 0 && l.stopD.disagree = 0 && l.inspD.disagree = 0 && !x.reset

/-- The car's outputs of R336 read back off. -/
def outputsOff (s : State) (m : Model) (c : Fin 16) : Bool :=
  (idx 96).all fun i => !(darkRole (m.polders.get i).role && (m.polders.get i).car = c.val) || !(s.pol.ch.get i).rb

/-- One T0 of the tests of a car. A standby and SAFE-HOLD run those that drive no outputs: the contactor
test waits there (log 31). -/
def testStep (s : State) (m : Model) (c : Fin 16) (x : LvSrc) (l : Lv) : Lv :=
  let t := l.tests
  let next (t : StartTests) : StartTests := { t with step := t.step + 1, age := 0, phase := 0, sub := 0 }
  if t.step = 8 then { l with tests := { t with age := 1 } }
  else if t.step = 0 || t.failed then l
  else if t.step = 6 && s.mod ≠ .active then { l with tests := { t with age := 0, phase := 0, sub := 0 } }
  else
    let t := { t with age := t.age + 1 }
    let conns := s.carNodes m c .hdv ++ s.carNodes m c .ctn ++ s.carNodes m c .ptn
    let t := match t.step with
      | 1 => if s.coreTest.get (carLevee c) = 0 then next t else t
      | 2 => if s.inputsGood m c l x then (if 7 ≤ t.phase then next t else { t with phase := t.phase + 1 }) else { t with phase := 0 }
      | 3 => if s.outputsOff m c then next t else t
      | 4 => if conns.all connUp then next t else t
      | 5 => if l.posOk then next t else t
      | 6 =>
        match t.phase with
          | 0 => if x.sto && !x.b1Fb && !x.b2Fb then { t with phase := 1, sub := 0 } else t
          | 1 => if !x.mcFb then { t with phase := 2, sub := 0 } else { t with sub := t.sub + 1 }
          | 2 => if x.mcFb then { t with phase := 3, sub := 0 } else { t with sub := t.sub + 1 }
          | 3 => if !x.mcFb then { t with phase := 4, sub := 0 } else { t with sub := t.sub + 1 }
          | _ => if x.mcFb then next t else { t with sub := t.sub + 1 }
      | _ => if !x.b1Fb && !x.b2Fb then next t else t
    { l with tests := t }

/-- START_TEST_FAILED (R359, R360). -/
def startTestFailed (s : State) (c : Fin 16) : State :=
  let t := (s.lv.get c).tests
  if 1 ≤ t.step && t.step ≤ 7 && !t.failed && ((testLimit t.step).any (· < t.age) || 400 < t.sub) then
    ((s.updLv c fun l => { l with tests := { l.tests with failed := true } }).finding c 9 0 t.step).serviceHold c 9
  else s

/-- The levee-core test begins at an entry (R359): how long it takes, at most 2 T2, is left open (log 9). -/
def startCoreTest (s : State) (lc : Fin 2) : State :=
  let (v, s) := s.take
  { s with coreTest := s.coreTest.put lc (v.toNat % 513) }

/-- A car's tests start (R359). -/
def startTests (s : State) (c : Fin 16) : State :=
  (s.startCoreTest (carLevee c)).updLv c fun l => { l with tests := StartTests.first }

/-! The evaluation (R321). -/

/-- The evaluation of one car in one T0: in every state that serves cars or monitors them (01 R46). A witness serves none and runs the
levee-core test and the reset timing alone. The requests of the car core and the brake test act in ACTIVE and SAFE-HOLD. -/
def evaluate (s : State) (m : Model) (missed : Bool) (c : Fin 16) : State :=
  let l := s.lvPosition m c (s.lv.get c)
  if s.mod = .witness then
    let l := s.stepDuals m c l
    let x := s.lvSrc m c l
    s.updLv c fun _ => s.testStep m c x (s.stepReset m c { l with lockedF := x.lockedF, lockedR := x.lockedR } x)
  else
    let l := s.stepDuals m c l
    let x := s.lvSrc m c l
    let l := s.modeCheck m c l x
    let l := lvBooks m c (variant l x) x
    let l := s.stepWatches m c l x
    let l := s.stepReset m c l x
    let l := { l with k := l.k + 1, env := if !l.demand then 0 else if l.torqueOff then l.env else sf1Env l.vd (l.k + 1),
                      tqAge := if l.tqSent then l.tqAge + 1 else l.tqAge, stoSeen := l.stoSeen || x.sto }
    let l := s.testStep m c x l
    let present := lvConditions m c l x missed
    let l := { l with tsUp := x.tsUp, tsDn := x.tsDn }
    let s := (s.updLv c fun _ => l).decide_ m c present
    if s.mod = .active || s.mod = .safeHold then (s.btStep m c x).serveRequests m c x else s

/-- The torque-removal frame of a car (R336, R337, 11 R376), from a module that drives the cars; the debt of R336 is paid either way. -/
def sendTorqueOff (s : State) (m : Model) (c : Fin 16) : State :=
  let byHdv (role : Nat) : Bool := (m.polCh? c role).isNone
  match m.node? c .hdv with
  | some i =>
    if s.drives then
      (s.sendSafety m i 0x10 [(s.lv.get c).first, BitVec.ofNat 8 (b2n (byHdv 0x42 || byHdv 0x43)), 0, 0] true).updLv c
        fun l => { l with tqFrame := false, tqSent := true }
    else s.updLv c fun l => { l with tqFrame := false }
  | none => s.updLv c fun l => { l with tqFrame := false }

/-- The frames that the levee builds at the end of a car's evaluation (11 R376, R377, R389). -/
def lvFrames (s : State) (m : Model) (c : Fin 16) : State :=
  let inSlot := s.tick.t0.toNat % 8 = c.val % 8
  let l := s.lv.get c
  let s := if l.tqFrame || (l.torqueOff && inSlot) then s.sendTorqueOff m c else s
  if !s.drives then s
  else
    let byHdv (role : Nat) : Bool := (m.polCh? c role).isNone
    match m.node? c .hdv with
    | none => s
    | some i =>
      let s := if inSlot then
          let test := l.bt.phase = 2 || l.bt.phase = 3 || l.bt.phase = 5 || l.bt.phase = 6
          let tq : Int := if l.bt.phase = 2 || l.bt.phase = 5 then l.bt.torque else -l.bt.torque
          s.sendSafety m i 0x11 ([BitVec.ofNat 8 (packBits [l.mc && !l.torqueOff, byHdv 0x42 && l.brk1, byHdv 0x43 && l.brk2, test]),
            BitVec.ofNat 8 (if test then l.bt.circuit else 0)] ++ leBytes 2 (BitVec.ofInt 16 (if test then tq else 0)).toNat ++ [0, 0, 0, 0]) true
        else s
      if inSlot && (s.t1Now.toNat % 16 = 0 || s.tw.syncOwed.get c) then
        (s.sendSync m c).updTw fun t => { t with syncOwed := t.syncOwed.put c false }
      else s

/-- A core's evaluation of one T0 is missed (01 R32, R322): the abandoned run, a test in progress, or retirement. -/
def missesNow (s : State) (lc : Fin 2) : Bool :=
  s.spill.abandoned.contains (.levee lc) || s.underTest (.levee lc) || s.isRetired (.levee lc)

/-- One T0 of a levee core. -/
def leveeCore (s : State) (m : Model) (lc : Fin 2) : State :=
  if s.missesNow lc then
    if s.spill.abandoned.contains (.levee lc) then s
    else { s with spill := { s.spill with miss := s.spill.miss.upd lc (satInc · 0xFFFF) } }
  else
    let missed := s.spill.miss.get lc ≠ 0
    let s := { s with spill := { s.spill with miss := s.spill.miss.put lc 0 },
                      coreTest := s.coreTest.upd lc (· - 1) }
    s.each ((leveeCars lc).filter m.present) fun s c => (s.evaluate m missed c).lvFrames m c

/-! The rows that raise a cause of their own. -/

/-- A cause arises now: the demand is decided, the torque-removal frame is queued and the outputs follow, all in the same T0 (R331,
R336). -/
def raiseCause (s : State) (m : Model) (c : Fin 16) (code : Nat) : State :=
  let l := s.lv.get c
  let s := s.decide_ m c (insertBy (fun a b => decide (a ≤ b)) code (l.causes.filter (· ≠ code)))
  (if (s.lv.get c).tqFrame then s.sendTorqueOff m c else s).dropOutputs c

/-- XCHK_FAIL (R329). -/
def xchkFail (s : State) (c : Fin 16) : State :=
  match s.model with
  | none => s
  | some m => if 8 ≤ (s.lv.get c).xRun && !(s.lv.get c).causes.contains 0x03 then s.raiseCause m c 0x03 else s

/-- OVERSPEED (R348). -/
def overspeed (s : State) (c : Fin 16) : State :=
  match s.model with
  | none => s
  | some m => if 2 ≤ (s.lv.get c).osRun && !(s.lv.get c).causes.contains 0x30 then s.raiseCause m c 0x30 else s

/-- CONTACTOR_FB_TIMEOUT (R340, R341). -/
def contactorFbTimeout (s : State) (c : Fin 16) : State :=
  match s.model with
  | none => s
  | some m =>
    let l := s.lv.get c
    if l.wMc.due && !l.causes.contains 0x06 then (s.raiseCause m c 0x06).serviceHold c 0x06 else s

/-- BRAKE_FB_TIMEOUT (R341). -/
def brakeFbTimeout (s : State) (c : Fin 16) (circuit : Fin 2) : State :=
  match s.model with
  | none => s
  | some m =>
    let l := s.lv.get c
    if (if circuit = 0 then l.wBrk1 else l.wBrk2).due && !l.causes.contains 0x05 then (s.raiseCause m c 0x05).serviceHold c 0x05 else s

/-- The dual source a DISCREPANCY names, with its role. -/
def dualOf (l : Lv) : DualSource → Dual × Nat
  | .locksF => (l.locks.get 0, 0x04) | .locksR => (l.locks.get 1, 0x05) | .stop => (l.stopD, 0x06) | .insp => (l.inspD, 0x07)

/-- The dual source replaced. -/
def setDual (l : Lv) (d : Dual) : DualSource → Lv
  | .locksF => { l with locks := l.locks.put 0 d } | .locksR => { l with locks := l.locks.put 1 d }
  | .stop => { l with stopD := d } | .insp => { l with inspD := d }

/-- Discrepancy time of a pair [T0] (R326). -/
def discT0 (m : Model) (c : Fin 16) (role : Nat) : Nat :=
  let d := (carChs m c role).head?.elim 0 fun i => (m.polders.get i).disc
  4 * (if d = 0 then 50 else d)

/-- DISCREPANCY (R326). -/
def discrepancy (s : State) (c : Fin 16) (src : DualSource) : State :=
  match s.model with
  | none => s
  | some m =>
    let (d, role) := dualOf (s.lv.get c) src
    if discT0 m c role < d.disagree && !d.latched then
      let s := s.updLv c fun l =>
        { (setDual l { d with latched := true, sawDem := false, sawNon := false } src) with discreps := l.discreps + 1 }
      s.raiseCause m c 0x51
    else s

/-- STO_MISSING (R337): no STO_ACTIVE within 2 T1 of the first frame. -/
def stoMissing (s : State) (c : Fin 16) : State :=
  let l := s.lv.get c
  if l.torqueOff && l.tqSent && !l.stoSeen && !l.stoRaised && 16 ≤ l.tqAge then
    let s := s.updLv c fun l => { l with stoRaised := true }
    let i := (s.model.bind fun m => m.node? c .hdv).getD 0
    (s.raise (0xE0 + c.val) 2 2 (BitVec.ofNat 32 i) 0).serviceHold c 0xE2
  else s

/-- The latched causes a reset clears (R353): those whose condition is gone. -/
def clearTrips (l : Lv) (present : List Nat) : Lv :=
  let keep := (tripList l.trip).filter present.contains
  let d (x : Dual) : Dual := if x.latched && x.sawNon then Dual.none else x
  { l with trip := tripAdd 0 keep, causes := l.causes.filter fun x => (tripBit x).isNone || keep.contains x,
           locks := (l.locks.put 0 (d (l.locks.get 0))).put 1 (d (l.locks.get 1)), stopD := d l.stopD, inspD := d l.inspD }

/-- SAFETY_RESET (R353, R354): a press has been released in this T0. -/
def safetyReset (s : State) (c : Fin 16) : State :=
  match s.model, (s.lv.get c).released with
  | some m, some n =>
    let s := s.updLv c fun l => { l with released := none }
    if n < 800 then s
    else if 12000 < n then
      (s.updLv c fun l => { l with resetHeld := l.resetHeld + 1 }).leveeEvent c 2 0 (n / 4)
    else
      let l := s.lv.get c
      if l.still && l.torqueOff && !s.isRetired (.resetInput c) then
        s.updLv c fun l => clearTrips l (lvConditions m c l (s.lvSrc m c l) false)
      else s
  | _, _ => s

/-- The reset input of a car is retired (R355, 16 R538). -/
def retireReset (s : State) (c : Fin 16) : State := s.markRetired (.resetInput c) (BitVec.ofNat 10 (0xD0 + c.val)) 0x0B 2 0

/-- RESET_STUCK (R355). -/
def resetStuck (s : State) (c : Fin 16) : State :=
  let l := s.lv.get c
  if s.isRetired (.resetInput c) then s
  else if l.stuck then ((s.updLv c fun l => { l with stuck := false }).finding c 0x0B 0 1).retireReset c
  else if l.press.any (120000 ≤ ·) then (s.finding c 0x0B 0 2).retireReset c
  else s

/-- BRAKE_TEST (R343, 14 R468): the refusals are the command's; an accepted test runs here. -/
def brakeTestReady (s : State) (m : Model) (c : Fin 16) : Bool :=
  let l := s.lv.get c
  btReady l (s.lvSrc m c l) && l.bt.phase = 0 && s.hoistIdle c

end State

/-- BRAKE_TEST_AUTO, R343. -/
def execBrakeTestAuto (c : Fin 16) (s : State) : Out := .next (s.brakeTestAuto c)
/-- BRAKE_TEST_PHASE_END, R342. -/
def execBrakeTestPhaseEnd (c : Fin 16) (s : State) : Out := .next (s.brakeTestPhaseEnd c)
/-- BRAKE_TEST_OVERDUE, R343. -/
def execBrakeTestOverdue (c : Fin 16) (s : State) : Out := .next (s.brakeTestOverdue c)
/-- BRAKE_TEST_RETRY, R344. -/
def execBrakeTestRetry (c : Fin 16) (s : State) : Out := .next (s.brakeTestRetry c)
/-- XCHK_FAIL, R329. -/
def execXchkFail (c : Fin 16) (s : State) : Out := .next (s.xchkFail c)
/-- OVERSPEED, R348. -/
def execOverspeed (c : Fin 16) (s : State) : Out := .next (s.overspeed c)
/-- CONTACTOR_FB_TIMEOUT, R340. -/
def execContactorFbTimeout (c : Fin 16) (s : State) : Out := .next (s.contactorFbTimeout c)
/-- BRAKE_FB_TIMEOUT, R341. -/
def execBrakeFbTimeout (c : Fin 16) (circuit : Fin 2) (s : State) : Out := .next (s.brakeFbTimeout c circuit)
/-- DISCREPANCY, R326. -/
def execDiscrepancy (c : Fin 16) (src : DualSource) (s : State) : Out := .next (s.discrepancy c src)
/-- STO_MISSING, R337. -/
def execStoMissing (c : Fin 16) (s : State) : Out := .next (s.stoMissing c)
/-- SAFETY_RESET, R354. -/
def execSafetyReset (c : Fin 16) (s : State) : Out := .next (s.safetyReset c)
/-- RESET_STUCK, R355. -/
def execResetStuck (c : Fin 16) (s : State) : Out := .next (s.resetStuck c)
/-- START_TEST_FAILED, R360. -/
def execStartTestFailed (c : Fin 16) (s : State) : Out := .next (s.startTestFailed c)

end Sys2Proof.Machine
end

