-- ==== Sys2Proof/Machine/SpecialRuns.lean ====
section
/-! DEFINITION. The special runs of a car (04 R139 to R148): the SUSPECT stop, correction, homing, re-levelling and shaft
learning, each stepped in the T0 after its fusion; and the following error stop (06 R200). -/

namespace Sys2Proof.Machine

/-- No special run. -/
def SpecRun.idle : SpecRun :=
  { kind := .none, leg := 0, landing := 0, mark := none, up := false, capU := none, capD := none, capsU := [], capsD := [],
    reason := 0, age := 0, travel := 0, source := 0, wait := none, zone := false }

/-- 0.1 mm values of the runs: 50 mm and 500 mm. -/
def mm50 : Int := 500
/-- 500 mm. -/
def mm500 : Int := 5000

namespace State

/-- Change the special run of a car. -/
def updSpec (s : State) (c : Fin 16) (f : SpecRun → SpecRun) : State := s.updCar c fun cp => { cp with spec := f cp.spec }

/-- Hand a run to the hoist axis (R171). -/
def handRun (s : State) (c : Fin 16) (r : NewRun) : State := s.updAxis (hoist c) fun a => { a with req := { a.req with run := some r } }

/-- Order a controlled stop of the hoist (R169); at rest it discards a run that waits (R171). An injection on the lane ends (06
R205). -/
def orderStop (s : State) (c : Fin 16) : State :=
  (s.updAxis (hoist c) fun a => if a.state = .idle then a.discard else { a with req := { a.req with cstop := true } }).abortInjection (hoist c) 0x21

/-- Hand a new target and a cap to the hoist. -/
def handTarget (s : State) (c : Fin 16) (x : Int) (cap : Option Int) : State :=
  s.updAxis (hoist c) fun a => { a with req := { a.req with target := some x, cap := match cap with | some v => some v | none => a.req.cap } }

/-- Lower the cap of the hoist's run (R168). -/
def lowerCap (s : State) (c : Fin 16) (v : Int) : State := s.updAxis (hoist c) fun a => { a with req := { a.req with cap := some v } }

/-- The axis is at rest with no run waiting: a leg has ended. -/
def legEnded (s : State) (c : Fin 16) : Bool := s.hoistIdle c && (s.axes.get (hoist c)).req.run.isNone

/-- The position limits of a car. -/
def carLimits (m : Model) (c : Fin 16) : Int × Int := (m.car? c).elim (0, 0) fun r => (r.bottomLimit, r.topLimit)

/-- A leg towards a travel limit under a run kind; a capture or an input stops it. -/
def legRun (s : State) (m : Model) (c : Fin 16) (up : Bool) (k : RunKind) : State :=
  s.handRun c { target := if up then (carLimits m c).2 else (carLimits m c).1, kind := k, from_ := none, dest := none, cap := none }

/-- Position at an index capture of this latch [fixed point], from the motion port (R94). -/
def capturePos (s : State) (m : Model) (c : Fin 16) : Option Int :=
  match s.motionPort? m c with
  | none => none
  | some n =>
    let p := s.ports.get n
    let cp := s.cars.get c
    if !p.latch.absent && p.latch.idxSeen then some (cp.fxPos - diff32 p.latch.count p.idxCap * (m.ports.get n).scale) else none

/-- The DZ1 entry that a SUSPECT stop takes (R139): with DZ1 lost, the rise of DZ2 (R138). -/
def entryPos (s : State) (m : Model) (c : Fin 16) : Option Int :=
  let cp := s.cars.get c
  if s.dz1Lost m c then (if cp.dz2Now && !cp.dz2Prev then some cp.fxPos else none) else s.capturePos m c

/-- A capture window around a model edge, its half-width a quarter of the neighbour spacing (R140, R147). -/
def armEdge (s : State) (m : Model) (c : Fin 16) (l : Nat) (up : Bool) : State :=
  match s.motionPort? m c, (s.cars.get c).counts with
  | some n, cm :: _ =>
    let sc := (m.ports.get n).scale
    if sc = 0 then s
    else s.armWindow n (cm + w32 (rdiv (fx (m.edge l up) - (s.cars.get c).fxPos) sc))
      (BitVec.ofNat 24 (rdiv (fx (m.spacing c l)) (4 * sc)).natAbs)
  | _, _ => s

/-- The result of an armed window at this latch: 1 to 3, or 0. -/
def windowResult (s : State) (m : Model) (c : Fin 16) : Nat :=
  (s.motionPort? m c).elim 0 fun n => if (s.ports.get n).latch.absent then 0 else (s.ports.get n).latch.idxResult.val

/-- DZ2 has been inactive for 50 mm of travel: `mark` holds the position at which it fell, `zone` that it has been active. -/
def pastZone (s : State) (m : Model) (c : Fin 16) : State × Bool :=
  let cp := s.cars.get c
  if s.dz2 m c then (s.updSpec c fun r => { r with mark := none, zone := true }, false)
  else match cp.spec.mark with
    | none => (s.updSpec c fun r => { r with mark := some cp.fxPos }, false)
    | some p => (s, fx mm50 ≤ (cp.fxPos - p).natAbs)

/-- Conditions to start a car's special run: at rest, doors closed and locked, outside M9 and M10 (R140, R142). -/
def specReady (s : State) (m : Model) (c : Fin 16) : Bool :=
  s.hoistIdle c && s.carStill m c && s.doorsLocked m c && (s.modes.get c).mode ≠ 9 && (s.modes.get c).mode ≠ 10 && s.mod = .active

/-! SUSPECT stop (R139). -/

/-- Distance from a speed to REF_SPEED under the latched values [0.1 mm]. -/
def slowDist (a : Axis) (v ref : Int) : Int :=
  let n := F64.ofInt
  if (v.natAbs : Int) ≤ ref then 0 else (chS (n v.natAbs) (n ref) (n a.decel) (n a.jerk)).round

/-- SUSPECT_STOP: a running car without a healthy absolute source changes its run. -/
def suspectStop (s : State) (m : Model) (c : Fin 16) : State :=
  let cp := s.cars.get c
  let a := s.axes.get (hoist c)
  let h := m.hoists.get c
  if cp.health = .suspect && !cp.absOk && a.state = .run && cp.spec.kind = .none then
    let up := 0 < a.refVel
    let from_ := if up then cp.fxPos + fx (slowDist a a.refVel h.refSpeed) else cp.fxPos - fx (slowDist a a.refVel h.refSpeed)
    match ahead m c up from_ none with
    | [] => (s.updSpec c fun _ => { SpecRun.idle with kind := .suspectStop, leg := 9 }).orderStop c
    | l :: _ =>
      let reach := mm500 + 2 * m.dzHalf l
      let x := if up then m.edge l up + reach else m.edge l up - reach
      let s := s.updSpec c fun _ => { SpecRun.idle with kind := .suspectStop, leg := 1, landing := l, up := up }
      s.handTarget c (clamp x (carLimits m c).1 (carLimits m c).2) (some h.refSpeed)
  else s

/-- Steps 3 to 5 of R139. -/
def suspectStep (s : State) (m : Model) (c : Fin 16) : State :=
  let cp := s.cars.get c
  let r := cp.spec
  let dz := m.dzHalf r.landing
  let edge := m.edge r.landing r.up
  let dir : Int := if r.up then 1 else -1
  let past := dir * (cp.pos - edge)
  match s.entryPos m c with
  | some p =>
    if r.leg < 3 && 0 ≤ past + mm500 then (s.updSpec c fun r => { r with leg := 3 }).handTarget c (fxRound (p + fx (dir * dz))) none
    else s
  | none =>
    if s.legEnded c then
      if r.leg = 3 then s.updSpec c fun _ => SpecRun.idle
      else (s.updSpec c fun _ => SpecRun.idle).setHealth c .lost
    else if r.leg = 1 && -mm500 ≤ past then (s.updSpec c fun r => { r with leg := 2 }).lowerCap c (m.hoists.get c).corrSpeed
    else if r.leg = 2 && mm500 + 2 * dz < past then (s.updSpec c fun r => { r with leg := 4 }).orderStop c
    else s

/-! Correction run (R140, R141). -/

/-- A correction run starts at a landing. -/
def startCorrection (s : State) (m : Model) (c : Fin 16) (l : Nat) : State :=
  (s.updSpec c fun r => { SpecRun.idle with kind := if r.kind = .homing then .homing else .correction, leg := 11, landing := l }).legRun
    m c true .correction

/-- One T0 of a correction run's legs, 11 to 13; 14 waits for its end. A leg ends by DZ2, whatever the position says (R140): it has
left the zone once it has been in it. -/
def correctionStep (s : State) (m : Model) (c : Fin 16) : State :=
  let r := (s.cars.get c).spec
  let l := r.landing
  match r.leg with
  | 11 =>
    let (s, past) := s.pastZone m c
    if s.legEnded c then ((s.updSpec c fun r => { r with leg := 12, mark := none, zone := false }).armEdge m c l false).legRun m c false .correction
    else if past then s.orderStop c else s
  | 12 =>
    let s := match s.capturePos m c with
      | some p => if s.windowResult m c = 1 then s.updSpec c fun r => { r with capU := some p } else s
      | none => s
    let (s, past) := s.pastZone m c
    if s.legEnded c then ((s.updSpec c fun r => { r with leg := 13, mark := none, zone := false }).armEdge m c l true).legRun m c true .correction
    else if past && (s.cars.get c).spec.zone then s.orderStop c else s
  | 13 =>
    match s.capturePos m c with
    | some p =>
      if s.windowResult m c = 1 && r.capD.isNone then
        (s.updSpec c fun r => { r with capD := some p }).handTarget c (fxRound (p + fx (m.dzHalf l))) none
      else s
    | none =>
      let (s, past) := s.pastZone m c
      if s.legEnded c then s.updSpec c fun r => { r with leg := 14 }
      else if r.capD.isNone && past && (s.cars.get c).spec.zone then s.orderStop c
      else s
  | _ => s

/-- CORRECTION_RUN (R140): from SUSPECT at standstill in a zone, or as the end of a homing run. -/
def correctionRun (s : State) (c : Fin 16) : State :=
  match s.model with
  | none => s
  | some m =>
    let cp := s.cars.get c
    let due := (cp.health = .suspect && cp.spec.kind = .none) || (cp.spec.kind = .homing && cp.spec.leg = 9)
    if due && s.specReady m c && s.dz2 m c then
      s.startCorrection m c (if cp.spec.kind = .homing then cp.spec.landing else cp.landing)
    else s

/-- The outcome of leg 3 (R141): the correction to add, or none when the run fails. -/
def correctionOf (m : Model) (c : Fin 16) (h : HoistRec) (r : SpecRun) : Option Int :=
  match r.capU, r.capD with
  | some u, some d =>
    let mid := (u + d) / 2
    let half := (u - d) / 2
    if (fx h.posTolCoarse).natAbs < (half - fx (m.dzHalf r.landing)).natAbs then none
    else if (fx (m.spacing c r.landing)).natAbs < 4 * (mid - fx (m.level r.landing)).natAbs then none
    else some (fx (m.level r.landing) - mid)
  | _, _ => none

/-- CORRECTION_RUN_END (R128, R137, R141). -/
def correctionRunEnd (s : State) (c : Fin 16) : State :=
  match s.model with
  | none => s
  | some m =>
    let cp := s.cars.get c
    let h := m.hoists.get c
    if cp.spec.leg ≠ 14 then s
    else match correctionOf m c h cp.spec with
      | none => ((s.updSpec c fun _ => SpecRun.idle).updCar c fun cp => { cp with barred := false }).setHealth c .lost
      | some d =>
        let s := s.updCar c fun cp =>
          { cp with corr := cp.corr + d, corrTgt := cp.corr + d, slew := 0, pos := fxRound (cp.base + cp.corr + d),
                    posFx := cp.base + cp.corr + d, spec := SpecRun.idle, barred := false }
        let s := if (s.cars.get c).absOk && (fx h.posTolCoarse).natAbs < (s.cars.get c).corr.natAbs then s.failAbs c else s
        s.setHealth c (sourcesHealth (s.cars.get c) (fuseIn m c).absP.isSome (s.dz1Lost m c))

/-! Homing (R142). -/

/-- The lowest and highest served landings. -/
def terminal (m : Model) (c : Fin 16) (top : Bool) : Nat :=
  let ls := m.servedLandings c
  if top then ls.getLast?.getD 0 else ls.head?.getD 0

/-- A LOST car takes a landing's level, or its entry edge, as its position: the captures of the run that follows are judged
around model edges (R140; log 21). A healthy absolute source keeps the base, and the correction takes the difference (R127). -/
def assumePos (s : State) (c : Fin 16) (p : Int) : State :=
  s.updCar c fun cp =>
    let cp := if cp.absOk then { cp with corr := fx p - cp.base, corrTgt := fx p - cp.base } else { cp with base := fx p, corr := 0, corrTgt := 0 }
    { cp with slew := 0, pos := p, posFx := fx p }

/-- HOMING_RUN (R142). -/
def homingRun (s : State) (c : Fin 16) : State :=
  match s.model with
  | none => s
  | some m =>
    let cp := s.cars.get c
    if !(cp.health = .lost && cp.spec.kind = .none && !cp.inspect && (cp.motorOk || cp.secOk) && s.specReady m c) then s
    else
      let up := s.carIn m c Role.tsUp
      let dn := s.carIn m c Role.tsDn
      let lo := terminal m c false
      let r : SpecRun := { SpecRun.idle with kind := .homing, landing := if up then terminal m c true else lo, up := up }
      if up then
        ((s.assumePos c (m.level (terminal m c true))).updSpec c fun _ => { r with leg := 2, mark := some (fx (m.level (terminal m c true))) }).legRun m c true .correction
      else if dn && s.dz2 m c then
        ((s.assumePos c (m.level lo)).updSpec c fun _ => r).startCorrection m c lo
      else if dn then
        ((s.assumePos c (m.level lo)).updSpec c fun _ => { r with leg := 5, up := true }).legRun m c true .correction
      else ((s.assumePos c (m.level (terminal m c true))).updSpec c fun _ => { r with leg := 1 }).legRun m c false .homing

/-- The homing run fails (R142): it stops, a finding is raised and the car stays LOST until inspected. -/
def homingFail (s : State) (c : Fin 16) : State :=
  ((s.updCar c fun cp => { cp with spec := SpecRun.idle, inspect := true }).finding c 5 0 0).orderStop c

/-- One T0 of a homing run. -/
def homingStep (s : State) (m : Model) (c : Fin 16) : State :=
  let cp := s.cars.get c
  let r := cp.spec
  let dz := m.dzHalf r.landing
  let dir : Int := if r.up then 1 else -1
  let ts := if r.up then s.carIn m c Role.tsUp else s.carIn m c Role.tsDn
  let captured (s : State) (p : Int) : State :=
    let edge := m.edge r.landing r.up
    let gone := cp.fxPos - p
    let s := s.assumePos c (edge + fxRound gone)
    (s.updSpec c fun r => { r with leg := 3 }).handTarget c (edge + dir * dz) none
  match r.leg with
  | 1 =>
    if ts then (s.updSpec c fun r => { r with leg := 2, mark := some cp.fxPos }).lowerCap c (m.hoists.get c).corrSpeed
    else if s.legEnded c then s.homingFail c
    else s
  | 2 =>
    match s.capturePos m c with
    | some p => captured s p
    | none =>
      if s.legEnded c || fx (2 * dz + 1000) < (cp.fxPos - r.mark.getD cp.fxPos).natAbs then s.homingFail c else s
  | 3 => if s.legEnded c then s.updSpec c fun r => { r with leg := 9 } else s
  | 5 =>
    match s.capturePos m c with
    | some p => captured s p
    | none =>
      if !s.carIn m c Role.tsDn then (s.updSpec c fun r => { r with leg := 6, up := false }).orderStop c
      else if s.legEnded c then s.homingFail c else s
  | 6 => if s.legEnded c then (s.updSpec c fun r => { r with leg := 1 }).legRun m c false .homing else s
  | _ => s.correctionStep m c

/-! Re-levelling (R144, R145). -/

/-- The landing a car stands at with its doors open or opening (R144). -/
def doorsOpenAt (s : State) (m : Model) (c : Fin 16) : Bool :=
  (carSides m c).any fun d => (s.sides.get d).state = .open_ || (s.sides.get d).state = .opening

/-- The re-level deviation of R144 holds now. -/
def relevelDeviates (s : State) (m : Model) (c : Fin 16) : Bool :=
  let cp := s.cars.get c
  2 ≤ Health.rank cp.health && s.doorsOpenAt m c && s.dz1 m c && s.dz2 m c && s.hoistIdle c &&
    decide ((m.hoists.get c).relevelStart < ((cp.pos - m.level cp.landing).natAbs : Int))

/-- The car has left the stop at which it stood: it runs, and not to re-level (R145, R242). -/
def leftStop (s : State) (c : Fin 16) : Bool :=
  let a := s.axes.get (hoist c)
  a.state = .run && a.runKind ≠ .relevel

/-- The T1 count of the re-level deviation (R144). -/
def countRelevel (s : State) (m : Model) (c : Fin 16) : State :=
  s.updCar c fun cp => { cp with relevT1 := if s.relevelDeviates m c then satInc cp.relevT1 4 else 0 }

/-- RELEVEL_START (R144, R145). -/
def relevelStart (s : State) (c : Fin 16) : State :=
  match s.model with
  | none => s
  | some m =>
    let cp := s.cars.get c
    if s.mod = .active && 4 ≤ cp.relevT1 && cp.spec.kind = .none && s.relevelDeviates m c then
      let recent := (0 :: cp.relevels).filter (· ≤ 240000)
      let s := s.updCar c fun cp =>
        { cp with spec := { SpecRun.idle with kind := .relevel, leg := 1, landing := cp.landing }, relevT1 := 0, relevels := recent }
      let s := if 5 < recent.length then s.positionEvent c 4 recent.length else s
      s.handRun c { target := m.level cp.landing, kind := .relevel, from_ := none, dest := none, cap := some 3000 }
    else s

/-- One T0 of a re-level: it stops within RELEVEL_STOP. -/
def relevelStep (s : State) (m : Model) (c : Fin 16) : State :=
  let cp := s.cars.get c
  if s.legEnded c then s.updSpec c fun _ => SpecRun.idle
  else if cp.spec.leg = 1 && (s.axes.get (hoist c)).state = .run &&
      ((cp.pos - m.level cp.spec.landing).natAbs : Int) ≤ (m.hoists.get c).relevelStop then
    (s.updSpec c fun r => { r with leg := 2 }).orderStop c
  else s

/-- RELEVEL_TIMEOUT (R145): the re-level ends with a normal stop and a finding. -/
def relevelTimeout (s : State) (c : Fin 16) : State :=
  match s.model with
  | none => s
  | some m =>
    let cp := s.cars.get c
    if cp.spec.kind = .relevel && cp.spec.leg < 3 &&
        (!s.dz1 m c || !s.dz2 m c || Health.rank cp.health < 2 || 12000 < cp.spec.age) then
      let s := s.updCar c fun cp => { cp with spec := { cp.spec with leg := 3 }, takeOut := true }
      (s.finding c 6 (w32 (cp.pos - m.level cp.spec.landing)) 0).orderStop c
    else s

/-! Shaft learning (R146 to R148). -/

/-- The travel source a learn run uses (R146). -/
def learnSource (cp : CarPos) : Nat := if cp.absOk then 1 else if cp.secOk then 2 else 3

/-- R146's conditions beyond the mode, as the check that fails: none when the command is accepted. -/
def learnRefusal (s : State) (m : Model) (c : Fin 16) : Option Nat :=
  let cp := s.cars.get c
  if (s.modes.get c).mode ≠ 11 then some 0x85
  else if !s.hoistIdle c || !s.carStill m c || !s.doorsLocked m c then some 0x87
  else if !(m.inZone c cp.pos && cp.landing = terminal m c false && s.carIn m c Role.tsDn && (cp.motorOk || cp.secOk)) then some 0x86
  else if cp.spec.kind ≠ .none then some 0x89
  else none

/-- A learn run starts: leg 1 upwards (R147). -/
def startLearn (s : State) (m : Model) (c : Fin 16) : State :=
  let cp := s.cars.get c
  let r : SpecRun :=
    { SpecRun.idle with kind := .learn, leg := 1, up := true, source := learnSource cp, travel := if cp.absOk then cp.base else cp.fxPos }
  (s.updSpec c fun _ => r).legRun m c true .learn

/-- The learn run is aborted with a normal stop and a reason (R148). -/
def learnAbort (s : State) (c : Fin 16) (reason : Nat) (st : CplStatus) : State :=
  let src := (s.cars.get c).spec.source
  let s := (s.updSpec c fun _ => SpecRun.idle).orderStop c
  (s.learnEvent c 2 src reason 0).finishOp 0x30 c.val st reason

/-- The next magnet landing whose edge lies ahead and is not yet captured or armed (R147). -/
def learnNext (s : State) (m : Model) (c : Fin 16) : State :=
  let cp := s.cars.get c
  let up := cp.spec.up
  let done := (if up then cp.spec.capsD else cp.spec.capsU).map (·.landing)
  if cp.spec.wait.isSome then s
  else match (ahead m c up cp.fxPos none).filter (!done.contains ·) with
    | [] => s
    | l :: _ => (s.updSpec c fun r => { r with wait := some l }).armEdge m c l up

/-- One capture or miss of a learn run. -/
def learnCapture (s : State) (m : Model) (c : Fin 16) : State :=
  let cp := s.cars.get c
  match cp.spec.wait, s.windowResult m c with
  | some l, 1 =>
    match s.capturePos m c with
    | some p =>
      let t := cp.spec.travel - (cp.fxPos - p)
      s.updSpec c fun r =>
        if r.up then { r with wait := none, capsD := r.capsD ++ [⟨l, t⟩] } else { r with wait := none, capsU := r.capsU ++ [⟨l, t⟩] }
    | none => s
  | some _, 2 => s.learnAbort c 2 .failed
  | some _, 3 => s.learnAbort c 1 .failed
  | _, _ => s

/-- Legs 1 and 2 of the learn run (R147): to the terminal switch of the direction, and beyond it by the zone. -/
def learnOut (s : State) (m : Model) (c : Fin 16) : State :=
  let r := (s.cars.get c).spec
  let ts := if r.up then s.carIn m c Role.tsUp else s.carIn m c Role.tsDn
  let s := if ts && r.reason = 0 then (s.updSpec c fun r => { r with reason := 1 }).lowerCap c (m.hoists.get c).corrSpeed else s
  let l := terminal m c r.up
  let (s, past) := s.pastZone m c
  let beyond := if r.up then m.level l < (s.cars.get c).pos else (s.cars.get c).pos < m.level l
  if s.legEnded c then
    let s := s.updSpec c fun r => { r with leg := r.leg + 1, up := !r.up, reason := 0, mark := none, wait := none, zone := false }
    let lo := terminal m c false
    if r.leg = 1 then s.legRun m c false .learn
    else if m.magnet lo then s.legRun m c true .correction
    else s.handRun c { target := m.level lo, kind := .correction, from_ := none, dest := none, cap := none }
  else if ts && past && beyond then s.orderStop c
  else s

/-- Leg 3 of the learn run (R147): back to the bottom landing, by the capture of its edge, or to its level where it has no magnet. -/
def learnBack (s : State) (m : Model) (c : Fin 16) : State :=
  let r := (s.cars.get c).spec
  let l := terminal m c false
  let done (s : State) : State := if s.legEnded c then s.updSpec c fun r => { r with leg := 4 } else s
  match r.capsD.find? (·.landing = l) with
  | some p =>
    if r.reason = 0 then
      (s.updSpec c fun r => { r with reason := 1 }).handTarget c (fxRound (p.pos + fx (m.dzHalf l) + (s.cars.get c).fxPos - r.travel)) none
    else done s
  | none => done s

/-- One T0 of a learn run (R147). Leg 4 waits for LEARN_SHAFT_DONE. -/
def learnStep (s : State) (m : Model) (c : Fin 16) : State :=
  let s := s.updCar c fun cp =>
    { cp with spec := { cp.spec with travel := if cp.spec.source = 1 then cp.base
        else if cp.spec.source = 2 then cp.spec.travel + cp.secD else cp.spec.travel + cp.motD } }
  let s := (s.learnCapture m c).learnNext m c
  let r := (s.cars.get c).spec
  if r.kind ≠ .learn then s
  else if r.leg = 1 || r.leg = 2 then s.learnOut m c
  else if r.leg = 3 then s.learnBack m c
  else s

/-- The captures of one landing in both directions: exactly one each, or none. -/
def learnPair (r : SpecRun) (l : Nat) : Option (Int × Int) :=
  match r.capsU.filter (·.landing = l), r.capsD.filter (·.landing = l) with
  | [u], [d] => some (u.pos, d.pos)
  | _, _ => none

/-- A learned landing: number, level and half-width [0.1 mm] (R148). -/
structure Learned where
  landing : Nat
  level   : Int
  half    : Int

/-- The learned landings, or the abort reason (R148). -/
def learnResult (m : Model) (c : Fin 16) (r : SpecRun) : List Learned ⊕ Nat :=
  let ls := (m.servedLandings c).filter m.magnet
  let ps := ls.map (learnPair r)
  match ps.head? with
  | some (some (u0, d0)) =>
    if ps.any (·.isNone) then .inr 1
    else
      let l0 := ls.head?.getD 0
      let out := (ls.zip ps).map fun q =>
        let (u, d) := q.2.getD (0, 0)
        ({ landing := q.1, level := m.level l0 + rdiv (u + d - (u0 + d0)) (2 * 65536), half := rdiv (u - d) (2 * 65536) } : Learned)
      if out.any fun x => x.half < 100 || 3000 < x.half then .inr 3
      else if (out.zip (out.drop 1)).any fun p => p.2.level - p.1.level < 2000 then .inr 4
      else .inl out
  | _ => .inr 1

/-- A LANDINGS record of a learned landing (02 R57). -/
def landingBytes (m : Model) (x : Learned) : List Byte :=
  let l := m.landings.getD x.landing ⟨0, 0, false, false, 0, 0⟩
  leBytes 4 (w32 x.level).toNat ++ leBytes 2 x.half.natAbs ++ leBytes 1 (b2n l.magnet + 2 * b2n l.fireRecall) ++ leBytes 1 l.zone ++
  leBytes 4 l.label.toNat ++ leBytes 4 0

/-- LEARN_SHAFT_DONE (R148): the run's last leg has ended. -/
def learnShaftDone (s : State) (c : Fin 16) : State :=
  match s.model with
  | none => s
  | some m =>
    let r := (s.cars.get c).spec
    if r.kind ≠ .learn || r.leg ≠ 4 then s
    else match learnResult m c r with
      | .inr reason => s.learnAbort c reason .failed
      | .inl out =>
        let mid := ((m.servedLandings c).filter m.magnet).head?.bind (learnPair r)
        let cnt := match m.rolePort? c 2, mid with
          | some n, some (u, d) => if r.source = 1 then rdiv (u + d) (2 * (m.ports.get n).scale) + (m.ports.get n).zero else 0
          | _, _ => 0
        let s := s.updSpec c fun _ => SpecRun.idle
        let s := s.addProposal 0x02 c.val 0xFF out.length (out.flatMap (landingBytes m))
        (s.learnEvent c 1 r.source 0 cnt).finishOp 0x30 c.val .done 0 s.img.nextProp

/-! What every T0 does for a car after its fusion. -/

/-- A stop at a landing level is recorded at the first STILL latch (R143). -/
def noteLevel (s : State) (m : Model) (c : Fin 16) : State :=
  let cp := s.cars.get c
  match cp.levelDue with
  | none => s
  | some x => if s.carStill m c then s.updCar c fun cp => { cp with levelErr := cp.pos - x, levelDue := none } else s

/-- A car taken out after a failed re-level leaves dispatch once its doors are closed (R145). -/
def noteTakeOut (s : State) (m : Model) (c : Fin 16) : State :=
  if (s.cars.get c).takeOut && s.doorsClosed m c then
    s.updCar c fun cp => { cp with takeOut := false, holds := { cp.holds with relevel := true } }
  else s

/-- The special run of a car in one T0. -/
def specStep (s : State) (m : Model) (c : Fin 16) : State :=
  let s := s.updCar c fun cp =>
    { cp with spec := { cp.spec with age := cp.spec.age + 1 },
              relevels := if s.leftStop c then [] else (cp.relevels.map (· + 1)).filter (· ≤ 240000) }
  let s := (s.noteLevel m c).noteTakeOut m c
  match (s.cars.get c).spec.kind with
  | .none => s.suspectStop m c
  | .suspectStop => s.suspectStep m c
  | .correction => s.correctionStep m c
  | .homing => s.homingStep m c
  | .relevel => s.relevelStep m c
  | .learn => s.learnStep m c
  | .brakeTest => s

/-- A stop or mode change ends a special run (R148 reason 5, R311). -/
def endSpecial (s : State) (c : Fin 16) : State :=
  match (s.cars.get c).spec.kind with
  | .none => s
  | .learn => s.learnAbort c 5 .failed
  | _ => (s.updSpec c fun _ => SpecRun.idle).orderStop c

/-- FOLLOWING_ERROR_STOP (06 R200): FE_OVER in 4 consecutive computations in RUN or STOPPING. -/
def followingErrorStop (s : State) (c : Fin 16) : State :=
  let k := hoist c
  let l := s.lanes.get k
  let a := s.axes.get k
  if 4 ≤ l.feRun && (a.state = .run || a.state = .stopping) && !(s.cars.get c).holds.following then
    let s := s.finding c 7 (w32 l.fe) k.val
    (s.updCar c fun cp => { cp with holds := { cp.holds with following := true } }).orderStop c
  else s

end State

/-- CORRECTION_RUN, R140. -/
def execCorrectionRun (c : Fin 16) (s : State) : Out := .next (s.correctionRun c)
/-- CORRECTION_RUN_END, R141. -/
def execCorrectionRunEnd (c : Fin 16) (s : State) : Out := .next (s.correctionRunEnd c)
/-- HOMING_RUN, R142. -/
def execHomingRun (c : Fin 16) (s : State) : Out := .next (s.homingRun c)
/-- RELEVEL_START, R144. -/
def execRelevelStart (c : Fin 16) (s : State) : Out := .next (s.relevelStart c)
/-- RELEVEL_TIMEOUT, R145. -/
def execRelevelTimeout (c : Fin 16) (s : State) : Out := .next (s.relevelTimeout c)
/-- LEARN_SHAFT_DONE, R148. -/
def execLearnShaftDone (c : Fin 16) (s : State) : Out := .next (s.learnShaftDone c)
/-- FOLLOWING_ERROR_STOP, R200. -/
def execFollowingErrorStop (c : Fin 16) (s : State) : Out := .next (s.followingErrorStop c)

end Sys2Proof.Machine
end

