-- ==== Sys2Proof/Machine/Doors.lean ====
section
/-! DEFINITION. Door operation (07): node replies, the guard, the state machine of the T1 job, current modes, step packets,
homing, locking and door learning; and the connection watchdog (11 R386), which a door side follows (R249). -/

namespace Sys2Proof.Machine

/-- T0 in 100 ms. -/
def tenth : Nat := 400

/-- The states in which a door moves (R228, R255). -/
def DoorState.moves : DoorState → Bool
  | .homing | .opening | .closing | .reversing | .nudging => true
  | _ => false

/-- A side counts as closing for its current limit (R219). -/
def DoorState.closes : DoorState → Bool
  | .homing | .closing | .locking | .nudging => true
  | _ => false

/-- Interpolation of a force map (R236) over its points. -/
def interpForce (f : List Int) (openPos p : Int) : Int :=
  if openPos ≤ 0 then 0
  else
    let q := clamp p 0 openPos * 63
    let j := min 62 (q / openPos).toNat
    let a := f.getD j 0
    a + rdiv ((f.getD (j + 1) 0 - a) * (q - j * openPos)) openPos

/-- MARGIN of a side at a landing [N] and its map's points; without a record 60 and zeros (R236). -/
def forceMap (m : Model) (d : Fin 32) (landing : Option Nat) : Int × List Int :=
  match m.maps.find? fun r => r.car = (State.sideCar d).val && r.side = State.sideNo d && landing = some r.landing with
  | some r => (r.margin, r.f)
  | none => (60, [])

/-- thr(p) of R236 [0.1 N]. -/
def forceThr (m : Model) (d : Fin 32) (landing : Option Nat) (p : Int) : Int :=
  let (margin, f) := forceMap m d landing
  interpForce f (m.doors.get d).openPos p + 10 * margin

/-- Bits of a CTN report that belong to a side: curtain broken, edge active (11 R379). -/
def ctnDoor (r : CtnRep) (d : Fin 32) : Bool × Bool :=
  if State.sideNo d = 0 then (r.doors.getLsbD 1, r.doors.getLsbD 2) else (r.doors.getLsbD 5, r.doors.getLsbD 6)

/-- Door-open and door-close buttons of a side (11 R379). -/
def ctnButtons (r : CtnRep) (d : Fin 32) : Bool × Bool :=
  if State.sideNo d = 0 then (r.switches.getLsbD 3, r.switches.getLsbD 4) else (r.switches.getLsbD 5, r.switches.getLsbD 6)

/-- Nudging in the car's mode (09 R316). -/
def nudgePermit (m : Model) (c : Fin 16) (mode : Nat) : Bool :=
  if mode = 0 || mode = 7 then (m.policy? c).any (·.nudge) else mode = 4 || mode = 6

/-- The current-limit code of R219 from its force [0.1 N] and KT. -/
def ilimOf (f kt : Int) : Nat :=
  if kt ≤ 0 then 255
  else
    let ma := (f * 6553600 + kt - 1) / kt
    min 255 ((ma + 24) / 25).toNat

namespace State

/-- Every fitted side of the model in force. -/
def fittedSides (m : Model) : List (Fin 32) := (idx 32).filter fun d => m.sideFitted (sideCar d) (sideNo d)

/-- The car's hoist is at rest: PG state IDLE or END (R230, R231). -/
def hoistAtRest (s : State) (c : Fin 16) : Bool :=
  (s.axes.get (hoist c)).state = .idle || (s.axes.get (hoist c)).state = .end_

/-- DOOR event (14 R473). -/
def doorEvent (s : State) (d : Fin 32) (kind : Nat) (v : Int) : State :=
  s.event4 0x0009 (sideCar d).val (sideNo d) kind ((s.sides.get d).landing.getD 0xFF) v

/-- A DOOR finding (16 R524). -/
def doorFinding (s : State) (d : Fin 32) : State :=
  s.finding (sideCar d) 8 (BitVec.ofNat 32 ((s.sides.get d).landing.getD 0xFF)) (sideNo d)

/-- A side enters a state: the buzzer output follows NUDGING (R243), UNREF has no reference (R228), and entry to FAULT is an
event. -/
def setSide (s : State) (m : Model) (d : Fin 32) (n : DoorState) : State :=
  let old := (s.sides.get d).state
  let buz := (m.polCh? (sideCar d) (if sideNo d = 0 then 0x44 else 0x45)).isSome
  let s := s.updSide d fun x => { x with state := n, buzzer := n == .nudging && buz, ref := n ≠ .unref && x.ref }
  if n = .fault && old ≠ .fault then s.doorEvent d 4 0 else s

/-- Hand a door axis a run. -/
def doorRun (s : State) (d : Fin 32) (x : Int) (k : RunKind) : State :=
  s.updAxis (doorAxis d) fun a =>
    { a with req := { a.req with run := some { target := x, kind := k, from_ := none, dest := none, cap := none } } }

/-- Order an immediate stop of a door (R169). -/
def doorHaltReq (s : State) (d : Fin 32) : State :=
  (s.updAxis (doorAxis d) fun a => { a with req := { a.req with istop := true } }).abortInjection (doorAxis d) 0x21

/-- Order a controlled stop of a door (R169). -/
def doorStopReq (s : State) (d : Fin 32) : State :=
  (s.updAxis (doorAxis d) fun a => if a.state = .idle then a.discard else { a with req := { a.req with cstop := true } }).abortInjection
    (doorAxis d) 0x21

/-- The door's reference is set to a position at rest. -/
def doorPlace (s : State) (d : Fin 32) (x : Int) : State :=
  s.updAxis (doorAxis d) fun a =>
    { a with state := .idle, segs := [], refPos := x, refVel := 0, refAcc := 0, target := x, table := false, req := PgReq.none,
             held := none }

/-- The PG posts a position at rest (R228): below 1 mm no run is planned (05 R162). -/
def posts (s : State) (d : Fin 32) (x : Int) : Bool :=
  let a := s.axes.get (doorAxis d)
  a.state = .idle && a.req.run.isNone && decide ((a.refPos - x).natAbs < 10)

/-- The plan of a door has ended, or none was made. -/
def doorIdle (s : State) (d : Fin 32) : Bool :=
  let a := s.axes.get (doorAxis d)
  a.state = .idle && a.req.run.isNone

/-- The side loses its reference (R246): a moving door is stopped at once. FAULT and RELEASED stay. -/
def unrefSide (s : State) (m : Model) (d : Fin 32) : State :=
  let a := s.axes.get (doorAxis d)
  let s := if a.moving || a.req.run.isSome then s.doorHaltReq d else s
  let s := s.updSide d fun x =>
    { x with ref := false, noReply := 0, contraRun := 0, lockRev := false, cleanRun := false, openDem := false, closeDem := false }
  if (s.sides.get d).state = .fault || (s.sides.get d).state = .released then s else s.setSide m d .unref

/-- The side enters FAULT (R230, R249): through UNREF with an immediate stop where it moves. -/
def faultSide (s : State) (m : Model) (d : Fin 32) : State :=
  let x := s.sides.get d
  let s := if x.state.moves || (s.axes.get (doorAxis d)).moving then s.unrefSide m d else s
  (s.updSide d fun x => { x with lockRev := false, cleanRun := false }).setSide m d .fault

/-! Node replies (R220 to R222). -/

/-- p_m of R222. -/
def sidePos (s : State) (m : Model) (d : Fin 32) (enc zero : BitVec 32) : Int :=
  rdiv ((s32 enc - s32 zero) * 65536) (s.laneRec m (doorAxis d)).p2

/-- An accepted reply gives the side its inputs. -/
def takeReply (s : State) (m : Model) (d : Fin 32) (bs : List Byte) (sof : BitVec 32) : State :=
  let enc := BitVec.ofNat 32 (fld bs 4 4)
  let st := byteAt bs 1
  s.updSide d fun x =>
    let p := s.sidePos m d enc x.encZero
    let v := match x.lastSof with
      | none => 0
      | some l => if 4000 < (sof - l).toNat then 0 else rdiv ((p - x.pm) * 1000000) ((sof - l).toNat : Int)
    let con := byteAt bs 10
    { x with pm := p, vm := v, enc := enc, current := sfld bs 8 2, contact := con.getLsbD 0,
             locked := con.getLsbD 0 && con.getLsbD 2, nStatus := st, nContacts := con, nTemp := byteAt bs 11,
             nFault := if st.getLsbD 1 then BitVec.ofNat 16 (fld bs 12 2) else x.nFault, seqEcho := BitVec.ofNat 16 (fld bs 2 2),
             missed := if st.getLsbD 2 then x.missed + 1 else x.missed, lastSof := some sof, replyNew := true, guardNew := true,
             pLost := x.pLost || st.getLsbD 3, pFault := x.pFault || st.getLsbD 1,
             pRose := x.pRose || (x.lastSof.isSome && st.getLsbD 0 && !x.nStatus.getLsbD 0) }

/-- DON_REPLY (R220 to R222): FORMAT, TAG, SEQ in order. -/
def donReply (s : State) (fr : Frame) : State :=
  s.onPrivileged fr 4 (·.cls = .don) fun s m i r c =>
    match checkReply c fr 0x52 with
    | some e => s.updConn i (·.reject e)
    | none =>
      if h : r.car < 16 ∧ r.side < 2 then
        let d : Fin 32 := ⟨16 * r.side + r.car, by omega⟩
        let x := s.sides.get d
        let q := BitVec.ofNat 16 (fld fr.data 2 2)
        if q = x.seqSent || q = x.seqPrev then (s.updConn i (·.accept fr.sof)).takeReply m d fr.data fr.sof
        else s.updConn i (·.reject .seq)
      else s

/-! Demands (R231). -/

/-- The door is at a landing that the side serves, in the zone by position and DZ2, with health DEGRADED or better: R231's part
that R469 answers with POSITION. -/
def openPlace (s : State) (m : Model) (d : Fin 32) : Bool :=
  let c := sideCar d
  let cp := s.cars.get c
  m.inZone c cp.pos && s.dz2 m c && 2 ≤ Health.rank cp.health && m.serves c (sideNo d) cp.landing

/-- The recall landing (R303, R304): RECALL_ALT while FIRE_ALT is active and the car has one. -/
def recallOf (s : State) (m : Model) (c : Fin 16) : Nat :=
  match m.policy? c with
  | none => 0
  | some p => if s.groupIn m c 0x12 && p.recallAlt ≠ 0xFF then p.recallAlt else p.recallMain

/-- The car stands at a landing with its hoist at rest, by position. -/
def restsAt (s : State) (m : Model) (c : Fin 16) (l : Nat) : Bool :=
  s.hoistAtRest c && m.inZone c (s.cars.get c).pos && (s.cars.get c).landing = l

/-- The mode of a car permits its doors to open where it stands (R231, R316). -/
def modeOpens (s : State) (m : Model) (c : Fin 16) : Bool :=
  let md := s.modes.get c
  match md.mode with
  | 0 | 1 | 2 | 3 | 5 | 11 => true
  | 4 => s.restsAt m c (s.recallOf m c)
  | 6 => s.restsAt m c ((m.policy? c).elim 0xFF (·.evacLanding)) || md.evac.any (s.restsAt m c ·)
  | 7 => md.sub = 1 || md.sub = 2 || md.sub = 3
  | 8 => md.sub = 1
  | 9 => s.carStill m c
  | _ => false

/-- An open demand for a side is valid (R231). -/
def openValid (s : State) (m : Model) (d : Fin 32) : Bool :=
  let c := sideCar d
  let st := (s.sides.get d).state
  m.sideFitted c (sideNo d) && [DoorState.closed, .locking, .closing, .nudging, .unref].contains st && s.hoistAtRest c &&
    s.openPlace m d && s.modeOpens m c

/-- The obstruction timer starts if it is not running (R242). -/
def startObstTimer (s : State) (d : Fin 32) : State :=
  s.updSide d fun x => { x with timer := some (x.timer.getD 0) }

/-- A reversal begins (R238, R243): cause, counts, and the car taken out of dispatch at the third one in NUDGING. -/
def reverseSide (s : State) (m : Model) (d : Fin 32) (cause : Nat) : State :=
  let x := s.sides.get d
  let obst := cause ≤ 5
  let nudging := x.state = .nudging
  let s := s.doorRun d (m.doors.get d).openPos .normal
  let s := s.updSide d fun x =>
    { x with lastCause := cause, reversals := x.reversals + 1, stopRev := satInc x.stopRev 255,
             forceRun := if cause = 6 then x.forceRun else 0, cleanRun := false,
             obstT0 := if obst then s.tick.t0 else x.obstT0, nudgeRev := if nudging then x.nudgeRev + 1 else x.nudgeRev,
             reqRev := if cause = 6 && s.slot ≠ (sideCar d).val % 8 then some nudging else none }
  let s := if obst then s.startObstTimer d else s
  let s := s.setSide m d .reversing
  if nudging && 3 ≤ x.nudgeRev + 1 && !x.held then
    let s := (s.updSide d fun x => { x with held := true }).doorFinding d
    s.updCar (sideCar d) fun cp => { cp with holds := { cp.holds with door := true } }
  else s

/-! The guard (R229, R234, R239, R246, R248, R249). -/

/-- The obstruction causes of a closing side, highest row first (R234, R235). -/
def closingCauses (s : State) (d : Fin 32) (nudging : Bool) : List Nat :=
  let x := s.sides.get d
  let l := s.lanes.get (doorAxis d)
  let lane := 4 ≤ x.closeAge && !x.contact
  let noCurtain := nudging || (s.modes.get (sideCar d)).mode = 5
  ([(1, x.edge), (2, x.curtain && !noCurtain), (3, lane && l.fValid && decide (1500 < l.aux)), (4, 3 ≤ x.forceRun),
    (5, lane && l.feOver)].filter (·.2)).map (·.1)

/-- The counts of a closing run that a guard takes forward (R234, R235). -/
def countClosing (s : State) (m : Model) (d : Fin 32) : State :=
  let l := s.lanes.get (doorAxis d)
  s.updSide d fun x =>
    let lane := 4 ≤ x.closeAge + 1 && !x.contact
    { x with closeAge := x.closeAge + 1,
             forceRun := if lane && l.fValid && decide (forceThr m d x.landing x.pm < l.aux) then x.forceRun + 1 else 0 }

/-- Guard of a closing side. -/
def guardClosing (s : State) (m : Model) (d : Fin 32) : State :=
  let s := s.countClosing m d
  match s.closingCauses d ((s.sides.get d).state = .nudging) with
  | cause :: _ => s.reverseSide m d cause
  | [] => s

/-- A reversal on demand meets an obstruction in the same T1 (R240): the cause is the obstruction's, judged as in the state the
demand ended. -/
def guardRequested (s : State) (m : Model) (d : Fin 32) (nudging : Bool) : State :=
  let s := s.countClosing m d
  match s.closingCauses d nudging with
  | cause :: _ => (s.updSide d fun x => { x with lastCause := cause, obstT0 := s.tick.t0 }).startObstTimer d
  | [] => s

/-- Guard of a homing side (R248). -/
def guardHoming (s : State) (m : Model) (d : Fin 32) : State :=
  let l := s.lanes.get (doorAxis d)
  let s := s.updSide d fun x =>
    { x with closeAge := x.closeAge + 1, stallRun := if 2 ≤ x.closeAge + 1 && decide (l.err < -100) then x.stallRun + 1 else 0 }
  let x := s.sides.get d
  if x.contact && (2 ≤ x.stallRun || s.doorIdle d) then
    let s := s.updSide d fun x => { x with encZero := x.enc, pm := 0, ref := true, homeFails := 0, lockAge := 0 }
    ((s.doorPlace d 0).abortInjection (doorAxis d) 0x21).setSide m d .locking
  else
    let force := 4 ≤ x.closeAge && !x.contact && l.fValid && decide (1500 < l.aux)
    let curtain := x.curtain && (s.modes.get (sideCar d)).mode ≠ 5
    let cause := if x.edge then 1 else if curtain then 2 else if force then 3 else 0
    if cause ≠ 0 then
      ((((s.updSide d fun x => { x with lastCause := cause, obstT0 := s.tick.t0, openDem := false }).startObstTimer d).doorHaltReq d).setSide m d .unref)
    else s

/-- Guard of an opening side (R239). -/
def guardOpening (s : State) (m : Model) (d : Fin 32) : State :=
  let l := s.lanes.get (doorAxis d)
  let s := s.updSide d fun x =>
    { x with closeAge := x.closeAge + 1, openRun := if 2 ≤ x.closeAge + 1 && decide (1500 < l.aux) then x.openRun + 1 else 0 }
  let x := s.sides.get d
  if (2 ≤ x.closeAge && l.feOver) || 3 ≤ x.openRun then
    let s := (s.updSide d fun x =>
      { x with openObst := x.openObst + 1, opObst := x.opObst + 1, obstT0 := s.tick.t0, openRun := 0, stopT1 := s.t1Now }).doorStopReq d
    if x.opObst = 0 then s.setSide m d .stopped else s.setSide m d .fault
  else s

/-- The causes of R246 that the guard finds, with the event of R245. -/
def guardRef (s : State) (d : Fin 32) : State × Bool :=
  let x := s.sides.get d
  let moving := (s.axes.get (doorAxis d)).moving
  let contra := x.ref && ((x.contact && decide (600 < x.pm)) || (x.state = .closed && !x.contact && x.pm = 0 && s.doorIdle d))
  let n := if contra then x.contraRun + 1 else 0
  let k := if moving && !x.guardNew then x.noReply + 1 else 0
  let cause := x.pLost || x.pRose || 2 ≤ n || 2 ≤ k
  let s := s.updSide d fun x =>
    { x with contraRun := n, noReply := k, pLost := false, pRose := false, guardNew := false }
  (if 2 ≤ n then s.doorEvent d 1 x.pm else s, cause)

/-- The inputs of DS_STAT that a guard reads (R234): the safety edge of the polder or the CTN, and the curtain. -/
def guardInputs (s : State) (m : Model) (d : Fin 32) : State :=
  let c := sideCar d
  let b := (s.ctn? m c).elim (false, false) (ctnDoor · d)
  s.updSide d fun x => { x with curtain := b.1, edge := b.2 || s.carIn m c (if sideNo d = 0 then 0x0E else 0x0F) }

/-- The checks of one side's guard: node fault, reference, obstruction, in this order. -/
def guardChecks (s : State) (m : Model) (d : Fin 32) : State :=
  let x := s.sides.get d
  let (s, cause) := s.guardRef d
  let s := if cause then s.unrefSide m d else s
  if x.pFault then (s.updSide d fun x => { x with pFault := false }).faultSide m d
  else if cause then s
  else
    let s := match x.state with
      | .closing | .nudging => s.guardClosing m d
      | .homing => s.guardHoming m d
      | .opening => s.guardOpening m d
      | .reversing => x.reqRev.elim s (s.guardRequested m d ·)
      | _ => s
    s.updSide d fun x => { x with reqRev := none }

/-- DOOR_GUARD of one side (R229): a change it makes stands against the T1 job of the same T1. -/
def guardSide (s : State) (m : Model) (d : Fin 32) : State :=
  let t := (s.guardInputs m d).guardChecks m d
  if (t.sides.get d).state = (s.sides.get d).state then t else t.updSide d fun x => { x with guardT0 := some s.tick.t0 }

/-! Homing, opening, closing (R230, R242, R247). -/

/-- A homing close begins (R247). -/
def homeSide (s : State) (m : Model) (d : Fin 32) : State :=
  let o := (m.doors.get d).openPos
  let zero := rdiv (o * (s.laneRec m (doorAxis d)).p2) 65536
  let s := (s.doorPlace d o).updSide d fun x =>
    { x with encZero := w32 (s32 x.enc - zero), pm := o, closeAge := 0, stallRun := 0, planEnd := 0, rehomes := x.rehomes + 1,
             ref := false, cleanRun := false }
  (s.doorRun d 0 .homing).setSide m d .homing

/-- An opening run begins. -/
def openSide (s : State) (m : Model) (d : Fin 32) (k : RunKind) : State :=
  let s := s.updSide d fun x =>
    { x with landing := some (s.cars.get (sideCar d)).landing, closeAge := 0, openRun := 0, openT1 := 0 }
  (s.doorRun d (m.doors.get d).openPos k).setSide m d .opening

/-- A valid close demand meets an open side (R230, R240, R242, R243). -/
def closeSide (s : State) (m : Model) (d : Fin 32) : State :=
  let c := sideCar d
  let x := s.sides.get d
  let mode := (s.modes.get c).mode
  let limit := tenth * (m.policy? c).elim 200 (·.obstTime)
  let nudge := nudgePermit m c mode && (mode = 4 || x.timer.any (limit ≤ ·))
  if x.held then s
  else if x.edge || (x.curtain && !nudge && mode ≠ 5) then s.startObstTimer d
  else
    let s := s.updSide d fun x =>
      { x with closeAge := 0, forceRun := 0, closeT1 := 0, cleanRun := !nudge, sample := List.replicate 64 none,
               nudges := if nudge then x.nudges + 1 else x.nudges }
    (s.doorRun d 0 (if nudge then .nudge else .normal)).setSide m d (if nudge then .nudging else .closing)

/-! Learning (R250 to R253). -/

/-- The index of the nearest sampled point, the lower on a tie. -/
def nearestSeen (l : List (Option Int)) (j : Nat) : Option Nat :=
  firstMin (fun a b => (a : Int) - j |>.natAbs |> fun x => x < ((b : Int) - j).natAbs) ((List.range l.length).filter fun i => (l.getD i none).isSome)

/-- `finish` of R251: every point filled from the nearest sampled one. -/
def fillMap (l : List (Option Int)) : List Int :=
  (List.range 64).map fun j => match l.getD j none with
    | some v => v
    | none => ((nearestSeen l j).bind fun i => l.getD i none).getD 0

/-- The lower middle value (R252). -/
def median (l : List Int) : Int := (sortBy (· ≤ ·) l).getD ((l.length - 1) / 2) 0

/-- `sample` of R251 at a completed computation of a clean close. -/
def sampleForce (s : State) (m : Model) (d : Fin 32) : State :=
  let x := s.sides.get d
  let l := s.lanes.get (doorAxis d)
  let o := (m.doors.get d).openPos
  if x.state = .closing && x.cleanRun && l.fValid && !x.contact && !x.learn.isEmpty then
    let j := (clamp (rdiv (x.pm * 63) o) 0 63).toNat
    s.updSide d fun x =>
      { x with sample := x.sample.set j (match x.sample.getD j none with
          | some v => some (max v l.aux)
          | none => some l.aux) }
  else s

/-- A close has ended in CLOSED: where it was clean, its landing's learning takes it (R250 to R252). -/
def learnClose (s : State) (d : Fin 32) : State :=
  let x := s.sides.get d
  let n := ((s.learn.get (sideCar d)).map (·.n)).getD 0
  if !x.cleanRun || x.learn.isEmpty then s
  else match x.learn.findIdx? fun l => some l.landing = x.landing && !l.done with
    | none => s
    | some i =>
      let up (l : DoorLearn) : DoorLearn :=
        let acc := (l.acc.zip x.sample).map fun p => match p.1, p.2 with
          | some a, some b => some (max a b)
          | some a, none => some a
          | none, b => b
        let l := { l with clean := l.clean + 1, acc := acc, opens := l.opens ++ [x.lastOpen], closes := l.closes ++ [2 * (x.closeT1 : Int)] }
        if n ≤ l.clean then { l with done := true, failed := (fillMap acc).any fun v => 1200 < v || v < -1500 } else l
      let s := s.updSide d fun x => { x with learn := x.learn.modify i up }
      match (s.sides.get d).learn[i]? with
      | some l => if l.done && l.failed then s.doorEvent d 2 l.clean else s
      | none => s

/-- Door learning of a car ends without a proposal (R253). -/
def endLearnDoors (s : State) (c : Fin 16) (st : CplStatus) : State :=
  match s.learn.get c with
  | none => s
  | some l =>
    let s := { s with learn := s.learn.put c none }
    let s := (s.updSide (front c) fun x => { x with learn := [] }).updSide (rear c) fun x => { x with learn := [] }
    let (v, s) := s.take
    s.finish l.e st (v.toNat % 256)

/-- FORCE_MAPS record of a learnt landing (R237). -/
def mapBytes (m : Model) (d : Fin 32) (l : DoorLearn) : List Byte :=
  leBytes 1 (sideCar d).val ++ leBytes 1 (sideNo d) ++ leBytes 1 l.landing ++ leBytes 1 (forceMap m d (some l.landing)).1.toNat ++
  (fillMap l.acc).flatMap fun v => leBytes 2 (BitVec.ofInt 16 v).toNat

/-- DOOR_TIMES record of a learnt landing (08 R274). -/
def timeBytes (d : Fin 32) (l : DoorLearn) : List Byte :=
  leBytes 1 (sideCar d).val ++ leBytes 1 (sideNo d) ++ leBytes 1 l.landing ++ [0] ++ leBytes 2 (median l.opens).toNat ++
  leBytes 2 (median l.closes).toNat

/-- DOOR_LEARN_DONE (R253): every named landing and side is complete. -/
def doorLearnDone (s : State) (c : Fin 16) : State :=
  match s.model, s.learn.get c with
  | some m, some cmd =>
    let all := [front c, rear c].flatMap fun d => ((s.sides.get d).learn.map fun l => (d, l))
    if all.isEmpty || all.any (!·.2.done) then s
    else
      let ok := all.filter (!·.2.failed)
      let side := match (all.map fun p => sideNo p.1).eraseDups with
        | [x] => x
        | _ => 0xFF
      let s := s.addProposal 0x0B c.val side ok.length (ok.flatMap fun p => mapBytes m p.1 p.2)
      let id := s.img.nextProp
      let s := s.addProposal 0x0C c.val side all.length (all.flatMap fun p => timeBytes p.1 p.2)
      let s := { s with learn := s.learn.put c none }
      let s := (s.updSide (front c) fun x => { x with learn := [] }).updSide (rear c) fun x => { x with learn := [] }
      (s.learnEvent c 3 0 0 0).finish cmd.e .done 0 id
  | _, _ => s

/-! The T1 job (R230). -/

/-- A side of a stop has reached OPEN: what the stop's books of the door take. The calls it serves are taken by the caller. -/
def reachOpen (s : State) (m : Model) (d : Fin 32) : State :=
  let x := s.sides.get d
  if x.lockRev then
    ((s.updSide d fun x => { x with lockRev := false }).setSide m d .fault).doorFinding d
  else (s.updSide d fun x => { x with lastOpen := if x.state = .opening then 2 * (x.openT1 : Int) else x.lastOpen }).setSide m d .open_

/-- What a side forgets when its car leaves the stop (R242 to R244). -/
def leaveStop (s : State) (d : Fin 32) : State :=
  s.updSide d fun x => { x with timer := none, stopRev := 0, nudgeRev := 0, lockFails := 0, opObst := 0, dwell := none }

/-- The contact, the landing lock and the levee's status of a side are made (R244). -/
def lockMade (s : State) (d : Fin 32) : Bool :=
  let x := s.sides.get d
  let l := s.lv.get (sideCar d)
  x.locked && if sideNo d = 0 then l.lockedF else l.lockedR

/-- The T1 counters of a side. A car that runs has left its stop, but for a re-level run (R242). -/
def doorTick (s : State) (d : Fin 32) : State :=
  let s := s.updSide d fun x =>
    { x with openT1 := x.openT1 + 1, closeT1 := x.closeT1 + 1,
             planEnd := if x.state = .homing && s.doorIdle d then x.planEnd + 1 else 0, dwell := x.dwell.map (· - 1) }
  if s.leftStop (sideCar d) then s.leaveStop d else s

/-- The state machine of one side in the door T1 job. A demand that is not held ends here. -/
def doorMachine (s : State) (m : Model) (d : Fin 32) : State :=
  let c := sideCar d
  let x := s.sides.get d
  let still := s.hoistAtRest c
  let valid := x.openDem && s.openValid m d
  let clear (s : State) : State := s.updSide d fun x => { x with openDem := false, closeDem := false }
  if x.state = .released then clear (if x.release then s else s.setSide m d .unref)
  else if x.release && [DoorState.closed, .open_, .unref, .stopped].contains x.state && still && m.inZone c (s.cars.get c).pos then
    clear ((s.updSide d fun x => { x with ref := false }).setSide m d .released)
  else match x.state with
    | .unref =>
      if (valid || (x.closeDem && !x.held)) && x.nStatus.getLsbD 0 && still then (clear (s.homeSide m d)).updSide d fun x => { x with openDem := valid }
      else clear s
    | .homing => s.updSide d fun x => { x with closeDem := false }
    | .locking =>
      if valid then clear (s.openSide m d .normal)
      else if s.lockMade d then
        clear (((s.updSide d fun x => { x with timer := none, lockFails := 0 }).learnClose d).setSide m d .closed)
      else clear s
    | .closed => clear (if valid then s.openSide m d .normal else s)
    | .opening | .reversing =>
      let s := s.updSide d fun x => { x with openDem := false }
      if s.posts d (m.doors.get d).openPos then s.reachOpen m d
      else s
    | .open_ => clear (if x.closeDem then s.closeSide m d else s)
    | .closing | .nudging =>
      if valid then clear (s.reverseSide m d 6)
      else if s.posts d 0 then clear ((s.updSide d fun x => { x with lockAge := 0 }).setSide m d .locking)
      else clear s
    | _ => clear s

/-- One side in the door T1 job. A change that its guard has made in this T1 stands: the job acts at its next run (R229). -/
def doorSide (s : State) (m : Model) (d : Fin 32) : State :=
  let s := s.doorTick d
  if (s.sides.get d).guardT0 = some s.tick.t0 then s else s.doorMachine m d

/-- DOOR_REOPEN (R230): 500 T1 after the first opening obstruction. -/
def doorReopen (s : State) (d : Fin 32) : State :=
  match s.model with
  | none => s
  | some m =>
    let x := s.sides.get d
    if x.state = .stopped && x.opObst = 1 && 500 ≤ (s.t1Now - x.stopT1).toNat then s.openSide m d .ref else s

/-- LOCK_TIMEOUT (R244): 1,000 T0 in LOCKING. -/
def lockTimeout (s : State) (d : Fin 32) : State :=
  match s.model with
  | none => s
  | some m =>
    let x := s.sides.get d
    if x.state = .locking && 1000 ≤ x.lockAge && !s.lockMade d then
      let s := s.updSide d fun x =>
        { x with lockFail := x.lockFail + 1, lockFails := x.lockFails + 1, lockRev := 3 ≤ x.lockFails + 1 }
      (s.doorEvent d 3 (x.lockFails + 1)).reverseSide m d 7
    else s

/-- HOMING_CLOSE_FAILURE (R248). -/
def homingCloseFailure (s : State) (d : Fin 32) : State :=
  match s.model with
  | none => s
  | some m =>
    let x := s.sides.get d
    if x.state = .homing && 500 ≤ x.planEnd && !x.contact then
      let s := (s.updSide d fun x => { x with homeFails := x.homeFails + 1, openDem := false }).doorHaltReq d
      let s := s.setSide m d .unref
      if 2 ≤ x.homeFails + 1 then (s.setSide m d .fault).doorFinding d else s
    else s

/-! Current modes and step packets (R216 to R219, R227). -/

/-- The current mode of a side at its computation (R227); HOLD throughout SAFE-HOLD (R256). -/
def chooseMode (s : State) (m : Model) (d : Fin 32) : CurMode :=
  let x := s.sides.get d
  let a := s.axes.get (doorAxis d)
  let r := m.doors.get d
  let v : Int := a.refVel.natAbs
  if s.mod = .safeHold then .hold
  else if x.state = .released then .free
  else if [DoorState.unref, .closed, .open_, .locking].contains x.state || a.state = .idle then .hold
  else if x.state = .reversing || a.refPos ≤ 500 then .strong
  else match x.mode with
    | .quiet => if r.qsRise ≤ v then .strong else .quiet
    | .strong => if v ≤ r.qsFall then .quiet else .strong
    | _ => if r.qsRise ≤ v then .strong else .quiet

/-- ILIM of a side (R219). -/
def ilim (s : State) (m : Model) (d : Fin 32) (mode : CurMode) : Nat :=
  let g := s.laneRec m (doorAxis d)
  let fin := rdiv (doorMass m d * (s.axes.get (doorAxis d)).refAcc) 10000
  match mode with
  | .free => 0
  | .hold => ilimOf (500 + g.p3) g.p1
  | _ =>
    if (s.sides.get d).state.closes then ilimOf (1500 + g.p3 + max 0 (-fin)) g.p1 else ilimOf (3000 + g.p3 + fin.natAbs) g.p1

/-- Code of a current mode (R218). -/
def modeBits : CurMode → Nat
  | .free => 0 | .hold => 1 | .quiet => 2 | .strong => 3

/-- The mode and limit of a side between its PG and its CE part. -/
def setCurrent (s : State) (m : Model) (d : Fin 32) : State :=
  let k := s.chooseMode m d
  s.updSide d fun x => { x with mode := k, ilim := s.ilim m d k, homingBit := x.state == .homing }

/-- STEPS, MODE and ILIM of a side in the packet. -/
def packetSide (s : State) (d : Fin 32) : List Byte :=
  let x := s.sides.get d
  let steps := if x.mode = .quiet || x.mode = .strong then (s.lanes.get (doorAxis d)).out else 0
  leBytes 2 (BitVec.ofInt 16 steps).toNat ++ leBytes 1 (modeBits x.mode + 4 * b2n x.homingBit) ++ leBytes 1 x.ilim

/-- Every fitted side takes the sequence number of its packet (R216, R221). -/
def numberPacket (s : State) (m : Model) (c : Fin 16) (seq : BitVec 16) : State :=
  s.each (carSides m c) fun s d => s.updSide d fun x => { x with seqPrev := x.seqSent, seqSent := seq }

/-- MODE and ILIM of a side stand in a packet (R257). -/
def noteSent (s : State) (d : Fin 32) : State := s.updSide d fun x => { x with sentMode := x.mode, sentIlim := x.ilim }

/-- The step packet of a car (R216, R217). A module that does not drive follows its sequence numbers only (R254). -/
def stepPacket (s : State) (m : Model) (c : Fin 16) : State :=
  let seq := BitVec.ofNat 16 s.t1Now.toNat
  let s := if s.drives || s.mod = .standby then s.numberPacket m c seq else s
  match m.don? c 0 with
  | none => s
  | some i =>
    match m.nodes[i]?, s.conns[i]? with
    | some r, some k =>
      if !s.drives then s
      else
        let hasRear := m.rearFitted c
        let ident := privId 3 c.val (r.addr.toNat % 16)
        let body := [0x01, if hasRear then 3 else 1] ++ leBytes 2 seq.toNat ++ leBytes 4 s.claim.toNat ++ leBytes 4 s.stamp.toNat ++
          s.packetSide (front c) ++ (if hasRear then s.packetSide (rear c) else leBytes 4 0) ++ leBytes 4 0
        let tagR := match (m.don? c 1).bind fun j => s.conns[j]? with
          | some kr => if hasRear then tag4 kr.key 0x53 ident body else leBytes 4 0
          | none => leBytes 4 0
        (s.each (carSides m c) noteSent).send (carBus c) ident
          (body ++ tag4 k.key 0x53 ident body ++ tagR) true i
    | _, _ => s

/-- The counters of every side that run in T0: the obstruction timer and the time in LOCKING. -/
def ageSides (s : State) : State :=
  { s with sides := s.sides.map fun x =>
      { x with timer := x.timer.map (satInc · 26214000), lockAge := if x.state = .locking then x.lockAge + 1 else 0 } }

/-- Every moving door is stopped and loses its reference: on entry to SAFE-HOLD (R256). -/
def holdDoors (s : State) : State :=
  match s.model with
  | none => s
  | some m => s.each (fittedSides m) fun s d =>
    if (s.sides.get d).state.moves || (s.axes.get (doorAxis d)).moving then s.unrefSide m d else s

/-- At a takeover the sides that were moving have lost their reference (R255). -/
def takeoverDoors (s : State) : State :=
  match s.model with
  | none => s
  | some m => s.each (fittedSides m) fun s d => if (s.sides.get d).state.moves then s.unrefSide m d else s

/-- CONNECTION_WATCHDOG (11 R386): the connection becomes LOST; a door operator's side enters FAULT (R249). -/
def connectionWatchdog (s : State) (i : Nat) : State :=
  match s.model with
  | none => s
  | some m =>
    match m.nodes[i]?, s.conns[i]? with
    | some r, some c =>
      if s.watchdogDue r c then
        let s := s.loseConn i r
        if h : r.cls = .don ∧ r.car < 16 ∧ r.side < 2 then
          let d : Fin 32 := ⟨16 * r.side + r.car, by omega⟩
          s.faultSide m d
        else s
      else s
    | _, _ => s

end State

/-- DON_REPLY, R221. -/
def execDonReply (fr : Frame) (s : State) : Out := .next (s.donReply fr)
/-- DOOR_REOPEN, R230. -/
def execDoorReopen (d : Fin 32) (s : State) : Out := .next (s.doorReopen d)
/-- LOCK_TIMEOUT, R244. -/
def execLockTimeout (d : Fin 32) (s : State) : Out := .next (s.lockTimeout d)
/-- HOMING_CLOSE_FAILURE, R248. -/
def execHomingCloseFailure (d : Fin 32) (s : State) : Out := .next (s.homingCloseFailure d)
/-- DOOR_LEARN_DONE, R253. -/
def execDoorLearnDone (c : Fin 16) (s : State) : Out := .next (s.doorLearnDone c)
/-- CONNECTION_WATCHDOG, R386. -/
def execConnectionWatchdog (i : Nat) (s : State) : Out := .next (s.connectionWatchdog i)

end Sys2Proof.Machine
end

