-- ==== Sys2Proof/Machine/Calls.lean ====
section
/-! DEFINITION. Hall, destination and car calls (08 R258 to R267, R292 to R298): acceptance, refusal and merging, the frames of
fixtures and car-top nodes, and the CALL ring record (14 R471). -/

namespace Sys2Proof.Machine

/-- KIND code of a call (R260). -/
def CallKind.code : CallKind → Nat
  | .up => 1 | .down => 2 | .dest => 3

/-- Code of a call's state in its events (14 R473). -/
def CallState.code : CallState → Nat
  | .open_ => 0 | .assigned => 1 | .frozen => 2 | .boarded => 3

/-- Source code of a call (14 R473). -/
def CallSource.code : CallSource → Nat
  | .host => 0 | .lfn _ _ => 1 | .ctn => 2

/-- Direction of a call (R271). -/
def Call.dir (m : Model) (x : Call) : Int :=
  match x.kind with
  | .up => 1
  | .down => -1
  | .dest => sgn (m.level x.dest - m.level x.origin)

/-- First four CMAC bytes over a prefix, a 29-bit identifier as 4 bytes and a message (R294). -/
def tagF (key : List Byte) (pre : Byte) (ident : Nat) (msg : List Byte) : List Byte :=
  (cmac key (pre :: leBytes 4 ident ++ msg)).take 4

/-- A call as it is asked for, before any check. -/
structure Asked where
  kind   : Nat
  access : Bool
  origin : Nat
  side   : Nat
  dest   : Nat
  pax    : Nat
  allow  : BitVec 16
  ref    : BitVec 32
  source : CallSource

/-- The HOST_REFs that a call carries: its own, then those of the host calls merged into it; 0 alone where it has none. -/
def refsOf (ref : BitVec 32) (more : List (BitVec 32)) : List (BitVec 32) :=
  match (if ref = 0 then more else ref :: more) with
  | [] => [0]
  | l => l

/-- A merged host call leaves its HOST_REF with the call it merges into (R262, 14 R471). -/
def addRef (own : BitVec 32) (more : List (BitVec 32)) (ref : BitVec 32) : List (BitVec 32) :=
  if ref = 0 || ref = own || more.contains ref then more else more ++ [ref]

/-- A route without the calls of some slots; its stops stay until they are amended (R284). -/
def Route.forget (r : Route) (gone : List Nat) : Route :=
  { r with stops := r.stops.map fun x =>
      { x with picks := x.picks.filter (!gone.contains ·), drops := x.drops.filter (!gone.contains ·) } }

/-- First code of a car call's slot number: car calls have slots of their own behind the 512 (log 27). -/
def carCallSlot (c : Fin 16) (l : Nat) : Nat := 512 + 128 * c.val + l

namespace State

/-! Dispatch classes and eligibility (R268, R269). -/

/-- Dispatch class of a car: 0 NONE, 1 CAR_ONLY, 2 FULL (09 R301). -/
def classOf (s : State) (c : Fin 16) : Nat :=
  let md := s.modes.get c
  if md.mode = 0 || (md.mode = 7 && md.sub = 3) then 2 else if md.mode = 1 || md.mode = 2 then 1 else 0

/-- A dispatch hold of the car is set (14 R468). -/
def heldOut (h : Holds) : Bool := h.slip || h.relevel || h.start || h.following || h.door

/-- The car's own part of R268: class, health, holds, doors; and a retired hoist's or port's hold (04 R138, 16 R539). -/
def carEligible (s : State) (m : Model) (c : Fin 16) : Bool :=
  m.present c && s.classOf c = 2 && 2 ≤ Health.rank (s.cars.get c).health && !heldOut (s.cars.get c).holds &&
    !(s.modes.get c).hold && ((s.cars.get c).motorOk || (s.cars.get c).secOk) && !(s.cars.get c).inspect &&
    (carSides m c).all fun d => (s.sides.get d).state ≠ .fault && !(s.sides.get d).held

/-- The zone of a landing admits a car under a pattern (R268, R270). -/
def zoneAdmits (m : Model) (c : Fin 16) (l : Nat) (p : Fin 4) : Bool :=
  match m.landings[l]? with
  | none => false
  | some r => (m.zones.find? (·.zone = r.zone)).all fun z => (z.cars.get p).getLsbD c

/-- A car's masks and a call's restriction admit the call (R268). -/
def callFits (m : Model) (c : Fin 16) (x : Call) (p : Fin 4) : Bool :=
  m.serves c x.side x.origin && (x.kind ≠ .dest || m.served c x.dest) && (x.allow = 0 || x.allow.getLsbD c) &&
    zoneAdmits m c x.origin p

/-- Car `c` is eligible for a call now. -/
def eligibleNow (s : State) (m : Model) (c : Fin 16) (x : Call) : Bool := s.carEligible m c && callFits m c x s.dsx.pattern

/-! Events and books. -/

/-- A CALL event goes out, or waits while the host's publication is abandoned (01 R31). -/
def callReport (s : State) (car : Nat) (data : List Byte) : State :=
  if s.dsx.holding then s.updDsx fun d => { d with heldEv := d.heldEv ++ [(car, data)] } else s.event 6 car data

/-- The CALL events that an abandoned publication has left behind go out (01 R31). -/
def releaseEvents (s : State) : State :=
  (s.updDsx fun d => { d with heldEv := [] }).each s.dsx.heldEv fun s p => s.event 6 p.1 p.2

/-- CALL event (14 R473). What a result changes is reported by the host's publication job: where that job is abandoned the event
waits for the next one (R298, 01 R31). -/
def callEvent (s : State) (kind st origin dest : Nat) (car : Option (Fin 16)) (code slot : Nat) (ref : BitVec 32) (src : Nat) : State :=
  let k := car.elim 0xFF (·.val)
  s.callReport k (leBytes 1 kind ++ leBytes 1 st ++ leBytes 1 origin ++ leBytes 1 dest ++ leBytes 1 k ++ leBytes 1 code ++ leBytes 2 slot ++
    leBytes 4 ref.toNat ++ leBytes 1 src)

/-- CALL events of a pending call with a state code: one for every HOST_REF that it carries, or one without (R298, 14 R471). -/
def callNote (s : State) (x : Call) (st code : Nat) : State :=
  s.each (refsOf x.ref x.more) fun s ref => s.callEvent x.kind.code st x.origin x.dest x.car code x.slot ref x.source.code

/-- Change one pending call. -/
def updCall (s : State) (slot : Nat) (f : Call → Call) : State :=
  s.updDsx fun d => { d with calls := d.calls.map fun x => if x.slot = slot then f x else x }

/-- A pending call by slot. -/
def call? (s : State) (slot : Nat) : Option Call := s.dsx.calls.find? (·.slot = slot)

/-- A pending call takes a state, with its event (R298). -/
def setCall (s : State) (x : Call) (st : CallState) (car : Option (Fin 16)) (code : Nat) : State :=
  let y := { x with state := st, car := car }
  (s.updCall x.slot fun _ => y).callNote y st.code code

/-- A pending call leaves the books: 4 DONE, 5 CANCELLED. Its slot leaves the routes in force, and the result of the run in progress
when that takes force (R284): the slot may be a new call's by then. -/
def dropCall (s : State) (x : Call) (st : Nat) : State :=
  (s.updDsx fun d =>
    { d with calls := d.calls.filter (·.slot ≠ x.slot), gone := d.gone ++ [x.slot], force_ := d.force_.map (·.forget [x.slot]) }).callNote x st 0

/-- A car call ends: 4 DONE, 5 CANCELLED. -/
def dropCarCall (s : State) (c : Fin 16) (x : CarCall) (st : Nat) : State :=
  (s.updDsx fun d => { d with carCalls := d.carCalls.upd c fun l => l.filter (·.landing ≠ x.landing) }).each (refsOf x.ref x.more) fun s ref =>
    s.callEvent 4 st 0xFF x.landing (some c) 0 (carCallSlot c x.landing) ref (if x.host then 0 else 2)

/-- Lowest free slot of the 512 (R258). -/
def freeSlot (s : State) : Nat :=
  ((List.range 512).find? fun i => s.dsx.calls.all (·.slot ≠ i)).getD 512

/-- A call is refused (R261): counted, an event, no record. -/
def refuseCall (s : State) (a : Asked) (code : Nat) : State :=
  (s.updDsx fun d => { d with refused := d.refused + 1 }).callEvent a.kind 6 a.origin a.dest none code 0 a.ref a.source.code

/-! Hall and destination calls. -/

/-- SIDE 0xFF resolves to front where some present car serves ORIGIN there (R260). -/
def resolveSide (m : Model) (side origin : Nat) : Nat :=
  if side ≠ 0xFF then side else if m.presentCars.any fun c => m.serves c 0 origin then 0 else 1

/-- The code a hall or destination call is refused with (R261), in the order RANGE, SAME_LANDING, NO_SERVICE, DENIED (log 28). -/
def callCode (m : Model) (a : Asked) : Option Nat :=
  let n := m.landings.length
  let side := resolveSide m a.side a.origin
  let cars := m.presentCars.filter fun c => m.serves c side a.origin && (a.kind ≠ 3 || m.served c a.dest)
  if !(1 ≤ a.kind && a.kind ≤ 3) || n ≤ a.origin || !(a.side = 0 || a.side = 1 || a.side = 0xFF) ||
      (a.kind = 3 && (n ≤ a.dest || a.pax = 0 || 16 < a.pax)) || (a.kind ≠ 3 && (a.dest ≠ 0xFF || a.pax ≠ 0)) then some 0x13
  else if a.kind = 3 && a.dest = a.origin then some 0x12
  else if cars.isEmpty then some 0x11
  else if a.allow ≠ 0 && !cars.any (a.allow.getLsbD ·) then some 0x14
  else none

/-- The next stop of a route beyond a landing. -/
def nextBeyond (r : List Stop) (l : Nat) : Option Nat := (r.find? (·.landing ≠ l)).map (·.landing)

/-- The car's route in force leaves a landing in a direction, or has no further stop (R263). -/
def leavesFor (s : State) (m : Model) (c : Fin 16) (l : Nat) (dir : Int) : Bool :=
  match nextBeyond (s.dsx.force_.get c).stops l with
  | none => true
  | some n => sgn (m.level n - m.level l) = dir

/-- The car stands at a landing: hoist at rest, in its zone. -/
def standsAt (s : State) (m : Model) (c : Fin 16) (l : Nat) : Bool :=
  s.hoistAtRest c && m.inZone c (s.cars.get c).pos && (s.cars.get c).landing = l

/-- A lantern is lit (R263, R265). -/
def light (s : State) (x : Call) (c : Fin 16) : State :=
  let l : Lantern := { landing := x.origin, side := x.side, up := x.kind == .up, car := c }
  s.updDsx fun d => { d with lanterns := d.lanterns.filter (fun y => !(y.landing = l.landing && y.side = l.side && y.up = l.up)) ++ [l] }

/-- A hall call's lantern goes out; a destination call has none (R265). -/
def unlight (s : State) (x : Call) : State :=
  if x.kind = .dest then s else s.updDsx fun d => { d with lanterns := d.lanterns.filter fun y => !(y.landing = x.origin && y.side = x.side && y.up = (x.kind == .up)) }

/-- A hall call just accepted is served at once where a car stands open for it, or asks a closing side to open again (R263). -/
def serveAtOnce (s : State) (m : Model) (x : Call) : State :=
  let ok (st : DoorState → Bool) : Option (Fin 16) := m.presentCars.find? fun c =>
    s.eligibleNow m c x && s.standsAt m c x.origin && s.leavesFor m c x.origin (x.dir m) &&
      st (s.sides.get (if x.side = 0 then front c else rear c)).state
  match ok fun st => st = .opening || st = .open_ with
  | some c => (s.light x c).dropCall { x with car := some c } 4
  | none =>
    match ok fun st => st = .closing with
    | some c => (s.updSide (if x.side = 0 then front c else rear c) fun y => { y with openDem := true }).updCall x.slot fun y => { y with reopen := some c }
    | none => s

/-- A hall or destination call is refused, merged or accepted (R258 to R263): the code, or the call's slot. -/
def registerCall (s : State) (m : Model) (a : Asked) : State × (Nat ⊕ Nat) :=
  match callCode m a with
  | some code => (s.refuseCall a code, .inl code)
  | none =>
    let side := resolveSide m a.side a.origin
    let kind : CallKind := if a.kind = 1 then .up else if a.kind = 2 then .down else .dest
    match s.dsx.calls.find? fun x => kind ≠ .dest && x.kind = kind && x.origin = a.origin && x.side = side with
    | some x => (s.updCall x.slot fun y => { y with more := addRef y.ref y.more a.ref }, .inr x.slot)
    | none =>
      let slot := s.freeSlot
      if 512 ≤ slot then (s.refuseCall a 0x10, .inl 0x10)
      else
        let x : Call := { slot := slot, kind := kind, access := a.access, origin := a.origin, side := side, dest := a.dest, pax := a.pax,
                          allow := a.allow, ref := a.ref, source := a.source, regT0 := s.tick.t0, state := .open_, car := none,
                          again := false, announce := 0, reopen := none, more := [] }
        let s := (s.updDsx fun d => { d with calls := d.calls ++ [x] }).callNote x 0 0
        (if kind = .dest then s else s.serveAtOnce m x, .inr slot)

/-! Car calls. -/

/-- The car's class or mode permits a car call from a source (R261 DENIED): FULL or CAR_ONLY, or a CTN's in M5. -/
def carCallAllowed (s : State) (c : Fin 16) (host : Bool) : Bool := 1 ≤ s.classOf c || ((s.modes.get c).mode = 5 && !host)

/-- CALL event of an M5 car call, where there is one (R298). -/
def m5Note (s : State) (c : Fin 16) (o : Option Nat) (st : Nat) : State :=
  match o with
  | none => s
  | some l => s.callEvent 4 st 0xFF l (some c) 0 (carCallSlot c l) 0 2

/-- A car call of M5 (09 R317): it replaces the one in force while the car stands, and waits while it runs. -/
def firemanCall (s : State) (c : Fin 16) (l : Nat) : State :=
  let md := s.modes.get c
  if md.m5Call = some l || md.m5Next = some l then s
  else if s.hoistIdle c then
    (((s.m5Note c md.m5Call 5).m5Note c md.m5Next 5).updMode c fun md => { md with m5Call := some l, m5Next := none }).m5Note c (some l) 1
  else ((s.m5Note c md.m5Next 5).updMode c fun md => { md with m5Next := some l }).m5Note c (some l) 1

/-- The M5 car calls of a car end as it leaves the mode. -/
def dropM5 (s : State) (c : Fin 16) : State :=
  let md := s.modes.get c
  ((s.m5Note c md.m5Call 5).m5Note c md.m5Next 5).updMode c fun md => { md with m5Call := none, m5Next := none }

/-- A CTN cancels an M5 car call (R262); none where the car has no such call. -/
def cancelM5 (s : State) (c : Fin 16) (l : Nat) : Option State :=
  let md := s.modes.get c
  if md.m5Call = some l then some ((s.updMode c fun md => { md with m5Call := none }).m5Note c (some l) 5)
  else if md.m5Next = some l then some ((s.updMode c fun md => { md with m5Next := none }).m5Note c (some l) 5)
  else none

/-- A car call is refused, merged or accepted (R261, R262): the code, or the call's slot. -/
def registerCarCall (s : State) (m : Model) (c : Fin 16) (l : Nat) (access : Bool) (ref : BitVec 32) (host : Bool) : State × (Nat ⊕ Nat) :=
  let a : Asked := { kind := 4, access := access, origin := 0xFF, side := 0xFF, dest := l, pax := 0, allow := 0, ref := ref,
                     source := if host then .host else .ctn }
  let slot := carCallSlot c l
  if !m.present c || m.landings.length ≤ l then (s.refuseCall a 0x13, .inl 0x13)
  else if !m.served c l then (s.refuseCall a 0x11, .inl 0x11)
  else if !s.carCallAllowed c host then (s.refuseCall a 0x14, .inl 0x14)
  else if (s.modes.get c).mode = 5 then (s.firemanCall c l, .inr slot)
  else if (s.dsx.carCalls.get c).any (·.landing = l) then
    (s.updDsx fun d => { d with carCalls := d.carCalls.upd c fun q => q.map fun x =>
        if x.landing = l then { x with more := addRef x.ref x.more ref } else x }, .inr slot)
  else if 128 ≤ (s.dsx.carCalls.get c).length then (s.refuseCall a 0x10, .inl 0x10)
  else
    let x : CarCall := { landing := l, regT0 := s.tick.t0, access := access, ref := ref, host := host, more := [] }
    ((s.updDsx fun d => { d with carCalls := d.carCalls.upd c (· ++ [x]) }).callEvent
      4 1 0xFF l (some c) 0 slot ref (if host then 0 else 2), .inr slot)

/-- Host cancel of a reference (R262): the code, or the slot. -/
def cancelRef (s : State) (ref : BitVec 32) : State × (Nat ⊕ Nat) :=
  let a : Asked := { kind := 5, access := false, origin := 0xFF, side := 0xFF, dest := 0xFF, pax := 0, allow := 0, ref := ref, source := .host }
  match s.dsx.calls.find? fun x => (x.ref = ref && x.source = .host) || x.more.contains ref with
  | some x =>
    if x.state = .boarded then (s.refuseCall a 0x15, .inl 0x15) else ((s.unlight x).dropCall x 5, .inr x.slot)
  | none =>
    match (idx 16).findSome? fun c => ((s.dsx.carCalls.get c).find? fun x => (x.host && x.ref = ref) || x.more.contains ref).map (c, ·) with
    | some (c, x) => (s.dropCarCall c x 5, .inr (carCallSlot c x.landing))
    | none => (s.refuseCall a 0x15, .inl 0x15)

/-! The CALL ring (R260, 14 R471). -/

/-- A call record of R260. -/
def callRecord (s : State) (m : Model) (b : List Byte) : State × (Nat ⊕ Nat) :=
  let g (i : Nat) : Nat := (byteAt b i).toNat
  let ref := BitVec.ofNat 32 (fld b 8 4)
  let allow := BitVec.ofNat 16 (fld b 12 2)
  let a : Asked := { kind := g 0, access := bitAt b 1 0, origin := g 2, side := g 3, dest := g 4, pax := g 6, allow := allow, ref := ref,
                     source := .host }
  let calls := 1 ≤ a.kind && a.kind ≤ 3
  let bad := a.kind = 0 || 5 < a.kind || 1 < g 1 || g 7 ≠ 0 || ref = 0 || !zeroAt b 14 18 || (a.kind ≠ 4 && g 5 ≠ 0xFF) ||
    (!calls && (a.origin ≠ 0xFF || a.side ≠ 0xFF || allow ≠ 0 || a.pax ≠ 0)) || (a.kind = 5 && a.dest ≠ 0xFF)
  if bad then (s.refuseCall a 0x13, .inl 0x13)
  else if calls then s.registerCall m a
  else if a.kind = 5 then s.cancelRef ref
  else if h : g 5 < 16 then s.registerCarCall m ⟨g 5, h⟩ a.dest a.access ref true
  else (s.refuseCall a 0x13, .inl 0x13)

/-- The completion of a CALL entry (14 R464, R471). -/
def callAnswer (s : State) (b : List Byte) (st : CplStatus) (code : Nat) (result : BitVec 32) : State :=
  s.complete { ring := 1, op := byteAt b 0, status := st.code, code := BitVec.ofNat 8 code, tag := BitVec.ofNat 32 (fld b 8 4), result := result }

/-- CALL_ENTRY (R259, R471): the first fetched record is validated and completed. -/
def callEntry (s : State) : State :=
  match s.hi.calls with
  | [] => s
  | b :: rest =>
    let s := s.updHi fun h => { h with calls := rest }
    match s.model with
    | some m =>
      if s.mod = .standby then s.callAnswer b .refused 0x8B 0
      else if s.mod ≠ .active then s.callAnswer b .refused 0x83 0
      else
        match s.callRecord m b with
        | (s, .inl code) => s.callAnswer b .refused code 0
        | (s, .inr slot) => s.callAnswer b .done 0 (BitVec.ofNat 32 slot)
    | none => s.callAnswer b .refused (if s.mod = .standby then 0x8B else 0x83) 0

/-! Frames (R292 to R297). -/

/-- The layout, TAG and SEQ checks of a call frame (R297): the connection after acceptance, or the failed check. -/
def checkCall (c : Conn) (fr : Frame) (tag : List Byte) : Except Rej Conn :=
  let q := BitVec.ofNat 16 (fld fr.data 4 2)
  let ahead := (q - c.echo).toNat
  if fr.data.length ≠ 16 || byteAt fr.data 0 ≠ 1 then .error .format
  else if fr.data.drop 12 ≠ tag then .error .tag
  else if c.echoBased && !(1 ≤ ahead && ahead ≤ 32767) then .error .seq
  else .ok { (c.accept fr.sof) with echoBased := true, echo := q }

/-- A fixture frame of a function arrives (R292): a frame without an owner is R437's. -/
def onFixture (s : State) (fr : Frame) (fn : Nat) (f : State → Model → Nat → NodeRec → Conn → State) : State :=
  match s.hear fr, s.model with
  | some t, some m =>
    if t.lostRx fr then t
    else if fr.bus.val < 4 || !fr.ext || !fr.fd || fr.ident.toNat / 2 ^ 26 ≠ 4 then t.unowned fr
    else match fixtureAt m fr with
      | none => t.unowned fr
      | some i =>
        match m.nodes[i]?, t.conns[i]? with
        | some r, some c => if fixFn fr = fn then f t m i r c else s
        | _, _ => s
  | some t, none => if t.lostRx fr then t else t.unowned fr
  | none, _ => s

/-- ALLOCATION to a fixture (R295). -/
def sendAllocation (s : State) (m : Model) (i : Nat) (result car side : Nat) (seq : BitVec 16) (dest : Nat) (answer : Option (BitVec 32)) : State :=
  match m.nodes[i]?, s.conns[i]? with
  | some r, some c =>
    let ident := 5 * 2 ^ 26 + (r.addr.toNat % 2 ^ 14) * 2 ^ 12 + 0x21
    let body := [0x01, BitVec.ofNat 8 result, BitVec.ofNat 8 car, BitVec.ofNat 8 side] ++ leBytes 2 seq.toNat ++
      [BitVec.ofNat 8 dest, 0] ++ leBytes 4 s.claim.toNat
    let brs := (m.buses.get r.bus).brs
    s.queue r.bus { (fixFrame brs ident (body ++ tagF c.key 0x41 ident body) false i) with answer := answer }
  | _, _ => s

/-- HALL_CALL (R294). -/
def hallCall (s : State) (fr : Frame) : State :=
  s.onFixture fr 0x10 fun s m i r c =>
    match checkCall c fr (tagF c.key 0x48 fr.ident.toNat (fr.data.take 12)) with
    | .error e => s.updConn i (·.reject e)
    | .ok c' =>
      let s := s.updConn i fun _ => c'
      let b := fr.data
      if s.mod ≠ .active then s
      else
        let bad := 3 < (byteAt b 2).toNat || byteAt b 3 ≠ 0 || !zeroAt b 6 6 || !(byteAt b 1 = 1 || byteAt b 1 = 2)
        let a : Asked := { kind := (byteAt b 1).toNat, access := bitAt b 2 0, origin := r.addr.toNat / 128 % 128, side := b2n (bitAt b 2 1),
                           dest := 0xFF, pax := 0, allow := 0, ref := 0, source := .lfn i (BitVec.ofNat 16 (fld b 4 2)) }
        if bad then s.refuseCall a 0x13 else (s.registerCall m a).1

/-- DEST_CALL (R294, R297): registered or refused, and answered with ALLOCATION. -/
def destCall (s : State) (fr : Frame) : State :=
  s.onFixture fr 0x11 fun s m i r c =>
    match checkCall c fr (tagF c.key 0x44 fr.ident.toNat (fr.data.take 12)) with
    | .error e => s.updConn i (·.reject e)
    | .ok c' =>
      let s := s.updConn i fun _ => c'
      let b := fr.data
      if s.mod ≠ .active then s
      else
        let q := BitVec.ofNat 16 (fld b 4 2)
        let bad := 3 < (byteAt b 2).toNat || !zeroAt b 6 6
        let a : Asked := { kind := 3, access := bitAt b 2 0, origin := r.addr.toNat / 128 % 128, side := b2n (bitAt b 2 1),
                           dest := (byteAt b 1).toNat, pax := (byteAt b 3).toNat, allow := 0, ref := 0, source := .lfn i q }
        let (s, res) := if bad then (s.refuseCall a 0x13, .inl 0x13) else s.registerCall m a
        s.sendAllocation m i (match res with | .inl code => code | .inr _ => 0) 0xFF a.side q a.dest (some fr.sof)

/-- CAR_CALL (R296): registers or cancels; a cancel acts only where DISPATCH permits it (R262). -/
def carCall (s : State) (fr : Frame) : State :=
  s.onPrivileged fr 5 (·.cls = .ctn) fun s m i r c =>
    match checkCall c fr (tag4 c.key 0x4B fr.ident.toNat (fr.data.take 12)) with
    | .error e => s.updConn i (·.reject e)
    | .ok c' =>
      let s := s.updConn i fun _ => c'
      let b := fr.data
      let l := (byteAt b 3).toNat
      if h : r.car < 16 ∧ s.mod = .active then
        let k : Fin 16 := ⟨r.car, h.1⟩
        let a : Asked := { kind := if byteAt b 1 = 2 then 5 else 4, access := bitAt b 2 0, origin := 0xFF, side := 0xFF, dest := l, pax := 0,
                           allow := 0, ref := 0, source := .ctn }
        if 1 < (byteAt b 2).toNat || !zeroAt b 6 6 || !(byteAt b 1 = 1 || byteAt b 1 = 2) then s.refuseCall a 0x13
        else if byteAt b 1 = 1 then (s.registerCarCall m k l (bitAt b 2 0) 0 false).1
        else if !m.dispatch.ctnCancel || !s.carCallAllowed k false then s.refuseCall a 0x14
        else if (s.modes.get k).mode = 5 then (s.cancelM5 k l).getD (s.refuseCall a 0x15)
        else match (s.dsx.carCalls.get k).find? (·.landing = l) with
          | some x => s.dropCarCall k x 5
          | none => s.refuseCall a 0x15
      else s

/-! Publication frames (R295 to R297). -/

/-- The car lit for a direction at a landing side, 0xFF where none. -/
def litCar (s : State) (l side : Nat) (up : Bool) : Nat :=
  ((s.dsx.lanterns.find? fun x => x.landing = l && x.side = side && x.up = up).map (·.car.val)).getD 0xFF

/-- Contents of LANDING_STATUS for a landing: ACK and the four lit cars. -/
def landingContent (s : State) (l : Nat) : List Byte :=
  let reg (k : CallKind) (side : Nat) : Bool := s.dsx.calls.any fun x => x.kind = k && x.origin = l && x.side = side
  [BitVec.ofNat 8 (packBits [reg .up 0, reg .down 0, reg .up 1, reg .down 1]), BitVec.ofNat 8 (s.litCar l 0 true),
    BitVec.ofNat 8 (s.litCar l 0 false), BitVec.ofNat 8 (s.litCar l 1 true), BitVec.ofNat 8 (s.litCar l 1 false)]

/-- LANDING_STATUS to a fixture (R295). -/
def sendLanding (s : State) (m : Model) (i : Nat) (r : NodeRec) (body : List Byte) : State :=
  match s.conns[i]? with
  | none => s
  | some c =>
    let ident := 5 * 2 ^ 26 + (r.addr.toNat % 2 ^ 14) * 2 ^ 12 + 0x20
    let b := [0x01] ++ body ++ leBytes 2 s.tick.t1.toNat ++ leBytes 4 s.claim.toNat
    s.queue r.bus (fixFrame (m.buses.get r.bus).brs ident (b ++ tagF c.key 0x4C ident b) true i)

/-- Registered car calls as a 128-bit mask; in M5 the call in force alone (09 R317). -/
def carCallMask (s : State) (c : Fin 16) : Nat :=
  let ls := if (s.modes.get c).mode = 5 then (s.modes.get c).m5Call.toList else (s.dsx.carCalls.get c).map (·.landing)
  (ls.map fun l => 2 ^ l).sum % 2 ^ 128

/-- Next stop and direction of CAR_CALLS (R296). -/
def carNext (s : State) (m : Model) (c : Fin 16) : List Byte :=
  match (s.dsx.force_.get c).stops.head? with
  | some x =>
    let d := sgn (m.level x.landing - (s.cars.get c).pos)
    let d := if (m.level x.landing - (s.cars.get c).pos).natAbs < 10 then x.dir else d
    [BitVec.ofNat 8 x.landing, if 0 < d then 1 else if d < 0 then 2 else 0]
  | none => [0xFF, 0]

/-- Contents of CAR_CALLS. -/
def carContent (s : State) (m : Model) (c : Fin 16) : List Byte := leBytes 16 (s.carCallMask c) ++ s.carNext m c

/-- CAR_CALLS to a car's CTN (R296). -/
def sendCarCalls (s : State) (i : Nat) (c : Fin 16) (body : List Byte) : State :=
  match s.conns[i]? with
  | none => s
  | some k =>
    let ident := privId 5 c.val 0xF
    let b := [0x01, 0] ++ leBytes 2 s.tick.t1.toNat ++ leBytes 4 s.claim.toNat ++ body ++ [0, 0]
    s.send (carBus c) ident (b ++ tag4 k.key 0x54 ident b) true i

/-- The fixtures and CTNs of a car core (R259). -/
def coreNodes (m : Model) (cc : Fin 4) : List (Nat × NodeRec) :=
  ((List.range m.nodes.length).filterMap fun i => (m.nodes[i]?).map (i, ·)).filter fun p =>
    (p.2.cls = .lfn && 4 ≤ p.2.bus.val && (p.2.bus.val - 4) / 2 = cc.val) || (p.2.cls = .ctn && p.2.car < 16 && p.2.car / 4 = cc.val)

/-- Send LANDING_STATUS and CAR_CALLS of a car core: all of them in a publication job, else those whose contents have changed
(R297), and those of a bus that has woken (13 R451). -/
def publishNodes (s : State) (m : Model) (cc : Fin 4) (all : Bool) : State :=
  s.each (coreNodes m cc) fun s p =>
    let (i, r) := p
    let body := if r.cls = .lfn then s.landingContent (r.addr.toNat / 128 % 128)
      else if h : r.car < 16 then s.carContent m ⟨r.car, h⟩ else []
    let old := (s.dsx.sent.find? (·.1 = i)).map (·.2)
    if all || old ≠ some body || (r.cls = .lfn && (s.buses.get r.bus).restate) then
      let s := s.updDsx fun d => { d with sent := d.sent.filter (·.1 ≠ i) ++ [(i, body)] }
      if r.cls = .lfn then s.sendLanding m i r body
      else if h : r.car < 16 then s.sendCarCalls i ⟨r.car, h⟩ body else s
    else s

/-- ALLOCATION of the destination calls that a publication owes (R265, R297). -/
def publishAllocations (s : State) (m : Model) (cc : Fin 4) : State :=
  s.each s.dsx.calls fun s x =>
    match x.source, x.car with
    | .lfn i q, some c =>
      if x.announce ≠ 0 && (m.nodes[i]?).any fun r => 4 ≤ r.bus.val && (r.bus.val - 4) / 2 = cc.val then
        (s.sendAllocation m i x.announce c.val x.side q x.dest none).updCall x.slot fun y => { y with announce := 0 }
      else s
    | _, _ => s

/-- The publication of one car core in its T1 job: the whole of it where one is owed, the changes otherwise. -/
def publishCore (s : State) (m : Model) (cc : Fin 4) : State :=
  let job := s.dsx.publish.get cc
  if job && s.spill.abandoned.contains (.publishFixtures cc) then
    { s with spill := { s.spill with abandoned := s.spill.abandoned.erase (.publishFixtures cc) },
             dsx := { s.dsx with publish := s.dsx.publish.put cc false } }
  else
    let s := if job then s.publishAllocations m cc else s
    let s := s.publishNodes m cc job
    { s with dsx := { s.dsx with publish := s.dsx.publish.put cc false },
             buses := forAll s.buses fun b n => if 4 ≤ n.val && (n.val - 4) / 2 = cc.val then b.upd n fun x => { x with restate := false } else b }

end State

/-- HALL_CALL, R294. -/
def execHallCall (fr : Frame) (s : State) : Out := .next (s.hallCall fr)
/-- DEST_CALL, R297. -/
def execDestCall (fr : Frame) (s : State) : Out := .next (s.destCall fr)
/-- CAR_CALL, R296. -/
def execCarCall (fr : Frame) (s : State) : Out := .next (s.carCall fr)
/-- CALL_ENTRY, R471. -/
def execCallEntry (s : State) : Out := .next s.callEntry

end Sys2Proof.Machine
end

