-- ==== Sys2Proof/Machine/Solver.lean ====
section
/-! DEFINITION. The dispatch solver (08 R268 to R290): snapshots, routes and their times and costs, one run, the nearest-car rule,
and a result taking force. -/

namespace Sys2Proof.Machine

/-- A route in the making: what the car stops for. `dir` is its direction, 0 while it has none (R272). -/
structure CarRoute where
  dir     : Int
  picks   : List Nat        -- slots picked up on the route
  boarded : List Nat        -- slots of calls in the car
  carLs   : List Nat        -- landings of car calls
  parkAt  : Option Nat
  deriving DecidableEq, Repr

/-- One reason to visit a landing in a sweep. -/
structure Visit where
  sweep   : Nat
  landing : Nat
  sides   : BitVec 2
  pick    : Option Nat
  drop    : Option Nat
  carCall : Bool
  park    : Bool
  runOut  : Bool

/-- What a run reads (R286): the snapshot, the model and the calls as the run has set them. -/
structure Run where
  m     : Model
  snap  : Snap
  calls : List Call

namespace Run

/-- A call of the run. -/
def call? (r : Run) (slot : Nat) : Option Call := r.calls.find? (·.slot = slot)

/-- Age of a call [µs] (R278). -/
def ageUs (r : Run) (x : Call) : Nat := (r.snap.t0 - x.regT0).toNat * 250

/-- The snapshot of a car. -/
def car (r : Run) (k : Fin 16) : CarSnap := r.snap.cars.get k

/-- Every side of a car that serves a landing, as a mask. -/
def serveMask (m : Model) (k : Fin 16) (l : Nat) : BitVec 2 := BitVec.ofNat 2 (b2n (m.serves k 0 l) + 2 * b2n (m.serves k 1 l))

/-- A landing lies in the sweep 1 region (R272). -/
def inRegion (r : Run) (k : Fin 16) (d : Int) (l : Nat) : Bool :=
  let c := r.car k
  if c.moving then c.region.contains l
  else if d = 0 then l = c.landing
  else decide (0 ≤ d * (r.m.level l - r.m.level c.landing))

/-- The sweep of a pickup (R271). -/
def pickSweep (r : Run) (k : Fin 16) (d : Int) (x : Call) : Nat :=
  if x.dir r.m = d && r.inRegion k d x.origin then 1 else if x.dir r.m = -d then 2 else 3

/-- A visit of a landing. -/
def visit (sweep landing : Nat) (sides : BitVec 2) : Visit :=
  { sweep := sweep, landing := landing, sides := sides, pick := none, drop := none, carCall := false, park := false, runOut := false }

/-- The visits of a route (R271, R272). -/
def visits (r : Run) (k : Fin 16) (c : CarRoute) : List Visit :=
  let d := c.dir
  let picks := c.picks.flatMap fun slot => match r.call? slot with
    | none => []
    | some x =>
      let sw := r.pickSweep k d x
      let p := { visit sw x.origin (if x.side = 0 then 1 else 2) with pick := some slot }
      if x.kind = .dest then [p, { visit sw x.dest (serveMask r.m k x.dest) with drop := some slot }] else [p]
  let boarded := c.boarded.filterMap fun slot => (r.call? slot).map fun x =>
    { visit (if r.inRegion k d x.dest then 1 else 2) x.dest (serveMask r.m k x.dest) with drop := some slot }
  let cars := c.carLs.map fun l => { visit (if r.inRegion k d l then 1 else 2) l (serveMask r.m k l) with carCall := true }
  let all := picks ++ boarded ++ cars
  let all := if (r.car k).moving && !all.any (·.sweep = 1) then { visit 1 (r.car k).target 0 with runOut := true } :: all else all
  match c.parkAt with
  | some l => all ++ [{ visit 3 l 0 with park := true }]
  | none => all

/-- A stop takes a visit. -/
def addVisit (s : Stop) (v : Visit) : Stop :=
  { s with sides := s.sides ||| v.sides, picks := s.picks ++ v.pick.toList, drops := s.drops ++ v.drop.toList,
           carCall := s.carCall || v.carCall, park := s.park || v.park, runOut := s.runOut || v.runOut }

/-- Visits in order become stops: neighbours at one landing are one stop (R271), departing in the direction of the later sweep. -/
def gather (d : Int) : List Stop → List Visit → List Stop
  | acc, [] => acc.reverse
  | acc, v :: vs =>
    let dir := if v.sweep = 2 then -d else d
    let e : Stop :=
      { landing := v.landing, sides := 0, dir := dir, picks := [], drops := [], carCall := false, park := false, runOut := false, arr := 0 }
    let s := addVisit e v
    match acc with
    | [] => gather d [s] vs
    | a :: rest => if a.landing = v.landing then gather d ({ (addVisit a v) with dir := dir } :: rest) vs else gather d (s :: a :: rest) vs

/-- A stop has calls. -/
def hasCalls (s : Stop) : Bool := !s.picks.isEmpty || !s.drops.isEmpty || s.carCall

/-- A stop that picks nobody up departs towards the next one (R271). -/
def departures (m : Model) : List Stop → List Stop
  | [] => []
  | [s] => [s]
  | s :: t :: rest => (if s.picks.isEmpty then { s with dir := sgn (m.level t.landing - m.level s.landing) } else s) :: departures m (t :: rest)

/-- The stops of a route in order. -/
def stops (r : Run) (k : Fin 16) (c : CarRoute) : List Stop :=
  let d := c.dir
  let key (v : Visit) : Int := if v.sweep = 2 then -d * r.m.level v.landing else d * r.m.level v.landing
  let vs := sortBy (fun a b => a.sweep < b.sweep || (a.sweep = b.sweep && decide (key a ≤ key b))) (r.visits k c)
  let ss := (gather d [] vs).map fun s => { s with runOut := s.runOut && !hasCalls s }
  departures r.m ss

/-- Direction an insertion gives a car without one (R272). -/
def dirFor (r : Run) (k : Fin 16) (l : Nat) (own : Int) : Int :=
  let d := sgn (r.m.level l - r.m.level (r.car k).landing)
  if d = 0 then own else d

/-- A route with a call added (R271, R272). -/
def withCall (r : Run) (k : Fin 16) (c : CarRoute) (x : Call) : CarRoute :=
  let c := if c.dir = 0 then { c with dir := r.dirFor k (if x.state = .boarded then x.dest else x.origin) (x.dir r.m) } else c
  if x.state = .boarded then { c with boarded := c.boarded ++ [x.slot] } else { c with picks := c.picks ++ [x.slot] }

/-- A route with a car call added. -/
def withCar (r : Run) (k : Fin 16) (c : CarRoute) (l : Nat) : CarRoute :=
  let c := if c.dir = 0 then { c with dir := r.dirFor k l 0 } else c
  { c with carLs := c.carLs ++ [l] }

/-- A route without a call (R282): one left with nothing has its snapshot's direction again. -/
def without (r : Run) (k : Fin 16) (c : CarRoute) (slot : Nat) : CarRoute :=
  let c := { c with picks := c.picks.filter (· ≠ slot) }
  if c.picks.isEmpty && c.boarded.isEmpty && c.carLs.isEmpty then { c with dir := (r.car k).dir } else c

/-! Times (R274 to R276). -/

/-- Opening or closing time of a side at a landing [ms] (R274). -/
def doorMs (m : Model) (k : Fin 16) (side l : Nat) (opening : Bool) : Int :=
  match m.times.find? fun t => t.car = k.val && t.side = side && t.landing = l with
  | some t => if opening then t.openMs else t.closeMs
  | none => if opening then m.dispatch.doorOpenDef else m.dispatch.doorCloseDef

/-- The larger value over the sides of a mask (R275). -/
def maskMs (m : Model) (k : Fin 16) (mask : BitVec 2) (l : Nat) (opening : Bool) : Int :=
  ([0, 1].filter mask.getLsbD).foldl (fun x side => max x (doorMs m k side l opening)) 0

/-- The cap and durations of a run of a car (R276). -/
def runTime (r : Run) (k : Fin 16) (dist : Int) : Nat :=
  let h := r.m.hoists.get k
  runUs 0 dist.natAbs (r.car k).vmax h.accel h.decel h.jerk

/-- First arrival of a moving car at a stop (R272). -/
def firstArrival (r : Run) (k : Fin 16) (l : Nat) : Nat :=
  let c := r.car k
  let h := r.m.hoists.get k
  match c.replan with
  | none => c.fixedUs
  | some (t, p, v) =>
    match plan p v (r.m.level l) c.vmax h.accel h.decel h.jerk with
    | .ok g => t + planLen g
    | _ => c.fixedUs

/-- dwell_ms of a stop (R275). -/
def dwellMs (r : Run) (k : Fin 16) (s : Stop) : Int :=
  let d := r.m.dispatch
  let acc := (s.picks ++ s.drops).any (fun slot => (r.call? slot).any (·.access)) ||
    (s.carCall && ((r.snap.carCalls.get k).find? (·.landing = s.landing)).any (·.access))
  let x := if s.picks.isEmpty then 0 else d.dwellHall
  let x := if s.drops.isEmpty && !s.carCall then x else max x d.dwellCar
  if acc then max x d.dwellAccess else x

/-- `timeline` (R275): arrival times [µs] of the stops from time `t` and position `lvl`. -/
def timelineGo (r : Run) (k : Fin 16) : Bool → Int → Int → List Stop → List Int
  | _, _, _, [] => []
  | first, t, lvl, s :: rest =>
    let c := r.car k
    let h := r.m.hoists.get k
    let l := r.m.level s.landing
    let arr : Int :=
      if first && c.moving then (r.firstArrival k s.landing : Nat)
      else if (l - lvl).natAbs < 10 then t
      else t + (r.m.dispatch.startDelay + 10 * h.brakeLift) * 1000 + r.runTime k (l - lvl)
    let here := first && !c.moving && c.doorsOpen && s.landing = c.landing
    let dep := if hasCalls s && !here then
        arr + 1000 * (maskMs r.m k s.sides s.landing true + r.dwellMs k s + maskMs r.m k s.sides s.landing false)
      else arr
    arr :: timelineGo r k false dep l rest

/-- Arrival times of a route. -/
def arrivals (r : Run) (k : Fin 16) (ss : List Stop) : List Int :=
  r.timelineGo k true (r.car k).readyUs (r.car k).pos ss

/-! Cost (R278, R279). -/

/-- pax(x) of R278. -/
def pax (r : Run) (x : Call) : Int := if x.kind = .dest then x.pax else r.m.dispatch.hallPax

/-- Passengers in and destination passengers out at a stop. -/
def paxIn (r : Run) (s : Stop) : Int := (s.picks.filterMap r.call?).foldl (fun n x => n + r.pax x) 0
/-- Destination passengers dropped at a stop. -/
def paxOut (r : Run) (s : Stop) : Int := (s.drops.filterMap r.call?).foldl (fun n x => n + (x.pax : Int)) 0

/-- Load along a route (R278): per stop the load on the leg into it, the car-call share dropped there and the load after it. -/
def loadsGo (r : Run) : Int → Int → Nat → List Stop → List (Int × Int × Int)
  | _, _, _, [] => []
  | m, u, q, s :: rest =>
    let d := if s.carCall then (if q ≤ 1 then u else tdiv u q) else 0
    let out := m - d + r.m.dispatch.paxMass * (r.paxIn s - r.paxOut s)
    (m, d, out) :: loadsGo r out (u - d) (if s.carCall then q - 1 else q) rest

/-- Loads along a route of a car. -/
def loads (r : Run) (k : Fin 16) (ss : List Stop) : List (Int × Int × Int) :=
  let c := r.car k
  loadsGo r c.load (max 0 (c.load - r.m.dispatch.paxMass * c.boarded)) (ss.filter (·.carCall)).length ss

/-- Weights of the snapshot's pattern. -/
def weights (r : Run) : Weights := r.m.dispatch.weights.get r.snap.pattern

/-- Cost of one call on a route (R278). -/
def callCost (r : Run) (ss : List Stop) (arr : List Int) (x : Call) : Int :=
  let w := r.weights
  let at_ (p : Stop → Bool) : Int := ((ss.findIdx? p).bind fun i => arr[i]?).getD 0
  let drop := at_ fun s => s.drops.contains x.slot
  if x.state = .boarded then w.ride * r.pax x * tdiv drop 1000
  else
    let pick := at_ fun s => s.picks.contains x.slot
    let wait := (r.ageUs x : Int) + pick
    let long := 1000 * r.m.dispatch.longWait
    w.wait * r.pax x * tdiv wait 1000 + (if long < wait then w.long * r.pax x * tdiv (wait - long) 1000 else 0) +
      (if x.kind = .dest then w.ride * r.pax x * tdiv (drop - pick) 1000 else 0)

/-- Cost of the legs and car calls of a route (R278). -/
def legCost (r : Run) (k : Fin 16) : Bool → Int → List (Stop × Int × Int × Int × Int) → Int
  | _, _, [] => 0
  | first, lvl, (s, arr, m, d, _) :: rest =>
    let w := r.weights
    let cap : Int := (r.m.car? k).elim 0 (·.capacity)
    let h := r.m.level s.landing - lvl
    let b := m - (r.m.gains.get ⟨k.val, by omega⟩).p3
    let e := rdiv ((h.natAbs : Int) * b.natAbs) 10000
    let leg := if first && !(r.car k).moving then 0
      else (if sgn h = sgn b then w.energy * e else -(w.regen * e)) + w.load * max 0 (m - tdiv (cap * r.m.dispatch.loadFull) 100)
    let cars := if s.carCall then w.ride * rdiv d r.m.dispatch.paxMass * tdiv arr 1000 else 0
    leg + cars + legCost r k false (r.m.level s.landing) rest

/-- Cost of a route in 1/256 of a weighted unit (R278). -/
def cost (r : Run) (k : Fin 16) (ss : List Stop) : Int :=
  let arr := r.arrivals k ss
  let slots := (ss.flatMap fun s => s.picks ++ s.drops).eraseDups
  let calls := (slots.filterMap r.call?).foldl (fun c x => c + r.callCost ss arr x) 0
  calls + r.legCost k true (r.car k).pos (ss.zip (arr.zip (r.loads k ss)))

/-- A candidate route is infeasible (R279) by its length, or by its load after the stops of the call inserted. -/
def infeasible (r : Run) (k : Fin 16) (ss : List Stop) (slot : Nat) : Bool :=
  let cap : Int := (r.m.car? k).elim 0 (·.capacity)
  let first := (ss.findIdx? fun s => s.picks.contains slot || s.drops.contains slot).getD 0
  48 < ss.length || (((r.loads k ss).drop first).dropLast.any fun x => cap < x.2.2)

/-- A car is eligible for a call in a run (R268). -/
def eligible (r : Run) (k : Fin 16) (x : Call) : Bool := (r.car k).eligible && State.callFits r.m k x r.snap.pattern

/-! One run (R281 to R283). -/

/-- The books of a run: a route for each car and the cars with held-over stops (R273). -/
structure Books where
  routes : Tab 16 CarRoute
  held   : List (Fin 16)
  calls  : List Call

/-- The base route of a car (R281): car calls, FROZEN calls, BOARDED drops; a car in class CAR_ONLY has no FROZEN ones. -/
def baseRoute (r : Run) (k : Fin 16) (bound : CallState → Bool) : CarRoute :=
  let c := r.car k
  let e : CarRoute := { dir := c.dir, picks := [], boarded := [], carLs := [], parkAt := none }
  if c.cls = 0 then e
  else
    let e := (sortBy (fun a b => decide ((r.snap.t0 - b.regT0).toNat ≤ (r.snap.t0 - a.regT0).toNat)) (r.snap.carCalls.get k)).foldl
      (fun e x => r.withCar k e x.landing) e
    let mine := r.calls.filter (·.car = some k)
    let e := if c.cls = 2 then (mine.filter fun x => bound x.state).foldl (fun e x => r.withCall k e x) e else e
    (mine.filter (·.state = .boarded)).foldl (fun e x => r.withCall k e x) e

/-- The calls a run may place, in the order of R281. -/
def placing (r : Run) (p : Call → Bool) : List Call :=
  let le (a b : Call) : Bool :=
    let (x, y) := (r.ageUs a, r.ageUs b)
    y < x || (x = y && (a.origin < b.origin || (a.origin = b.origin &&
      (a.kind.code < b.kind.code || (a.kind.code = b.kind.code && a.slot ≤ b.slot)))))
  sortBy le (r.calls.filter p)

/-- Place one call by least added value (R281, R290): the first best car in car order. -/
def placeOne (r : Run) (score : Fin 16 → CarRoute → CarRoute → Call → Int) (b : Books) (x : Call) : Books :=
  let cands := (idx 16).filterMap fun k =>
    if !r.eligible k x || b.held.contains k then none
    else
      let c := b.routes.get k
      let c2 := r.withCall k c x
      if r.infeasible k (r.stops k c2) x.slot then none else some (k, score k c c2 x, c2)
  match firstMin (fun a b => decide (a.2.1 < b.2.1)) cands with
  | none => b
  | some (k, _, c2) =>
    { b with routes := b.routes.put k c2,
             calls := b.calls.map fun y => if y.slot = x.slot then { y with state := .assigned, car := some k } else y }

/-- Added cost of a placement (R281). -/
def addedCost (r : Run) (k : Fin 16) (c c2 : CarRoute) (_ : Call) : Int := r.cost k (r.stops k c2) - r.cost k (r.stops k c)

/-- Travel along a route from the car to a call's pickup (R290). -/
def travelTo (r : Run) : Int → List Stop → Nat → Int
  | _, [], _ => 0
  | lvl, s :: rest, slot =>
    let d : Int := (r.m.level s.landing - lvl).natAbs
    if s.picks.contains slot then d else d + travelTo r (r.m.level s.landing) rest slot

/-- The nearest-car measure (R290). -/
def nearness (r : Run) (k : Fin 16) (_ c2 : CarRoute) (x : Call) : Int := r.travelTo (r.car k).pos (r.stops k c2) x.slot

/-- One pair of the swap pass (R282): whether it was evaluated, whether it was swapped, and the books. -/
def swapPair (r : Run) (b : Books) (x y : Nat) : Bool × Bool × Books :=
  match b.calls.find? (·.slot = x), b.calls.find? (·.slot = y) with
  | some cx, some cy =>
    match cx.car, cy.car with
    | some ka, some kb =>
      if cx.state ≠ .assigned || cy.state ≠ .assigned || ka = kb || !r.eligible kb cx || !r.eligible ka cy ||
          b.held.contains ka || b.held.contains kb then (false, false, b)
      else
        let (ra, rb) := (b.routes.get ka, b.routes.get kb)
        let ra2 := r.withCall ka (r.without ka ra x) cy
        let rb2 := r.withCall kb (r.without kb rb y) cx
        let (sa, sb) := (r.stops ka ra2, r.stops kb rb2)
        if r.infeasible ka sa y || r.infeasible kb sb x then (false, false, b)
        else
          let gain := r.cost ka (r.stops ka ra) + r.cost kb (r.stops kb rb) - r.cost ka sa - r.cost kb sb
          if 0 < gain then
            (true, true, { b with routes := (b.routes.put ka ra2).put kb rb2,
                                  calls := b.calls.map fun z => if z.slot = x then { z with car := some kb } else if z.slot = y then { z with car := some ka } else z })
          else (true, false, b)
    | _, _ => (false, false, b)
  | _, _ => (false, false, b)

/-- The pairs (a, b) of a list, a before b, in list order. -/
def pairsOf : List Nat → List (Nat × Nat)
  | [] => []
  | a :: rest => rest.map (a, ·) ++ pairsOf rest

/-- One visit of every pair (R282): evaluations left, swaps made, books. -/
def swapVisit (r : Run) : List (Nat × Nat) → Nat → Nat → Books → Nat × Nat × Books
  | [], left, n, b => (left, n, b)
  | (x, y) :: rest, left, n, b =>
    if left = 0 then (0, n, b)
    else
      let (ev, sw, b) := r.swapPair b x y
      swapVisit r rest (if ev then left - 1 else left) (if sw then n + 1 else n) b

/-- Visits repeat until one makes no swap or the budget is spent: pairs evaluated, swaps, books. Every visit but the last
evaluates a pair at least, so the budget bounds their number. -/
def swapPass (r : Run) (ps : List (Nat × Nat)) (budget : Nat) : Nat → Nat → Nat → Books → Nat × Nat × Books
  | 0, left, n, b => (budget - left, n, b)
  | k + 1, left, n, b =>
    let (left', n', b') := r.swapVisit ps left n b
    if n' = n || left' = 0 then (budget - left', n', b') else swapPass r ps budget k left' n' b'

/-- Parking stops of one zone (R283). -/
def parkZone (r : Run) (z : ZoneRec) : Nat → Tab 16 CarRoute → Tab 16 CarRoute
  | 0, t => t
  | n + 1, t =>
    let p := r.snap.pattern
    let l := z.park.get p
    let d := r.m.dispatch.parkDelay
    let routeOf (k : Fin 16) : List Stop := (r.stops k (t.get k)).take 48
    let count := ((idx 16).filter fun k => (r.car k).eligible &&
      (((routeOf k).getLast?).any (·.landing = l) || ((routeOf k).isEmpty && (r.car k).landing = l))).length
    if l = 0xFF || d = 0 || z.parkCount.get p ≤ count then t
    else
      let cands := (idx 16).filter fun k =>
        (r.car k).cls = 2 && (routeOf k).isEmpty && d * 4000 ≤ (r.car k).still
      match firstMin (fun a b => r.runTime a (r.m.level l - (r.car a).pos) < r.runTime b (r.m.level l - (r.car b).pos)) cands with
      | none => t
      | some k => parkZone r z n (t.upd k fun c => { c with parkAt := some l })

/-- The finished route of a car: at most 48 stops (R273), with the arrival at the first one. -/
def finish (r : Run) (c : CarRoute) (k : Fin 16) : Route :=
  let ss := if (r.car k).cls = 0 then [] else (r.stops k c).take 48
  let ss := (ss.zip (r.arrivals k ss)).map fun p => { p.1 with arr := p.2.toNat }
  { stops := ss, eta := (ss.head?.map (·.arr)).getD 0 }

/-- The estimated arrival of every pickup (R265). -/
def pickEtas (r : Run) (routes : Tab 16 Route) : List (Nat × Nat) :=
  (idx 16).flatMap fun k =>
    let ss := (routes.get k).stops
    (ss.zip (r.arrivals k ss)).flatMap fun p => p.1.picks.map fun x => (x, p.2.toNat)

/-- Books of the base routes. -/
def baseBooks (r : Run) (bound : CallState → Bool) : Books :=
  let routes : Tab 16 CarRoute := Vector.ofFn fun k => r.baseRoute k bound
  { routes := routes, calls := r.calls, held := (idx 16).filter fun k => 48 < (r.stops k (routes.get k)).length }

/-- The result of finished books. -/
def resultOf (r : Run) (b : Books) (pairs swaps : Nat) : Result :=
  let r := { r with calls := b.calls }
  let routes : Tab 16 Route := Vector.ofFn fun k => r.finish (b.routes.get k) k
  { t2 := r.snap.t2, routes := routes, etas := r.pickEtas routes, pairs := pairs, swaps := swaps,
    deferred := ((idx 16).map fun k => (((r.stops k (b.routes.get k)).drop 48).filter fun x => x.carCall || !x.drops.isEmpty).length).sum }

/-- The run of R281 to R283. -/
def solve (m : Model) (snap : Snap) : Result :=
  let r : Run := { m := m, snap := snap, calls := snap.calls.map fun x =>
    if x.state = .open_ || x.state = .assigned then { x with state := .open_, car := none } else x }
  let b := r.baseBooks (· = .frozen)
  let list := r.placing (·.state = .open_)
  let b := list.foldl (r.placeOne r.addedCost) b
  let budget := m.dispatch.swapBudget
  let (pairs, swaps, b) := r.swapPass (pairsOf (list.map (·.slot))) budget (budget + 1) budget 0 b
  let r := { r with calls := b.calls }
  let zones := sortBy (fun a b => a.zone ≤ b.zone) m.zones
  let b := { b with routes := zones.foldl (fun t z => r.parkZone z 16 t) b.routes }
  r.resultOf b pairs swaps

/-- The nearest-car phase (R290): OPEN calls only; ASSIGNED and FROZEN calls keep their cars. -/
def solveNear (m : Model) (snap : Snap) : Result :=
  let r : Run := { m := m, snap := snap, calls := snap.calls }
  let b := r.baseBooks fun st => st = .frozen || st = .assigned
  r.resultOf ((r.placing (·.state = .open_)).foldl (r.placeOne r.nearness) b) 0 0

end Run

namespace State

/-! Snapshots (R272, R275, R280). -/

/-- The load a snapshot takes (R278). -/
def snapLoad (s : State) (m : Model) (c : Fin 16) (boarded : Int) : Int :=
  match m.car? c, s.nodeConn? m c .ctn with
  | some r, some (_, cn) =>
    if r.loadWeigh && cn.data.any && decide ((s.tick.t0 - cn.data.loadT0).toNat < 400) && cn.data.ctn.load ≠ 0xFFFF then
      (cn.data.ctn.load.toNat : Int)
    else m.dispatch.paxMass * boarded
  | _, _ => m.dispatch.paxMass * boarded

/-- The direction of a car at rest (R272): of the route in force, else towards the oldest car call, else none. -/
def restDir (s : State) (m : Model) (c : Fin 16) : Int :=
  let l := (s.cars.get c).landing
  match (s.dsx.force_.get c).stops with
  | x :: _ => if x.landing = l then x.dir else sgn (m.level x.landing - m.level l)
  | [] =>
    match firstMin (fun a b => decide ((s.tick.t0 - b.regT0).toNat < (s.tick.t0 - a.regT0).toNat)) (s.dsx.carCalls.get c) with
    | some x => sgn (m.level x.landing - m.level l)
    | none => 0

/-- The snapshot of one car. -/
def snapCar (s : State) (m : Model) (c : Fin 16) : CarSnap :=
  let cp := s.cars.get c
  let a := s.axes.get (hoist c)
  let md := s.modes.get c
  let boarded : Int := (s.dsx.calls.filter fun x => x.state = .boarded && x.car = some c).foldl (fun n x => n + (x.pax : Int)) 0
  let tb := a.tauAt s.tick.t0
  let ref := a.refOf tb
  let dir : Int := sgn (a.goal - a.originPos)
  let v := ref.v.round
  let left := planLen a.segs - tb
  let target := m.nearest c (fx a.goal)
  let free := a.state = .run && !a.table && 1 ≤ ref.phase && ref.phase ≤ 4
  let first := if ref.phase = 4 then [] else toPhase3 a.segs tb
  let end3 : Nat × Int × Nat := match first.getLast? with
    | some g => (planLen first, g.endPos, g.endVel.natAbs)
    | none => (0, ref.p.round, v.natAbs)
  let region := if free then
      (m.servedLandings c).filter fun l => decide ((v.natAbs : Int) * 68 ≤ dir * (m.level l - a.stopPos) * 1000)
    else [target]
  let closed := s.doorsClosed m c
  let dwell := (carSides m c).foldl (fun n d => max n (((s.sides.get d).dwell).getD 0)) 0
  let closeMs := ([0, 1].filter fun side => m.sideFitted c side).foldl (fun x side => max x (Run.doorMs m c side cp.landing false)) 0
  { cls := s.classOf c, eligible := s.carEligible m c, pos := cp.pos, landing := cp.landing, moving := a.moving,
    dir := if a.moving then dir else s.restDir m c, region := region, replan := if free then some end3 else none, fixedUs := left,
    target := target, doorsOpen := !closed, readyUs := if closed then 0 else dwell * 2000 + 1000 * closeMs.toNat,
    load := s.snapLoad m c boarded, boarded := boarded, vmax := modeCap m c md.mode (s.epwrIn m c),
    still := s.dsx.standT0.get c }

/-- Cars that the model does not hold. -/
def noCar : CarSnap :=
  { cls := 0, eligible := false, pos := 0, landing := 0, moving := false, dir := 0, region := [], replan := none, fixedUs := 0, target := 0,
    doorsOpen := false, readyUs := 0, load := 0, boarded := 0, vmax := 0, still := 0 }

/-- The dispatch snapshot of a boundary (R280). -/
def snapshot (s : State) (m : Model) : Snap :=
  { t2 := s.tick.t2, t0 := s.tick.t0, seq := m.seq, pattern := s.dsx.pattern, calls := s.dsx.calls, carCalls := s.dsx.carCalls,
    cars := Vector.ofFn fun c => if m.present c then s.snapCar m c else noCar }

/-- A result as numbers, car by car and stop by stop (R287). -/
def flatResult (r : Result) : List (List Int) :=
  (idx 16).flatMap fun k => (r.routes.get k).stops.map fun x =>
    [(k.val : Int), (x.landing : Int), (x.sides.toNat : Int), x.dir, if x.carCall then 1 else 0, if x.park then 1 else 0,
      if x.runOut then 1 else 0] ++ x.picks.map Int.ofNat ++ [-1] ++ x.drops.map Int.ofNat

/-- The digest of a result (R287). -/
def digestOf (r : Result) : BitVec 32 := cv r.t2 (Config.resultBytes (flatResult r))

/-- DISPATCH event (14 R473). -/
def dispatchEvent (s : State) (kind : Nat) : State :=
  s.event 7 0xFF ([BitVec.ofNat 8 kind, 0, 0, 0] ++ leBytes 4 s.tick.t2.toNat)

/-- DIGEST_MISMATCH (R287): the standby's digest of a run differs from the active's. -/
def checkDigest (s : State) : State :=
  match s.dsx.ownDigest, s.dsx.peerDigest with
  | some (t, d), some (t', d') =>
    if s.mod ≠ .standby || t ≠ t' then s
    else
      let s := s.updDsx fun x => { x with ownDigest := none, peerDigest := none }
      if d = d' then s
      else ((s.updDsx fun x => { x with mismatch := true, mismatches := x.mismatches + 1 }).raise 0x80 1 2 t 0).dispatchEvent 3
  | _, _ => s

/-- The trace of a run in CAP blocks (R299, 14 R480). -/
def putTrace : State → Nat → BitVec 32 → List Byte → State
  | s, 0, _, _ => s
  | s, k + 1, t2, bs =>
    if bs.isEmpty then s
    else
      let body := bs.take 4064
      let seq := s.dsx.traceSeq
      let flags := b2n (seq = 0) + 2 * b2n (bs.length ≤ 4064)
      let s := s.updDsx fun d => { d with traceSeq := d.traceSeq + 1 }
      putTrace (s.putCap (capBlock 4 0xFF flags seq t2 0 1 body.length 0 body)).1 k t2 (bs.drop 4064)

/-- A snapshot as numbers, for its trace (R299). -/
def flatSnap (p : Snap) : List (List Int) :=
  [(p.t2.toNat : Int), (p.t0.toNat : Int), (p.seq.toNat : Int), (p.pattern.val : Int)] ::
    (p.calls.map fun x => [(x.slot : Int), (x.kind.code : Int), (x.origin : Int), (x.side : Int), (x.dest : Int), (x.pax : Int),
      (x.allow.toNat : Int), (x.regT0.toNat : Int), (x.state.code : Int), x.car.elim (-1) fun c => (c.val : Int), (b2n x.access : Int)]) ++
    ((idx 16).flatMap fun k => (p.carCalls.get k).map fun x => [(k.val : Int), (x.landing : Int), (x.regT0.toNat : Int), (b2n x.access : Int)]) ++
    ((idx 16).map fun k =>
      let c := p.cars.get k
      [(c.cls : Int), c.pos, (c.landing : Int), c.dir, (c.fixedUs : Int), (c.target : Int), (c.readyUs : Int), c.load, c.boarded, c.vmax,
        (c.still : Int), (b2n c.eligible : Int), (b2n c.moving : Int), (b2n c.doorsOpen : Int)] ++
        (c.replan.elim [-1] fun p => [(p.1 : Int), p.2.1, (p.2.2 : Int)]) ++ c.region.map Int.ofNat)

/-- The trace of a run, while it is on and derating does not stop it (R299, 17 R573): its snapshot, the result of its nearest-car phase where it has one, and its own result
where it has finished. -/
def traceRun (s : State) (snap : Snap) (r : Option Result) : State :=
  if s.dsx.trace && !s.pwr.derate then
    let res (o : Option Result) : List Byte := o.elim [] fun r => Config.resultBytes (flatResult r)
    let bs := Config.snapBytes (flatSnap snap) ++ res s.dsx.nearRes ++ res r
    (s.updDsx fun d => { d with traceSeq := 0 }).putTrace (bs.length / 4064 + 1) snap.t2 bs
  else s

/-- The run in progress, where there is one, is abandoned (01 R29, R31, R289): a drop of the solver. -/
def abandonRun (s : State) : State :=
  match s.dsx.snap with
  | none => s
  | some snap =>
    let s := ((s.traceRun snap none).countSpill 8 2).updDsx fun d => { d with snap := none }
    { s with spill := { s.spill with solver := s.spill.solver + 1 } }

/-- The digest of a run's result, by CV15 (R287). -/
def digestRun (s : State) (snap : Snap) (r : Result) : State :=
  if s.cvUsable 15 then (s.useCv 15 true).updDsx fun d => { d with ownDigest := some (snap.t2, digestOf r) } else s.useCv 15 true

/-- What a finished run does: a standby compares digests, an active module holds the result for the next boundary, and a run in time
ends the fallback (R287 to R290). -/
def settleRun (s : State) (us : Nat) (r : Result) : State :=
  if s.mod = .standby then { s with spill := { s.spill with solver := 0 } }.checkDigest
  else if s.dsx.fallback then
    if us ≤ 30000 then
      (({ s with spill := { s.spill with solver := 0 } }).updDsx fun d => { d with result := some r, nearRes := none, fallback := false }).dispatchEvent 2
    else (s.updDsx fun d => { d with late := true }).dispatchEvent 4
  else ({ s with spill := { s.spill with solver := 0 } }).updDsx fun d => { d with result := some r }

/-- SOLVER_RUN_COMPLETE (R281, R289, R290, R33): the run ends `us` after its boundary, within the 60 ms window. -/
def solverRunComplete (s : State) (us : Nat) : State :=
  match s.model, s.dsx.snap with
  | some m, some snap =>
    if 60000 < us then s
    else
      let r := Run.solve m snap
      let s := s.updDsx fun d =>
        { d with snap := none, lastPat := snap.pattern, runT2 := snap.t2, runTime := BitVec.ofNat 32 us, pairs := BitVec.ofNat 32 r.pairs,
                 swaps := BitVec.ofNat 32 r.swaps, deferred := BitVec.ofNat 16 r.deferred }
      ((s.traceRun snap (some r)).digestRun snap r).settleRun us r
  | _, _ => s

/-- NEAREST_CAR_FALLBACK (R289): after the third consecutive drop. -/
def nearestCarFallback (s : State) : State :=
  if 3 ≤ s.spill.solver && !s.dsx.fallback && s.mod = .active then
    (s.updDsx fun d => { d with fallback := true, fallbacks := d.fallbacks + 1 }).dispatchEvent 1
  else s

/-! A result takes force (R265, R266, R269, R280, R284). -/

/-- The landing that a running car is committed to. -/
def committed (s : State) (m : Model) (c : Fin 16) : Option Nat :=
  let a := s.axes.get (hoist c)
  if a.moving || a.state = .start then some (m.nearest c (fx a.goal)) else none

/-- A stop of a route amended (R284): none when it is left without calls. -/
def amendStop (s : State) (m : Model) (c : Fin 16) (x : Stop) : Option Stop :=
  let live (slot : Nat) : Bool := (s.call? slot).any fun y =>
    if y.state = .boarded then y.car = some c && s.classOf c ≠ 0
    else (y.state ≠ .frozen || y.car = some c) && s.eligibleNow m c y
  let picks := x.picks.filter fun i => live i && (s.call? i).all (·.state ≠ .boarded)
  let drops := x.drops.filter live
  let car := x.carCall && (s.dsx.carCalls.get c).any (·.landing = x.landing) && s.classOf c ≠ 0
  let y := { x with picks := picks, drops := drops, carCall := car }
  let lost := s.dsx.eligible.getLsbD c.val && !s.carEligible m c
  let empty := (x.park || x.runOut) && !lost
  if Run.hasCalls y || (empty && s.classOf c ≠ 0) then some y
  else if s.committed m c = some x.landing then some { y with runOut := true } else none

/-- A call that is bound to a car and that its route lacks is picked up at its first stop: the car is committed to that landing, or
stands there (R264, R265). -/
def bindCall (m : Model) (ss : List Stop) (x : Call) : List Stop :=
  let sides : BitVec 2 := if x.side = 0 then 1 else 2
  match ss with
  | y :: rest =>
    if y.landing = x.origin then { y with sides := y.sides ||| sides, picks := y.picks ++ [x.slot], runOut := false, park := false } :: rest
    else
      { landing := x.origin, sides := sides, dir := x.dir m, picks := [x.slot], drops := [], carCall := false, park := false, runOut := false,
        arr := y.arr } :: ss
  | [] =>
    [{ landing := x.origin, sides := sides, dir := x.dir m, picks := [x.slot], drops := [], carCall := false, park := false, runOut := false,
       arr := 0 }]

/-- The calls that became FROZEN while the run computed, and that its result does not give to their car (R264, R284). -/
def boundTo (s : State) (m : Model) (c : Fin 16) (ss : List Stop) : List Call :=
  s.dsx.calls.filter fun x => x.kind ≠ .dest && x.state = .frozen && x.car = some c && s.eligibleNow m c x &&
    (s.committed m c = some x.origin || s.standsAt m c x.origin) && !ss.any (·.picks.contains x.slot)

/-- Routes amended. -/
def amendRoutes (s : State) (m : Model) (t : Tab 16 Route) : Tab 16 Route :=
  Vector.ofFn fun c =>
    let ss := (t.get c).stops.filterMap (s.amendStop m c)
    let ss := (s.boundTo m c ss).foldl (bindCall m) ss
    { stops := ss, eta := (ss.head?.map (·.arr)).getD 0 }

/-- The car whose route holds a call. -/
def routeOf (t : Tab 16 Route) (slot : Nat) : Option (Fin 16) :=
  (idx 16).find? fun c => (t.get c).stops.any fun x => x.picks.contains slot

/-- A call returns to OPEN (R266). -/
def reopenCall (s : State) (x : Call) : State :=
  (s.unlight x).setCall { x with again := x.again || x.state == .frozen || x.state == .assigned } .open_ none 0

/-- A call becomes FROZEN (R265): a hall call's lantern is lit, a destination call is to be announced. -/
def freezeCall (s : State) (x : Call) (c : Fin 16) : State :=
  if x.kind = .dest then
    let code := if x.again then 2 else 1
    s.setCall { x with announce := code, again := false } .frozen (some c) code
  else (s.light x c).setCall { x with again := false } .frozen (some c) 0

/-- What a result, or the routes kept, make of one call at a boundary. -/
def settleCall (s : State) (m : Model) (etas : List (Nat × Nat)) (fresh : Bool) (slot : Nat) : State :=
  match s.call? slot with
  | none => s
  | some x =>
    if x.state = .boarded then s
    else match routeOf s.dsx.force_ slot with
      | none =>
        if x.state = .open_ || (x.state = .frozen && x.car.any (s.eligibleNow m · x)) then s else s.reopenCall x
      | some c =>
        if x.state = .frozen && x.car = some c then s
        else if !fresh then s
        else
          let eta := ((etas.find? (·.1 = slot)).map (·.2)).getD 0
          let now := x.kind = .dest || !m.dispatch.lanternLate || decide ((eta : Int) ≤ 1000 * m.dispatch.lanternLead)
          if now then s.freezeCall x c
          else if x.state = .assigned && x.car = some c then s
          else s.setCall x .assigned (some c) 0

/-- Car calls and BOARDED calls of a car in class NONE end once it has made its committed stop (R269). -/
def cancelNone (s : State) (c : Fin 16) : State :=
  if s.classOf c ≠ 0 || !s.hoistAtRest c then s
  else
    let s := s.each (s.dsx.carCalls.get c) fun s x => s.dropCarCall c x 5
    s.each (s.dsx.calls.filter fun x => x.state = .boarded && x.car = some c) fun s x => s.dropCall x 5

/-- Hall and destination calls that a route picks up or drops. -/
def routeCalls (r : Route) : List Nat := (r.stops.flatMap fun x => x.picks ++ x.drops).eraseDups

/-- The route summary of a car (R300): DSX_CAR, DSX_CAR_CALLS and DSX_CAR_ETA in whole milliseconds. -/
def routeSummary (s : State) (k : Fin 16) : List (BitVec 32) :=
  let r := s.dsx.force_.get k
  let dir := r.stops.head?.elim 0 fun x => if x.dir = 1 then 1 else if x.dir = -1 then 2 else 0
  [pk [(0, 6, r.stops.length), (6, 2, s.classOf k), (8, 7, r.stops.head?.elim 0 (·.landing)), (15, 1, b2n !r.stops.isEmpty),
      (16, 2, dir), (18, 1, b2n (s.dsx.eligible.getLsbD k.val))],
    pk [(0, 8, (s.dsx.carCalls.get k).length), (8, 10, (routeCalls r).length)], if r.stops.isEmpty then 0 else BitVec.ofNat 32 (r.eta / 1000)]

/-- The route summaries are refreshed (R300). -/
def summarize (s : State) : State := s.updDsx fun d => { d with summary := Vector.ofFn fun k => s.routeSummary k }

/-- RESULT_TAKES_FORCE (R280, R284, R289, R290). -/
def takeForce (s : State) (m : Model) : State :=
  let res := match s.dsx.result with
    | some r => some r
    | none => if s.dsx.fallback then s.dsx.nearRes else none
  let fresh (r : Result) : Tab 16 Route := r.routes.map (·.forget s.dsx.gone)
  let routes := s.amendRoutes m ((res.map fresh).getD s.dsx.force_)
  let s := s.updDsx fun d =>
    { d with force_ := routes, result := none, nearRes := none, taken := if res.isSome then Tab.all false else d.taken,
             publish := Tab.all true }
  let s := match res with
    | some r => if s.cvUsable 15 then (s.useCv 15 true).updDsx fun d => { d with digest := digestOf r } else s.useCv 15 true
    | none => s
  let s := s.each (s.dsx.calls.map (·.slot)) fun s slot => s.settleCall m ((res.map (·.etas)).getD []) res.isSome slot
  let s := s.each m.presentCars cancelNone
  if res.isSome then s.summarize else s

/-- The snapshot of run n, and the nearest-car phase while the fallback governs (R280, R290). A run not finished by now was
abandoned at the berm. -/
def takeSnap (s : State) (m : Model) : State :=
  let p := s.snapshot m
  let near := if s.dsx.fallback then some (Run.solveNear m p) else none
  s.updDsx fun d =>
    { d with snap := some p, nearRes := near, gone := [],
             eligible := BitVec.ofNat 16 (((idx 16).map fun c => b2n (p.cars.get c).eligible * 2 ^ c.val).sum) }

/-! Serving a stop (R263, R265, R267). -/

/-- A call to be served by an open side of a car: 4 DONE, or BOARDED. -/
def serveCall (s : State) (c : Fin 16) (l side : Nat) (stop : Option Stop) (x : Call) : State :=
  let mine := stop.any fun y => y.picks.contains x.slot
  if x.kind = .dest then
    if x.state = .boarded then if x.car = some c && stop.any (·.drops.contains x.slot) then s.dropCall x 4 else s
    else if mine && x.origin = l && x.side = side then s.setCall x .boarded (some c) 0
    else s
  else
    let dir : Int := if x.kind = .up then 1 else -1
    if x.origin = l && x.side = side && s.classOf c = 2 && (x.reopen = some c || mine || stop.any (·.dir = dir)) then
      (s.unlight x).dropCall { x with car := some c } 4
    else s

/-- STOP_SERVED (R267): a side of a car has reached OPEN at a landing. -/
def stopServed (s : State) (d : Fin 32) : State :=
  let c := sideCar d
  let l := (s.cars.get c).landing
  let stop := (s.dsx.force_.get c).stops.find? fun x => x.landing = l && x.sides.getLsbD (sideNo d)
  let s := s.each s.dsx.calls fun s x => s.serveCall c l (sideNo d) stop x
  if !stop.any (·.carCall) then s
  else match (s.dsx.carCalls.get c).find? (·.landing = l) with
    | some x => s.dropCarCall c x 4
    | none => s

/-- A hall call is frozen when its car is committed to its landing (R265). -/
def freezeCommitted (s : State) (m : Model) (c : Fin 16) : State :=
  let a := s.axes.get (hoist c)
  let at_ : Option Nat :=
    if a.state = .stopping || a.state = .end_ || (a.state = .run && 5 ≤ a.phase) then some (m.nearest c (fx a.goal))
    else if a.state = .idle && m.inZone c (s.cars.get c).pos then some (s.cars.get c).landing else none
  match at_ with
  | none => s
  | some l =>
    s.each (s.dsx.calls.filter fun x => x.kind ≠ .dest && x.state = .assigned && x.car = some c && x.origin = l) fun s x => s.freezeCall x c

/-- Calls that the model in force no longer serves are cancelled (R267). -/
def cancelUnserved (s : State) (m : Model) : State :=
  let n := m.landings.length
  let gone (x : Call) : Bool :=
    n ≤ x.origin || !(m.presentCars.any fun c => m.serves c x.side x.origin && (x.kind ≠ .dest || m.served c x.dest)) ||
      x.car.any fun c => !m.present c || (x.state = .boarded && !m.served c x.dest)
  let s := s.each (s.dsx.calls.filter gone) fun s x => (s.unlight x).dropCall x 5
  s.each (idx 16) fun s c =>
    s.each ((s.dsx.carCalls.get c).filter fun x => !m.served c x.landing) fun s x => s.dropCarCall c x 5

end State

/-- SOLVER_RUN_COMPLETE, R281. -/
def execSolverRunComplete (us : Nat) (s : State) : Out := .next (s.solverRunComplete us)
/-- NEAREST_CAR_FALLBACK, R289. -/
def execNearestCarFallback (s : State) : Out := .next s.nearestCarFallback

end Sys2Proof.Machine
end

