-- ==== Sys2Proof/Machine/Modes.lean ====
section
/-! DEFINITION. The car service modes and the mode logic of the car cores' T1 job (09), with the publication of routes (08 R291). -/

namespace Sys2Proof.Machine

/-- Rank order of the modes, highest first (R307). -/
def modeOrder : List Nat := [9, 10, 8, 5, 4, 7, 6, 11, 3, 2, 1, 0]

/-- Modes whose entry R358 restricts. -/
def sealedModes : List Nat := [0, 1, 2, 6]

/-- T1 of a time in ms, rounded up. -/
def t1Of (ms : Int) : Nat := (ms.toNat + 1) / 2

namespace State

/-! Requests (R304 to R308). -/

/-- SEAL0 is on in the settled reading (R356). -/
def seal0 (s : State) : Bool := s.seals.now.getLsbD 0

/-- A bit of the CTN's SWITCHES (11 R379). -/
def ctnSwitch (s : State) (m : Model) (c : Fin 16) (bit : Nat) : Bool := (s.ctn? m c).any (·.switches.getLsbD bit)

/-- Some fitted side is OPEN. -/
def someOpen (s : State) (m : Model) (c : Fin 16) : Bool := (carSides m c).any fun d => (s.sides.get d).state = .open_

/-- The car stands at its recall landing with a side OPEN (R304). -/
def recallOpen (s : State) (m : Model) (c : Fin 16) : Bool := s.restsAt m c (s.recallOf m c) && s.someOpen m c

/-- An inspection source is active (R304), as the levee reads it (R306). -/
def inspIn (s : State) (m : Model) (c : Fin 16) : Bool := (s.lvSrc m c (s.lv.get c)).insp

/-- A host request is registered. -/
def hostAsks (md : Mode) (m : Nat) : Bool := md.host.getLsbD m

/-- Source code of a mode's request in the MODE event (14 R473). -/
def modeSource (s : State) (m : Model) (c : Fin 16) (mode : Nat) : Nat :=
  let md := s.modes.get c
  match mode with
  | 1 => if s.ctnSwitch m c 0 then 1 else 2
  | 2 => if s.ctnSwitch m c 1 then 1 else 2
  | 3 => if s.carIn m c 0x10 then 0 else if md.hold then 3 else 2
  | 5 => 1
  | 6 => if s.groupIn m c 0x13 then 0 else 2
  | 9 => if (carChs m c 0x07).any s.chActive then 0 else 1
  | 11 => 2
  | _ => 0

/-- The request set of a car in its T1 job (R304, R305): latched requests set and cleared, MS_REQ.ACTIVE formed, with the source of
every active request (R310). -/
def takeRequests (s : State) (m : Model) (c : Fin 16) : State :=
  let md := s.modes.get c
  let fire := s.groupIn m c 0x11
  let quake := s.groupIn m c 0x14
  let here := s.recallOpen m c
  let ff := s.ctnSwitch m c 2
  let fireReq := fire || (md.fireReq && md.mode = 5)
  let fireman := if md.fireman then ff || !here else ff && fireReq && here
  let seismic := quake || (md.seismic && !md.clear8)
  let host := if s.seal0 then md.host else md.host &&& 0x7FF
  let asks (i : Nat) : Bool := host.getLsbD i
  let active := packBits
    [true, s.ctnSwitch m c 0 || asks 1, s.ctnSwitch m c 1 || asks 2, s.carIn m c 0x10 || asks 3 || md.hold, fireReq, fireman,
     s.groupIn m c 0x13 || asks 6, s.epwrIn m c, seismic, s.inspIn m c, s.carIn m c 0x08, asks 11]
  let p := m.policy? c
  s.updMode c fun md =>
    { md with fireReq := fireReq, fireman := fireman, seismic := seismic, clear8 := false, host := host,
              active := BitVec.ofNat 12 active,
              srcs := Vector.ofFn fun (i : Fin 12) => if active.testBit i.val then s.modeSource m c i.val else md.srcs.get i,
              alt := s.groupIn m c 0x12 && p.any (·.recallAlt ≠ 0xFF), epwr := s.epwrIn m c }

/-- The requested mode (R307). -/
def topMode (md : Mode) : Nat := (modeOrder.find? fun i => md.active.getLsbD i).getD 0

/-- The highest request below M5 (R307): a car that cannot enter M5 from where it is takes this one (R308). -/
def below5 (md : Mode) : Nat := (modeOrder.find? fun i => i ≠ 5 && md.active.getLsbD i).getD 0

/-- The T1 job knows that a car's start-up tests have passed in an earlier T0 (R359, the example of 17). -/
def testsPassed (s : State) (c : Fin 16) : Bool := (s.lv.get c).tests.step = 8 && 1 ≤ (s.lv.get c).tests.age

/-- The mode the car enters in this job (R307, R314, R315, R320, R358): M5 and M11 are reached through M4 and M3, inspection and
rescue end at standstill, and a car that starts in M3 waits there for its position and tests. -/
def nextMode (s : State) (m : Model) (c : Fin 16) : Nat :=
  let md := s.modes.get c
  let want := topMode md
  let want := if want = 5 && md.mode ≠ 5 && !(md.mode = 4 && s.recallOpen m c) then below5 md else want
  let quiet := md.mode = 3 && (s.lv.get c).still && s.carStill m c && s.doorsLocked m c
  let want := if want = 11 && md.mode ≠ 11 && !quiet then 3 else want
  let want := if s.seal0 && sealedModes.contains want && [3, 9, 10, 11].contains md.mode then 3 else want
  if md.fresh && !(2 ≤ Health.rank (s.cars.get c).health && s.testsPassed c) then 3
  else if (md.mode = 9 || md.mode = 10) && want ≠ 9 && !((s.lv.get c).still && s.hoistIdle c) then md.mode
  else want

/-- MODE event (14 R473). -/
def modeEvent (s : State) (c : Fin 16) (old new src : Nat) : State :=
  let md := s.modes.get c
  s.event 5 c.val ([BitVec.ofNat 8 old, BitVec.ofNat 8 new, BitVec.ofNat 8 src, BitVec.ofNat 8 md.sub] ++
    leBytes 4 (md.active.toNat + md.host.toNat * 2 ^ 16))

/-! Targets of the mode logic (R311 to R317). -/

/-- The hoist has a run in progress that has left its start (R311 "running"). -/
def carRunning (s : State) (c : Fin 16) : Bool := (s.axes.get (hoist c)).moving

/-- A run that waits for the levee or for its brakes is withdrawn. -/
def withdrawRun (s : State) (c : Fin 16) : State :=
  if (s.axes.get (hoist c)).req.run.isNone then s
  else
    (s.updAxis (hoist c) fun a => { a with req := { a.req with run := none } }).updLv c fun l =>
      { l with req := { l.req with start := false, relevel := false, runEnd := l.req.runEnd || l.mc } }

/-- A car may be given a normal run: at rest, doors closed, referenced, no special run and no brake test. -/
def mayRun (s : State) (m : Model) (c : Fin 16) : Bool :=
  s.hoistIdle c && s.doorsClosed m c && (s.cars.get c).spec.kind = .none && (s.lv.get c).bt.phase = 0 &&
    2 ≤ Health.rank (s.cars.get c).health

/-- Hand a run to a landing to an idle hoist (R163); at the landing itself there is none. -/
def runTo (s : State) (m : Model) (c : Fin 16) (l : Nat) : State :=
  if s.restsAt m c l then s.withdrawRun c
  else
    let from_ := s.zoneLanding m c
    s.handRun c { target := m.level l, kind := .normal, from_ := if from_ = 0xFF then none else some from_, dest := some l, cap := none }

/-- The first served landing at or beyond PG_STOP_POS in the direction of travel (R312); the recall landing itself when it lies
there. -/
def stopAhead (s : State) (m : Model) (c : Fin 16) (home : Option Nat) : Option Nat :=
  let a := s.axes.get (hoist c)
  let up := a.originPos ≤ a.target
  let beyond (l : Nat) : Bool := if up then decide (a.stopPos ≤ m.level l) else decide (m.level l ≤ a.stopPos)
  match home with
  | some r => if beyond r then some r else first up beyond
  | none => first up beyond
where
  /-- The first of the served landings in travel order that satisfies a test. -/
  first (up : Bool) (p : Nat → Bool) : Option Nat :=
    let ls := m.servedLandings c
    (if up then ls else ls.reverse).find? p

/-- R312 for a running car, once per run: a car still in START goes to the recall landing, or abandons its start in M8. -/
def quickStop (s : State) (m : Model) (c : Fin 16) (home : Option Nat) : State :=
  let a := s.axes.get (hoist c)
  let md := s.modes.get c
  if md.tookTgt then s
  else if a.state = .start then
    let s := s.updMode c fun md => { md with tookTgt := true }
    match home with
    | some r => if s.restsAt m c r then s.orderStop c else s.handTarget c (m.level r) none
    | none => s.orderStop c
  else if a.state = .run && (s.cars.get c).spec.kind = .none then
    let s := s.updMode c fun md => { md with tookTgt := true }
    match s.stopAhead m c home with
    | some l => s.handTarget c (m.level l) none
    | none => s
  else s

/-- The present cap of the mode lowers the cap of a run in progress (R168, R302, R311). -/
def lowerModeCap (s : State) (m : Model) (c : Fin 16) : State :=
  let a := s.axes.get (hoist c)
  let v := modeCap m c (s.modes.get c).mode (s.epwrIn m c)
  if a.state ≠ .idle && v < a.vmax && a.req.cap.all (v < ·) then s.lowerCap c v else s

/-- What the mode that a car leaves takes with it (R253, R314). -/
def leaveMode (s : State) (c : Fin 16) (old new : Nat) : State :=
  let sealEnd := old = 11 && !s.seal0
  let s := if (old = 0 && new ≠ 11) || (old = 11 && new ≠ 0) then s.endLearnDoors c .failed else s
  let s := if old = 11 && (s.cars.get c).spec.kind = .learn then s.learnAbort c 5 .failed else s
  let s := if sealEnd then s.orderStop c else s
  if old = 9 || old = 10 then s.withdrawRun c else s

/-- Sides that move receive an immediate stop at entry to M9 and M10 (R311). -/
def stopDoors (s : State) (m : Model) (c : Fin 16) : State :=
  s.each (carSides m c) fun s d => if (s.sides.get d).state.moves then s.unrefSide m d else s

/-- The entry action of R311 for the mode a car enters. -/
def entryAction (s : State) (m : Model) (c : Fin 16) (new : Nat) : State :=
  if new = 9 || new = 10 then
    let s := (s.endSpecial c).withdrawRun c
    let s := if (s.axes.get (hoist c)).state = .idle then s else s.orderStop c
    let s := s.updCar c fun cp => { cp with inspect := if new = 9 then false else cp.inspect }
    s.stopDoors m c
  else if new = 3 || new = 4 || new = 5 || new = 6 || new = 7 || new = 8 then s.withdrawRun c
  else s

/-- A mode is entered (R310, R311, R314, R320). -/
def enterMode (s : State) (m : Model) (c : Fin 16) (new : Nat) : State :=
  let md := s.modes.get c
  let old := md.mode
  let rank (i : Nat) : Nat := (modeOrder.findIdx? (· = i)).getD 12
  let last (i : Nat) : Nat := md.srcs.get (Fin.ofNat 12 i)
  let src := if md.fresh then 4 else if rank new < rank old then last new else if old = 11 && !s.seal0 then 5 else last old
  let running := s.carRunning c
  let s := (s.dropM5 c).updMode c fun md =>
    { md with mode := new, sub := 0, entryT0 := s.tick.t0, changes := md.changes + 1, fresh := false, tookTgt := false,
              opened := new = 8 && !running, evac := none, holdRun := 0, attend := false }
  ((s.modeEvent c old new src).leaveMode c old new).entryAction m c new

/-- Requests, selection and entry (R304 to R315). A car that waits for its tests in M3 goes on when M3 itself is requested. -/
def modeStep (s : State) (m : Model) (c : Fin 16) : State :=
  let s := s.takeRequests m c
  let s := s.updMode c fun md => { md with target := topMode md }
  let new := s.nextMode m c
  let md := s.modes.get c
  if new ≠ md.mode then s.enterMode m c new
  else if md.fresh && 2 ≤ Health.rank (s.cars.get c).health && s.testsPassed c then s.updMode c fun md => { md with fresh := false }
  else s

/-! Sub-states (R313, R320). -/

/-- A car of the group RETURNED, HELD or SELECTED, or in a mode above M7 (R313). -/
def returned (s : State) (c : Fin 16) : Bool :=
  let md := s.modes.get c
  (md.mode = 7 && 2 ≤ md.sub) || [9, 10, 8, 5, 4].contains md.mode

/-- The sub-state of a car in M4, M7 or M8. -/
def subStep (s : State) (m : Model) (c : Fin 16) : State :=
  let md := s.modes.get c
  let set (s : State) (n : Nat) : State := s.updMode c fun md => { md with sub := n }
  let rest := s.hoistAtRest c
  let atLanding := rest && m.inZone c (s.cars.get c).pos
  match md.mode with
  | 4 => set s (b2n (s.restsAt m c (s.recallOf m c)))
  | 8 => set s (b2n rest)
  | 7 =>
    match md.sub with
    | 0 =>
      if atLanding && s.someOpen m c then set s 2
      else if s.hoistIdle c && !((idx 16).any fun k => k ≠ c && m.present k && (s.modes.get k).mode = 7 && (s.modes.get k).sub = 1)
      then (set s 1).updMode c fun md => { md with opened := false }
      else s
    | 1 => if atLanding && s.someOpen m c then set s 2 else s
    | 2 =>
      if m.presentCars.all s.returned then
        if (m.policy? c).any (·.epwrSelect) then if s.seal0 then s else set s 3 else set s 4
      else s
    | _ => s
  | _ => s

/-! Hold-to-run (R308, R317). -/

/-- The direction that a station's buttons ask for: COMMON with exactly one of UP and DOWN. -/
def pressed (up down common : Bool) : Int := if common && up && !down then 1 else if common && down && !up then -1 else 0

/-- The direction asked for by the active inspection stations of a car; all of them must agree (R308). -/
def holdDir (s : State) (m : Model) (c : Fin 16) : Int :=
  let ctn := ((s.ctn? m c).filter (·.station.getLsbD 1)).toList
  let ptn := (s.ptns m c).filter (·.getLsbD 3)
  match ctn.map (fun r => pressed (r.station.getLsbD 2) (r.station.getLsbD 3) (r.station.getLsbD 4)) ++
      ptn.map (fun r => pressed (r.getLsbD 4) (r.getLsbD 5) (r.getLsbD 6)) with
  | [] => 0
  | x :: xs => if xs.all (· = x) then x else 0

/-- The direction of the rescue station's buttons in a T1 job of M10. The spec names the station and no source of its buttons: what
they ask for is a free value (log 107). -/
def rescueDir (s : State) : Int × State :=
  let (v, s) := s.take
  ((v.toNat % 3 : Nat) - 1, s)

/-- Hold-to-run in M9 and M10 (R317, 10 R349): towards the travel limit while the button is held, in M9 the reduced one less 500, and a
controlled stop on release. -/
def holdToRun (s : State) (m : Model) (c : Fin 16) : State :=
  let md := s.modes.get c
  let (dir, s) := if md.mode = 9 then (s.holdDir m c, s) else s.rescueDir
  let short : Int := if md.mode = 9 then 1500 else 0
  let a := s.axes.get (hoist c)
  let lim := carLimits m c
  if a.state = .idle then
    if dir = 0 || !s.doorsClosed m c then (s.withdrawRun c).updMode c fun md => { md with holdRun := 0 }
    else
      let x := if 0 < dir then lim.2 - short else lim.1 + short
      let ahead := if 0 < dir then decide ((s.cars.get c).pos < x) else decide (x < (s.cars.get c).pos)
      if ahead then
        (s.handRun c { target := x, kind := .normal, from_ := none, dest := none, cap := none }).updMode c fun md => { md with holdRun := dir }
      else s.withdrawRun c
  else if (a.state = .run || a.state = .start) && dir ≠ md.holdRun then
    (s.orderStop c).updMode c fun md => { md with holdRun := 0 }
  else s

/-! Evacuation (R317). -/

/-- A car in M6 waits at its evacuation landing for a pickup. -/
def evacWaits (s : State) (m : Model) (c : Fin 16) : Bool :=
  (s.modes.get c).mode = 6 && (s.modes.get c).evac = none && s.restsAt m c ((m.policy? c).elim 0xFF (·.evacLanding))

/-- The landings with a registered down hall call that a car in M6 can take (R317), in the order of R281's call list, each once: calls
in OPEN or ASSIGNED that it serves, away from its evacuation landing and not taken by another car. -/
def evacList (s : State) (m : Model) (c : Fin 16) : List Nat :=
  let takenBy (l : Nat) : Bool := (idx 16).any fun k => k ≠ c && (s.modes.get k).mode = 6 && (s.modes.get k).evac = some l
  let le (a b : Call) : Bool :=
    let (x, y) := ((s.tick.t0 - a.regT0).toNat, (s.tick.t0 - b.regT0).toNat)
    y < x || (x = y && (a.origin < b.origin || (a.origin = b.origin && a.slot ≤ b.slot)))
  ((sortBy le (s.dsx.calls.filter fun x => x.kind = .down && (x.state = .open_ || x.state = .assigned) && m.serves c x.side x.origin &&
    (x.allow = 0 || x.allow.getLsbD c) && x.origin ≠ (m.policy? c).elim 0xFF (·.evacLanding) && !takenBy x.origin)).map (·.origin)).eraseDups

/-- The pickup landing M6 gives a car at its evacuation landing: the highest with a registered down hall call. Where several cars wait
there, the calls are shared in list order, one landing a car: as many landings as there are cars, and each car takes the highest left
(R317, log 108). -/
def evacPick (s : State) (m : Model) (c : Fin 16) : Option Nat :=
  let n := (m.presentCars.filter (s.evacWaits m)).length
  let ls := s.evacList m c
  (if n ≤ 1 then ls else ls.take n).foldl (fun o l => match o with | some k => some (max k l) | none => some l) none

/-- The mode logic of M6: shuttle between pickups and EVAC_LANDING. -/
def evacStep (s : State) (m : Model) (c : Fin 16) : State :=
  let e := (m.policy? c).elim 0xFF (·.evacLanding)
  let md := s.modes.get c
  if e = 0xFF || !s.mayRun m c then s
  else match md.evac with
    | some l =>
      if s.restsAt m c l then
        if md.opened then (s.updMode c fun md => { md with evac := none }).runTo m c e else s
      else s.runTo m c l
    | none =>
      if s.restsAt m c e then
        match s.evacPick m c with
        | some l => if md.opened then (s.updMode c fun md => { md with evac := some l }).runTo m c l else s
        | none => s
      else s.runTo m c e

/-! The publication of a route (08 R291). -/

/-- The stops of a car's route in force that are still live, the served stops at the landing where it stands left out. -/
def liveStops (s : State) (m : Model) (c : Fin 16) : List Stop :=
  ((s.dsx.force_.get c).stops.filterMap (s.amendStop m c)).dropWhile fun x =>
    !Run.hasCalls x && s.restsAt m c x.landing

/-- A direction button of the attendant is pressed (11 R379). -/
def attendant (s : State) (m : Model) (c : Fin 16) : Bool := (s.ctn? m c).any fun r => r.attendant.getLsbD 0 || r.attendant.getLsbD 1

/-- A car in M2 starts on the attendant's direction button (R301): a press holds until the car leaves the stop or a side is OPEN
without it (log 158). -/
def countAttend (s : State) (m : Model) (c : Fin 16) : State :=
  let p := s.attendant m c
  let keep := !s.leftStop c && !s.someOpen m c
  s.updMode c fun md => { md with attend := md.mode = 2 && (p || (md.attend && keep)) }

/-- The car core takes its route in force (R291): a running car gets the first stop as a new target once, a car at rest with its
doors closed starts a run to it, or to the target it has kept from its last run while that is still a stop (05 R166). -/
def takeRoute (s : State) (m : Model) (c : Fin 16) : State :=
  let a := s.axes.get (hoist c)
  let fresh := !s.dsx.taken.get c
  let s := s.updDsx fun d => { d with taken := d.taken.put c true }
  let s := if fresh then s.updAxis (hoist c) fun a => { a with kept := none } else s
  let live := s.liveStops m c
  match live with
  | [] => if a.state = .idle && (s.cars.get c).spec.kind = .none then s.withdrawRun c else s
  | x :: _ =>
    if a.state = .run || a.state = .start then
      if fresh && (s.cars.get c).spec.kind = .none && a.target ≠ m.level x.landing then s.handTarget c (m.level x.landing) none else s
    else if s.mayRun m c && ((s.modes.get c).mode ≠ 2 || (s.modes.get c).attend) then
      s.runTo m c ((a.kept.bind fun y => if fresh then none else (live.find? fun z => m.level z.landing = y).map (·.landing)).getD x.landing)
    else if a.state = .idle && (s.cars.get c).spec.kind = .none then s.withdrawRun c
    else s

/-- Before the target of a T1 is chosen: the flags of a run that has ended, of a stop that has been left, the mode's cap, the
attendant's latch. -/
def targetPrep (s : State) (m : Model) (c : Fin 16) : State :=
  let s := if s.hoistIdle c && (s.modes.get c).tookTgt then s.updMode c fun md => { md with tookTgt := false } else s
  let s := if s.leftStop c then s.updMode c fun md => { md with opened := false } else s
  (s.lowerModeCap m c).countAttend m c

/-- The car calls of M5 (09 R317): a call ends at its landing and the next one takes its place. -/
def m5Calls (s : State) (m : Model) (c : Fin 16) : State :=
  let md := s.modes.get c
  let here (o : Option Nat) : Bool := o.any (s.restsAt m c ·)
  let s := if here md.m5Call then s.m5Note c md.m5Call 4 else s
  if here md.m5Call || md.m5Call.isNone then s.updMode c fun md => { md with m5Call := md.m5Next, m5Next := none } else s

/-- The targets of a car in its T1 job (R291, R312, R317). In M3 and M11 runs come from special runs and host commands. -/
def targetStep (s : State) (m : Model) (c : Fin 16) : State :=
  let mode := (s.modes.get c).mode
  let s := s.targetPrep m c
  if 1 ≤ s.classOf c then s.takeRoute m c
  else match mode with
    | 4 =>
      let r := s.recallOf m c
      let s := s.quickStop m c (some r)
      if s.mayRun m c then s.runTo m c r else s
    | 5 =>
      if !s.mayRun m c then s
      else
        let s := s.m5Calls m c
        match (s.modes.get c).m5Call with
        | some l => s.runTo m c l
        | none => s.withdrawRun c
    | 6 => s.evacStep m c
    | 7 => if (s.modes.get c).sub = 1 && s.mayRun m c then s.runTo m c (m.nearest c (s.cars.get c).fxPos) else s
    | 8 => s.quickStop m c none
    | 9 | 10 => s.holdToRun m c
    | _ => s

/-! Door demands (R316). -/

/-- The dwell of the present stop of a car (08 R275), DWELL_CAR for an open that serves no stop. -/
def stopDwell (s : State) (m : Model) (c : Fin 16) : Int :=
  let l := (s.cars.get c).landing
  let d := m.dispatch
  match ((s.dsx.force_.get c).stops.filterMap (s.amendStop m c)).find? (·.landing = l) with
  | none => d.dwellCar
  | some x =>
    let acc := (x.picks ++ x.drops).any (fun i => (s.call? i).any (·.access)) ||
      (x.carCall && ((s.dsx.carCalls.get c).find? (·.landing = l)).any (·.access))
    let v := max (if x.picks.isEmpty then 0 else d.dwellHall) (if x.drops.isEmpty && !x.carCall then 0 else d.dwellCar)
    let v := if acc then max v d.dwellAccess else v
    if v = 0 then d.dwellCar else v

/-- The timed close of a mode (R316): its dwell in ms, none where the mode closes no side by time. -/
def modeDwell (s : State) (m : Model) (c : Fin 16) : Option Int :=
  let md := s.modes.get c
  let p := m.policy? c
  match md.mode with
  | 0 => some (s.stopDwell m c)
  | 3 => some m.dispatch.dwellCar
  | 4 => if md.sub = 1 && p.any (·.recallClose) then some m.dispatch.dwellHall else none
  | 6 => some m.dispatch.dwellHall
  | 7 => if md.sub = 3 then some (s.stopDwell m c) else if md.sub = 4 then some m.dispatch.dwellHall else none
  | 8 => if md.sub = 1 && p.any (·.seisClose) then some m.dispatch.dwellHall else none
  | _ => none

/-- The buttons of a side at the CTN. -/
def buttons (s : State) (m : Model) (d : Fin 32) : Bool × Bool := (s.ctn? m (sideCar d)).elim (false, false) (ctnButtons · d)

/-- The arrival of a car asks its sides to open (R291, R312, R316): the mode's own place, on every side that serves it. -/
def arrivalOpens (s : State) (m : Model) (c : Fin 16) : Bool :=
  let md := s.modes.get c
  s.hoistIdle c && !md.opened &&
    match md.mode with
    | 4 => md.sub = 1
    | 6 => s.restsAt m c ((m.policy? c).elim 0xFF (·.evacLanding)) || md.evac.any (s.restsAt m c ·)
    | 7 => md.sub = 1 && m.inZone c (s.cars.get c).pos
    | 8 => md.sub = 1 && m.inZone c (s.cars.get c).pos
    | _ => false

/-- A stop of the route in force at the landing where the car stands asks a side to open (R291). -/
def stopOpens (s : State) (m : Model) (d : Fin 32) : Bool :=
  let c := sideCar d
  s.hoistIdle c && 1 ≤ s.classOf c &&
    match s.liveStops m c with
    | x :: _ => s.restsAt m c x.landing && Run.hasCalls x && x.sides.getLsbD (sideNo d)
    | [] => false

/-- A host DOOR command in execution acts as its button (14 R468). -/
def hostDoor (s : State) (d : Fin 32) (close : Nat) : Bool :=
  (s.modes.get (sideCar d)).doorCmd.any fun p => p.2 = close && p.1.arg0.getLsbD (sideNo d)

/-- The demands of one side in the T1 job (R316). -/
def doorDemand (s : State) (m : Model) (d : Fin 32) : State :=
  let c := sideCar d
  let md := s.modes.get c
  let x := s.sides.get d
  let (bo, bc) := s.buttons m d
  let set (s : State) (o k : Bool) : State := s.updSide d fun x =>
    { x with openDem := x.openDem || (o && x.state ≠ .homing), closeDem := x.closeDem || k }
  let arrive := s.arrivalOpens m c && m.serves c (sideNo d) (s.cars.get c).landing
  let stop := s.stopOpens m d
  let ho := s.hostDoor d 0
  let hc := s.hostDoor d 1
  let s := s.updSide d fun x => { x with release := md.mode = 10 }
  match md.mode with
  | 0 => set s (stop || bo || ho) (bc || hc)
  | 1 => set s (stop || bo || ho) (bc || hc || (s.liveStops m c).head?.any fun y => !s.restsAt m c y.landing)
  | 2 => set s (stop || bo || ho) (s.attendant m c)
  | 3 => set s bo false
  | 4 => set s arrive (md.sub = 0 && !s.carRunning c)
  | 5 =>
    let back := x.btnHeld = 2 && !bc && (x.state = .closing || x.state = .nudging || x.state = .locking)
    let shut := x.btnHeld = 1 && !bo && (x.state = .opening || x.state = .reversing || x.state = .homing)
    let s := s.updSide d fun x =>
      { x with btnHeld := if bo then 1 else if bc then 2 else if x.state = .homing && x.btnHeld = 2 then 2 else 0,
               openDem := x.openDem && !(shut && x.state = .homing) }
    set s (bo || back) (!bo && (bc || shut))
  | 6 => set s arrive false
  | 7 => if md.sub = 3 then set s (stop || bo || ho) (bc || hc) else set s arrive false
  | 8 => set s arrive false
  | 9 => set s (bo && s.carStill m c) bc
  | 11 => set s ho hc
  | _ => s

/-- Down hall calls of an M6 pickup end when a side opens for them (R317, 08 R267). -/
def servePickup (s : State) (c : Fin 16) (side : Nat) : State :=
  let md := s.modes.get c
  if md.mode ≠ 6 then s
  else match md.evac with
    | none => s
    | some l =>
      s.each (s.dsx.calls.filter fun x => x.kind = .down && x.origin = l && x.side = side && x.state ≠ .boarded) fun s x =>
        (s.unlight x).dropCall { x with car := some c } 4

/-- The door T1 job of one side with what its arrival in OPEN does for the calls, and the dwell of the mode. -/
def doorJob (s : State) (m : Model) (d : Fin 32) : State :=
  let c := sideCar d
  let was := (s.sides.get d).state
  let s := (s.doorDemand m d).doorSide m d
  let now := (s.sides.get d).state
  let dw := s.modeDwell m c
  let s := if now = .open_ && was ≠ .open_ then
      ((s.updSide d fun x => { x with dwell := dw.map t1Of }).stopServed d).servePickup c (sideNo d)
    else s
  if now = .open_ then
    (s.updSide d fun x => { x with dwell := dw.map fun ms => x.dwell.getD (t1Of ms) }).updMode c fun md => { md with opened := true }
  else s.updSide d fun x => { x with dwell := none }

/-- DWELL_EXPIRY (R316): the timed close of the sides whose dwell has run out. A refused close leaves it run out. -/
def dwellExpiry (s : State) (c : Fin 16) : State :=
  if s.mod ≠ .active then s
  else match s.model with
    | none => s
    | some m =>
      s.each (carSides m c) fun s d =>
        let x := s.sides.get d
        if x.state = .open_ && x.dwell = some 0 then s.updSide d fun x => { x with closeDem := true } else s

/-! Commands in execution (R310, 14 R468). -/

/-- SET_MODE commands that can complete (R310). -/
def endSetModes (s : State) (c : Fin 16) : State :=
  let md := s.modes.get c
  let ended (p : CmdEntry × Nat × Nat) : Option CplStatus :=
    let mode := p.2.1
    if mode = 0 then some (if md.mode = 0 then .entered else .registered)
    else if md.mode = mode then some .entered
    else if md.target ≠ mode || !hostAsks md mode then some .registered
    else none
  let s := s.updMode c fun md => { md with setCmds := (md.setCmds.filter fun p => (ended p).isNone).map fun p => (p.1, p.2.1, p.2.2 + 1) }
  s.each md.setCmds fun s p => match ended p with
    | some st => s.finish p.1 st 0
    | none => s

/-- DOOR commands that have ended (14 R468). -/
def endDoorCmds (s : State) (m : Model) (c : Fin 16) : State :=
  let md := s.modes.get c
  let named (e : CmdEntry) : List (Fin 32) := (carSides m c).filter fun d => e.arg0.getLsbD (sideNo d)
  let bad (p : CmdEntry × Nat) : Option (Fin 32) := (named p.1).find? fun d =>
    let x := (s.sides.get d).state
    x = .fault || x = .stopped || (p.2 = 1 && x = .reversing)
  let done (p : CmdEntry × Nat) : Bool := (named p.1).all fun d => (s.sides.get d).state = if p.2 = 0 then .open_ else .closed
  let out := !([0, 1, 2, 7, 11].contains md.mode)
  let s := s.updMode c fun md => { md with doorCmd := md.doorCmd.filter fun p => !(bad p).isSome && !done p && !out }
  s.each md.doorCmd fun s p =>
    match bad p with
    | some d => s.finish p.1 .failed (s.sides.get d).lastCause
    | none => if done p then s.finish p.1 .done 0 else if out then s.finish p.1 .aborted 0x85 else s

/-- A RUN command whose run was none or was refused ends here (14 R468). -/
def endEmptyRun (s : State) (c : Fin 16) : State :=
  if (s.modes.get c).runCmd.isSome && s.legEnded c then s.endRunCmd c (s.axes.get (hoist c)).landed else s

/-- MS_STAT (R320). -/
def msStat (s : State) (c : Fin 16) : BitVec 32 :=
  let m := s.modes.get c
  pk [(0, 4, m.mode), (4, 4, m.target), (8, 2, s.classOf c), (10, 3, m.sub), pkBits 13 [m.epwr, m.hold, m.alt]]

/-- MS_REQ (R320). -/
def msReq (s : State) (c : Fin 16) : BitVec 32 :=
  let m := s.modes.get c
  pk [(0, 12, m.active.toNat), (16, 12, m.host.toNat)]

/-- The car core refreshes the MS registers at its T1 job (R320). -/
def refreshMode (s : State) (c : Fin 16) : State :=
  let m := s.modes.get c
  s.updMode c fun md => { md with regs := [s.msStat c, s.msReq c, m.entryT0, pk [(0, 16, m.changes.toNat), (16, 16, m.refused.toNat)]] }

/-- The T1 job of one car (R305): modes, targets, doors, commands. A DOOR command that a guard has ended raises no demand. -/
def carJob (s : State) (m : Model) (c : Fin 16) : State :=
  let s := (((((s.countRelevel m c).modeStep m c).subStep m c).targetStep m c).endDoorCmds m c)
  let s := s.each (carSides m c) fun s d => s.doorJob m d
  let s := if (carSides m c).all fun d => (s.sides.get d).state = .closed then s else
    if (s.modes.get c).mode ≠ 9 && (s.modes.get c).mode ≠ 10 && (s.cars.get c).spec.kind = .none && s.hoistIdle c then s.withdrawRun c else s
  ((((s.endSetModes c).endDoorCmds m c).endEmptyRun c).freezeCommitted m c).refreshMode c

end State

/-- DWELL_EXPIRY, R316. -/
def execDwellExpiry (c : Fin 16) (s : State) : Out := .next (s.dwellExpiry c)

end Sys2Proof.Machine
end

