-- ==== Sys2Proof/Machine/Operands.lean ====
section
/-! DEFINITION. The operand forms of the commands: the CMD ring entry (14 R465 to R467), which fields an opcode uses, and the
forms a doorbell and a register word take. -/

namespace Sys2Proof.Machine

/-- A CMD entry read from its 64 bytes (R465). -/
def readEntry (b : List Byte) : CmdEntry :=
  { opcode := byteAt b 0, flags := byteAt b 1, resv := BitVec.ofNat 16 (fld b 2 2), tag := BitVec.ofNat 32 (fld b 4 4), car := byteAt b 8,
    arg0 := byteAt b 9, arg1 := BitVec.ofNat 16 (fld b 10 2), arg2 := BitVec.ofNat 32 (fld b 12 4), param := slice b 16 32,
    dataAddr := BitVec.ofNat 64 (fld b 48 8), dataLen := BitVec.ofNat 32 (fld b 56 4), crc := BitVec.ofNat 32 (fld b 60 4) }

/-- The opcodes of the command table (R468). -/
def opcodes : List Nat :=
  [0x01, 0x10, 0x11, 0x12, 0x13, 0x20, 0x21, 0x22, 0x23, 0x24, 0x25, 0x30, 0x31, 0x32, 0x33, 0x34, 0x35, 0x36, 0x40, 0x41, 0x50, 0x60, 0x61]

/-- Opcodes permitted in STANDBY (R468). -/
def standbyOps : List Nat := [0x01, 0x12, 0x60]

/-- Which fields an opcode uses (R465). -/
structure Uses where
  car   : Bool := false
  arg0  : Bool := false
  arg1  : Bool := false
  arg2  : Bool := false
  param : Bool := false
  data  : Bool := false
  deriving DecidableEq, Repr

/-- The fields of each opcode (R468). -/
def usesOf (op : Nat) : Uses :=
  match op with
  | 0x10 | 0x60 => { data := true }
  | 0x12 => { arg0 := true, arg2 := true, data := true }
  | 0x20 | 0x21 | 0x23 | 0x25 => { car := true, arg0 := true }
  | 0x22 | 0x30 | 0x32 => { car := true }
  | 0x24 => { car := true, arg0 := true, arg1 := true }
  | 0x31 => { car := true, arg0 := true, arg1 := true, param := true }
  | 0x33 => { car := true, arg1 := true }
  | 0x34 | 0x36 => { param := true }
  | 0x35 | 0x41 => { arg0 := true }
  | 0x40 => { arg0 := true, arg1 := true, arg2 := true, data := true }
  | 0x50 => { arg0 := true, arg1 := true }
  | _ => {}

/-- A field that the opcode does not use is 0 (R465); an unused CAR may also be 0xFF (log 29). -/
def unusedZero (e : CmdEntry) : Bool :=
  let u := usesOf e.opcode.toNat
  e.flags.toNat ≤ 1 && e.resv = 0 && (u.car || e.car = 0 || e.car = 0xFF) && (u.arg0 || e.arg0 = 0) && (u.arg1 || e.arg1 = 0) &&
    (u.arg2 || e.arg2 = 0) && (u.param || e.param.all (· = 0)) && (u.data || (e.dataAddr = 0 && e.dataLen = 0))

/-- The car an entry names, where CAR is one of the sixteen. -/
def carOf? (e : CmdEntry) : Option (Fin 16) := if h : e.car.toNat < 16 then some ⟨e.car.toNat, h⟩ else none

/-- PARAM passes (R467): the unused fields, the car's range and the opcode's own ranges. -/
def paramOk (e : CmdEntry) (own : Bool) : Bool := unusedZero e && (!(usesOf e.opcode.toNat).car || (carOf? e).isSome) && own

/-- The code of the first check that fails, in the order given (R467). -/
def firstBad : List (Bool × Nat) → Option Nat
  | [] => none
  | (bad, code) :: rest => if bad then some code else firstBad rest

/-- The index a doorbell carries (R461). -/
def doorbellIndex (v : BitVec 32) : Nat := v.toNat % 65536

end Sys2Proof.Machine
end

