-- ==== Sys2Proof/Machine/Host.lean ====
section
/-! DEFINITION. The host interface (14): endpoint resets, doorbells, enable and disable, the fetch of ring entries, the status
block, the attention pins and the message-signalled interrupts. -/

namespace Sys2Proof.Machine

/-- Entries a ring may hold (R458). -/
def ringRange (r : Fin 6) : Nat × Nat :=
  if r.val = 2 then (64, 4096) else if r.val = 3 then (64, 16384) else if r.val = 5 then (4, 1024) else (16, 4096)

/-- Entries between HEAD and TAIL. -/
def ringUnread (r : Ring) : Nat := if r.size = 0 then 0 else (r.tail + r.size.toNat - r.head) % r.size.toNat

/-- The 12 bytes of a completion (R464). -/
def cplBytes (c : Cpl) : List Byte := [c.ring, c.op, c.status, c.code] ++ leBytes 4 c.tag.toNat ++ leBytes 4 c.result.toNat

/-- A consumer index is one of HEAD to TAIL (R461). -/
def inBetween (head tail n v : Nat) : Bool := (v + n - head) % n ≤ (tail + n - head) % n

namespace State

/-! HATN (R482). -/

/-- A class F FAULT event is unread (R463, R482). -/
def fatalUnread (s : State) : Bool := (s.hi.rings.get 2).data.any evtFatal

/-- A condition that holds HATN. -/
def hatnDue (s : State) : Bool :=
  s.hi.fHeld || s.fatalUnread || (s.hi.en && decide (s.hi.evtThresh.toNat < ringUnread (s.hi.rings.get 2)))

/-! MSI-X (R483). -/

/-- A vector is sent, or held back by its mask. -/
def sendVec (s : State) (v : Fin 16) : State :=
  s.updHi fun h =>
    { h with vecs := h.vecs.upd v fun x =>
        if x.masked then { x with pba := true, want := false } else { x with sent := x.sent + 1, want := false, holdoff := h.irqMod ≠ 0 } }

/-- A change asks for a vector: inside its hold-off it waits, unless it is sent without moderation. -/
def askVec (s : State) (v : Fin 16) (now : Bool) : State :=
  if !s.hi.msixEn then s
  else if (s.hi.vecs.get v).holdoff && !now then s.updHi fun h => { h with vecs := h.vecs.upd v fun x => { x with want := true } }
  else s.sendVec v

/-- IRQ_MODERATION_END (R483). -/
def irqModerationEnd (s : State) (v : Fin 16) : State :=
  let want := (s.hi.vecs.get v).want
  let s := s.updHi fun h => { h with vecs := h.vecs.upd v fun x => { x with holdoff := false } }
  if want && s.hi.msixEn then s.sendVec v else s

/-! The status block (R463). -/

/-- The 256 bytes of the status block. -/
def statusBytes (s : State) : List Byte :=
  let h := s.hi
  let r (i : Fin 6) : Ring := h.rings.get i
  leBytes 4 h.bootId.toNat ++ leBytes 4 h.enableSeq.toNat ++ [BitVec.ofNat 8 (modCode s.mod), BitVec.ofNat 8 s.seals.role.val] ++
    leBytes 2 (packBits [h.hrdy, h.hatn, s.fatalUnread]) ++ leBytes 4 s.claim.toNat ++ leBytes 4 s.tick.t0.toNat ++ leBytes 2 s.inExec ++
    leBytes 2 0 ++ leBytes 4 (r 0).head ++ leBytes 4 (r 1).head ++ leBytes 4 (r 2).tail ++ leBytes 4 (r 3).tail ++ leBytes 4 (r 4).tail ++
    leBytes 4 (r 5).tail ++ leBytes 4 h.cplTail ++ pad 12 [] ++ h.cpl.toList.flatMap cplBytes

/-- Offset of a ring's module-written index in the status block. -/
def indexOff (r : Fin 6) : Nat := 0x18 + 4 * r.val

/-- The vectors of the indices that a status block moves on (R483): `old` is the block before. -/
def askVectors (s : State) (old new : List Byte) : State :=
  let adv (off : Nat) : Bool := fld new off 4 ≠ fld old off 4
  let ev := s.hi.rings.get 2
  let fresh := if ev.size = 0 then 0 else (ev.tail + ev.size.toNat - fld old (indexOff 2) 4) % ev.size.toNat
  let fatal := (ev.data.drop (ev.data.length - fresh)).any evtFatal
  let s := s.each (idx 6) fun s r =>
    let x := s.hi.rings.get r
    if adv (indexOff r) && x.irq then s.askVec x.vec (r.val = 2 && fatal) else s
  if adv 0x30 && s.hi.cplIrq then s.askVec s.hi.cplVec false else s

/-- STATUS_BLOCK_WRITE (R460, R463, R482, R483): the block, then HATN, then the vectors of the indices that advanced. -/
def statusBlockWrite (s : State) : State :=
  if !s.ringsRun || s.abandoned .rings || !tagFree s.hi .status then s
  else
    let old := s.hi.sbOld
    let new := s.statusBytes
    let s := s.updHi fun h => useTag { h with sbOld := new } .status
    (if s.hatnDue then s.updHi fun h => { h with hatn := true } else s).askVectors old new

/-! Doorbells (R461). -/

/-- A doorbell write that is ignored, with its flag. -/
def ignoreDoorbell (s : State) (lost : Bool) : State :=
  s.updHi fun h => { h with dbIgn := h.dbIgn + 1, dbLost := h.dbLost || lost, dbErr := h.dbErr || !lost }

/-- A doorbell write: `act` takes the index when it is accepted. `n` is the ring's size and `ok` its own check. -/
def doorbell (s : State) (v : BitVec 32) (n : Nat) (ok : Nat → Bool) (act : State → Nat → State) : State :=
  let i := doorbellIndex v
  if !s.hostUp then s
  else if !s.hi.hrdy || !s.hi.en then s.ignoreDoorbell true
  else if n ≤ i || !ok i then s.ignoreDoorbell false
  else act s i

/-- The host writes the TAIL of a ring it produces. -/
def tailDoorbell (s : State) (r : Fin 6) (v : BitVec 32) : State :=
  s.doorbell v (s.hi.rings.get r).size.toNat (fun _ => true) fun s i => s.updHi fun h => { h with rings := h.rings.upd r fun x => { x with tail := i } }

/-- The host writes the HEAD of a ring it consumes; held events and LOG entries are then written as space allows (R474, R479). -/
def headDoorbell (s : State) (r : Fin 6) (v : BitVec 32) : State :=
  let x := s.hi.rings.get r
  s.doorbell v x.size.toNat (inBetween x.head x.tail x.size.toNat) fun s i =>
    (s.updHi fun h => { h with rings := h.rings.upd r fun x =>
      { x with head := i, data := x.data.drop ((i + x.size.toNat - x.head) % x.size.toNat) } }).drainEvt.drainLog

/-- DB_EVT_HEAD (R482): HATN is released when neither condition holds any longer. -/
def evtDoorbell (s : State) (v : BitVec 32) : State :=
  let s := s.headDoorbell 2 v
  if s.hi.hatn && !s.hatnDue then s.updHi fun h => { h with hatn := false } else s

/-- DB_CPL_HEAD (R464): waiting completions are written as space appears. -/
def cplDoorbell (s : State) (v : BitVec 32) : State :=
  s.doorbell v 16 (inBetween s.hi.cplHead s.hi.cplTail 16) fun s i =>
    s.updHi fun h => drainCplGo h.cplWait.length { h with cplHead := i }

/-! Enable and disable (R484). -/

/-- A ring's set-up passes (R458, R484). -/
def ringOk (x : Ring) (r : Fin 6) : Bool :=
  let n := x.size.toNat
  x.base ≠ 0 && x.base.toNat % 4096 = 0 && (ringRange r).1 ≤ n && n ≤ (ringRange r).2 && 2 ^ n.log2 = n

/-- The checks of R484, and of 16 R539 for CV14. -/
def enableOk (s : State) : Bool :=
  let h := s.hi
  h.sb ≠ 0 && h.sb.toNat % 256 = 0 && (idx 6).all (fun r => ringOk (h.rings.get r) r) && !(h.crcEn && s.isRetired (.cv 14))

/-- HI_ENABLE (R484): HI_CTRL written with EN = 1 while EN is 0. -/
def hiEnable (s : State) (v : BitVec 32) : State :=
  if !s.hostUp || s.hi.en || !bit v 0 then s
  else
    let s := s.updHi fun h => { h with msixEn := bit v 1, crcEn := bit v 2 }
    if s.enableOk then
      (s.updHi fun h =>
        { h with en := true, enableSeq := h.enableSeq + 1, cplHead := 0, cplTail := 0, sbOld := [], telSeq := 0, cplWait := [],
                 rings := (idx 6).foldl (fun t r => t.upd r fun x => { x with head := 0, tail := 0, data := [] }) h.rings }).drainEvt.drainLog
    else s.updHi fun h => { h with cfgErr := true }

/-- HI_DISABLE (R484): HI_CTRL written with EN = 0 while EN is 1. Its RS fields stay; a change to one is flagged. -/
def hiDisable (s : State) (v : BitVec 32) : State :=
  if !s.hostUp || !s.hi.en || bit v 0 then s
  else (s.updHi fun h => { h with werr := h.werr || bit v 1 != h.msixEn || bit v 2 != h.crcEn }).stopRings

/-! Fetching (R462). -/

/-- The completion queue is full (R462). -/
def cplFull (s : State) : Bool := (s.hi.cplTail + 1) % 16 = s.hi.cplHead || !s.hi.cplWait.isEmpty

/-- The module may fetch the next entry of a ring. -/
def mayFetch (s : State) (r : Fin 6) (c : TagClass) : Bool :=
  s.ringsRun && !s.abandoned .rings && (s.hi.rings.get r).head ≠ (s.hi.rings.get r).tail && !s.cplFull && tagFree s.hi c

/-- HEAD advances past an entry that takes a tag. -/
def fetched (s : State) (r : Fin 6) (c : TagClass) : State :=
  s.updHi fun h => useTag { h with rings := h.rings.upd r fun x => { x with head := (x.head + 1) % x.size.toNat } } c

/-- CMD_FETCH (R45, R462, R466, R467): the entry at HEAD waits for its start; one whose CRC or opcode fails is refused. -/
def cmdFetch (s : State) (bytes : List Byte) : State :=
  if !s.mayFetch 0 .cmd || 64 ≤ s.inExec then s
  else
    let index := (s.hi.rings.get 0).head
    let e := readEntry bytes
    let s := s.fetched 0 .cmd
    let crcOk := s.cvUsable 14 && cv (BitVec.ofNat 32 index) (bytes.take 60) == e.crc
    let s := if s.hi.crcEn then s.useCv 14 crcOk else s
    if s.hi.crcEn && !crcOk then s.answer e .refused 0x82
    else if !opcodes.contains e.opcode.toNat then s.answer e .refused 0x80
    else s.updHi fun h => { h with waiting := h.waiting ++ [e] }

/-- CALL_FETCH (R462). -/
def callFetch (s : State) (bytes : List Byte) : State :=
  if s.mayFetch 1 .call then (s.fetched 1 .call).updHi fun h => { h with calls := h.calls ++ [bytes] } else s

/-! The endpoint (R455 to R457, 16 R524). -/

/-- PERST# and its like (R457). A link that goes down while the rings run is reported. -/
def endpointReset (s : State) (k : EndpointReset) : State :=
  if s.mod = .off then s
  else
    let s := if k = .linkDown && s.hi.en then s.raise 0xA0 2 1 0 0 else s
    s.resetHi.updHi fun h => { h with d3 := false }

/-- UNALIGNED_ACCESS (R456). -/
def unalignedAccess (s : State) : State := if s.hostUp then s.updHi fun h => { h with accErr := true } else s

/-- HOST_MEMORY_ACCESS_DONE (16 R524): the tag is free again, and what waited for one is written; errors and the third timeout in a
T2 are reported. -/
def accessDone (s : State) (c : TagClass) (r : AccessResult) : State :=
  let s := (((s.updHi fun h => { h with tags := h.tags.upd (tagIx c) (· - 1) }).drainEvt).drainLog).drainTel
  match r with
  | .ok => s
  | .error addr ring => (s.updHi fun h => { h with dmaErr := true }).raise 0xA0 1 1 addr ring.val
  | .timeout =>
    let n := s.hi.timeouts + 1
    let s := s.updHi fun h => { h with dmaErr := true, timeouts := n }
    if n = 3 then s.raise 0xA0 3 2 0 0 else s

/-- PCI_POWER_STATE_CHANGE (R455): in D3hot the rings stop; back in D0 they go on. -/
def pciPower (s : State) (d3 : Bool) : State :=
  if s.mod = .off || !s.pd 1 then s else (s.updHi fun h => { h with d3 := d3 }).drainEvt.drainLog.drainTel

/-! Starting commands (R465 to R470). -/

/-- Read requests of at most 512 bytes that fetch an entry's data buffer (R455, R468): LOAD_IMAGE, RAW_SEND and UPDATE read one. -/
def dataReads (e : CmdEntry) : Nat := if [0x10, 0x40, 0x60].contains e.opcode.toNat then (e.dataLen.toNat + 511) / 512 else 0

/-- An entry may start: it is the first one fetched and not started, a FENCE entry waits for all before it (R470), and one that reads
data finds a tag free (01 R44). -/
def canStart (s : State) (op : Nat) (e : CmdEntry) : Bool :=
  e.opcode.toNat = op && s.hi.waiting.head? = some e && (!e.flags.getLsbD 0 || s.hi.running.isEmpty) && (dataReads e = 0 || tagFree s.hi .data)

/-- INJECT and IDENTIFY: a module that is not in ACTIVE refuses them with R205's own code (R467). -/
def injectOps : List Nat := [0x34, 0x36]

/-- The entry at the front is taken from those that wait; its data reads take their tags (01 R44). -/
def takeEntry (s : State) (e : CmdEntry) : State :=
  s.updHi fun h =>
    { h with waiting := h.waiting.drop 1, tags := h.tags.upd (tagIx .data) fun n => max n (min (tagLimit .data) (n + dataReads e)) }

/-- Start an entry: the checks of R467 in order, then its effect; `no` keeps the books of a refusal with its code. -/
def command (s : State) (op : Nat) (e : CmdEntry) (own : Bool) (checks : State → List (Bool × Nat)) (act : State → State)
    (no : Nat → State → State := fun _ => id) : State :=
  if !s.canStart op e then s
  else
    let s := s.takeEntry e
    match firstBad ((!paramOk e own, 0x81) :: (s.mod == .standby && !(standbyOps ++ injectOps).contains op, 0x8B) :: checks s) with
    | some code => (no code s).answer e .refused code
    | none => act s

/-- A car command: `checks` and `act` get the model and the car, which must be present (R467 rows STATE and CAR). -/
def carCommand (s : State) (op : Nat) (e : CmdEntry) (own : Bool) (checks : State → Model → Fin 16 → List (Bool × Nat))
    (act : State → Model → Fin 16 → State) (no : Nat → State → State := fun _ => id) : State :=
  match s.model, carOf? e with
  | some m, some c =>
    s.command op e own (fun s => (s.mod != .active, 0x83) :: (!m.present c, 0x84) :: checks s m c) (fun s => act s m c) no
  | _, _ => s.command op e own (fun s => [(s.mod != .active, 0x83), (true, 0x84)]) id no

/-! Leaving ACTIVE (R468, R486). -/

/-- A command in execution ends ABORTED, 0x8D. An UPDATE is what takes the module out of ACTIVE itself. -/
def abortCommands (s : State) : State :=
  let s := s.each (s.hi.running.filter (·.e.opcode ≠ 0x60)) fun s r => s.finish r.e .aborted 0x8D
  s.each (idx 16) fun s c => s.updMode c fun m => { m with setCmds := [], runCmd := none, doorCmd := [] }

end State

/-- PERST, R457. -/
def execPerst (kind : EndpointReset) (s : State) : Out := .next (s.endpointReset kind)
/-- DB_CMD_TAIL, R461. -/
def execDbCmdTail (v : BitVec 32) (s : State) : Out := .next (s.tailDoorbell 0 v)
/-- DB_CALL_TAIL, R461. -/
def execDbCallTail (v : BitVec 32) (s : State) : Out := .next (s.tailDoorbell 1 v)
/-- DB_EVT_HEAD, R482. -/
def execDbEvtHead (v : BitVec 32) (s : State) : Out := .next (s.evtDoorbell v)
/-- DB_TEL_HEAD, R461. -/
def execDbTelHead (v : BitVec 32) (s : State) : Out := .next (s.headDoorbell 3 v)
/-- DB_LOG_HEAD, R461. -/
def execDbLogHead (v : BitVec 32) (s : State) : Out := .next (s.headDoorbell 4 v)
/-- DB_CAP_HEAD, R461. -/
def execDbCapHead (v : BitVec 32) (s : State) : Out := .next (s.headDoorbell 5 v)
/-- DB_CPL_HEAD, R461. -/
def execDbCplHead (v : BitVec 32) (s : State) : Out := .next (s.cplDoorbell v)
/-- HI_ENABLE, R484. -/
def execHiEnable (v : BitVec 32) (s : State) : Out := .next (s.hiEnable v)
/-- HI_DISABLE, R484. -/
def execHiDisable (v : BitVec 32) (s : State) : Out := .next (s.hiDisable v)
/-- CMD_FETCH, R462. -/
def execCmdFetch (bytes : List Byte) (s : State) : Out := .next (s.cmdFetch bytes)
/-- CALL_FETCH, R462. -/
def execCallFetch (bytes : List Byte) (s : State) : Out := .next (s.callFetch bytes)
/-- STATUS_BLOCK_WRITE, R463. -/
def execStatusBlockWrite (s : State) : Out := .next s.statusBlockWrite
/-- IRQ_MODERATION_END, R483. -/
def execIrqModerationEnd (vec : Fin 16) (s : State) : Out := .next (s.irqModerationEnd vec)
/-- UNALIGNED_ACCESS, R456: a write is ignored and a read answers 0, wherever it falls. -/
def execUnalignedAccess (_write : Bool) (_addr : BitVec 16) (s : State) : Out := .next s.unalignedAccess
/-- HOST_MEMORY_ACCESS_DONE, R524. -/
def execHostMemoryAccessDone (cls : TagClass) (r : AccessResult) (s : State) : Out := .next (s.accessDone cls r)
/-- PCI_POWER_STATE_CHANGE, R455. -/
def execPciPowerStateChange (d3 : Bool) (s : State) : Out := .next (s.pciPower d3)

end Sys2Proof.Machine
end

