-- ==== Sys2Proof/Machine/Faults.lean ====
section
/-! DEFINITION. The fault collector (16): ordering and recording, the sluice, targeted self-tests, retirement and its effects, the
persistent log. -/

namespace Sys2Proof.Machine

/-- Order of a batch (R531): class, highest first, then source, kind and context; arrival breaks ties. -/
def msgLe (a b : FaultMsg) : Bool :=
  let ka := [3 - a.cls.toNat, a.source.toNat, a.kind.toNat, a.context.toNat]
  let kb := [3 - b.cls.toNat, b.source.toNat, b.kind.toNat, b.context.toNat]
  decide (ka ≤ kb)

/-- T0 of a unit's test before its result can come (R534): the durations, where the table bounds one from above 1 T0. -/
def testT0 : TestUnit → Nat
  | .port _ => 2
  | .channel _ => 3
  | .bus _ => 1
  | .supply _ => 80
  | .lane _ => 32
  | .sramPage _ => 8
  | .dramPage _ => 256
  | .cv _ => 1
  | .levee _ => 1
  | .carCore _ => 256
  | .resetInput _ => 0

/-- 24 h of powered time in T0 (R537). -/
def dayT0 : Nat := 345600000

/-- Source and kind of a unit's own messages (R535), for a unit whose test no message started. -/
def ownSource : TestUnit → Nat × Nat
  | .port n => (n.val, 3)
  | .channel i => (0x40 + i.val / 8, 1)
  | .bus n => (0x60 + n.val, 1)
  | .supply _ => (0xB5, 2)
  | .lane _ => (0x81, 1)
  | .sramPage _ => (0xC0, 2)
  | .dramPage _ => (0xC1, 2)
  | .cv n => (0x90 + n.val, 1)
  | .levee lc => (0x76 + lc.val, 2)
  | .carCore cc => (0x72 + cc.val, 3)
  | .resetInput c => (0xD0 + c.val, 0x0B)

/-- CONTEXT of a unit's own messages. -/
def ownContext : TestUnit → BitVec 32
  | .channel i => BitVec.ofNat 32 i.val
  | .supply g => BitVec.ofNat 32 g.val
  | .lane k => BitVec.ofNat 32 k.val
  | .sramPage p => BitVec.ofNat 32 (p * 4096)
  | .dramPage p => BitVec.ofNat 32 (p * 65536)
  | _ => 0

/-- Passes of a unit (R537). -/
def passesOf (h : List (TestUnit × List Nat)) (u : TestUnit) : List Nat := ((h.find? (·.1 = u)).map (·.2)).getD []

/-- The bits a host may add to a sluice word (R528): INT and EPIN to C, EPIN to U, CRST to F. -/
def sluiceAdd : BitVec 32 := 0x00081011

/-- A committed sluice word is consistent (R528). -/
def sluiceOk (n : Nat) (w : BitVec 32) : Bool :=
  let m := State.sluiceMin n
  State.sourceExists n && (m &&& ~~~w) == 0 && (w &&& ~~~(m ||| sluiceAdd)) == 0

/-- The class of the messages that a unit's test answers, fixed by their kind (R523, R524). -/
def testClass (t : TestRun) : BitVec 2 :=
  match t.unit with
  | .port _ => if t.kind = 3 then 2 else 1
  | .sramPage _ => if t.kind = 1 then 1 else 2
  | .dramPage _ => if t.kind = 1 then 1 else 2
  | _ => 2

namespace State

/-! The sluice (R528). -/

/-- FC_SLUICE_COMMIT: the shadow is taken at the next T0 boundary. -/
def sluiceCommit (s : State) : State :=
  if s.hostUp then s.updFc fun f => { f with commit := some f.shadow } else s

/-- The commit at a T0 boundary: whole, or rejected whole. Taken, it leaves in the shadow what was written after it (18 R582). -/
def takeSluice (s : State) : State :=
  s.updFc fun f =>
    match f.commit with
    | none => f
    | some ws =>
      if ws.all fun p => sluiceOk p.1 p.2 then
        let keep := f.sluice.filter fun p => !(ws.any fun q => q.1 = p.1)
        { f with commit := none, shadow := f.shadow.filter (!ws.contains ·), sluice := keep ++ ws.filter fun p => p.2 ≠ sluiceMin p.1 }
      else { f with commit := none, commitErr := true }

/-! The persistent log (R541). -/

/-- A record is written to the flash ring; with CV13 retired its check field is 0 (R539). -/
def putPlog (s : State) (r : FaultRec) : State :=
  let (v, s) := s.take
  let i := s.fc.plogNext
  let body := msgBytes r ++ leBytes 8 (s.tick.tb.toNat + v.toNat % 25000) ++ leBytes 4 s.fc.boots.toNat
  let crc := if s.cvUsable 13 then cv (BitVec.ofNat 32 i.val) body else 0
  let s := s.useCv 13 true
  s.updFc fun f => { f with plog := (i.val, body ++ leBytes 4 crc.toNat) :: f.plog.filter (·.1 ≠ i.val), plogNext := i + 1 }

/-- A record fails its check: FC_PLOG_SEL.BAD. -/
def plogBad (i : Nat) (b : List Byte) : Bool := fld b 28 4 ≠ (cv (BitVec.ofNat 32 i) (b.take 28)).toNat

/-! Retirement (R538, R539). -/

/-- The cars of a privileged bus are held in M3 (13 R448). -/
def holdBusCars (s : State) (n : Nat) : State :=
  s.each ((idx 16).filter fun c => c.val / 4 = n && s.present.contains c) fun s c => s.serviceHold c 0xF1

/-- What a retirement does to the group (R539). -/
def retireEffects (s : State) (u : TestUnit) : State :=
  match u with
  | .channel i =>
    let r := (s.model.map fun m => m.polders.get i)
    let held := r.any fun r => (1 ≤ r.role && r.role ≤ 0x0F) || (0x40 ≤ r.role && r.role ≤ 0x43)
    let car := r.elim 0xFF (·.car)
    let s := s.updCh i fun c => { c with heldOff := false }
    if h : car < 16 then if held then s.serviceHold ⟨car, h⟩ 0xF1 else s else s
  | .bus n =>
    let s := (s.dropTx n true).updBus n fun b => { b with state := .retired, start := false, adopted := false }
    if n.val < 4 then s.holdBusCars n.val else s
  | .supply g => s.groupOff g
  | .lane k =>
    let s := s.updLane k fun l => { l with stopped := true }
    if isHoist k then (s.askSf1 (laneCar k)).serviceHold (laneCar k) 0xF1
    else match s.model with
      | some m => s.faultSide m (laneSide k)
      | none => s
  | .cv n => if n.val < 4 then s.holdBusCars n.val else s
  | .carCore cc => s.each ((coreCars cc).filter s.present.contains) fun s c => (s.askSf1 c).serviceHold c 0xF1
  | _ => s

/-- Retired SRAM pages. -/
def sramRetired (s : State) : Nat := (s.fc.retired.filter fun v => match v with | .sramPage _ => true | _ => false).length

/-- Retire a unit with all that follows; an SRAM page with no spare left is SPARES instead (R538). -/
def retire (s : State) (u : TestUnit) (src : BitVec 10) (kind : Byte) (cls : BitVec 2) (ctx : BitVec 32) : State :=
  if s.isRetired u then s
  else match u with
    | .sramPage p => if 32 ≤ s.sramRetired then s.raise 0xC0 4 3 (BitVec.ofNat 32 (p * 4096)) 0 else s.markRetired u src kind cls ctx
    | _ => (s.markRetired u src kind cls ctx).retireEffects u

/-- A retirement holds the car in M3 (R412, R448, R539): CLEAR_HOLD is refused while it lasts. -/
def retirementHolds (s : State) (m : Model) (c : Fin 16) : Bool :=
  s.fc.retired.any fun u => match u with
    | .channel i =>
      let r := m.polders.get i
      r.car = c.val && ((1 ≤ r.role && r.role ≤ 0x0F) || (0x40 ≤ r.role && r.role ≤ 0x43))
    | .bus n => n.val = c.val / 4
    | .cv n => n.val = c.val / 4
    | .lane k => isHoist k && laneCar k = c
    | .carCore cc => carCore c = cc
    | _ => false

/-! Targeted self-tests (R534 to R537). -/

/-- The slot in which a bus test starts (13 R445), any other unit at once. -/
def testSlotOk (s : State) : TestUnit → Bool
  | .bus n => 4 ≤ n.val || s.slot = (if n.val % 2 = 0 then 4 else 0)
  | _ => true

/-- A test begins on its unit: a lane is tested with its axis stopped, a car core with its cars held by SF1. -/
def beginTest (s : State) (u : TestUnit) : State :=
  match u with
  | .port n => s.portTestStart n
  | .bus n => s.updBus n fun b => { b with prior := b.state, state := .test }
  | .lane k =>
    let s := (s.updLane k fun l => { l with stopped := true }).abortInjection k 0x21
    if isHoist k then s.askSf1 (laneCar k) else s
  | .carCore cc => s.each ((coreCars cc).filter s.present.contains) askSf1
  | _ => s

/-- A test is scheduled (R536): at most one per unit; a reset input has none. -/
def scheduleTest (s : State) (u : TestUnit) (src : BitVec 10) (kind : Byte) (ctx : BitVec 32) (clear : Bool) : State :=
  if s.fc.tests.any (·.unit = u) || s.isRetired u then s
  else match u with
    | .resetInput _ => s
    | _ =>
      let go := s.testSlotOk u
      let s := s.updFc fun f =>
        { f with tests := f.tests ++ [{ unit := u, source := src, kind := kind, context := ctx, running := go, clear := clear, age := 0, last := 0 }] }
      if go then s.beginTest u else s

/-- A pending bus test starts in its slot. -/
def startPending (s : State) : State :=
  s.each (s.fc.tests.filter fun t => !t.running && s.testSlotOk t.unit) fun s t =>
    (s.updFc fun f => { f with tests := f.tests.map fun (x : TestRun) => if x.unit = t.unit then { x with running := true, age := 0 } else x }).beginTest
      t.unit

/-- A test makes progress in this T0: a lane's computations are made with its axis stopped (R534). -/
def testAges (s : State) (t : TestRun) : Bool :=
  t.running && (match t.unit with | .lane k => (s.axes.get k).state == .idle | _ => true)

/-- One T0 of every running test. -/
def ageTests (s : State) : State :=
  s.updFc fun f => { f with tests := f.tests.map fun (t : TestRun) => if s.testAges t then { t with age := t.age + 1 } else t }

/-- The unit goes back to service (R537) or leaves its test for retirement. -/
def leaveTest (s : State) (u : TestUnit) : State :=
  match u with
  | .port n => s.portTestEnd n
  | .bus n => s.updBus n fun b =>
      { b with state := if b.prior = .busoff && (s.busRec n).any (·.boff = 1) then .recover
                        else if b.prior = .retired || b.prior = .test then .off else b.prior }
  | .channel i => s.updCh i fun c => { c with heldOff := false }
  | .supply g =>
    let s := s.updSup g fun u => { u with trip := false }
    if s.model.any (fun m => groupCalled m g) && !s.pwr.parked.getLsbD g.val then s.joinChain (.group g) else s
  | .lane k => s.updLane k fun l => { l with stopped := false, drops := 0, missNow := false, missRun := 0 }
  | _ => s

/-- CLEAR_RETIRED ends when its last unit has been tested (R540). -/
def endClear (s : State) (u : TestUnit) (failed : Bool) : State :=
  match s.fc.clearing with
  | none => s
  | some (us, bad) =>
    if !us.contains u then s
    else
      let us := us.filter (· ≠ u)
      let bad := bad || failed
      if us.isEmpty then
        let s := s.updFc fun f => { f with clearing := none }
        match s.hi.running.find? (·.e.opcode = 0x50) with
        | some r => if bad then s.finish r.e .failed 0x90 else s.finish r.e .done 0
        | none => s
      else s.updFc fun f => { f with clearing := some (us, bad) }

/-- A test passes (R537): the third pass in 24 h is a permanent fault. -/
def testPass (s : State) (t : TestRun) : State :=
  let now := s.fc.powered
  let ps := (passesOf s.fc.hist t.unit).filter (fun x => now - x < dayT0) ++ [now]
  let s := s.updFc fun f =>
    { f with hist := (t.unit, ps) :: f.hist.filter (·.1 ≠ t.unit), flashDue := true, tests := f.tests.filter (·.unit ≠ t.unit) }
  let s := s.leaveTest t.unit
  if 3 ≤ ps.length then (s.retire t.unit t.source t.kind (testClass t) t.context).endClear t.unit true
  else (s.updFc fun f => { f with transient := f.transient + 1 }).endClear t.unit false

/-- A test fails (R537): the unit is retired. -/
def testFail (s : State) (t : TestRun) : State :=
  let s := (s.updFc fun f => { f with tests := f.tests.filter (·.unit ≠ t.unit) }).leaveTest t.unit
  (s.retire t.unit t.source t.kind (testClass t) t.context).endClear t.unit true

/-- TARGETED_TEST_DONE (R534 to R538, 12 R411): the result of a running test whose time has run. -/
def testDone (s : State) (u : TestUnit) (r : TestResult) : State :=
  match s.fc.tests.find? fun t => t.unit = u && t.running && decide (testT0 u ≤ t.age) with
  | none => s
  | some t =>
    match r, u with
    | .pass, _ => s.testPass t
    | .cross j, .channel i =>
      let src := 0x40 + j.val / 8
      let s := (s.raise (0x40 + i.val / 8) 2 2 (BitVec.ofNat 32 i.val) j.val).testFail t
      s.retire (.channel j) (BitVec.ofNat 10 src) 2 2 (BitVec.ofNat 32 j.val)
    | _, _ => s.testFail t

/-! Ordering (R529, R531, R532). -/

/-- A message schedules a test (R534, R535): every class U one that names a unit, and a repeated class C one. -/
def schedules (m : FaultMsg) (again : Bool) : Bool := m.cls = 2 || (m.cls = 1 && again)

/-- The same message came within the last 240,000 T0 (R534). -/
def repeatedC (s : State) (m : FaultMsg) : Bool :=
  m.cls = 1 && s.fc.seenC.any fun x => x.source = m.source && x.kind = m.kind && x.context = m.context && decide ((m.t0 - x.t0).toNat ≤ 240000)

/-- A missed levee evaluation (01 R32): counted once a T0, with its MISSED message unless another message stands for it. -/
def missEvaluation (s : State) (lc : Fin 2) (silent : Bool) : State :=
  if s.spill.abandoned.contains (.levee lc) then s
  else
    let n := s.spill.miss.get lc + 1
    let s := { s with spill := { s.spill with abandoned := s.spill.abandoned ++ [.levee lc], miss := s.spill.miss.put lc n } }
    if silent then s else s.raise (0x76 + lc.val) 2 2 (BitVec.ofNat 32 n) 0

/-- NMI (R529). -/
def nmi (s : State) (m : FaultMsg) : State :=
  if m.source = 0xB5 then s.updFc fun f => { f with nmiPorts := true }
  else if m.source = 0xB7 then s.updFc fun f => { f with nmiInputs := true }
  else if m.source = 0xC0 then
    match Config.leveeOwner m.context with
    | some lc => s.missEvaluation lc false
    | none => s
  else s

/-- One message of an ordered batch: recorded, then its reactions, then its test (R525 to R535). -/
def recordMsg (s : State) (m : FaultMsg) : State :=
  let r : FaultRec := ⟨m, reactionOf s.fc m.source.toNat m.cls⟩
  let first := !s.fc.firstValid
  let again := s.repeatedC m
  let s := s.updFc fun f =>
    { f with cntC := if m.cls = 1 then f.cntC + 1 else f.cntC, cntU := if m.cls = 2 then f.cntU + 1 else f.cntU,
             cntF := if m.cls = 3 then f.cntF + 1 else f.cntF, fSeen := f.fSeen || m.cls = 3,
             firstValid := true, first := if first then some r else f.first,
             seenC := if m.cls = 1 then
                 ⟨m.source, m.kind, m.context, m.t0⟩ :: f.seenC.filter fun x => !(x.source = m.source && x.kind = m.kind && x.context = m.context)
               else f.seenC }
  let s := s.putLog (msgBytes r) first
  let s := if m.cls ≠ 1 || again then s.putPlog r else s
  let s := if r.reaction.getLsbD 0 then s.faultEvent r else s
  let s := if r.reaction.getLsbD 1 then s.nmi m else s
  match unitOf m with
  | some u => if schedules m again then s.scheduleTest u m.source m.kind m.context false else s
  | none => s

/-- The batch of the T0 that has ended is ordered (R531). -/
def orderBatch (s : State) : State :=
  let batch := sortBy msgLe s.fc.batch
  (s.updFc fun f => { f with batch := [] }).each batch recordMsg

/-- The retirement map and its histories go to flash within 1 T2 (R538). -/
def flushMap (s : State) : State :=
  if s.fc.flashDue then s.updFc fun f => { f with flashMap := f.retired, flashHist := f.hist, flashDue := false } else s

/-! FAULT_REPORT (R522, R531). -/

/-- FAULT_REPORT: a message arrives. A source that does not exist never sends one (R524). A lockstep difference is a missed
evaluation (10 R322), and a mismatch of a check-value channel is counted and spoils its next result (R546, log 167). -/
def faultReport (s : State) (m : FaultMsg) : State :=
  let n := m.source.toNat
  if s.mod = .off || !sourceExists n then s
  else
    let s := (s.report m).settleBoot
    if n = 0x76 && m.kind = 1 then s.missEvaluation 0 true
    else if n = 0x77 && m.kind = 1 then s.missEvaluation 1 true
    else match unitAt 16 (n - 0x90) .cv with
      | some (.cv k) => if 0x90 ≤ n && m.kind = 1 then s.updCv k fun c => { c with mismatch := c.mismatch + 1, bad := true } else s
      | _ => s

/-! CLEAR_RETIRED (R540). -/

/-- The unit that a type and an index name (R534). -/
def unitNamed (type ix : Nat) : Option TestUnit :=
  match type with
  | 1 => unitAt 48 ix .port
  | 2 => unitAt 96 ix .channel
  | 3 => unitAt 12 ix .bus
  | 4 => unitAt 6 ix .supply
  | 5 => unitAt 48 ix .lane
  | 6 => if ix < 1536 then some (.sramPage ix) else none
  | 7 => if ix < 8192 then some (.dramPage ix) else none
  | 8 => unitAt 16 ix .cv
  | 9 => unitAt 2 ix .levee
  | 10 => unitAt 4 ix .carCore
  | 11 => unitAt 16 ix .resetInput
  | _ => none

/-- The present cars that a unit serves, every present car where it serves none alone (R540). -/
def unitCars (m : Model) (u : TestUnit) : List (Fin 16) :=
  let all := m.presentCars
  let some_ (p : Fin 16 → Bool) : List (Fin 16) := match all.filter p with | [] => all | cs => cs
  match u with
  | .port n => some_ fun c => (m.ports.get n).car = c.val
  | .channel i => some_ fun c => (m.polders.get i).car = c.val
  | .bus n => some_ fun c => c.val / 4 = n.val
  | .supply g => some_ fun c => (idx 48).any fun n => portGroup n = g && (m.ports.get n).car = c.val
  | .lane k => some_ fun c => laneCar k = c
  | .cv n => some_ fun c => c.val / 4 = n.val
  | .levee lc => some_ fun c => carLevee c = lc
  | .carCore cc => some_ fun c => carCore c = cc
  | .resetInput c => some_ fun k => k = c
  | _ => all

/-- The units a CLEAR_RETIRED entry names. -/
def namedUnits (s : State) (e : CmdEntry) : List TestUnit :=
  if e.arg0 = 0xFF then s.fc.retired
  else match unitNamed e.arg0.toNat e.arg1.toNat with
    | some u => if s.isRetired u then [u] else []
    | none => []

/-- The arguments of a CLEAR_RETIRED entry are in range. -/
def clearArgs (e : CmdEntry) : Bool := if e.arg0 = 0xFF then e.arg1 = 0 else (unitNamed e.arg0.toNat e.arg1.toNat).isSome

/-- CLEAR_RETIRED (R540): the bits and histories are cleared and each unit's test runs; a reset input has none. -/
def clearRetired (s : State) (e : CmdEntry) : State :=
  s.command 0x50 e (clearArgs e)
    (fun s => [(s.mod != .active, 0x83), (!s.seal0, 0x88),
      (s.model.any fun m => (s.namedUnits e).any fun u => (unitCars m u).any fun c => (s.modes.get c).mode ≠ 11, 0x85),
      (s.fc.clearing.isSome, 0x89), ((s.namedUnits e).isEmpty && e.arg0 != 0xFF, 0x8A)])
    fun s =>
      let us := s.namedUnits e
      let s : State := s.updFc fun f =>
        { f with retired := f.retired.filter (!us.contains ·), hist := f.hist.filter (!us.contains ·.1), flashDue := true }
      let tested := us.filter fun u => match u with | .resetInput _ => false | _ => true
      if tested.isEmpty then s.answer e .done 0
      else
        let s := (s.updFc fun f => { f with clearing := some (tested, false) }).startRunning e
        s.each tested fun s u => s.scheduleTest u (BitVec.ofNat 10 (ownSource u).1) (BitVec.ofNat 8 (ownSource u).2) (ownContext u) true

end State

/-- FC_SLUICE_COMMIT, R528. -/
def execFcSluiceCommit (s : State) : Out := .next s.sluiceCommit
/-- FAULT_REPORT, R531. -/
def execFaultReport (m : FaultMsg) (s : State) : Out := .next (s.faultReport m)
/-- TARGETED_TEST_DONE, R537. -/
def execTargetedTestDone (u : TestUnit) (r : TestResult) (s : State) : Out := .next (s.testDone u r)
/-- CLEAR_RETIRED, R540. -/
def execClearRetired (e : CmdEntry) (s : State) : Out := .next (s.clearRetired e)

end Sys2Proof.Machine
end

