-- ==== Sys2Proof/Machine/Parse.lean ====
section
/-! DEFINITION. Reading the building model image (02 R51 to R61): its container, and the records of its sections in the layouts
of their owning chapters. Reading is total; the checks of R62 are made apart. -/

namespace Sys2Proof.Machine

/-- The section types of R55: type, mandatory, SEAL0. -/
def sectTypes : List (Nat × Bool × Bool) :=
  [(0x01, true, true), (0x02, true, true), (0x03, true, true), (0x05, false, false), (0x06, true, true), (0x07, true, true),
   (0x08, true, true), (0x09, true, true), (0x0A, false, true), (0x0B, false, true), (0x0C, false, false), (0x0D, true, false),
   (0x0E, true, true), (0x0F, true, true), (0x10, true, true), (0x11, true, true)]

/-- The types of the SEAL0 sections. -/
def sealTypes : List Nat := (sectTypes.filter (·.2.2)).map (·.1)

/-- One directory entry (R53). -/
structure DirEntry where
  type    : Nat
  version : Nat
  flags   : Nat
  offset  : Nat
  length  : Nat
  crc     : BitVec 32

/-- SECT_COUNT (R52). -/
def imgCount (bs : List Byte) : Nat := fld bs 20 2

/-- SEQ of an image. -/
def imgSeq (bs : List Byte) : BitVec 32 := BitVec.ofNat 32 (fld bs 12 4)

/-- GROUP_ID of an image. -/
def imgGroup (bs : List Byte) : BitVec 32 := BitVec.ofNat 32 (fld bs 16 4)

/-- The directory (R53). -/
def imgDir (bs : List Byte) : List DirEntry :=
  (List.range (imgCount bs)).map fun i =>
    let o := 64 + 16 * i
    { type := fld bs o 1, version := fld bs (o + 1) 1, flags := fld bs (o + 2) 2, offset := fld bs (o + 4) 4,
      length := fld bs (o + 8) 4, crc := BitVec.ofNat 32 (fld bs (o + 12) 4) }

/-- End of the last section's padding: where the trailer starts (R54). -/
def imgBody (bs : List Byte) : Nat := bs.length - 72

/-- Every byte before the signature (R54). -/
def imgSigned (bs : List Byte) : List Byte := bs.take (bs.length - 64)

/-- The digest that identifies an image (R54). -/
def imgDigest (bs : List Byte) : List Byte := sha256 (imgSigned bs)

/-- The sections, without padding. -/
def imgSections (bs : List Byte) : List Section :=
  (imgDir bs).map fun d => { type := d.type, bytes := slice bs d.offset d.length }

/-- Records of `n` bytes. -/
def recsOf (n : Nat) (bs : List Byte) : List (List Byte) := (List.range (bs.length / n)).map fun i => slice bs (n * i) n

/-- A field of 0 selects a default. -/
def dflt (v d : Int) : Int := if v = 0 then d else v

/-- A car number read from a byte. -/
def carOf (x : Nat) : Fin 16 := Fin.ofNat 16 x

/-- One LANDINGS record (R57). -/
def readLanding (r : List Byte) : Landing :=
  { level := sfld r 0 4, dzHalf := fld r 4 2, magnet := bitAt r 6 0, fireRecall := bitAt r 6 1, zone := fld r 7 1,
    label := BitVec.ofNat 32 (fld r 8 4) }

/-- One CARS record (R58). -/
def readCar (r : List Byte) : CarRec :=
  { car := carOf (fld r 0 1), rear := bitAt r 1 0, loadWeigh := bitAt r 1 1, capacity := fld r 2 2, ratedSpeed := fld r 4 4,
    frontMask := BitVec.ofNat 128 (fld r 8 16), rearMask := BitVec.ofNat 128 (fld r 24 16), topLimit := sfld r 40 4,
    bottomLimit := sfld r 44 4, frontWidth := fld r 48 2, rearWidth := fld r 50 2, frontMass := fld r 52 2, rearMass := fld r 54 2 }

/-- One ZONES record (08 R270). -/
def readZone (r : List Byte) : ZoneRec :=
  { zone := fld r 0 1, cars := Vector.ofFn fun p => BitVec.ofNat 16 (fld r (4 + 2 * p.val) 2),
    park := Vector.ofFn fun p => fld r (12 + p.val) 1, parkCount := Vector.ofFn fun p => fld r (16 + p.val) 1 }

/-- One PORTS record (03 R118). -/
def readPort (r : List Byte) : PortRec :=
  { mode := fld r 0 1, htl := bitAt r 1 0, dir := bitAt r 1 1, inv := BitVec.ofNat 3 (fld r 1 1 / 4), idxEdge := bitAt r 1 5,
    listen := bitAt r 1 6, filt := fld r 2 1, tstop := fld r 3 1, role := fld r 4 1, car := fld r 5 1, supply := fld r 6 1,
    ssiBits := fld r 7 1, gray := bitAt r 8 0, errEn := bitAt r 8 1, errLow := bitAt r 8 2, posLsb := fld r 9 1,
    posBits := fld r 10 1, errPos := fld r 11 1, rate := fld r 12 1, delay := fld r 13 1, scale := fld r 16 4, zero := sfld r 20 4,
    idxWin := fld r 24 4 }

/-- One POLDERS record (12 R396), defaults substituted. -/
def readPolder (r : List Byte) : PolRec :=
  let d (v x : Nat) : Nat := if v = 0 then x else v
  { role := fld r 0 1, car := fld r 1 1, inv := bitAt r 2 0, wbEn := bitAt r 2 1, safeOn := bitAt r 2 2, filter := d (fld r 3 1) 4,
    partner := fld r 4 1, prio := fld r 5 1, disc := d (fld r 6 2) 50, wdog := d (fld r 8 1) 8, inrush := fld r 9 1,
    budget := d (fld r 10 1) 40, modBudget := d (fld r 11 1) 160 }

/-- The node class of a code (R59). -/
def readClass : Nat → NodeClass
  | 1 => .hdv
  | 2 => .don
  | 3 => .ctn
  | 4 => .ptn
  | 5 => .lfn
  | _ => .wit

/-- One NODES record (R59). -/
def readNode (r : List Byte) : NodeRec :=
  { cls := readClass (fld r 0 1), bus := Fin.ofNat 12 (fld r 1 1), car := fld r 2 1, side := fld r 3 1,
    addr := BitVec.ofNat 16 (fld r 4 2), safety := bitAt r 6 0, nodeId := BitVec.ofNat 32 (fld r 8 4), watchdog := fld r 12 2,
    pubkey := slice r 16 64 }

/-- One hoist PROFILES record (05 R152), the defaults of 04 R126 substituted. -/
def readHoist (r : List Byte) : HoistRec :=
  let f (i : Nat) : Int := fld r (8 + 2 * i) 2
  { accel := fld r 0 2, decel := fld r 2 2, jerk := fld r 4 2, brakeLift := fld r 6 1, brakeDrop := fld r 7 1,
    posTolFine := dflt (f 0) 20, posTolCoarse := dflt (f 1) 200, absJump := dflt (f 2) 50, absBridge := (dflt (f 3) 160).toNat,
    slipBase := dflt (f 4) 100, slipPermille := dflt (f 5) 10, corrSpeed := dflt (f 6) 1000, refSpeed := dflt (f 7) 5000,
    relevelStart := dflt (f 8) 100, relevelStop := dflt (f 9) 30, relevelSpeed := dflt (f 10) 100, learnSpeed := dflt (f 11) 2500 }

/-- One door PROFILES record (05 R153), the QS defaults substituted. -/
def readDoor (r : List Byte) : DoorRec :=
  { openPos := fld r 0 2, vOpen := fld r 2 2, vClose := fld r 4 2, accel := fld r 6 2, decel := fld r 8 2, jerk := fld r 10 2,
    revDecel := fld r 12 2, refSpeed := fld r 14 2, nudgeSpeed := fld r 16 2, qsRise := dflt (fld r 18 2) 1200,
    qsFall := dflt (fld r 20 2) 1000, fitted := bitAt r 22 0 }

/-- One segment record (05 R155, R174). -/
def readSeg (r : List Byte) : Seg := { dur := fld r 0 4, endPos := sfld r 4 4, endVel := sfld r 8 4, phase := 0 }

/-- One user table: header and segments (05 R174). -/
def readTable (r : List Byte) : TableRec :=
  { kind := fld r 0 1, car := fld r 1 1, side := fld r 2 1, landing := fld r 3 1, from_ := fld r 4 1, startPos := sfld r 8 4,
    segs := (recsOf 12 (r.drop 16)).map readSeg }

/-- Cut the TABLES section into its tables (05 R174); the rest that makes no table comes last. -/
def cutTables : Nat → List Byte → List (List Byte) × List Byte
  | 0, bs => ([], bs)
  | n + 1, bs =>
    let len := 16 + 12 * fld bs 5 1
    if bs.length < 16 || bs.length < len then ([], bs)
    else
      let p := cutTables n (bs.drop len)
      (bs.take len :: p.1, p.2)

/-- One FORCE_MAPS record (07 R237). -/
def readMap (r : List Byte) : ForceMap :=
  { car := fld r 0 1, side := fld r 1 1, landing := fld r 2 1, margin := dflt (fld r 3 1) 60,
    f := (List.range 64).map fun j => sfld r (4 + 2 * j) 2 }

/-- One DOOR_TIMES record (08 R274). -/
def readTime (r : List Byte) : DoorTime :=
  { car := fld r 0 1, side := fld r 1 1, landing := fld r 2 1, openMs := fld r 4 2, closeMs := fld r 6 2 }

/-- The weights of pattern `p` (08 R277). -/
def readWeights (r : List Byte) (p : Nat) : Weights :=
  let w (i : Nat) : Int := fld r (32 + 12 * p + 2 * i) 2
  { wait := w 0, long := w 1, ride := w 2, energy := w 3, regen := w 4, load := w 5 }

/-- The DISPATCH record (08 R277). -/
def readDispatch (r : List Byte) : DispatchRec :=
  { patternDefault := fld r 0 1, lanternLate := bitAt r 1 0, ctnCancel := bitAt r 1 1, startDelay := fld r 2 2, dwellHall := fld r 4 2,
    dwellCar := fld r 6 2, dwellAccess := fld r 8 2, doorOpenDef := fld r 10 2, doorCloseDef := fld r 12 2, paxMass := fld r 14 1,
    hallPax := fld r 15 1, lanternLead := fld r 16 2, parkDelay := fld r 18 2, swapBudget := fld r 20 4, longWait := fld r 24 4,
    loadFull := fld r 28 1, weights := Vector.ofFn fun p => readWeights r p.val }

/-- One MODE_POLICY record (09 R303); the speeds' defaults need the car's record. -/
def readPolicy (cars : List CarRec) (hoists : Tab 16 HoistRec) (r : List Byte) : PolicyRec :=
  let c := carOf (fld r 0 1)
  let rated : Int := (cars.find? (·.car = c)).elim 0 (·.ratedSpeed)
  { car := c, nudge := bitAt r 1 0, recallClose := bitAt r 1 1, epwrSelect := bitAt r 1 2, seisClose := bitAt r 1 3,
    hostAllow := BitVec.ofNat 16 (fld r 2 2), obstTime := if fld r 4 2 = 0 then 200 else fld r 4 2, recallMain := fld r 6 1,
    recallAlt := fld r 7 1, evacLanding := fld r 8 1, inspSpeed := dflt (fld r 10 2) 6300, epwrSpeed := dflt (fld r 12 2) rated,
    seisSpeed := dflt (fld r 14 2) (hoists.get c).refSpeed }

/-- One gain set (06 R189). -/
def readSet (r : List Byte) (j : Nat) : GainSet :=
  let f (i : Nat) : Int := fld r (32 + 16 * j + 4 * i) 4
  { kvf := f 0, kp := f 1, ki := f 2, kd := f 3 }

/-- One GAINS record (06 R189). -/
def readGain (r : List Byte) : GainRec :=
  { kind := fld r 0 1, regionMap := byteAt r 1, corrMax := fld r 2 2, uMax := fld r 4 4, iMax := fld r 8 2, feLimit := fld r 10 2,
    regA := fld r 12 2, regB := fld r 14 2, p1 := fld r 16 4, p2 := fld r 20 4, p3 := fld r 24 2, p4 := fld r 28 4,
    sets := Vector.ofFn fun j => readSet r j.val }

/-- One BUSES record (13 R423). -/
def readBus (r : List Byte) : BusRec :=
  { en := bitAt r 0 0, fd := bitAt r 0 1, brs := bitAt r 0 2, auto := bitAt r 0 3, txq := bitAt r 0 4, txord := bitAt r 0 5,
    raw := bitAt r 0 6, boff := fld r 1 1, nbrp := fld r 2 1, ntseg1 := fld r 3 1, ntseg2 := fld r 4 1, nsjw := fld r 5 1,
    dbrp := fld r 6 1, dtseg1 := fld r 7 1, dtseg2 := fld r 8 1, dsjw := fld r 9 1, tdcOffset := fld r 10 1 }

/-- The bytes of a section of an image; none of them where it is missing. -/
def sectBytes (ss : List Section) (t : Nat) : List Byte := ((ss.find? (·.type = t)).map (·.bytes)).getD []

/-- The building model that an image describes (R55). -/
def readModel (bs : List Byte) : Model :=
  let ss := imgSections bs
  let g := sectBytes ss 0x01
  let cars := (recsOf 64 (sectBytes ss 0x03)).map readCar
  let prof := sectBytes ss 0x09
  let hoists : Tab 16 HoistRec := Vector.ofFn fun k => readHoist (slice prof (32 * k.val) 32)
  let key := sectBytes ss 0x10
  { seq := imgSeq bs, groupId := imgGroup bs, digest := imgDigest bs, landings := (recsOf 16 (sectBytes ss 0x02)).map readLanding,
    carMask := BitVec.ofNat 16 (fld g 2 2), cars := cars, zones := (recsOf 32 (sectBytes ss 0x05)).map readZone,
    ports := Vector.ofFn fun n => readPort (slice (sectBytes ss 0x06) (32 * n.val) 32),
    polders := Vector.ofFn fun i => readPolder (slice (sectBytes ss 0x07) (16 * i.val) 16),
    nodes := (recsOf 96 (sectBytes ss 0x08)).map readNode, hoists := hoists,
    doors := Vector.ofFn fun d => readDoor (slice prof (32 * (16 + d.val)) 32),
    tables := (cutTables 1024 (sectBytes ss 0x0A)).1.map readTable, maps := (recsOf 132 (sectBytes ss 0x0B)).map readMap,
    times := (recsOf 8 (sectBytes ss 0x0C)).map readTime, dispatch := readDispatch (sectBytes ss 0x0D),
    policies := (recsOf 16 (sectBytes ss 0x0E)).map (readPolicy cars hoists),
    gains := Vector.ofFn fun k => readGain (slice (sectBytes ss 0x0F) (96 * k.val) 96), instKey := key.take 64,
    keyId := BitVec.ofNat 32 (fld key 64 4), buses := Vector.ofFn fun n => readBus (slice (sectBytes ss 0x11) (16 * n.val) 16),
    sections := ss }

end Sys2Proof.Machine
end

