-- ==== Sys2Proof/Machine/Checks.lean ====
section
/-! DEFINITION. The checks of stage 5 of 02 R62: the ranges of every record in the chapter that owns it, and the consistency of
the sections with each other (R63). -/

namespace Sys2Proof.Machine

/-- A value lies in a range. -/
def within (x lo hi : Int) : Bool := decide (lo ≤ x) && decide (x ≤ hi)

/-- A value is 0 or lies in a range. -/
def zeroOr (x lo hi : Int) : Bool := x == 0 || within x lo hi

/-- A section holds a whole number of records, between two counts. -/
def recCount (bs : List Byte) (n lo hi : Nat) : Bool := bs.length % n = 0 && lo ≤ bs.length / n && bs.length / n ≤ hi

/-- The image, its model and the role it is checked for. -/
structure Chk where
  bytes : List Byte
  m     : Model
  role  : Fin 4

namespace Chk

/-- The bytes of a section. -/
def sect (k : Chk) (t : Nat) : List Byte := sectBytes k.m.sections t

/-- A present car's number. -/
def isCar (k : Chk) (x : Nat) : Bool := x < 16 && k.m.carMask.getLsbD x

/-- A car has a side. -/
def hasSide (k : Chk) (c side : Nat) : Bool := k.isCar c && k.m.sideFitted (carOf c) side

/-- A side of a car serves a landing. -/
def sideServes (k : Chk) (c side l : Nat) : Bool := k.hasSide c side && l < k.m.landings.length && k.m.serves (carOf c) side l

/-- A car serves a landing. -/
def carServes (k : Chk) (c l : Nat) : Bool := l < k.m.landings.length && k.m.served (carOf c) l

/-! RANGE. -/

/-- Header, directory, padding and trailer (R51 to R54): reserved fields, the section versions, and zeros from a section's end to the
next 8-byte boundary. The spec gives no code for padding that is not zero; it is judged as a reserved field (log 135). -/
def header (k : Chk) : Bool :=
  fld k.bytes 22 2 = 0 && zeroAt k.bytes 32 32 && 1 ≤ fld k.bytes 12 4 && zeroAt k.bytes (imgBody k.bytes + 4) 4 &&
    (imgDir k.bytes).all fun d => d.version = 1 && d.flags < 2 && zeroAt k.bytes (d.offset + d.length) ((8 - d.length % 8) % 8)

/-- GLOBAL (R56). -/
def global (k : Chk) : Bool :=
  let g := k.sect 0x01
  g.length = 32 && within (fld g 0 1) 2 128 && fld g 1 1 = 0 && fld g 2 2 ≠ 0 && zeroAt g 4 4 && zeroAt g 24 8

/-- LANDINGS (R57): one record per landing. -/
def landings (k : Chk) : Bool :=
  let ls := k.m.landings
  (k.sect 0x02).length = 16 * fld (k.sect 0x01) 0 1 &&
  ((recsOf 16 (k.sect 0x02)).all fun r =>
    within (fld r 4 2) 100 3000 && fld r 6 1 < 4 && fld r 7 1 ≤ 15 && zeroAt r 12 4) &&
  (ls.head?.any fun l => l.level == 0) && (ls.zip (ls.drop 1)).all fun p => decide (p.1.level + 2000 ≤ p.2.level)

/-- Served levels of a car. -/
def levels (k : Chk) (c : Fin 16) : List Int := (k.m.servedLandings c).map k.m.level

/-- CARS (R58): one record per present car, in car order. -/
def cars (k : Chk) : Bool :=
  let rs := recsOf 64 (k.sect 0x03)
  (k.sect 0x03).length = 64 * k.m.presentCars.length && rs.map (fld · 0 1) == k.m.presentCars.map (·.val) &&
  rs.all fun r =>
    let c := readCar r
    fld r 1 1 < 4 && within c.capacity 320 5000 && within c.ratedSpeed 2500 180000 &&
    decide (fld r 8 16 < 2 ^ k.m.landings.length) && decide (fld r 24 16 < 2 ^ k.m.landings.length) && (c.rear || fld r 24 16 = 0) &&
    (k.levels c.car).all (fun x => decide (x < c.topLimit) && decide (c.bottomLimit < x)) && within c.frontWidth 600 2500 &&
    within c.frontMass 100 6000 &&
    (if c.rear then within c.rearWidth 600 2500 && within c.rearMass 100 6000 else c.rearWidth = 0 && c.rearMass = 0) && zeroAt r 56 8

/-- ZONES (08 R270). -/
def zones (k : Chk) : Bool :=
  recCount (k.sect 0x05) 32 0 16 &&
  (recsOf 32 (k.sect 0x05)).all fun r =>
    let z := readZone r
    z.zone ≤ 15 && zeroAt r 1 3 && zeroAt r 20 12 &&
    (idx 4).all fun p =>
      z.cars.get p ≠ 0 && (z.cars.get p &&& ~~~ k.m.carMask) = 0 && z.parkCount.get p ≤ 16 &&
      (if z.park.get p = 0xFF then z.parkCount.get p = 0 else (k.m.landings[z.park.get p]?).any (·.zone = z.zone))

/-- The SSI fields of a PORTS record (03 R104). -/
def ssiOk (p : PortRec) : Bool :=
  within p.ssiBits 8 32 && within p.posBits 8 31 && within p.rate 10 200 && p.posLsb + p.posBits ≤ p.ssiBits &&
  (!p.errEn || (p.errPos < p.ssiBits && (p.errPos < p.posLsb || p.posLsb + p.posBits ≤ p.errPos))) &&
  (p.ssiBits + 2) * 10000 + p.delay * p.rate ≤ 22000 * p.rate

/-- PORTS (03 R118). -/
def ports (k : Chk) : Bool :=
  (k.sect 0x06).length = 1536 &&
  ((recsOf 32 (k.sect 0x06)).all fun r =>
    let p := readPort r
    p.mode ≤ 4 && !bitAt r 1 7 && !(p.htl && p.mode = 4) && within p.tstop 4 250 && p.role ≤ 4 && ((p.mode = 4) == (p.role = 2)) &&
    ((p.car = 0xFF) == (p.role = 0)) && (p.car = 0xFF || k.isCar p.car) && p.supply ≤ 2 && fld r 8 1 < 8 &&
    (if p.mode = 4 then ssiOk p else zeroAt r 7 6) && zeroAt r 14 2 &&
    (if p.role = 0 then p.scale == 0 else within p.scale 1 0x7FFFFFFF) && (p.role = 2 || p.zero == 0) &&
    (if 1 ≤ p.mode && p.mode ≤ 3 then within p.idxWin 1 0xFFFFFF else p.idxWin = 0) && zeroAt r 28 4) &&
  (idx 48).all fun n => (k.m.ports.get n).supply = (k.m.ports.get ⟨8 * (n.val / 8), by omega⟩).supply

/-- Pair roles (12 R397). -/
def pairRole (r : Nat) : Bool := 4 ≤ r && r ≤ 7

/-- POLDERS (12 R396). -/
def polders (k : Chk) : Bool :=
  let rs := recsOf 16 (k.sect 0x07)
  (k.sect 0x07).length = 1536 &&
  (List.range 96).all fun i =>
    let r := rs.getD i []
    let role := fld r 0 1
    let out := 0x40 ≤ role
    (role ≤ 0x15 || (0x40 ≤ role && role ≤ 0x46)) && fld r 2 1 < 8 && (!bitAt r 2 2 || role = 0x46) && zeroAt r 12 4 &&
    (if out then fld r 2 1 % 4 = 0 && fld r 3 1 = 0 && fld r 5 1 ≤ 7 && zeroOr (fld r 8 1) 1 64 && within (fld r 9 1) 1 120
     else zeroOr (fld r 3 1) 1 32 && fld r 5 1 = 0 && fld r 8 1 = 0 && fld r 9 1 = 0) &&
    (if pairRole role then fld r 4 1 < 96 && zeroOr (fld r 6 2) 10 500 && fld r 6 2 = fld (rs.getD (fld r 4 1) []) 6 2
     else fld r 4 1 = 0xFF && fld r 6 2 = 0) &&
    (if i % 8 = 0 then zeroOr (fld r 10 1) 5 40 else fld r 10 1 = 0) && (if i = 0 then zeroOr (fld r 11 1) 10 255 else fld r 11 1 = 0)

/-- NODES (R59, 08 R293, 11 R366). -/
def nodes (k : Chk) : Bool :=
  let rs := recsOf 96 (k.sect 0x08)
  recCount (k.sect 0x08) 96 1 512 && (rs.map (fld · 8 4)).Nodup &&
  rs.all fun r =>
    let n := readNode r
    within (fld r 0 1) 1 6 && fld r 1 1 ≤ 11 && (n.cls = .lfn || fld r 1 1 ≤ 3) &&
    (k.isCar n.car || (n.car = 0xFF && (n.cls = .lfn || n.cls = .wit))) && (if n.cls = .don then n.side ≤ 1 else n.side = 0xFF) &&
    fld r 6 2 < 2 && within n.watchdog 4 100 && zeroAt r 14 2 && zeroAt r 80 16 && curvePoint n.pubkey &&
    !(n.bus.val < 4 && n.addr.toNat % 16 = 15) && !(n.safety && 4 ≤ n.bus.val)

/-- A hoist record (05 R152, 04 R126). -/
def hoist (r : List Byte) : Bool :=
  let h := readHoist r
  within h.accel 1000 15000 && within h.decel 1000 15000 && within h.jerk 1000 25000 && within h.brakeLift 5 100 &&
  within h.brakeDrop 5 100 && within h.posTolFine 5 100 && within h.posTolCoarse 50 1000 && decide (h.posTolFine < h.posTolCoarse) &&
  within h.absJump 10 500 && within h.absBridge 8 400 && within h.slipBase 20 2000 && within h.slipPermille 1 50 &&
  within h.corrSpeed 200 3000 && within h.refSpeed 1000 5000 && within h.relevelStart 30 200 && within h.relevelStop 10 100 &&
  decide (h.relevelStop < h.relevelStart) && within h.relevelSpeed 20 3000 && within h.learnSpeed 1000 5000

/-- A door record (05 R153) of a side with a clear opening width [mm]. -/
def door (r : List Byte) (width : Nat) : Bool :=
  let d := readDoor r
  within d.openPos 1000 25000 && decide (d.openPos ≤ 10 * width) && within d.vOpen 500 10000 && within d.vClose 500 10000 &&
  within d.accel 1000 30000 && within d.decel 1000 30000 && within d.jerk 5000 65535 && within d.revDecel 5000 40000 &&
  decide (d.decel ≤ d.revDecel) && within d.refSpeed 200 2000 && within d.nudgeSpeed 200 3000 && within d.qsRise 100 5000 &&
  within d.qsFall 100 5000 && decide (d.qsFall < d.qsRise) && fld r 22 2 = 1 && zeroAt r 24 8

/-- Axis `i` of 48 is fitted: a present car's hoist, or a door that exists. -/
def fitted (k : Chk) (i : Fin 48) : Bool :=
  if i.val < 16 then k.m.present (State.laneCar i) else k.m.sideFitted (State.laneCar i) (State.sideNo (State.laneSide i))

/-- PROFILES (05 R152, R153). -/
def profiles (k : Chk) : Bool :=
  let bs := k.sect 0x09
  bs.length = 1536 &&
  (idx 48).all fun i =>
    let r := slice bs (32 * i.val) 32
    if !k.fitted i then zeroAt r 0 32
    else if i.val < 16 then hoist r
    else door r ((k.m.car? (State.laneCar i)).elim 0 fun c => if State.sideNo (State.laneSide i) = 0 then c.frontWidth else c.rearWidth)

/-- One segment of a user table (05 R175) in exact integers: start values, direction of travel, cap and limits. -/
def segOk (p0 v0 sg cap acc dec jerk : Int) (g : Seg) : Bool :=
  let n : Int := 1000000
  let d : Int := g.dur
  let c2 := 3 * (g.endPos - p0) * n - d * (2 * v0 + g.endVel)
  let c3 := -2 * (g.endPos - p0) * n + d * (v0 + g.endVel)
  let accOk (a : Int) : Bool := within (2 * sg * a * n) (-dec * d * d) (acc * d * d)
  let inner := c3 ≠ 0 && (if 0 < c3 then within (-c2) 1 (3 * c3 - 1) else within c2 1 (-3 * c3 - 1))
  let den := 3 * c3 * d
  let num := v0 * den - c2 * c2
  let peak := if 0 < den then within (sg * num) 0 (cap * den) else within (-(sg * num)) 0 (cap * -den)
  within g.dur 1 60000000 && within (sg * v0) 0 cap && within (sg * g.endVel) 0 cap && (!inner || peak) && accOk c2 &&
    accOk (c2 + 3 * c3) && decide ((6 * c3 * n * n).natAbs ≤ (jerk * d * d * d).natAbs)

/-- The segments of a table, from a start position and velocity. -/
def segsOk (sg cap acc dec jerk : Int) : Int → Int → List Seg → Bool
  | _, _, [] => true
  | p, v, g :: gs => segOk p v sg cap acc dec jerk g && segsOk sg cap acc dec jerk g.endPos g.endVel gs

/-- A user table (05 R174, R175). -/
def table (k : Chk) (raw : List Byte) : Bool :=
  let t := readTable raw
  let c := carOf t.car
  let d : Fin 32 := ⟨16 * (t.side % 2) + c.val, by omega⟩
  let h := k.m.hoists.get c
  let r := k.m.doors.get d
  let travel : Int := if t.kind = 1 then k.m.level t.landing - k.m.level t.from_ else if t.kind = 2 then r.openPos else -r.openPos
  let stop : Int := if t.kind = 1 then travel else if t.kind = 2 then r.openPos else 0
  let total := (t.segs.map (·.dur)).sum
  within t.kind 1 3 && k.isCar t.car && k.sideServes t.car t.side t.landing &&
  (if t.kind = 1 then k.carServes t.car t.from_ && t.from_ ≠ t.landing else t.from_ = 0xFF) &&
  within (fld raw 5 1) 1 32 && zeroAt raw 6 2 && zeroAt raw 12 4 && (t.startPos == if t.kind = 3 then r.openPos else 0) &&
  total ≤ (if t.kind = 1 then 300000000 else 30000000) && (t.segs.getLast?.any fun g => g.endVel == 0 && g.endPos == stop) &&
  (if t.kind = 1 then segsOk (sgn travel) ((k.m.car? c).elim 0 (·.ratedSpeed)) h.accel h.decel h.jerk t.startPos 0 t.segs
   else segsOk (sgn travel) (doorCap k.m d (t.kind = 3) .normal) r.accel r.decel r.jerk t.startPos 0 t.segs)

/-- TABLES (05 R174): whole tables, at most 1,024. -/
def tables (k : Chk) : Bool :=
  let p := cutTables 1024 (k.sect 0x0A)
  p.2.isEmpty && p.1.all k.table

/-- FORCE_MAPS (07 R237). -/
def maps (k : Chk) : Bool :=
  (k.sect 0x0B).length % 132 = 0 &&
  (recsOf 132 (k.sect 0x0B)).all fun r =>
    k.sideServes (fld r 0 1) (fld r 1 1) (fld r 2 1) && zeroOr (fld r 3 1) 20 100 && (readMap r).f.all (within · (-1500) 1200)

/-- DOOR_TIMES (08 R274). -/
def times (k : Chk) : Bool :=
  (k.sect 0x0C).length % 8 = 0 &&
  (recsOf 8 (k.sect 0x0C)).all fun r =>
    k.sideServes (fld r 0 1) (fld r 1 1) (fld r 2 1) && fld r 3 1 = 0 && within (fld r 4 2) 300 20000 && within (fld r 6 2) 300 20000

/-- DISPATCH (08 R277). -/
def dispatch (k : Chk) : Bool :=
  let r := k.sect 0x0D
  let d := k.m.dispatch
  r.length = 80 && d.patternDefault ≤ 3 && fld r 1 1 < 4 && within d.startDelay 0 5000 && within d.dwellHall 1000 20000 &&
  within d.dwellCar 1000 20000 && within d.dwellAccess 2000 30000 && within d.doorOpenDef 300 20000 && within d.doorCloseDef 300 20000 &&
  within d.paxMass 50 120 && within d.hallPax 1 16 && within d.lanternLead 0 30000 && d.parkDelay ≤ 600 && d.swapBudget ≤ 36000 &&
  within d.longWait 10000 300000 && within d.loadFull 50 100 && zeroAt r 29 3

/-- A recall landing (09 R303). -/
def recallOk (k : Chk) (c l : Nat) : Bool := k.carServes c l && (k.m.landings[l]?).any (·.fireRecall)

/-- MODE_POLICY (09 R303): one record per present car, in car order. -/
def policies (k : Chk) : Bool :=
  let rs := recsOf 16 (k.sect 0x0E)
  (k.sect 0x0E).length = 16 * k.m.presentCars.length && rs.map (fld · 0 1) == k.m.presentCars.map (·.val) &&
  rs.all fun r =>
    let c := fld r 0 1
    let rated : Int := (k.m.car? (carOf c)).elim 0 (·.ratedSpeed)
    let allow : BitVec 16 := BitVec.ofNat 16 (fld r 2 2)
    fld r 1 1 < 16 && (allow &&& ~~~ (0x084E : BitVec 16)) = 0 && (!allow.getLsbD 6 || fld r 8 1 ≠ 0xFF) && zeroOr (fld r 4 2) 50 1200 &&
    k.recallOk c (fld r 6 1) && (fld r 7 1 = 0xFF || (k.recallOk c (fld r 7 1) && fld r 7 1 ≠ fld r 6 1)) &&
    (fld r 8 1 = 0xFF || k.carServes c (fld r 8 1)) && fld r 9 1 = 0 && zeroOr (fld r 10 2) 500 6300 &&
    zeroOr (fld r 12 2) 2500 rated && zeroOr (fld r 14 2) 1000 rated

/-- One GAINS record (06 R189) of lane `i`. -/
def gain (k : Chk) (i : Fin 48) (r : List Byte) : Bool :=
  let g := readGain r
  let car := k.m.car? (State.laneCar i)
  let rated : Int := car.elim 0 (·.ratedSpeed)
  let d := k.m.doors.get (State.laneSide i)
  let used (j : Nat) : Bool := (List.range 4).any fun q => g.regionMap.toNat / 4 ^ q % 4 = j
  g.kind = (if k.fitted i then (if i.val < 16 then 1 else 2) else 0) &&
  (if g.kind = 0 then zeroAt r 0 96
   else
    within g.corrMax 100 20000 && within g.iMax 0 g.corrMax && within g.feLimit 50 5000 && zeroAt r 26 2 &&
    (if g.kind = 1 then
      within (10 * g.uMax) (10 * rated) (11 * rated) && within g.regA 50 5000 && within g.regB 100 50000 && within g.p1 0 0x10000 &&
      within g.p2 0 0x10000 && (car.any (·.loadWeigh) || g.p2 == 0) && within g.p3 0 (car.elim 0 (·.capacity)) && g.p4 == 0
     else
      within g.uMax (max d.vOpen d.vClose) 20000 && within g.regA 500 d.openPos && g.regB == 0 && within g.p1 0x1000 0x640000 &&
      within g.p2 0x1000 0x640000 && within g.p3 0 2000 && within g.p4 0 0xC80000) &&
    (List.range 4).all fun j =>
      let x := readSet r j
      if used j then within x.kvf 0 0x20000 && within x.kp 0 0x640000 && within x.ki 0 0x100000 && within x.kd 0 0x40000
      else zeroAt r (32 + 16 * j) 16)

/-- GAINS (06 R189). -/
def gains (k : Chk) : Bool :=
  (k.sect 0x0F).length = 4608 && (idx 48).all fun i => k.gain i (slice (k.sect 0x0F) (96 * i.val) 96)

/-- INSTALLER_KEY (R60). -/
def key (k : Chk) : Bool :=
  let r := k.sect 0x10
  r.length = 72 && curvePoint (r.take 64) && fld r 64 4 ≠ 0 && zeroAt r 68 4

/-- One BUSES record (13 R423, R425) of channel `n`; rates in whole fractions of 80 MHz. -/
def bus (n : Nat) (r : List Byte) : Bool :=
  let b := readBus r
  let nom := b.nbrp * (1 + b.ntseg1 + b.ntseg2)
  let dat := b.dbrp * (1 + b.dtseg1 + b.dtseg2)
  !bitAt r 0 7 && fld r 1 1 < 4 && zeroAt r 11 5 &&
  (!b.en ||
    (b.boff ≤ 2 && (!b.brs || b.fd) &&
    (if b.auto then !b.brs && zeroAt r 2 9
     else
      within b.nbrp 1 255 && within b.ntseg1 2 255 && within b.ntseg2 2 128 && within b.nsjw 1 b.ntseg2 &&
      decide (80000 ≤ 1000 * nom) && decide ((if n < 4 then 125 else 10) * nom ≤ 80000) &&
      (if b.brs then
        within b.dbrp 1 8 && within b.dtseg1 1 31 && within b.dtseg2 1 16 && within b.dsjw 1 b.dtseg2 && b.tdcOffset ≤ 127 &&
        dat ≤ nom && decide (80000 ≤ 8000 * dat)
       else zeroAt r 6 5)) &&
    (if n < 4 then b.fd && !b.auto && !b.txq && !b.txord && !b.raw else true)))

/-- BUSES (13 R423). -/
def buses (k : Chk) : Bool :=
  (k.sect 0x11).length = 192 && (List.range 12).all fun n => bus n (slice (k.sect 0x11) (16 * n) 16)

/-- Every check whose code is RANGE. -/
def range (k : Chk) : Bool :=
  k.header && k.global && k.landings && k.cars && k.zones && k.ports && k.polders && k.nodes && k.profiles && k.tables && k.maps &&
    k.times && k.dispatch && k.policies && k.gains && k.key && k.buses

/-! CONSISTENCY. -/

/-- Nodes of a class bound to a car. -/
def nodesOf (k : Chk) (c : Fin 16) (cls : NodeClass) : List NodeRec := k.m.nodes.filter fun n => n.cls = cls && n.car = c.val

/-- The nodes of R63: one HDV and one CTN, a door operator for each side that exists, every car-bound node on its car's bus. -/
def carNodes (k : Chk) : Bool :=
  (k.m.presentCars.all fun c =>
    (k.nodesOf c .hdv).length = 1 && (k.nodesOf c .ctn).length = 1 && ((k.nodesOf c .don).filter (·.side = 0)).length = 1 &&
    ((k.nodesOf c .don).filter (·.side = 1)).length = b2n (k.m.rearFitted c)) &&
  k.m.nodes.all fun n => n.car = 0xFF || n.bus.val = n.car / 4

/-- Two nodes do not claim one address (R63): on a privileged bus the nibble of a car, on a fixture bus the address. -/
def nodeAddrs (k : Chk) : Bool :=
  (k.m.nodes.map fun n =>
    if n.bus.val < 4 then (n.bus.val, n.car, n.addr.toNat % 16) else (n.bus.val, 0, n.addr.toNat % 2 ^ 14)).Nodup

/-- Safety flags of the node classes (05 R179, 07 R226, 11 R366). -/
def nodeFlags (k : Chk) : Bool := k.m.nodes.all fun n => n.safety || n.cls = .lfn || n.cls = .wit

/-- Ports of a car with a role. -/
def portsOf (k : Chk) (c : Fin 16) (role : Nat) : List PortRec :=
  ((idx 48).map k.m.ports.get).filter fun p => p.role = role && p.car = c.val

/-- The position sources of a car (04 R125, R63). -/
def position (k : Chk) (c : Fin 16) : Bool :=
  let one := k.portsOf c 1
  let r := k.m.car? c
  one.length = 1 && (one.all fun p => 1 ≤ p.mode && p.mode ≤ 3 && decide (65536 * (k.m.hoists.get c).posTolCoarse ≤ p.idxWin * p.scale)) &&
  (k.portsOf c 2).length ≤ 1 && (k.portsOf c 3).length ≤ 1 && (k.portsOf c 4).length ≤ 1 &&
  (!(k.portsOf c 2).isEmpty || (k.m.servedLandings c).all k.m.magnet) &&
  (r.all fun r => (k.m.servedLandings c).all fun l =>
    decide (k.m.level l + k.m.dzHalf l + 1500 ≤ r.topLimit) && decide (r.bottomLimit ≤ k.m.level l - k.m.dzHalf l - 1500))

/-- Channels of a car with a role. -/
def chs (k : Chk) (c : Nat) (role : Nat) : List (Fin 96) :=
  (idx 96).filter fun i => (k.m.polders.get i).role = role && (k.m.polders.get i).car = c

/-- Car roles (12 R397). -/
def carRoles : List Nat := [0x01, 0x02, 0x03, 0x08, 0x0A, 0x0B, 0x0C, 0x0D, 0x0E, 0x0F, 0x10, 0x40, 0x41, 0x42, 0x43, 0x44, 0x45]

/-- Group roles (12 R397). -/
def groupRoles : List Nat := [0x09, 0x11, 0x12, 0x13, 0x14]

/-- The budget of a polder [10 mA]. -/
def budget (k : Chk) (p : Fin 12) : Nat := (k.m.polders.get ⟨8 * p.val, by omega⟩).budget * 10

/-- The polder of a channel. -/
def polder (i : Fin 96) : Fin 12 := ⟨i.val / 8, by omega⟩

/-- POLDERS (12 R398). -/
def polderSet (k : Chk) : Bool :=
  ((idx 96).all fun i =>
    let r := k.m.polders.get i
    let own := carRoles.contains r.role || pairRole r.role
    (if own then k.isCar r.car else if groupRoles.contains r.role then k.isCar r.car || r.car = 0xFF else r.car = 0xFF) &&
    (!(1 ≤ r.role && r.role ≤ 0x0F) || r.wbEn) &&
    (!pairRole r.role || (if h : r.partner < 96 then
      let q := k.m.polders.get ⟨r.partner, h⟩
      q.role = r.role && q.car = r.car && q.partner = i.val && r.partner ≠ i.val else false)) &&
    r.inrush ≤ k.budget (polder i)) &&
  (k.m.presentCars.all fun c =>
    carRoles.all (fun x => (k.chs c.val x).length ≤ 1) && [4, 5, 6, 7].all (fun x => [0, 2].contains (k.chs c.val x).length) &&
    groupRoles.all (fun x => (k.chs c.val x).length ≤ 1) &&
    (match k.chs c.val 0x42, k.chs c.val 0x43 with
     | [a], [b] => polder a ≠ polder b || (k.m.polders.get a).inrush + (k.m.polders.get b).inrush ≤ k.budget (polder a)
     | _, _ => true)) &&
  groupRoles.all (fun x => (k.chs 0xFF x).length ≤ 1) && (idx 12).all fun p => k.budget p ≤ (k.m.polders.get 0).modBudget * 10

/-- The levee's sources of a car (10 R324) and the position inputs of 04 R125. -/
def sources (k : Chk) (c : Fin 16) : Bool :=
  let has (x : Nat) : Bool := !(k.chs c.val x).isEmpty
  let rear := k.m.rearFitted c
  let ptn := !(k.nodesOf c .ptn).isEmpty
  has 0x01 && has 0x02 && has 0x03 && (has 0x04 || ptn) && (!rear || has 0x05 || ptn) && (rear || !has 0x05) && has 0x0A && has 0x40 &&
  has 0x41

/-- Every entry of FORCE_MAPS, DOOR_TIMES and TABLES names a landing that its side serves (R63); no table comes twice (05 R175). -/
def entries (k : Chk) : Bool :=
  (k.m.maps.all fun x => k.sideServes x.car x.side x.landing) && (k.m.times.all fun x => k.sideServes x.car x.side x.landing) &&
  (k.m.tables.all fun x => k.sideServes x.car x.side x.landing) &&
  (k.m.tables.map fun x => (x.kind, x.car, x.side, x.landing, x.from_)).Nodup && (k.m.zones.map (·.zone)).Nodup

/-- A hoist respects RATED_SPEED (R63, 05 R154), and every served landing lies between the limits. -/
def rated (k : Chk) (c : Fin 16) : Bool :=
  let h := k.m.hoists.get c
  match k.m.car? c with
  | none => false
  | some r =>
    decide (h.corrSpeed ≤ r.ratedSpeed) && decide (h.refSpeed ≤ r.ratedSpeed) && decide (h.relevelSpeed ≤ r.ratedSpeed) &&
    decide (h.learnSpeed ≤ r.ratedSpeed) && (k.levels c).all fun x => decide (r.bottomLimit ≤ x) && decide (x ≤ r.topLimit)

/-- The WIT records (15 R489, R506, R63): none in standalone role, else three, the module's own carrying its identity. -/
def witness (k : Chk) : Bool :=
  let ws := k.m.nodes.filter (·.cls = .wit)
  let own (a : Nat) : Bool := ws.any fun n => n.addr.toNat = a && n.nodeId = Config.moduleId && n.pubkey = Config.modPubkey
  if k.role = 3 then ws.isEmpty
  else
    ws.length = 3 && [0, 1, 2].all (fun a => (ws.filter (·.addr.toNat = a)).length = 1) &&
    (ws.all fun n => n.bus = 0 && n.car = 0xFF && n.safety && (n.addr ≠ 0 || 12 ≤ n.watchdog)) &&
    own (if k.role = 0 then 1 else if k.role = 1 then 2 else 0) && (k.m.buses.get 0).en && (k.m.buses.get 1).en

/-- Buses that are named or needed are enabled (13 R425). -/
def busUse (k : Chk) : Bool :=
  (k.m.nodes.all fun n => (k.m.buses.get n.bus).en && (k.m.buses.get n.bus).fd) &&
  k.m.presentCars.all fun c => (k.m.buses.get (State.carBus c)).en

/-- Every check whose code is CONSISTENCY. -/
def consistent (k : Chk) : Bool :=
  k.carNodes && k.nodeAddrs && k.nodeFlags && (k.m.presentCars.all fun c => k.position c && k.sources c && k.rated c) && k.polderSet &&
    k.entries && k.witness && k.busUse

/-- The RETIRED check: no port, polder channel or bus that the image uses is retired. -/
def retiredFree (k : Chk) (r : List TestUnit) : Bool :=
  r.all fun u => match u with
    | .port n => (k.m.ports.get n).role = 0 && (k.m.ports.get n).mode = 0
    | .channel i => (k.m.polders.get i).role = 0
    | .bus n => !(k.m.buses.get n).en
    | _ => true

/-- Stage 5 (R62): the code of the first group in which a check fails. -/
def stage5 (k : Chk) (r : List TestUnit) : Option Nat :=
  if !k.range then some 0x08 else if !k.consistent then some 0x09 else if !k.retiredFree r then some 0x0A else none

end Chk

end Sys2Proof.Machine
end

