-- ==== Sys2Proof/Machine/Image.lean ====
section
/-! DEFINITION. The image store (02): the stages of verification, the pending image, its application, and the model loaded at
start-up. -/

namespace Sys2Proof.Machine

/-- Rejection codes of R62 that more than one place gives. -/
def rejPeer : Nat := 0x0C

/-- Offset of a section's end with its padding. -/
def padEnd (d : DirEntry) : Nat := (d.offset + d.length + 7) / 8 * 8

/-- Stage 1, the container (R51 to R55): FORMAT or DIRECTORY. -/
def stage1 (bs : List Byte) : Option Nat :=
  let n := imgCount bs
  let dir := imgDir bs
  let first := 64 + 16 * n
  let formatOk := 200 ≤ bs.length && bs.length ≤ 8388608 && slice bs 0 4 == [0x4B, 0x56, 0x58, 0x42] && fld bs 4 2 = 1 &&
    fld bs 6 2 = 64 && fld bs 8 4 = bs.length
  let typeOk (d : DirEntry) : Bool := sectTypes.any fun t => t.1 = d.type && t.2.2 == (d.flags % 2 == 1)
  let inside (d : DirEntry) : Bool := d.offset % 8 = 0 && first ≤ d.offset && padEnd d ≤ imgBody bs
  let apart := dir.Pairwise fun a b => padEnd a ≤ b.offset ∨ padEnd b ≤ a.offset
  let rising := (dir.zip (dir.drop 1)).all fun p => p.1.type < p.2.type
  let dirOk := 12 ≤ n && n ≤ 16 && rising && dir.all (fun d => typeOk d && inside d) && decide apart &&
    (sectTypes.filter (·.2.1)).all fun t => dir.any (·.type = t.1)
  let full := first + (dir.map fun d => padEnd d - d.offset).sum = imgBody bs
  if !formatOk then some 0x01 else if !dirOk then some 0x02 else if !full then some 0x01 else none

/-- The check values of stage 2 (R53, R54): each section's, then the trailer's. -/
def imgCrcs (bs : List Byte) : List Bool :=
  ((imgDir bs).map fun d =>
    cv (BitVec.ofNat 32 (d.type * 2 ^ 24 + (imgSeq bs).toNat % 2 ^ 24)) (slice bs d.offset d.length) == d.crc) ++
  [cv (imgGroup bs) (bs.take (imgBody bs)) == BitVec.ofNat 32 (fld bs (imgBody bs) 4)]

/-- The signature verifies under a key (R54). -/
def signedBy (key : List Byte) (bs : List Byte) : Bool := ecdsaOk key (imgDigest bs) (bs.drop (bs.length - 64))

/-- The SEAL0 sections of a model that differ from one in force (R70); all of them where none is. -/
def changedSeal (old : Option Model) (m : Model) : List Nat :=
  sealTypes.filter fun t => old.all fun o => o.sectionOf t != m.sectionOf t

/-- The SEAL0 changes of an image: against the model in force (R70), and an INSTALLER_KEY other than the enrolled one (R67). -/
def sealChanges (old : Option Model) (key : Option (List Byte × BitVec 32)) (m : Model) : List Nat :=
  let cs := changedSeal old m
  if !cs.contains 0x10 && key.any (fun k => k.1 != m.instKey || k.2 != m.keyId) then cs ++ [0x10] else cs

/-- Car of a record of a section (R71), none where it is assigned to no car. -/
def recCar (t i : Nat) (r : List Byte) : Option Nat :=
  let b (o : Nat) : Option Nat := if fld r o 1 < 16 then some (fld r o 1) else none
  if t = 0x03 || t = 0x0B || t = 0x0E then b 0
  else if t = 0x07 || t = 0x0A then b 1
  else if t = 0x06 then b 5
  else if t = 0x08 then b 2
  else if t = 0x09 || t = 0x0F then some (i % 16)
  else none

/-- The records of a SEAL0 section of a model; TABLES cut into its tables. -/
def sealRecs (m : Model) (t : Nat) : List (List Byte) :=
  let bs := (m.sectionOf t).getD []
  if t = 0x0A then (cutTables 1024 bs).1
  else recsOf (if t = 0x03 then 64 else if t = 0x07 || t = 0x0E then 16 else if t = 0x06 || t = 0x09 then 32
    else if t = 0x08 || t = 0x0F then 96 else 132) bs

/-- The cars a change of one SEAL0 section belongs to (R71); `all` stands for every present car. The records of sections whose place in
the section means nothing are compared by content, so a mere reordering belongs to no car (log 136, DESIGN CHOICE). -/
def sectCars (old new : Model) (t : Nat) (all : List Nat) : List Nat :=
  let a := sealRecs old t
  let b := sealRecs new t
  let pick (i : Nat) (rs : List (List Byte)) : List Nat :=
    match rs.filterMap (recCar t i) with
    | [] => all
    | cs => cs
  if [0x01, 0x02, 0x10, 0x11].contains t then all
  else if [0x06, 0x07, 0x09, 0x0F].contains t then
    ((List.range a.length).filter fun i => a[i]? != b[i]?).flatMap fun i => pick i [a.getD i [], b.getD i []]
  else ((a.filter (!b.contains ·)) ++ (b.filter (!a.contains ·))).flatMap fun r => pick 0 [r]

/-- The cars that the changes of some SEAL0 sections belong to (R71), as a mask. -/
def affectedCars (old : Option Model) (m : Model) (changed : List Nat) : BitVec 16 :=
  let mask := (old.elim 0 (·.carMask)) ||| m.carMask
  match old with
  | none => mask
  | some o =>
    let all := (List.range 16).filter mask.getLsbD
    let cs := changed.flatMap fun t => sectCars o m t all
    mask &&& BitVec.ofNat 16 (((List.range 16).map fun c => if cs.contains c then 2 ^ c else 0).sum)

namespace State

/-- The module has a twin (R63). -/
def twinRole (s : State) : Bool := s.seals.fixed && decide (s.seals.role.val < 2)

/-- SEQ of the model in force; 0 if none (R83). -/
def inforceSeq (s : State) : BitVec 32 := s.model.elim 0 (·.seq)

/-- IMAGE event (14 R473); `code` is the code of a rejection, else 0. -/
def imageEvent (s : State) (code : Nat) (seq : BitVec 32) (applyT2 : BitVec 32) (digest : List Byte) : State :=
  let st := match s.img.state with
    | .idle => 0 | .receiving => 1 | .verifying => 2 | .pending => 3 | .applying => 4
  s.event 3 0xFF ([BitVec.ofNat 8 st, BitVec.ofNat 8 code, 0, 0] ++ leBytes 4 seq.toNat ++ leBytes 4 applyT2.toNat ++ digest.take 4)

/-- End the LOAD_IMAGE command in execution. -/
def finishLoad (s : State) (st : CplStatus) (code : Nat) (result : BitVec 32 := 0) : State :=
  match s.hi.running.find? (·.e.opcode = 0x10) with
  | some r => s.finish r.e st code result
  | none => s

/-- The standby's answer to the active's image is owed (R77): VERIFIED as code 0 or the reject code, and the digest (log 61). -/
def oweAnswer (s : State) (code : Nat) (digest : List Byte) : State :=
  s.updTw fun t => { t with imgOwe := t.imgOwe ++ [(0xFFFFFFFF, leBytes 4 code ++ pad 32 digest)] }

/-- The image in hand is rejected and discarded, from its configuration slot too (R62): the completion is REFUSED for the stages that
judge the image, FAILED for what comes after them. The standby owes its answer to an image of the active (R77). -/
def rejectImage (s : State) (code : Nat) : State :=
  let p := s.img.pending
  let bs := (s.img.work.map (·.1)).getD []
  let peer := s.img.work.any (·.2 = .peer)
  let s := s.updImg fun i =>
    { i with state := .idle, reject := BitVec.ofNat 8 code, work := none, pending := none, linkBuf := [], linkLen := 0,
             slots := p.elim i.slots fun p => i.slots.put p.slot none }
  let s := if peer then s.oweAnswer code (imgDigest bs) else s
  let s := s.imageEvent code (p.elim (imgSeq bs) (·.model.seq)) 0 (p.elim (imgDigest bs) (·.model.digest))
  s.finishLoad (if code ≤ 0x0A then .refused else .failed) code

/-- Stages 1 to 5 over an image (R62): the code of the first failure. -/
def verifyCode (s : State) (bs : List Byte) (from_ : ImgOrigin) : Option Nat :=
  match stage1 bs with
  | some c => some c
  | none =>
    let m := readModel bs
    let key := (s.img.key.map (·.1)).getD m.instKey
    let changed := sealChanges s.model s.img.key m
    let sealed := if from_ = .sync then s.img.key.isNone else s.img.key.isNone || !changed.isEmpty
    if !s.cvUsable 12 || (imgCrcs bs).contains false then some 0x03
    else if !signedBy key bs then some 0x04
    else if s.model.any (·.groupId ≠ m.groupId) then some 0x05
    else if from_ ≠ .sync && decide (m.seq.toNat ≤ s.inforceSeq.toNat) then some 0x06
    else if sealed && !s.seal0 then some 0x07
    else Chk.stage5 { bytes := bs, m := m, role := s.seals.role } s.fc.retired

/-- The configuration slot an image is written to (R64). -/
def slotFor (s : State) : Fin 4 :=
  match (idx 4).find? fun k => (s.img.slots.get k).isNone with
  | some k => k
  | none =>
    let others := (idx 4).filter fun k => s.model.isNone || k ≠ s.img.inforce
    let seq (k : Fin 4) : Nat := ((s.img.slots.get k).map fun b => (imgSeq b).toNat).getD 0
    (firstMin (fun a b => decide (seq a < seq b)) others).getD 0

/-- An image has passed stage 6 (R64, R76, R77): it is pending. The active of a pair sends it to its standby first; a standby waits for
the boundary A of the active's image; a module of a twin role outside ACTIVE, to which R77 gives no peer, applies a host's image alone
as under R76 (log 137, DESIGN CHOICE). -/
def makePending (s : State) (bs : List Byte) (from_ : ImgOrigin) (k : Fin 4) : State :=
  let m := readModel bs
  let alone := from_ = .host && !(s.mod = .active && s.twinRole && s.tw.peer)
  let changed := sealChanges s.model s.img.key m
  let p : PendingImg :=
    { model := m, slot := k, changed := changed, cars := affectedCars s.model m changed,
      applyT2 := if from_ = .sync then some (s.tick.t2 + 1) else if alone then some (s.tick.t2 + 2) else none,
      waited := 0, origin := from_, peerOk := alone || from_ ≠ .host }
  let s := s.updImg fun i => { i with state := .pending, work := none, pending := some p, slots := i.slots.put k (some bs) }
  let s := s.imageEvent 0 m.seq ((p.applyT2).getD 0) m.digest
  let s := if from_ = .peer then s.oweAnswer 0 m.digest else s
  if from_ = .host && !alone then s.updTw fun t => { t with imgTx := some 0 } else s

/-- IMAGE_VERIFIED (R62, R64): verification of the image in hand is over, which it is not while derating pauses the transfer from the
host (17 R573); `flashOk` tells whether stage 6 could write it. -/
def imageVerified (s : State) (flashOk : Bool) : State :=
  match s.img.state, s.img.work with
  | .verifying, some (bs, from_) =>
    if s.pwr.derate && from_ = .host then s
    else
      let code := s.verifyCode bs from_
      let s := if (stage1 bs).isNone then s.each (imgCrcs bs) fun s ok => s.useCv 12 ok else s
      match code with
      | some c => s.rejectImage c
      | none => if flashOk then s.makePending bs from_ s.slotFor else s.rejectImage 0x0B
  | _, _ => s

/-- The boundary A = T2CNT + 2 of a pending image is chosen; with a standby it is sent there (R77, log 61). -/
def chooseA (s : State) (p : PendingImg) (tell : Bool) : State :=
  let a := s.tick.t2 + 2
  let s := s.updImg fun i => { i with pending := some { p with peerOk := true, applyT2 := some a } }
  if tell then s.updTw fun t => { t with imgOwe := t.imgOwe ++ [(0xFFFFFFFF, leBytes 4 a.toNat ++ leBytes 4 p.model.seq.toNat)] } else s

/-- The standby learns A for the image it has verified (R77). -/
def learnA (s : State) (a seq : BitVec 32) : State :=
  s.updImg fun i => { i with pending := i.pending.map fun p => if p.origin = .peer && p.model.seq = seq then { p with applyT2 := some a } else p }

/-- PEER_VERIFY_RESULT (R77, R78): the standby's answer to the pending image. -/
def peerVerifyResult (s : State) (code : BitVec 8) (digest : List Byte) : State :=
  match s.img.pending with
  | none => s
  | some p =>
    if p.origin ≠ .host || p.peerOk || s.mod ≠ .active then s
    else if code = 0 && digest == p.model.digest then s.chooseA p true
    else s.rejectImage rejPeer

/-- The link to a standby that has not answered is lost (R78), or the module is no longer the active: it goes on alone. -/
def pendingAlone (s : State) : State :=
  match s.img.pending with
  | some p =>
    if p.origin = .host && !p.peerOk && (!s.tw.peer || s.mod ≠ .active) then s.chooseA p false else s
  | none => s

/-! Application (R71 to R76). -/

/-- A car starts in M3 (09 R320) with its start-up tests (10 R359). -/
def startCar (s : State) (c : Fin 16) : State :=
  let md := s.modes.get c
  let s := (s.dropM5 c).updMode c fun md =>
    { md with mode := 3, sub := 0, fresh := true, entryT0 := s.tick.t0, tookTgt := false, opened := false, evac := none, holdRun := 0, changes := if md.mode = 3 then md.changes else md.changes + 1 }
  let s := if md.mode = 3 then s else s.modeEvent c md.mode 3 4
  (s.updLv c fun l => { l with modeLv := 3, illegal := false }).startTests c

/-- The conditions of R72 on the cars of a change. -/
def carsReady (s : State) (p : PendingImg) : Bool :=
  match s.model with
  | none => true
  | some m =>
    p.changed.isEmpty ||
      (s.seal0 && m.presentCars.all fun c =>
        !p.cars.getLsbD c || (s.carStill m c && s.hoistIdle c && s.doorsClosed m c && [3, 9, 11].contains (s.modes.get c).mode))

/-- A port takes its record (03 R118): one whose record is unchanged goes on. -/
def applyPort (s : State) (old : Option Model) (m : Model) (n : Fin 48) : State :=
  let r := m.ports.get n
  if old.any fun o => o.ports.get n = r then s
  else
    let pend := (s.ports.get n).commit.isSome
    let s := s.loadPort n r
    let s := if pend then s.updPort n fun p => { p with flags := { p.flags with commitErr := true } } else s
    if h : r.car < 16 then s.updCar ⟨r.car, h⟩ fun cp => { cp with counts := [], secPrev := none } else s

/-- Ports, supplies and buses take the records of a new model (03 R118, R74). -/
def loadUnits (s : State) (old : Option Model) (m : Model) : State :=
  ((s.each (idx 48) fun s n => s.applyPort old m n).each (idx 6) fun s g => s.loadGroup m g).each (idx 12) fun s n =>
    s.applyBus (old.map fun o => o.buses.get n) n

/-- A car that a new model brings in starts with nothing known. -/
def enterCar (s : State) (old : Option Model) (m : Model) (c : Fin 16) : State :=
  if m.present c && !(old.any fun o => o.present c) then s.updCar c fun _ => { CarPos.zero with startUp := true } else s

/-- The holds that a new model ends, and the host's requests it no longer allows (R74). -/
def freeCar (s : State) (m : Model) (c : Fin 16) : State :=
  let allow := (m.policy? c).elim 0 (·.hostAllow)
  ((s.endLearnDoors c .aborted).updCar c fun cp => { cp with holds := { cp.holds with slip := false, relevel := false, door := false } }).updMode c
    fun md => { md with host := md.host &&& allow.setWidth 12 }

/-- A side's hold ends with a new model (R74). -/
def freeSide (s : State) (d : Fin 32) : State :=
  s.updSide d fun x => if x.held then { x with held := false, timer := none, stopRev := 0, nudgeRev := 0 } else x

/-- A model takes the place of the one before (R74, R75): every section in one step. -/
def installModel (s : State) (m : Model) (cars : BitVec 16) : State :=
  let old := s.model
  let s := { s with conns := connsFor old s.conns m s.tick.t0, model := some m }
  let s := (s.loadUnits old m).each (idx 16) fun s c => s.enterCar old m c
  let s := (s.each (idx 16) fun s c => s.freeCar m c).each (idx 32) freeSide
  let s := s.each ((idx 32).filter fun d => !m.sideFitted (sideCar d) (sideNo d)) fun s d => s.updSide d fun _ => Side.zero
  let s := (s.updDsx fun d => { d with pattern := Fin.ofNat 4 m.dispatch.patternDefault }).cancelUnserved m
  if s.mod = .active || s.mod = .standby then s.each (m.presentCars.filter fun (c : Fin 16) => cars.getLsbD c.val) startCar else s

/-- The pending image is applied (R66, R67, R74); every injection that runs or waits ends with 0x23 (R205). -/
def applyImage (s : State) (p : PendingImg) : State :=
  let s := s.each (idx 48) fun s k => s.abortInjection k 0x23
  let s := s.updImg fun i =>
    { i with state := .idle, pending := none, inforce := p.slot, key := some (p.model.instKey, p.model.keyId), group := some p.model.groupId }
  let s := s.installModel p.model (if p.changed.isEmpty then 0 else p.cars)
  let s := s.imageEvent 0 p.model.seq s.tick.t2 p.model.digest
  s.finishLoad .done 0 p.model.seq

/-- The image's part of a T2 boundary (R72, R74, R76, R77): T2CNT has its new value. -/
def imageT2 (s : State) : State :=
  let s := s.pendingAlone
  match s.img.pending with
  | none => s
  | some p =>
    match p.applyT2 with
    | none => s
    | some a =>
      if 0 ≤ diff32 s.tick.t2 a then
        if p.origin = .sync || s.carsReady p then s.applyImage p
        else s.updImg fun i => { i with pending := some { p with waited := p.waited + 1 } }
      else s

/-- IMAGE_NOT_QUIET (R72): 1,000 T2 boundaries have found the car conditions unmet. -/
def imageNotQuiet (s : State) : State :=
  if s.img.pending.any fun p => 1000 ≤ p.waited then s.rejectImage 0x0D else s

/-- SEAL0 was found off at a T1 read (R73). -/
def sealLost (s : State) : State :=
  if s.img.pending.any fun p => p.origin ≠ .sync && !p.changed.isEmpty && !s.seal0 then s.rejectImage 0x0E else s

/-! Start-up (R79). -/

/-- A slot's image verifies at start-up under the enrolled key, and its GROUP_ID is that of the model last applied (R79, log 117). -/
def slotOk (s : State) (bs : List Byte) : Bool :=
  (stage1 bs).isNone && !(imgCrcs bs).contains false && s.img.key.any (fun k => signedBy k.1 bs) &&
    s.img.group.all (· = (readModel bs).groupId)

/-- The configuration slots at MODEL_LOAD (R79): the highest SEQ whose image verifies; a slot that fails is marked empty and
reported. Loading enrols no key: an image that was written but never applied leaves the enrolled key as it was (log 138, DESIGN
CHOICE). -/
def loadBest (s : State) : State :=
  let slots := (idx 4).filterMap fun k => (s.img.slots.get k).map fun b => (k, b)
  let good := slots.filter fun p => s.slotOk p.2
  let bad := slots.filter fun p => !s.slotOk p.2
  let s := s.each bad fun s p => (s.updImg fun i => { i with slots := i.slots.put p.1 none }).imageEvent 0 (imgSeq p.2) 0 (imgDigest p.2)
  match firstMin (fun a b => decide ((imgSeq b.2).toNat < (imgSeq a.2).toNat)) good with
  | none => s
  | some (k, bs) => (s.updImg fun i => { i with inforce := k }).installModel (readModel bs) 0

end State

/-- IMAGE_VERIFIED, R64. -/
def execImageVerified (flashOk : Bool) (s : State) : Out := .next (s.imageVerified flashOk)
/-- PEER_VERIFY_RESULT, R77. -/
def execPeerVerifyResult (code : BitVec 8) (digest : List Byte) (s : State) : Out := .next (s.peerVerifyResult code digest)
/-- IMAGE_NOT_QUIET, R72. -/
def execImageNotQuiet (s : State) : Out := .next s.imageNotQuiet

end Sys2Proof.Machine
end

