-- ==== Sys2Proof/Machine/Power.lean ====
section
/-! DEFINITION. Power, reset and start-up (17): VIN, rails and domains, the firmware slots, the state changes of the module, parked
supply groups, firmware update, temperature. -/

namespace Sys2Proof.Machine

/-- Nominal voltage of a rail of a domain in mV (R555). -/
def railNominal (d : Fin 8) (rail : Fin 7) : Option Nat :=
  match rail.val with
  | 0 => some 850
  | 1 => some 1800
  | 2 => if d.val = 1 || d.val = 7 then some 900 else none
  | _ => if d.val = 6 then some 5000 else none

/-- A rail within 5 % of its nominal value, in mV (R555). -/
def railOk (nominal mv : Nat) : Bool := 19 * nominal ≤ 20 * mv && 20 * mv ≤ 21 * nominal

/-- Order in which the domains after PD1 are switched on (R557). -/
def domainOrder : List (Fin 8) := [3, 7, 6, 2, 5, 4]

/-- Domains that a module state needs (01 R41). -/
def stateMask : ModState → BitVec 8
  | .off => 0x00
  | .boot | .standby | .active => 0xFF
  | .config => 0xCF
  | .witness => 0xCB
  | .safeHold => 0xEF
  | .update => 0x03

/-- VERSION of a firmware image (R561). -/
def fwVersion (bs : List Byte) : BitVec 32 := BitVec.ofNat 32 (fld bs 12 4)

/-- SEC_VER of a firmware image (R561). -/
def fwSec (bs : List Byte) : Nat := fld bs 16 2

/-- The header of R561, LENGTH the image's own and no more than the slot holds (R563). -/
def fwHeader (bs : List Byte) : Bool :=
  slice bs 0 4 == [0x4B, 0x56, 0x58, 0x46] && fld bs 4 2 = 1 && fld bs 6 2 = 64 && fld bs 8 4 = bs.length && 4096 ≤ bs.length &&
    bs.length ≤ 16777216 && bs.length % 4 = 0 && fwSec bs ≤ 63 && zeroAt bs 20 44 && decide (bs.length ≤ Config.slotSize)

/-- The signature of R561. -/
def fwSigned (bs : List Byte) : Bool :=
  ecdsaOk Config.firmwareKey (sha256 (bs.take (bs.length - 64))) (bs.drop (bs.length - 64))

/-- The check of R563, with the codes of R571. -/
def fwCode (minSec : Nat) (bs : List Byte) : Option Nat :=
  if !fwHeader bs then some 0xA0 else if !fwSigned bs then some 0xA1 else if fwSec bs < minSec then some 0xA2 else none

namespace State

/-! State changes of the module (01 R46, R47). -/

/-- MODULE event (14 R473). -/
def moduleEvent (s : State) (old new : ModState) (cause : Nat) : State :=
  s.event 1 0xFF ([BitVec.ofNat 8 (modCode old), BitVec.ofNat 8 (modCode new), BitVec.ofNat 8 s.seals.role.val, BitVec.ofNat 8 cause] ++
    leBytes 4 s.claim.toNat)

/-- Every present car is stationary. -/
def allStill (s : State) : Bool := s.model.all fun m => m.presentCars.all (s.carStill m)

/-- A domain is switched off in service, with what follows at once (R556). -/
def domainOff (s : State) (d : Fin 8) : State :=
  if !s.pd d.val then s
  else
    let bit : BitVec 8 := 1 <<< d.val
    let s := s.updPwr fun p => { p with domOn := p.domOn &&& ~~~bit, domOk := p.domOk &&& ~~~bit }
    match d.val with
    | 1 => s.resetHi.updHi fun h => { h with hrdy := false }
    | 2 => s.each s.present askSf1
    | 4 => s.updDsx fun x => { x with snap := none, result := none, nearRes := none }
    | 5 => s.each (idx 6) groupOff
    | 6 => (s.each (idx 12) busOff).each (idx 12) fun s n => s.updBus n fun b => { b with trxOn := false, onWait := false }
    | 7 =>
      let lost := s.tw.lanes
      let s := s.updTw fun t => { t with lanes := 0 }
      if s.twinRole && lost ≠ 0 then s.raise 0xA1 2 2 0 lost.toNat else s
    | _ => s

/-- The host's and the mode logic's doings in ACTIVE end (06 R205, 14 R468). -/
def leaveActive (s : State) : State :=
  let s := (s.each (idx 48) fun s k => s.abortInjection k 0x23).abortCommands
  { s with learn := Tab.all none, sides := s.sides.map fun x => { x with learn := [] } }

/-- A change of the module state: its event, HRDY (14 R481), and the domains that the new state does without, in reverse order (R557). -/
def changeState (s : State) (new : ModState) (cause : Nat) : State :=
  let old := s.mod
  let s := if old = .active then s.leaveActive else s
  let s := { s with mod := new }
  let s := if new = .safeHold || new = .update then s.updHi fun h => { h with hrdy := false } else s
  let s := s.moduleEvent old new cause
  s.each (domainOrder.reverse.filter fun d => !(stateMask new).getLsbD d.val) domainOff

/-- Entry to SAFE-HOLD (01 R46, 07 R256): every car is stopped by SF1 and every moving door at once. -/
def enterSafeHold (s : State) (cause : Nat) : State :=
  if s.mod = .safeHold then s
  else
    let s := (s.changeState .safeHold cause).holdDoors
    let s := s.each s.present askSf1
    if s.twinRole then s.updTw fun t => { t with state := .released } else s

/-! VIN (R552, R553). -/

/-- PWR_VIN and VIN_OK follow a measurement. -/
def setVin (s : State) (mv : Nat) : State :=
  s.updPwr fun p => { p with vinMv := BitVec.ofNat 16 mv, vinOk := 19200 ≤ mv && mv ≤ 30000 }

/-- POWER_ON (R552, 01 R47): PD0 comes up with a fresh timebase; nRSTIN held low keeps the module in OFF. -/
def powerOn (s : State) : State :=
  if s.pwr.pd0 || s.mod ≠ .off then s
  else
    let t := s.powerLost
    let go := !s.pwr.nrstin
    { t with
      mod := if go then .boot else .off,
      fc := { t.fc with boots := if go then t.fc.boots + 1 else t.fc.boots },
      pwr := { t.pwr with pd0 := true, boot := { Boot.zero with step := 2 } } }

/-- POWER_FAIL (R552, R553). -/
def powerFail (s : State) (mv : Nat) : State := if s.pwr.pd0 && (mv < 16000 || 34000 < mv) then s.powerLost else s

/-- VIN_FAULT (R552): at most once per T2. -/
def vinFault (s : State) (mv : Nat) : State :=
  if !s.pwr.pd0 || (19000 ≤ mv && mv ≤ 32000) then s
  else
    let s := s.setVin mv
    if s.pwr.vinBad && s.pwr.vinRepT2 = s.tick.t2 then s
    else (s.updPwr fun p => { p with vinBad := true, vinRepT2 := s.tick.t2 }).raise 0xF2 1 2 (BitVec.ofNat 32 mv) 0

/-- VIN_RESTORED (R552). -/
def vinRestored (s : State) (mv : Nat) : State :=
  if s.pwr.pd0 && 19200 ≤ mv && mv ≤ 30000 then (s.setVin mv).updPwr fun p => { p with vinBad := false } else s

/-! Rails and domains (R555 to R557). -/

/-- RAIL_FAULT (R555). -/
def railFault (s : State) (d : Fin 8) (rail : Fin 7) (mv : Nat) : State :=
  match railNominal d rail with
  | none => s
  | some v =>
    if !s.pd d.val || railOk v mv then s
    else
      let s := s.updPwr fun p =>
        { p with domOk := p.domOk &&& ~~~((1 : BitVec 8) <<< d.val),
                 rails := p.rails.upd d fun x => if rail.val = 0 then (BitVec.ofNat 16 mv, x.2) else if rail.val = 1 then (x.1, BitVec.ofNat 16 mv) else x }
      s.raise (0xB0 + d.val) 1 2 (BitVec.ofNat 32 mv) rail.val

/-- RAIL_DOMAIN_OFF (R555): the domain stays off until the next BOOT; for PD0 this is a power fail. -/
def railDomainOff (s : State) (d : Fin 8) : State :=
  if !s.pwr.pd0 then s
  else if d.val = 0 then s.powerLost
  else (s.domainOff d).updPwr fun p => { p with domLock := p.domLock ||| (1 <<< d.val) }

/-- Domains wanted now: those of the state, all of them in BOOT at step 5, and in CONFIG once a model is in force. -/
def wantedMask (s : State) : BitVec 8 :=
  match s.mod with
  | .boot => if s.pwr.boot.step = 5 && !s.pwr.boot.halted && !s.pwr.derate then 0xFF else 0
  | .config => if s.model.isSome && s.seals.role ≠ 2 then 0xFF else 0xCF
  | m => stateMask m

/-- The next domain to switch on (R557): the first in the order that is wanted, off and not locked. -/
def nextDomain (s : State) : Option (Fin 8) :=
  domainOrder.find? fun d => s.wantedMask.getLsbD d.val && !s.pd d.val && !s.pwr.domLock.getLsbD d.val

/-- What a domain finds when it comes up: ports at their reset values, loaded anew (03 R120), and supplies and transceivers in the
chain (R558). -/
def domainUp (s : State) (d : Fin 8) : State :=
  match d.val, s.model with
  | 5, some m =>
    let s := s.each (idx 48) fun s n => (s.updPort n fun p => { Port.zero with level := p.level }).loadPort n (m.ports.get n)
    s.each (idx 6) fun s g => if groupCalled m g && !s.pwr.parked.getLsbD g.val then s.joinChain (.group g) else s
  | 6, some m => s.each (idx 12) fun s n => if 4 ≤ n.val && (m.buses.get n).en then (s.joinChain (.trx n)).updBus n fun b => { b with onWait := true } else s
  | _, _ => s

/-- The domain before this one in the order of R557 that is switched on: PD1, where there is none. -/
def domainBefore (s : State) (d : Fin 8) : Fin 8 := ((domainOrder.takeWhile (· ≠ d)).reverse.find? (s.pd ·.val)).getD 1

/-- DOMAIN_SWITCH_ON (R557): with the rails of the domain before it in their window, at least 16 T0 after the last one; a domain that misses its window is switched off again, which in BOOT
fails the slot. -/
def domainSwitchOn (s : State) (d : Fin 8) (inWindow : Bool) : State :=
  if s.nextDomain ≠ some d || s.pwr.lastOn < 16 || !s.pwr.domOk.getLsbD (s.domainBefore d).val then s
  else
    let s := s.updPwr fun p => { p with lastOn := 0 }
    if !inWindow then (if s.mod = .boot then s.failSlot else s)
    else
      let bit : BitVec 8 := 1 <<< d.val
      let s := s.updPwr fun p => { p with domOn := p.domOn ||| bit, domOk := p.domOk ||| bit }
      let s := s.domainUp d
      if s.mod = .boot && s.nextDomain.isNone then s.updPwr fun p => { p with boot := { p.boot with step := 6 } } else s

/-! nRSTIN (R559, R560). -/

/-- NRSTIN_ASSERT (R560): everything but PD0 goes off and stays off. -/
def nrstinAssert (s : State) : State :=
  if s.pwr.nrstin then s
  else
    let s := if s.mod = .off then s else s.reboot
    s.updPwr fun p => { p with nrstin := true }

/-- NRSTIN_RELEASE (R559, 01 R47): BOOT at step 4, or the module leaves OFF. -/
def nrstinRelease (s : State) : State :=
  if !s.pwr.nrstin then s
  else
    let s := s.updPwr fun p => { p with nrstin := false }
    if s.mod = .off && s.pwr.pd0 then
      { s with mod := .boot, fc := { s.fc with boots := s.fc.boots + 1 },
               pwr := { s.pwr with boot := { Boot.zero with step := if s.seals.fixed then 4 else if s.tick.started then 3 else 2 } } }
    else s

/-! Firmware slots (R561 to R565). -/

/-- The slot that the ROM tries next (R563): the TRIAL slot or the PREFERRED one, then the other one, once, where it is VALID or
TRIAL. -/
def nextSlot (s : State) : Option (Fin 2) :=
  let p := s.pwr
  match p.boot.tried with
  | 0 => some (((idx 2).find? fun k => (p.slots.get k).state = 2).getD p.preferred)
  | 1 =>
    let k := 1 - p.boot.first
    if (p.slots.get k).state = 1 || (p.slots.get k).state = 2 then some k else none
  | _ => none

/-- Both slots have failed (R565, 01 R48): recovery mode, with nERR asserted. -/
def bothFailed (s : State) : State :=
  (s.updPwr fun p => { p with recovery := true, recState := 0, recCode := 0 }).updFc fun f => { f with nerr := true }

/-- One slot is tried (R563): started, or a TRIAL one marked FAILED. -/
def trySlot (s : State) (k : Fin 2) : State × Bool :=
  let p := s.pwr
  let b := p.boot
  let first := if b.tried = 0 then k else b.first
  if (fwCode p.minSec (p.slots.get k).image).isNone then
    (s.updPwr fun p =>
      { p with running := k, fallback := k ≠ first,
               boot := { b with step := 5, first := first, tried := b.tried + 1, startT0 := s.tick.t0, age := 0, trial := (p.slots.get k).state = 2 } }, true)
  else
    (s.updPwr fun p =>
      { p with slots := p.slots.upd k fun x => if x.state = 2 then { x with state := 3 } else x,
               boot := { b with first := first, tried := b.tried + 1 } }, false)

/-- The slots still to be tried, in order. -/
def slotGo : Nat → State → State
  | 0, s => s.bothFailed
  | n + 1, s =>
    match s.nextSlot with
    | none => s.bothFailed
    | some k =>
      let (t, ok) := s.trySlot k
      if ok then t else slotGo n t

/-- SLOT_SELECT (R563, R565, R567 step 4): PD1 comes on and the ROM selects a slot. -/
def slotSelect (s : State) : State :=
  let b := s.pwr.boot
  if s.mod ≠ .boot || b.step ≠ 4 || b.halted || s.pwr.nrstin || s.pwr.recovery || s.pwr.domLock.getLsbD 1 then s
  else slotGo 2 (s.updPwr fun p => { p with domOn := p.domOn ||| 0x02, domOk := p.domOk ||| 0x02 })

/-- A TRIAL slot in use is committed (R564). -/
def commitTrial (s : State) : State :=
  if !s.pwr.boot.trial then s
  else s.updPwr fun p =>
    { p with slots := p.slots.upd p.running fun x => { x with state := 1 }, preferred := p.running,
             minSec := max p.minSec (fwSec (p.slots.get p.running).image), boot := { p.boot with trial := false } }

/-- STARTUP_SELF_TESTS_DONE (R567 step 6). -/
def startupSelfTestsDone (s : State) (passed : Bool) : State :=
  if s.mod ≠ .boot || s.pwr.boot.step ≠ 6 || s.pwr.boot.halted then s
  else if passed then s.updPwr fun p => { p with boot := { p.boot with step := 7 } }
  else s.failSlot

/-- MODEL_LOAD (02 R79, R564, R567 step 7): the model from flash, and the commit of a TRIAL slot at the step's end. -/
def modelLoad (s : State) : State :=
  if s.mod ≠ .boot || s.pwr.boot.step ≠ 7 || s.pwr.boot.halted then s
  else
    let s := s.loadBest
    let s := s.updPwr fun p => { p with boot := { p.boot with step := 9, loaded := true } }
    if s.model.isSome then s.commitTrial else s

/-- BOOT_WATCHDOG (R564): no commit within 60 s of a TRIAL start. -/
def bootWatchdog (s : State) : State :=
  let b := s.pwr.boot
  if s.mod = .boot && 5 ≤ b.step && b.trial && 240000 ≤ b.age then
    let t := s.reboot
    t.updPwr fun p => { p with slots := p.slots.upd s.pwr.running fun x => { x with state := 3 } }
  else s

/-! Temperature (R572 to R574). -/

/-- A sensor's value is taken into PWR_TEMP. -/
def setTemp (s : State) (x : Sensor) (t : Int) : State :=
  s.updPwr fun p => match x with
    | .die0 => { p with die0 := t }
    | .die1 => { p with die1 := t }
    | .base => { p with base := t }

/-- Code of a sensor (R572). -/
def sensorCode : Sensor → Nat
  | .die0 => 0 | .die1 => 1 | .base => 2

/-- THERMAL_WARN (R572), temperatures in 0.1 °C. -/
def thermalWarn (s : State) (x : Sensor) (t : Int) : State :=
  if s.pwr.pd0 && decide ((if x = .base then 850 else 1100) < t) then
    ((s.setTemp x t).updPwr fun p => { p with derate := true }).raise 0xF2 2 1 (w32 t) (sensorCode x)
  else s

/-- DERATE_OFF (R572): a start-up that THERMAL_TRIP halted goes on from step 4 (16 R526). -/
def derateOff (s : State) : State :=
  if !s.pwr.derate && !(s.mod = .boot && s.pwr.boot.halted && s.pwr.boot.hot) then s
  else
    let s := s.updPwr fun p => { p with derate := false }
    if s.mod = .boot && s.pwr.boot.halted && s.pwr.boot.hot then
      { s.reboot with fc := s.fc }
    else s

/-- THERMAL_TRIP (R572). -/
def thermalTrip (s : State) (x : Sensor) (t : Int) : State :=
  if s.pwr.pd0 && decide ((if x = .base then 950 else 1250) < t) then
    ((s.setTemp x t).updPwr fun p => { p with tripped := true }).raise 0xF2 3 3 (w32 t) (sensorCode x)
  else s

/-! Parked groups (R569, R570). -/

/-- PWR_PARK_WRITE (R569, R575). -/
def pwrParkWrite (s : State) (v : BitVec 32) : State :=
  if s.hostUp then s.updPwr fun p => { p with parkReq := v.setWidth 6, parkAuto := p.parkAuto &&& ~~~((v >>> 16).setWidth 6) } else s

/-- The present cars that own a port of a group (R569). -/
def groupCars (m : Model) (g : Fin 6) : List (Fin 16) :=
  m.presentCars.filter fun c => (idx 48).any fun n => portGroup n = g && (m.ports.get n).role ≠ 0 && (m.ports.get n).car = c.val

/-- A car lets its group be parked (R569). -/
def parkReady (s : State) (m : Model) (c : Fin 16) : Bool :=
  (s.modes.get c).mode = 3 && (s.lv.get c).still && s.doorsClosed m c && s.hoistIdle c && (m.rolePort? c 2).isSome

/-- GROUP_PARK (R569), at a T1 boundary: its cars become LOST without a finding and stay in M3. -/
def groupPark (s : State) (g : Fin 6) : State :=
  match s.model with
  | none => s
  | some m =>
    if !s.groupState || !s.pwr.parkReq.getLsbD g.val || s.pwr.parked.getLsbD g.val || !(groupCars m g).all (s.parkReady m) then s
    else
      let s := (s.groupOff g).updPwr fun p => { p with parked := p.parked ||| (1 <<< g.val) }
      s.each (groupCars m g) fun s c =>
        ((s.updCar c fun cp => { cp with health := .lost, startUp := true }).updLv c fun l =>
          { l with est := false, posOk := false, prevA := none, accepts := [], absOk := false }).updMode c fun md => { md with fresh := true }

/-- A car of the group asks for one of M4 to M10 (R570). -/
def unparkAsked (s : State) (m : Model) (g : Fin 6) : Bool :=
  (groupCars m g).any fun c => (s.modes.get c).active &&& 0x7F0 ≠ 0

/-- GROUP_UNPARK (R570): the group joins the supply chain; its cars find their position again and then enter their mode. -/
def groupUnpark (s : State) (g : Fin 6) : State :=
  match s.model with
  | none => s
  | some m =>
    let req := s.pwr.parkReq.getLsbD g.val
    if !s.pwr.parked.getLsbD g.val || (req && !s.unparkAsked m g) then s
    else
      let bit : BitVec 6 := 1 <<< g.val
      let s := s.updPwr fun p =>
        { p with parked := p.parked &&& ~~~bit, parkReq := p.parkReq &&& ~~~bit, parkAuto := if req then p.parkAuto ||| bit else p.parkAuto }
      s.joinChain (.group g)

/-! Recovery (R565). -/

/-- The PWR_RECOV registers answer (R575). -/
def recovers (s : State) : Bool := s.mod = .boot && s.pwr.recovery && s.pd 1 && !s.hi.d3

/-- RECOVERY_START. -/
def recoveryStart (s : State) : State :=
  if s.recovers then s.updPwr fun p => { p with recState := 1, recCode := 0, recImg := [] } else s

/-- RECOVERY_CHUNK: the window is taken at an offset of the image. -/
def recoveryChunk (s : State) (off : BitVec 24) : State :=
  if s.recovers && s.pwr.recState = 1 then
    s.updPwr fun p =>
      let o := off.toNat
      let w := pad 4096 p.recWin
      { p with recImg := pad o p.recImg ++ w ++ p.recImg.drop (o + 4096) }
  else s

/-- The image received: LENGTH bytes of it. -/
def recoveryImage (s : State) : List Byte := s.pwr.recImg.take (fld s.pwr.recImg 8 4)

/-- RECOVERY_COMMIT: the check of R563; an image that passes is written. -/
def recoveryCommit (s : State) : State :=
  if s.recovers && s.pwr.recState = 1 then
    match fwCode s.pwr.minSec s.recoveryImage with
    | some c => s.updPwr fun p => { p with recState := 5, recCode := BitVec.ofNat 8 c }
    | none => s.updPwr fun p => { p with recState := 3 }
  else s

/-- RECOVERY_WRITE_DONE: slot A is TRIAL, a FAILED slot B EMPTY, and the module restarts. -/
def recoveryWriteDone (s : State) (ok : Bool) : State :=
  if !(s.recovers && s.pwr.recState = 3) then s
  else if !ok then s.updPwr fun p => { p with recState := 5, recCode := 0xA3 }
  else
    let image := s.recoveryImage
    s.reboot.updPwr fun p =>
      { p with recState := 4,
               slots := (p.slots.upd 1 fun x => if x.state = 3 then FwSlot.zero else x).put 0 { image := image, state := 2 } }

/-! Firmware update (R571, 01 R47). -/

/-- UPDATE: the image is read into DRAM. -/
def update (s : State) (e : CmdEntry) (data : Option (List Byte)) : State :=
  let ok := data.any fun d => d.length = e.dataLen.toNat
  s.command 0x60 e true
    (fun s => [(!(s.mod == .config || s.mod == .standby || s.mod == .witness || s.mod == .safeHold || (s.mod == .active && s.seals.role == 3)), 0x83),
               (s.pwr.update.isSome, 0x89), (!ok, 0x8C)])
    fun s => (s.updPwr fun p =>
      { p with update := some { image := data.getD [], e := e, checked := false, writing := false, waited := 0 } }).startRunning e

/-- An update ends without a state change. -/
def failUpdate (s : State) (code : Nat) : State :=
  match s.pwr.update with
  | none => s
  | some u => (s.updPwr fun p => { p with update := none }).finish u.e .failed code

/-- UPDATE_IMAGE_CHECKED: transfers pause while derating is on (R573). -/
def updateImageChecked (s : State) : State :=
  match s.pwr.update with
  | none => s
  | some u =>
    if u.checked || s.pwr.derate then s
    else match fwCode s.pwr.minSec u.image with
      | some c => s.failUpdate c
      | none => s.updPwr fun p => { p with update := some { u with checked := true } }

/-- R47 permits entry to UPDATE. -/
def updatePermitted (s : State) : Bool :=
  s.mod = .config || s.mod = .standby || s.mod = .witness || s.mod = .safeHold ||
    (s.mod = .active && s.seals.role = 3 && s.model.all fun m =>
      m.presentCars.all fun c => s.carStill m c && s.doorsClosed m c && (s.modes.get c).mode = 3)

/-- The update's part of a T2 boundary. -/
def updateT2 (s : State) : State :=
  match s.pwr.update with
  | none => s
  | some u =>
    if !u.checked || u.writing then s
    else if s.updatePermitted then (s.updPwr fun p => { p with update := some { u with writing := true } }).changeState .update 0
    else s.updPwr fun p => { p with update := some { u with waited := u.waited + 1 } }

/-- UPDATE_NOT_QUIET: 1,000 T2 boundaries have found the conditions unmet. -/
def updateNotQuiet (s : State) : State :=
  match s.pwr.update with
  | some u => if !u.writing && 1000 ≤ u.waited && s.mod = .active then s.failUpdate 0xA4 else s
  | none => s

/-- UPDATE_FLASH_DONE: the slot that is not running holds the image, or is EMPTY; the module enters BOOT. -/
def updateFlashDone (s : State) (ok : Bool) : State :=
  match s.pwr.update with
  | none => s
  | some u =>
    if s.mod ≠ .update || !u.writing then s
    else
      let k := 1 - s.pwr.running
      let s := if ok then s.finish u.e .done 0 (fwVersion u.image) else s.finish u.e .failed 0xA3
      s.reboot.updPwr fun p =>
        { p with preferred := p.running, slots := p.slots.put k (if ok then { image := u.image, state := 2 } else FwSlot.zero) }

/-! Commands that restart the module (02 R69, 14 R468, 16 R525). -/

/-- KEY_RELEASE (02 R69). -/
def keyRelease (s : State) (e : CmdEntry) : State :=
  s.command 0x13 e true (fun s => [(!(s.mod == .config || s.mod == .safeHold), 0x83), (!s.seal0, 0x88), (!s.allStill, 0x87)])
    fun s => ((s.updImg fun i => { i with key := none, group := none, slots := Tab.all none }).answer e .done 0).reboot

/-- RESET (R559, R574): no completion; refused after THERMAL_TRIP while derating is on. -/
def resetCmd (s : State) (e : CmdEntry) : State :=
  s.command 0x61 e true (fun s => [(s.mod != .safeHold || (s.pwr.tripped && s.pwr.derate), 0x83)]) reboot

/-- CRST_REBOOT (16 R525). -/
def crstReboot (s : State) : State := if s.fc.crst && s.mod = .safeHold && s.allStill then s.reboot else s

/-- What every T0 makes of the supervisor's times: VIN is measured (R575), its value left open (log 9). -/
def tickPower (s : State) : State :=
  let (v, s) := s.take
  (s.setVin (v.toNat % 65536)).updPwr fun p =>
    { p with lastOn := satInc p.lastOn 16, boot := if 5 ≤ p.boot.step then { p.boot with age := p.boot.age + 1 } else p.boot }

/-- The measurements of each T1 (R572, R575): free values (log 9). DOM_OK follows the rails it tells of; those of codes 2 to 6, which no
register shows, are free too. -/
def measurePower (s : State) : State :=
  let s := s.each (idx 8) fun s d =>
    let (v, s) := s.take
    s.updPwr fun p =>
      let core : BitVec 16 := v.setWidth 16
      let io : BitVec 16 := (v >>> 16).setWidth 16
      let ok := railOk 850 core.toNat && railOk 1800 io.toNat && (v.getLsbD 32 || !(d.val = 1 || d.val = 6 || d.val = 7))
      { p with rails := p.rails.put d (core, io),
               domOk := if p.domOn.getLsbD d.val && ok then p.domOk ||| (1 <<< d.val) else p.domOk &&& ~~~((1 : BitVec 8) <<< d.val) }
  let (v, s) := s.take
  let t (k : Nat) : Int := (BitVec.ofNat 16 (v.toNat / 65536 ^ k)).toInt
  s.updPwr fun p => { p with die0 := t 0, die1 := t 1, base := t 2 }

end State

/-- POWER_ON, R552. -/
def execPowerOn (s : State) : Out := .next s.powerOn
/-- VIN_FAULT, R552. -/
def execVinFault (mv : Nat) (s : State) : Out := .next (s.vinFault mv)
/-- VIN_RESTORED, R552. -/
def execVinRestored (mv : Nat) (s : State) : Out := .next (s.vinRestored mv)
/-- POWER_FAIL, R553. -/
def execPowerFail (mv : Nat) (s : State) : Out := .next (s.powerFail mv)
/-- RAIL_FAULT, R555. -/
def execRailFault (d : Fin 8) (rail : Fin 7) (mv : Nat) (s : State) : Out := .next (s.railFault d rail mv)
/-- RAIL_DOMAIN_OFF, R555. -/
def execRailDomainOff (d : Fin 8) (s : State) : Out := .next (s.railDomainOff d)
/-- DOMAIN_SWITCH_ON, R557. -/
def execDomainSwitchOn (d : Fin 8) (inWindow : Bool) (s : State) : Out := .next (s.domainSwitchOn d inWindow)
/-- NRSTIN_ASSERT, R560. -/
def execNrstinAssert (s : State) : Out := .next s.nrstinAssert
/-- NRSTIN_RELEASE, R559. -/
def execNrstinRelease (s : State) : Out := .next s.nrstinRelease
/-- SLOT_SELECT, R563. -/
def execSlotSelect (s : State) : Out := .next s.slotSelect
/-- STARTUP_SELF_TESTS_DONE, R567. -/
def execStartupSelfTestsDone (passed : Bool) (s : State) : Out := .next (s.startupSelfTestsDone passed)
/-- MODEL_LOAD, R79. -/
def execModelLoad (s : State) : Out := .next s.modelLoad
/-- BOOT_WATCHDOG, R564. -/
def execBootWatchdog (s : State) : Out := .next s.bootWatchdog
/-- THERMAL_WARN, R572. -/
def execThermalWarn (sensor : Sensor) (temp : Int) (s : State) : Out := .next (s.thermalWarn sensor temp)
/-- DERATE_OFF, R572. -/
def execDerateOff (s : State) : Out := .next s.derateOff
/-- THERMAL_TRIP, R572. -/
def execThermalTrip (sensor : Sensor) (temp : Int) (s : State) : Out := .next (s.thermalTrip sensor temp)
/-- PWR_PARK_WRITE, R569. -/
def execPwrParkWrite (v : BitVec 32) (s : State) : Out := .next (s.pwrParkWrite v)
/-- GROUP_PARK, R569. -/
def execGroupPark (g : Fin 6) (s : State) : Out := .next (s.groupPark g)
/-- GROUP_UNPARK, R570. -/
def execGroupUnpark (g : Fin 6) (s : State) : Out := .next (s.groupUnpark g)
/-- RECOVERY_START, R565. -/
def execRecoveryStart (s : State) : Out := .next s.recoveryStart
/-- RECOVERY_CHUNK, R565. -/
def execRecoveryChunk (off : BitVec 24) (s : State) : Out := .next (s.recoveryChunk off)
/-- RECOVERY_COMMIT, R565. -/
def execRecoveryCommit (s : State) : Out := .next s.recoveryCommit
/-- RECOVERY_WRITE_DONE, R565. -/
def execRecoveryWriteDone (ok : Bool) (s : State) : Out := .next (s.recoveryWriteDone ok)
/-- UPDATE, R571. -/
def execUpdate (e : CmdEntry) (data : Option (List Byte)) (s : State) : Out := .next (s.update e data)
/-- UPDATE_IMAGE_CHECKED, R571. -/
def execUpdateImageChecked (s : State) : Out := .next s.updateImageChecked
/-- UPDATE_NOT_QUIET, R571. -/
def execUpdateNotQuiet (s : State) : Out := .next s.updateNotQuiet
/-- UPDATE_FLASH_DONE, R571. -/
def execUpdateFlashDone (ok : Bool) (s : State) : Out := .next (s.updateFlashDone ok)
/-- KEY_RELEASE, R69. -/
def execKeyRelease (e : CmdEntry) (s : State) : Out := .next (s.keyRelease e)
/-- RESET, R468. -/
def execReset (e : CmdEntry) (s : State) : Out := .next (s.resetCmd e)
/-- CRST_REBOOT, R525. -/
def execCrstReboot (s : State) : Out := .next s.crstReboot

end Sys2Proof.Machine
end

