-- ==== Sys2Proof/Machine/Flags.lean ====
section
/-! DEFINITION. The register views: how every status and configuration field of the state is packed into the 32-bit words of BAR0
(18 and the register tables of 01 to 17). Nothing is stored packed; a field is read here alone. -/

namespace Sys2Proof.Machine

/-- The 16-bit two's complement form of a value. -/
def n16 (x : Int) : Nat := (BitVec.ofInt 16 x).toNat

/-- A word of a byte list, most significant byte first (02 R83, 18 R579). -/
def beWord (bs : List Byte) (w : Nat) : BitVec 32 := BitVec.ofNat 32 (leNat (slice bs (4 * w) 4).reverse)

/-- A word of a byte list, least significant byte first (R10). -/
def leWord (bs : List Byte) (w : Nat) : BitVec 32 := BitVec.ofNat 32 (fld bs (4 * w) 4)

/-- The bits of a mask of `n` units that satisfy a test. -/
def maskOf (n : Nat) (p : Nat → Bool) : Nat := packBits ((List.range n).map p)

namespace State

/-! Identity, page, timebase (18 R578, R579; 01 R34 to R37). -/

/-- The ID block (R579). -/
def idReg (s : State) (off : Nat) : BitVec 32 :=
  if off = 0x00 then 0x4958564B
  else if off = 0x04 then 1
  else if off = 0x08 then pk [(0, 16, (Config.factoryWord 8).toNat), (16, 16, 0x1648)]
  else if off = 0x0C then pk [(0, 8, b2n Config.coated), (8, 8, 1 + (Config.factoryWord 0x0C).toNat % 255)]
  else if off = 0x10 || off = 0x14 || off = 0x18 || off = 0x1C then Config.factoryWord off
  else if off = 0x20 then Config.moduleId
  else if off = 0x24 then s.tick.tb0.setWidth 32
  else if off = 0x28 then (s.tick.tb0 >>> 32).setWidth 32
  else if 0x40 ≤ off && off < 0x80 then beWord Config.modPubkey ((off - 0x40) / 4)
  else 0

/-- The MAP block (R578): SEL is held at 2 in recovery mode. -/
def mapReg (s : State) (off : Nat) : BitVec 32 :=
  let sel := if s.pwr.recovery then 2 else s.page.val
  if off = 0 then pk [(0, 2, sel)] else if off = 4 then pk [(0, 2, sel), (2, 1, b2n s.pwr.recovery)] else 0

/-- TBASE counts since the last T0 boundary at a read: left free (log 103). -/
def sinceT0 (s : State) : Nat := (Config.free s.freeCtr).toNat % 25000

/-- The TICK block (R37). -/
def tickReg (s : State) (off : Nat) : BitVec 32 :=
  let t := s.tick
  match off with
  | 0x00 => (t.tb + BitVec.ofNat 64 s.sinceT0).setWidth 32
  | 0x04 => t.hi
  | 0x08 => BitVec.ofNat 32 ((t.tb.toNat + s.sinceT0) / 100)
  | 0x0C => t.t0
  | 0x10 => s.t1Now
  | 0x14 => t.t2
  | 0x18 => pk [(0, 3, t.t0.toNat), (3, 5, s.t1Now.toNat), (16, 8, s.sinceT0 / 100)]
  | 0x1C => t.syncT0
  | 0x20 => t.syncTb.setWidth 32
  | 0x24 => (t.syncTb >>> 32).setWidth 32
  | _ => 0

/-- SPILL_CNT[u, l] (R34). -/
def spillCnt (s : State) (u l : Nat) : BitVec 32 := ((s.spill.cnt.get? u).bind (·.get? l)).getD 0

/-- SPILL_LANE[k] (R36). -/
def spillLane (s : State) (k : Nat) : BitVec 32 := (s.spill.lane.get? k).getD 0

/-- The SPILL block (R34, R36). -/
def spillReg (s : State) (off : Nat) : BitVec 32 :=
  if off < 0x100 then s.spillCnt (off / 16) (off % 16 / 4) else s.spillLane ((off - 0x100) / 4)

/-! Image, modes, check values (02 R83, 09 R320, 16 R551). -/

/-- The IMG block (R83). -/
def imgReg (s : State) (off : Nat) : BitVec 32 :=
  let i := s.img
  if off = 0x00 then pk [(0, 3, i.state.ctorIdx), (8, 8, i.reject.toNat), (16, 1, b2n i.key.isSome)]
  else if off = 0x04 then s.inforceSeq
  else if off = 0x08 then i.pending.elim 0 (·.model.seq)
  else if off = 0x0C then (i.pending.bind (·.applyT2)).getD 0
  else if off = 0x10 then i.key.elim 0 (·.2)
  else if off = 0x14 then pk [(0, 2, i.inforce.val), (8, 4, if s.pwr.boot.loaded then maskOf 4 fun k => ((i.slots.get? k).getD none).isNone else 0)]
  else if off = 0x18 then i.propLost
  else if 0x20 ≤ off && off < 0x40 then s.model.elim 0 fun m => beWord m.digest ((off - 0x20) / 4)
  else if 0x40 ≤ off && off < 0x60 then i.pending.elim 0 fun p => beWord p.model.digest ((off - 0x40) / 4)
  else 0

/-- The MS block (09 R320): what the car's last T1 job left. -/
def msReg (s : State) (c : Fin 16) (off : Nat) : BitVec 32 := (s.modes.get c).regs.getD (off / 4) 0

/-- The CV block (R551). -/
def cvReg (s : State) (n : Fin 16) (off : Nat) : BitVec 32 :=
  let v := s.cvs.get n
  match off with
  | 0x0 => pk [(0, 2, v.poly.val), pkBits 2 [s.underTest (.cv n), s.isRetired (.cv n)]]
  | 0x4 => v.count
  | 0x8 => v.fail
  | 0xC => pk [(0, 16, v.mismatch.toNat)]
  | _ => 0

/-! Ports and supplies (03 R120, R121). -/

/-- PP_STAT (R120). -/
def ppStat (s : State) (n : Fin 48) : BitVec 32 :=
  let p := s.ports.get n
  let l := p.latch
  let f := p.flags
  pk [pkBits 0 [l.still, l.moving, l.falling, l.ssiValid, l.idxSeen], (5, 2, l.idxResult.val), (7, 1, b2n l.cmpHit),
      pkBits 8 [f.illegal, f.wrap, f.idxOvr, f.cmpOvr, f.ssiErr, f.line, f.noclk, f.werr, f.commitErr,
        s.isRetired (.port n), s.settling n, s.underTest (.port n)], (20, 3, p.linePair.toNat)]

/-- A port's registers (R120); RWC fields read as the values in force (18 R582). -/
def portReg (s : State) (n : Fin 48) (off : Nat) : BitVec 32 :=
  let p := s.ports.get n
  let r := p.rwc
  match off with
  | 0x00 => pk [(0, 1, b2n p.en), pkBits 2 [r.idxArm, r.cmpEn]]
  | 0x04 => pk [(0, 3, p.cfg.mode.val), pkBits 3 [p.cfg.htl, p.cfg.listen], (5, 3, p.cfg.inv.toNat),
      pkBits 8 [p.cfg.dir, p.cfg.idxEdge], (16, 8, p.cfg.filt.toNat), (24, 8, p.cfg.tstop.toNat)]
  | 0x08 => pk [(0, 6, r.bits.toNat), pkBits 6 [r.gray, r.errEn], (8, 5, r.posLsb.toNat), (13, 1, b2n r.errLow),
      (16, 5, r.errPos.toNat), (24, 8, r.rate.toNat)]
  | 0x0C => pk [(0, 5, r.posBits.toNat), (8, 8, r.delay.toNat)]
  | 0x10 => r.idxExp
  | 0x14 => pk [(0, 24, r.idxWin.toNat)]
  | 0x18 => r.cmp
  | 0x1C => r.spacing
  | 0x20 => p.latch.count
  | 0x24 => w32 p.latch.speed
  | 0x28 => p.latch.edgeTs
  | 0x2C => p.idxCap
  | 0x30 => p.idxTs
  | 0x34 => pk [(0, 16, p.evCmp.toNat), (16, 16, p.evIllegal.toNat)]
  | 0x38 => p.ssiRaw
  | 0x3C => s.ppStat n
  | _ => 0

/-- The supply registers (R121). -/
def supplyReg (s : State) (off : Nat) : BitVec 32 :=
  let g := s.sup.groups.toList
  if off = 0x00 then pk [(0, 12, (g.foldr (fun x a => x.sel.val + 4 * a) 0)), (12, 6, packBits (g.map (·.en)))]
  else if off = 0x04 then
    pk [(0, 6, packBits (g.map (·.on))), (8, 6, packBits (g.map (·.oc))), (16, 6, packBits (g.map fun x => x.settle ≠ 0)),
      (24, 1, b2n s.sup.werr)]
  else if 0x10 ≤ off && off < 0x28 then
    (s.sup.groups.get? ((off - 0x10) / 4)).elim 0 fun x => pk [(0, 16, x.current.toNat), (16, 16, x.voltage.toNat)]
  else 0

/-- The PP block. -/
def ppReg (s : State) (off : Nat) : BitVec 32 :=
  if h : off / 0x40 < 48 then s.portReg ⟨off / 0x40, h⟩ (off % 0x40) else s.supplyReg (off - 0xC00)

/-! Car position (04 R150). -/

/-- CP_STAT (R150). -/
def cpStat (s : State) (c : Fin 16) : BitVec 32 :=
  let p := s.cars.get c
  let inp (role : Nat) : Bool := s.model.any fun m => s.carIn m c role
  let sp (k : SpecKind) : Bool := p.spec.kind = k
  pk [(0, 2, p.health.rank), pkBits 2 [p.stale, s.model.any fun m => m.inZone c p.pos, inp Role.dz, inp Role.tsUp, inp Role.tsDn,
    p.absOk, p.motorOk, p.secOk, p.slew ≠ 0, sp .correction || sp .suspectStop, sp .homing, sp .relevel, sp .learn,
    2 ≤ p.health.rank], (16, 7, p.landing)]

/-- The CP block (R150). -/
def cpReg (s : State) (c : Fin 16) (off : Nat) : BitVec 32 :=
  let p := s.cars.get c
  match off with
  | 0x00 => w32 p.pos
  | 0x04 => w32 p.vel
  | 0x08 => s.cpStat c
  | 0x0C => w32 (fxRound p.corr)
  | 0x10 => w32 p.lastDelta
  | 0x14 => w32 (fxRound p.slip)
  | 0x18 => w32 p.levelErr
  | 0x1C => pk [(0, 8, p.evFine.toNat), (8, 8, p.evCoarse.toNat), (16, 8, p.evSuspect.toNat), (24, 8, p.evSkipped.toNat)]
  | 0x20 => pk [(0, 16, min p.gap 65535)]
  | 0x24 => p.refT0
  | _ => 0

/-! Profiles (05 R184, R185). -/

/-- PG_STAT (R184). -/
def pgStat (s : State) (k : Fin 48) : BitVec 32 :=
  let a := s.axes.get k
  pk [(0, 3, a.state.ctorIdx), (3, 5, a.segIx), (8, 3, a.phase), pkBits 11 [a.table, a.req.target.isSome || a.req.run.isSome],
    (13, 2, a.lastTgt.ctorIdx), (15, 1, b2n a.capLate)]

/-- An axis's registers (R184). -/
def axisReg (s : State) (k : Fin 48) (off : Nat) : BitVec 32 :=
  let a := s.axes.get k
  match off with
  | 0x00 => s.pgStat k
  | 0x04 => w32 a.target
  | 0x08 => w32 a.refPos
  | 0x0C => w32 a.refVel
  | 0x10 => w32 a.refAcc
  | 0x14 => BitVec.ofNat 32 a.planT
  | 0x18 => BitVec.ofNat 32 (planLen a.segs)
  | 0x1C => w32 a.stopPos
  | 0x20 => a.runId
  | 0x24 => pk [(0, 16, n16 a.accel), (16, 16, n16 a.decel)]
  | 0x28 => pk [(0, 16, n16 a.jerk), (16, 16, n16 a.revDecel)]
  | 0x2C => w32 a.vmax
  | 0x30 => a.startT0
  | 0x34 => pk [(0, 16, a.replans.toNat), (16, 16, a.deferred.toNat)]
  | 0x38 => w32 a.originPos
  | 0x3C => w32 a.originVel
  | _ => 0

/-- A word of the segment table of an axis (R185): segments beyond the plan's count read 0. -/
def segReg (s : State) (k : Fin 48) (off : Nat) : BitVec 32 :=
  ((s.axes.get k).segs[off / 16]?).elim 0 fun g =>
    match off % 16 with
    | 0x0 => BitVec.ofNat 32 g.dur
    | 0x4 => w32 g.endPos
    | 0x8 => w32 g.endVel
    | _ => 0

/-- The PG block (page 0). -/
def pgReg (s : State) (off : Nat) : BitVec 32 :=
  if h : off / 0x40 < 48 then s.axisReg ⟨off / 0x40, h⟩ (off % 0x40)
  else if off < 0x1000 then 0
  else if h : (off - 0x1000) / 0x200 < 48 then s.segReg ⟨(off - 0x1000) / 0x200, h⟩ (off % 0x200)
  else 0

/-! Control engine and capture units (06 R213 to R215). -/

/-- A lane's registers (R213). -/
def laneReg (s : State) (k : Fin 48) (off : Nat) : BitVec 32 :=
  let l := s.lanes.get k
  match off with
  | 0x00 => s.ceStat k
  | 0x04 => w32 l.err
  | 0x08 => w32 l.verr
  | 0x0C => w32 l.out
  | 0x10 => w32 l.aux
  | 0x14 => (BitVec.ofInt 64 l.integ).setWidth 32
  | 0x18 => ((BitVec.ofInt 64 l.integ) >>> 32).setWidth 32
  | 0x1C => w32 l.bias
  | 0x20 => w32 l.frac
  | 0x24 => w32 l.inj
  | 0x28 => pk [(0, 16, l.evSwitch.toNat), (16, 16, l.evSat.toNat)]
  | 0x2C => pk [(0, 16, l.evFe.toNat), (16, 16, l.evRep.toNat)]
  | 0x30 => l.lastT0
  | _ => 0

/-- A capture unit's registers (R214). -/
def capuReg (s : State) (u : Fin 4) (off : Nat) : BitVec 32 :=
  let c := s.capus.get u
  let r := c.rwc
  match off with
  | 0x00 => pk [(0, 1, b2n c.en), pkBits 2 [r.arm, r.stream], (4, 2, r.rate.val), (6, 3, r.trig.val), (16, 8, r.decim.toNat)]
  | 0x04 => pk [(0, 6, r.unitSel.toNat), (8, 6, r.trigPort.toNat), (16, 12, r.sig.toNat)]
  | 0x08 => pk [(0, 13, r.pre.toNat)]
  | 0x0C => pk [(0, 3, c.state.val), pkBits 8 [c.commitErr, c.ovr]]
  | 0x10 => c.count
  | 0x14 => c.trigT0
  | 0x18 => c.drop
  | _ => 0

/-- The CE block. -/
def ceReg (s : State) (off : Nat) : BitVec 32 :=
  if h : off / 0x40 < 48 then s.laneReg ⟨off / 0x40, h⟩ (off % 0x40)
  else if h : off / 0x40 - 48 < 4 then s.capuReg ⟨off / 0x40 - 48, h⟩ (off % 0x40)
  else if off = 0xD00 then pk [(0, 6, s.injStat.lane.toNat), (8, 8, s.injStat.result.toNat), (16, 16, s.injStat.done.toNat)]
  else 0

/-! Doors (07 R257). -/

/-- DS_STAT as a computation of the side's lane writes it (R257); a side that is not fitted has no state (R228). -/
def dsStat (s : State) (d : Fin 32) : BitVec 32 :=
  let x := s.sides.get d
  let up := s.model.any fun m => (s.donConn? m d).any fun p => connUp p.2
  pk [(0, 4, x.state.ctorIdx), (4, 1, b2n x.ref), (5, 2, x.sentMode.ctorIdx),
    pkBits 7 [x.locked, x.contact, x.curtain, x.edge, x.buzzer, !x.learn.isEmpty, up], (16, 8, x.sentIlim)]

/-- DS_FORCE (R257). -/
def dsForce (s : State) (d : Fin 32) : BitVec 32 :=
  let x := s.sides.get d
  let thr := s.model.elim 0 fun m => if m.sideFitted (sideCar d) (sideNo d) then forceThr m d x.landing x.pm else 0
  pk [(0, 16, n16 (s.lanes.get (doorAxis d)).aux), (16, 16, n16 thr)]

/-- The words of the DS block (R257) as they stand now. -/
def dsWord (s : State) (d : Fin 32) (off : Nat) : BitVec 32 :=
  let x := s.sides.get d
  match off with
  | 0x00 => s.dsStat d
  | 0x04 => w32 x.pm
  | 0x08 => w32 x.vm
  | 0x0C => x.enc
  | 0x10 => x.encZero
  | 0x14 => pk [(0, 16, n16 x.current)]
  | 0x18 => s.dsForce d
  | 0x1C => pk [(0, 3, x.lastCause), (8, 8, min x.stopRev 255), (16, 16, min (x.timer.getD 0 / tenth) 65535)]
  | 0x20 => x.obstT0
  | 0x24 => pk [(0, 7, x.landing.getD 0), (7, 1, b2n x.landing.isSome)]
  | 0x28 => pk [(0, 8, x.reversals.toNat), (8, 8, x.missed.toNat), (16, 8, x.rehomes.toNat), (24, 8, x.lockFail.toNat)]
  | 0x2C => pk [(0, 16, x.nudges.toNat), (16, 16, x.openObst.toNat)]
  | 0x30 => pk [(0, 16, x.seqSent.toNat), (16, 16, x.seqEcho.toNat)]
  | 0x34 => pk [(0, 8, x.nStatus.toNat), (8, 8, x.nContacts.toNat), (16, 8, x.nTemp.toNat)]
  | 0x38 => pk [(0, 16, x.nFault.toNat)]
  | _ => 0

/-- The car core refreshes the registers of a side at a computation of its lane (R257). -/
def refreshSide (s : State) (d : Fin 32) : State :=
  s.updSide d fun x => { x with regs := (List.range 15).map fun i => s.dsWord d (4 * i) }

/-- The DS block (R257): what the last computation of the side's lane left. -/
def dsReg (s : State) (d : Fin 32) (off : Nat) : BitVec 32 := (s.sides.get d).regs.getD (off / 4) 0

/-! Dispatch (08 R299, R300). -/

/-- Pending calls in a state. -/
def callsIn (s : State) (st : CallState) : Nat := (s.dsx.calls.filter (·.state = st)).length

/-- The DSX block (R299, R300). -/
def dsxReg (s : State) (off : Nat) : BitVec 32 :=
  let d := s.dsx
  match off with
  | 0x00 => pk [(0, 2, d.pattern.val), (2, 1, b2n d.trace)]
  | 0x04 => pk [(0, 1, b2n d.fallback), (1, 2, min s.spill.solver 3), (3, 2, d.lastPat.val), pkBits 5 [d.mismatch, d.late]]
  | 0x08 => d.runT2
  | 0x0C => d.runTime
  | 0x10 => pk [(0, 10, s.callsIn .open_), (10, 10, s.callsIn .assigned), (20, 10, s.callsIn .frozen)]
  | 0x14 => pk [(0, 10, s.callsIn .boarded)]
  | 0x18 => d.pairs
  | 0x1C => d.swaps
  | 0x20 => d.digest
  | 0x24 => pk [(0, 16, d.fallbacks.toNat), (16, 16, d.refused.toNat)]
  | 0x28 => pk [(0, 16, d.mismatches.toNat), (16, 16, d.deferred.toNat)]
  | _ =>
    if h : 0x100 ≤ off ∧ (off - 0x100) / 16 < 16 then
      let k : Fin 16 := ⟨(off - 0x100) / 16, h.2⟩
      (d.summary.get k).getD (off % 16 / 4) 0
    else 0

/-! Levee and seals (10 R364, R365). -/

/-- LV_STAT (R364). -/
def lvStat (s : State) (c : Fin 16) : BitVec 32 :=
  let l := s.lv.get c
  pk [(0, 2, if l.demand then if l.immediate then 2 else 1 else 0),
    pkBits 2 [l.mstop, l.torqueOff, l.mc, l.mcPulled, l.brk1, l.brk2, l.b1Up, l.b2Up, l.lockedF, l.lockedR,
      l.exc, l.startOk, l.tests.step = 8, l.posOk, l.still, l.absOk, l.trip ≠ 0, s.isRetired (.resetInput c), l.bt.phase ≠ 0, l.hold]]

/-- LV_CAUSE (R364). -/
def lvCause (s : State) (c : Fin 16) : BitVec 32 := pk [(0, 8, (s.lv.get c).first.toNat), (8, 8, (s.lv.get c).last.toNat)]

/-- The registers of a car's levee (R364). -/
def lvReg (s : State) (c : Fin 16) (off : Nat) : BitVec 32 :=
  let l := s.lv.get c
  match off with
  | 0x00 => s.lvStat c
  | 0x04 => w32 l.pos
  | 0x08 => w32 l.speed
  | 0x0C => w32 l.env
  | 0x10 => w32 l.limit
  | 0x14 => s.lvCause c
  | 0x18 => pk [(0, 8, l.trip.toNat)]
  | 0x1C => l.demandT0
  | 0x20 => w32 (l.pos - l.cpPrev)
  | 0x24 => w32 (fxRound l.slip)
  | 0x28 => l.bt.word
  | 0x2C => pk [(0, 16, min (l.bt.ageT0 / 240000) 65535), (16, 16, l.bt.torq.toNat)]
  | 0x30 => pk [(0, 8, l.demands.toNat), (8, 8, l.breaches.toNat), (16, 8, l.resetHeld.toNat), (24, 8, l.discreps.toNat)]
  | 0x34 => pk [(0, 16, l.pressMs.toNat)]
  | _ => 0

/-- The LV block with the seals (R364, R365). -/
def leveeReg (s : State) (off : Nat) : BitVec 32 :=
  let q := s.seals
  if h : off / 0x40 < 16 then s.lvReg ⟨off / 0x40, h⟩ (off % 0x40)
  else if off = 0x800 then pk [(0, 8, q.now.toNat), (8, 8, q.pwrup.toNat), (16, 2, q.role.val), (18, 1, b2n q.changeErr)]
  else if off = 0x804 then pk [(0, 16, q.changes.toNat)]
  else 0

/-! Connections (11 R392). -/

/-- The registers of a connection of the NODES records, as they stand (R392). -/
def sfNow (s : State) (off : Nat) : BitVec 32 :=
  let i := off / 0x20
  match s.conns[i]?, s.model.bind (·.nodes[i]?) with
  | some c, some r =>
    match off % 0x20 with
    | 0x00 => pk [(0, 2, c.state.ctorIdx), pkBits 2 [r.safety, c.based], (4, 4, r.bus), (8, 8, r.car), (16, 16, c.connId.toNat)]
    | 0x04 => c.rxOk
    | 0x08 => pk [(0, 8, c.rejFormat.toNat), (8, 8, c.rejId.toNat), (16, 8, c.rejCrc.toNat), (24, 8, c.rejTag.toNat)]
    | 0x0C => pk [(0, 8, c.rejClaim.toNat), (8, 8, c.rejSeq.toNat), (16, 8, c.rejTime.toNat), (24, 8, c.losses.toNat)]
    | 0x10 => pk [(0, 16, c.seqTx.toNat), (16, 16, c.seqRx.toNat)]
    | 0x14 => pk [(0, 16, min (c.age / 4) 65535), (16, 16, c.joins.toNat)]
    | 0x18 => c.stamp
    | 0x1C => c.rx
    | _ => 0
  | _, _ => 0

/-- The SF block (page 1), as the last T0 latch left it (R392). -/
def sfReg (s : State) (off : Nat) : BitVec 32 :=
  match s.shown.conns[off / 0x20]? with
  | some l => if off % 4 = 0 then l.getD (off % 0x20 / 4) 0 else 0
  | none => 0

/-! Polders (12 R420 to R422). -/

/-- A channel's registers, as they stand (R420). -/
def polChNow (s : State) (i : Fin 96) (off : Nat) : BitVec 32 :=
  let c := s.pol.ch.get i
  let f := c.flags
  match off with
  | 0x0 => pk [(0, 2, c.lcls.ctorIdx), pkBits 2 [c.active, c.demand, c.cmd, c.on, c.rb, c.defer, c.pulse, s.underTest (.channel i),
      s.isRetired (.channel i)], (16, 16, c.current.toNat)]
  | 0x4 => pk [pkBits 0 [f.wb, f.guard, f.shortLp, f.ovld, f.cross, f.darkFail, f.wdog]]
  | 0x8 => pk [(0, 16, c.deferrals.toNat), (16, 16, c.pulses.toNat)]
  | 0xC => pk [(0, 16, c.abandoned.toNat)]
  | _ => 0

/-- A channel's registers as the last T0 latch left them (R420); the flags, which the host clears, as they stand. -/
def polChReg (s : State) (i : Fin 96) (off : Nat) : BitVec 32 :=
  match s.shown.chans[i.val]?, off with
  | some l, 0x0 => l.getD 0 0
  | some l, 0x8 => l.getD 1 0
  | some l, 0xC => l.getD 2 0
  | _, _ => s.polChNow i off

/-- A polder's registers (R421). -/
def polderReg (s : State) (p : Fin 12) (off : Nat) : BitVec 32 :=
  let x := s.pol.pol.get p
  match off with
  | 0x0 => pk [pkBits 0 [x.lpOk, x.lpLow], (8, 8, maskOf 8 fun j => (unitAt 96 (8 * p.val + j) .channel).any s.isRetired)]
  | 0x4 => pk [(0, 16, x.volt.toNat), (16, 16, s.usedBudget (some p))]
  | 0x8 => pk [(0, 16, x.deferred.toNat), (16, 16, x.coupler.toNat)]
  | _ => 0

/-- The POL block (R420 to R422). -/
def polReg (s : State) (off : Nat) : BitVec 32 :=
  if h : off / 16 < 96 then s.polChReg ⟨off / 16, h⟩ (off % 16)
  else if h : 0x800 ≤ off ∧ (off - 0x800) / 16 < 12 then s.polderReg ⟨(off - 0x800) / 16, h.2⟩ (off % 16)
  else if 0x900 ≤ off && off < 0x90C then (s.pol.gout.get? ((off - 0x900) / 4)).getD 0
  else if off = 0x90C then pk [(0, 16, s.usedBudget none)]
  else 0

/-! Buses (13 R454). -/

/-- A channel's registers (R454). -/
def busReg (s : State) (n : Fin 12) (off : Nat) : BitVec 32 :=
  let b := s.buses.get n
  match off with
  | 0x00 => pk [(0, 4, b.state.ctorIdx), pkBits 4 [b.noack, b.noRate, b.woke, b.collision, b.busoff, b.rxOvr, b.werr]]
  | 0x04 => pk [(0, 8, b.tec.toNat), (8, 8, b.recv.toNat), (16, 3, b.lastErr.val), (19, 1, b2n b.errPhase)]
  | 0x08 => pk [(0, 16, b.nom.toNat), (16, 16, b.dat.toNat)]
  | 0x0C => pk [(0, 8, b.tdcMeas.toNat), (8, 8, b.ssp.toNat)]
  | 0x10 => pk [(0, 16, b.txOk.toNat), (16, 16, b.rxOk.toNat)]
  | 0x14 => pk [(0, 8, b.errors.toNat), (8, 8, b.busoffs.toNat), (16, 8, b.txDrop.toNat), (24, 8, b.rxDrop.toNat)]
  | 0x18 => pk [(0, 8, b.replaced.toNat), (8, 8, b.unknown.toNat), (16, 8, b.late.toNat), (24, 8, b.wakes.toNat)]
  | 0x1C => pk [pkBits 0 [b.sleepReq, b.wakeMode]]
  | 0x20 => pk [(0, 29, b.wakeId.toNat), (29, 1, b2n b.wakeExt)]
  | 0x24 => pk [(0, 29, b.wakeMask.toNat)]
  | 0x28 => pk [(0, 8, b.wakeD0.toNat), (8, 8, b.wakeD1.toNat), (16, 8, b.wakeM0.toNat), (24, 8, b.wakeM1.toNat)]
  | _ => 0

/-! Host interface (14 R484). -/

/-- The HI block (R484). -/
def hiReg (s : State) (off : Nat) : BitVec 32 :=
  let h := s.hi
  match off with
  | 0x00 => pk [pkBits 0 [h.en, h.msixEn, h.crcEn]]
  | 0x04 => pk [pkBits 0 [s.ringsRun, h.cfgErr, h.werr, h.dbErr, h.dbLost, h.dmaErr, h.accErr, h.hrdy, h.hatn]]
  | 0x08 => h.sb.setWidth 32
  | 0x0C => (h.sb >>> 32).setWidth 32
  | 0x10 => pk [(0, 12, h.evtThresh.toNat)]
  | 0x14 => pk [(0, 16, h.irqMod.toNat)]
  | 0x18 => pk [(0, 7, h.tags.toList.sum), (8, 7, s.inExec)]
  | 0x1C => pk [(0, 16, h.evtLost.toNat), (16, 16, h.telDrop.toNat)]
  | 0x20 => pk [(0, 16, h.capDrop.toNat), (16, 16, h.dbIgn.toNat)]
  | 0xA0 => pk [(0, 4, h.cplVec.val), (4, 1, b2n h.cplIrq)]
  | _ =>
    if h' : 0x40 ≤ off ∧ (off - 0x40) / 16 < 6 then
      let r := h.rings.get ⟨(off - 0x40) / 16, h'.2⟩
      match off % 16 with
      | 0x0 => r.base.setWidth 32
      | 0x4 => (r.base >>> 32).setWidth 32
      | 0x8 => pk [(0, 15, r.size.toNat), (16, 4, r.vec.val), (20, 1, b2n r.irq)]
      | _ => 0
    else 0

/-! Twin operation (15 R521). -/

/-- The registers of the TW block, as they stand (R521). -/
def twNow (s : State) (off : Nat) : BitVec 32 :=
  let t := s.tw
  let wit := s.seals.role = 2
  match off with
  | 0x00 => pk [(0, 2, s.seals.role.val), (2, 3, t.state.ctorIdx),
      pkBits 5 [t.lanes ≠ 0, t.peer, t.gate, t.wLease ≠ 0, t.pLease ≠ 0, t.endorse, t.state = .synced, t.claimOk], (13, 2, t.lanes.toNat)]
  | 0x04 => t.claimOwn
  | 0x08 => t.claimPeer
  | 0x0C => pk [(0, 16, min t.wLease 65535), (16, 16, min t.pLease 65535)]
  | 0x10 => t.epochTx
  | 0x14 => t.epochRx
  | 0x18 => t.snapT2
  | 0x1C => pk [(0, 16, Config.rsiVersion.toNat), (16, 16, t.lastHb.elim 0 (·.rsi.toNat))]
  | 0x20 => pk [(0, 16, t.takeovers.toNat), (16, 16, t.hbLosses.toNat)]
  | 0x24 => pk [(0, 16, t.epochDisc.toNat), (16, 16, t.resyncs.toNat)]
  | 0x28 => pk [(0, 16, t.linkErr.toNat), (16, 16, t.claimErr.toNat)]
  | 0x2C => t.takeT0
  | 0x30 => if wit then pk [(0, 2, t.wit.holder), (8, 24, t.wit.epoch)] else 0
  | 0x34 => if wit then pk [(0, 16, min t.wit.exp.toNat 65535)] else 0
  | 0x38 => if wit || s.seals.role = 3 then BitVec.ofNat 32 t.wit.bound else 0
  | _ => 0

/-- The TW block as the last T0 latch left it (R521). -/
def twReg (s : State) (off : Nat) : BitVec 32 :=
  match s.shown.tw with
  | [] => s.twNow off
  | l => if off % 4 = 0 then l.getD (off / 4) 0 else 0

/-! Fault collector (16 R548 to R550). -/

/-- A unit of a kind is retired, by its index. -/
def retBit (s : State) {n : Nat} (f : Fin n → TestUnit) (x : Nat) : Bool := (unitAt n x f).any s.isRetired

/-- Retired pages of a kind. -/
def retPages (s : State) (dram : Bool) : Nat :=
  (s.fc.retired.filter fun u => match u with | .sramPage _ => !dram | .dramPage _ => dram | _ => false).length

/-- The retirement map (R550). -/
def retReg (s : State) (off : Nat) : BitVec 32 :=
  match off with
  | 0x500 => BitVec.ofNat 32 (maskOf 32 (s.retBit .port))
  | 0x504 => pk [(0, 16, maskOf 16 fun x => s.retBit .port (32 + x))]
  | 0x508 => BitVec.ofNat 32 (maskOf 32 (s.retBit .channel))
  | 0x50C => BitVec.ofNat 32 (maskOf 32 fun x => s.retBit .channel (32 + x))
  | 0x510 => BitVec.ofNat 32 (maskOf 32 fun x => s.retBit .channel (64 + x))
  | 0x514 => pk [(0, 12, maskOf 12 (s.retBit .bus)), (12, 6, maskOf 6 (s.retBit .supply)), (18, 2, maskOf 2 (s.retBit .levee)),
      (20, 4, maskOf 4 (s.retBit .carCore))]
  | 0x518 => BitVec.ofNat 32 (maskOf 32 (s.retBit .lane))
  | 0x51C => pk [(0, 16, maskOf 16 fun x => s.retBit .lane (32 + x))]
  | 0x520 => pk [(0, 16, maskOf 16 (s.retBit .cv)), (16, 16, maskOf 16 (s.retBit .resetInput))]
  | 0x524 => pk [(0, 6, s.retPages false), (16, 14, s.retPages true)]
  | _ => 0

/-- The FC block (R548, R549, R550). -/
def fcReg (s : State) (off : Nat) : BitVec 32 :=
  let f := s.fc
  let rec_ := (f.plog.find? (·.1 = f.plogSel.val)).map (·.2)
  if off = 0x04 then pk [pkBits 0 [f.firstValid, f.nerr, f.fSeen, f.commitErr, f.tests.any (·.running)]]
  else if 0x10 ≤ off && off < 0x20 then f.first.elim 0 fun r => leWord (msgBytes r) ((off - 0x10) / 4)
  else if off = 0x20 then pk [(0, 16, f.cntC.toNat), (16, 16, f.cntU.toNat)]
  else if off = 0x24 then pk [(0, 16, f.cntF.toNat), (16, 16, f.suppressed.toNat)]
  else if off = 0x28 then pk [(0, 16, f.transient.toNat), (16, 16, f.retiredCnt.toNat)]
  else if off = 0x30 then pk [(0, 10, f.plogSel.val), (10, 1, b2n (rec_.any (plogBad f.plogSel.val)))]
  else if off = 0x34 then pk [(0, 10, f.plogNext.val)]
  else if 0x40 ≤ off && off < 0x60 then rec_.elim 0 fun b => leWord b ((off - 0x40) / 4)
  else if 0x100 ≤ off && off < 0x500 then sluiceWord f ((off - 0x100) / 4)
  else s.retReg off

/-! Supervisor (17 R575). -/

/-- VERSION of a slot that is not EMPTY. -/
def slotVersion (s : State) (k : Fin 2) : BitVec 32 :=
  let x := s.pwr.slots.get k
  if x.state = 0 then 0 else fwVersion x.image

/-- The PWR block (R575). -/
def pwrReg (s : State) (off : Nat) : BitVec 32 :=
  let p := s.pwr
  match off with
  | 0x00 => pk [(0, 8, p.domOn.toNat), (8, 8, p.domOk.toNat), pkBits 16 [p.vinOk, p.derate, p.recovery]]
  | 0x04 => pk [(0, 16, p.vinMv.toNat)]
  | 0x30 => pk [(0, 16, n16 p.die0), (16, 16, n16 p.die1)]
  | 0x34 => pk [(0, 16, n16 p.base)]
  | 0x40 => pk [(0, 1, p.running.val), (1, 1, p.preferred.val), (2, 2, (p.slots.get 0).state.val), (4, 2, (p.slots.get 1).state.val),
      (6, 1, b2n p.fallback), (8, 6, p.minSec)]
  | 0x44 => s.slotVersion p.running
  | 0x48 => s.slotVersion (p.running + 1)
  | 0x50 => pk [(0, 6, p.parkReq.toNat), (8, 6, p.parked.toNat), (16, 6, p.parkAuto.toNat)]
  | 0x68 => pk [(0, 3, p.recState.val), (8, 8, p.recCode.toNat)]
  | _ =>
    if h : 0x10 ≤ off ∧ (off - 0x10) / 4 < 8 then
      let r := p.rails.get ⟨(off - 0x10) / 4, h.2⟩
      pk [(0, 16, r.1.toNat), (16, 16, r.2.toNat)]
    else 0

/-! BAR0 (18 R576 to R578). -/

/-- A word of a block whose units take `size` bytes each. -/
def ofUnit (n size : Nat) (off : Nat) (f : Fin n → Nat → BitVec 32) : BitVec 32 :=
  if h : off / size < n then f ⟨off / size, h⟩ (off % size) else 0

/-- The window (R577): PWR_RECOV_WIN is write-only. -/
def windowReg (s : State) (off : Nat) : BitVec 32 :=
  if s.pwr.recovery then 0
  else match s.page with
    | 0 => if off < 0x7000 then s.pgReg off else 0
    | 1 => if off < 0x4000 then s.sfReg off else 0
    | _ => 0

/-- A word at an aligned BAR0 address (R576, R586). -/
def bar0 (s : State) (a : Nat) : BitVec 32 :=
  if a < 0x100 then s.idReg a
  else if a < 0x140 then s.tickReg (a - 0x100)
  else if a < 0x180 then s.twReg (a - 0x140)
  else if a < 0x200 then s.imgReg (a - 0x180)
  else if a < 0x400 then s.spillReg (a - 0x200)
  else if a < 0x500 then s.hiReg (a - 0x400)
  else if a < 0x600 then ofUnit 16 0x10 (a - 0x500) s.msReg
  else if a < 0x700 then ofUnit 16 0x10 (a - 0x600) s.cvReg
  else if a < 0x800 then 0
  else if a < 0xA00 then s.dsxReg (a - 0x800)
  else if a < 0xC00 then 0
  else if a < 0x1000 then ofUnit 16 0x40 (a - 0xC00) s.cpReg
  else if a < 0x1800 then ofUnit 32 0x40 (a - 0x1000) s.dsReg
  else if a < 0x1E00 then ofUnit 12 0x80 (a - 0x1800) s.busReg
  else if a < 0x2000 then s.mapReg (a - 0x1E00)
  else if a < 0x3000 then s.ppReg (a - 0x2000)
  else if a < 0x4000 then s.ceReg (a - 0x3000)
  else if a < 0x5000 then s.leveeReg (a - 0x4000)
  else if a < 0x6000 then s.polReg (a - 0x5000)
  else if a < 0x7000 then s.fcReg (a - 0x6000)
  else if a < 0x8000 then s.pwrReg (a - 0x7000)
  else s.windowReg (a - 0x8000)

/-- Addresses that answer in recovery mode (R578). -/
def answersInRecovery (a : Nat) : Bool :=
  a < 0x100 || (0x1E00 ≤ a && a < 0x1E08) || a = 0x7000 || (0x7060 ≤ a && a < 0x706C) || 0x8000 ≤ a

/-- What a host read of BAR0 answers (R456, R576, R578): 0 where nothing answers. -/
def readReg (s : State) (addr : BitVec 16) : BitVec 32 :=
  let a := addr.toNat
  if a % 4 ≠ 0 then 0
  else if s.hostUp then s.bar0 a
  else if s.recovers && answersInRecovery a then s.bar0 a
  else 0

/-- BAR2 (18 R580): the doorbells are write-only and read 0 (00 R12, 14 R461); of the MSI-X structures State holds each entry's mask bit
and the pending bits; the rest reads 0. -/
def bar2 (s : State) (a : Nat) : BitVec 32 :=
  if 0x800 ≤ a && a < 0x900 && a % 16 = 12 then pk [(0, 1, b2n (s.hi.vecs.get (Fin.ofNat 16 ((a - 0x800) / 16))).masked)]
  else if a = 0xC00 then pkBits 0 (s.hi.vecs.toList.map (·.pba)) |> fun x => pk [x]
  else 0

/-- What a host read of BAR2 answers. -/
def readBar2 (s : State) (addr : BitVec 12) : BitVec 32 := if addr.toNat % 4 = 0 && s.hostUp then s.bar2 addr.toNat else 0

end State

end Sys2Proof.Machine
end

