-- ==== Sys2Proof/Machine/Replica.lean ====
section
/-! DEFINITION. The replicated state image (15): what it holds, how a standby takes it, and the byte forms that the firmware owns
and the spec does not lay out (log 8). -/

namespace Sys2Proof.Machine

/-- The replicated state (15, the table of what the RSI holds). -/
structure Replica where
  axes   : Tab 48 Axis                  -- 05 R183
  lanes  : Tab 48 Lane                  -- 06 R202
  sides  : Tab 32 Side                  -- 07 R254
  modes  : Tab 16 Mode                  -- 09 R319
  base   : Tab 16 Int                   -- 04 R149
  corr   : Tab 16 Int
  health : Tab 16 Health
  lv     : Tab 16 Lv                    -- levee demands, latched causes, envelopes, brake-test and start-up test results
  resets : BitVec 16                    -- retired reset inputs
  dsx    : Dsx                          -- 08 R287, R288: calls, routes, result in force, snapshot
  digest : Option (BitVec 32 × BitVec 32)   -- T2CNT and digest of the last result
  seqTx  : List (BitVec 16)             -- 11 R388
  deriving DecidableEq, Repr

end Sys2Proof.Machine

namespace Sys2Proof

/-- The RSI's bytes. -/
opaque Config.rsiImage : Machine.Replica → List Byte

/-- The records of an epoch, the delta since the last one sent (15 R496): the model does not keep what was sent, so the number drawn
from the free counter stands for it. -/
opaque Config.rsiDelta : Nat → Machine.Replica → List Byte

/-- A whole RSI read back; none where its bytes are no image of the version in use. The second argument is the standby's own state. -/
opaque Config.rsiInstall : List Byte → Machine.Replica → Option Machine.Replica

/-- An epoch's records applied to a replica; none where they do not fit. -/
opaque Config.rsiApply : List Byte → Machine.Replica → Option Machine.Replica

end Sys2Proof

namespace Sys2Proof.Machine

/-- Plans, state and energy of an axis (05 R183); what the standby's own PG evaluates stays. -/
def Axis.follow (own r : Axis) : Axis :=
  { r with refPos := own.refPos, refVel := own.refVel, refAcc := own.refAcc, planT := own.planT, stopPos := own.stopPos,
           replans := own.replans, deferred := own.deferred }

/-- The state of a lane (06 R202). -/
def Lane.follow (own r : Lane) : Lane :=
  { own with gain := r.gain, integ := r.integ, bias := r.bias, set := r.set, frac := r.frac, aux := r.aux, drops := r.drops }

/-- A door side (07 R254); what its own DON replies and packets give stays. -/
def Side.follow (own r : Side) : Side :=
  { r with locked := own.locked, contact := own.contact, curtain := own.curtain, edge := own.edge, enc := own.enc,
           current := own.current, seqSent := own.seqSent, seqPrev := own.seqPrev, seqEcho := own.seqEcho, nStatus := own.nStatus,
           nContacts := own.nContacts, nTemp := own.nTemp, nFault := own.nFault, lastSof := own.lastSof, replyNew := own.replyNew,
           guardNew := own.guardNew, noReply := own.noReply, pLost := own.pLost, pRose := own.pRose, pFault := own.pFault,
           guardT0 := own.guardT0, learn := own.learn, regs := own.regs }

/-- A car's modes (09 R319); commands and counters belong to the module that took them. -/
def Mode.follow (own r : Mode) : Mode :=
  { r with changes := own.changes, refused := own.refused, setCmds := own.setCmds, runCmd := own.runCmd, doorCmd := own.doorCmd }

/-- A car of the levee; positions, duals and timing are the standby's own. -/
def Lv.follow (own r : Lv) : Lv :=
  { own with causes := r.causes, trip := r.trip, demand := r.demand, first := r.first, last := r.last, demandT0 := r.demandT0,
             mstop := r.mstop, immediate := r.immediate, acted := r.acted, vd := r.vd, dir := r.dir, k := r.k, env := r.env, torqueOff := r.torqueOff,
             tqAge := r.tqAge, tqSent := r.tqSent, stoSeen := r.stoSeen, stoRaised := r.stoRaised, mc := r.mc, brk1 := r.brk1, brk2 := r.brk2,
             startOk := r.startOk, hold := r.hold, holdCause := r.holdCause, modeLv := r.modeLv, vmode := r.vmode,
             lifted := r.lifted, decel := r.decel, cap := r.cap, limit := r.limit, capFall := r.capFall, liftPos := r.liftPos,
             bt := r.bt, tests := r.tests }

/-- Dispatch (08 R287, R288); the registers of the module's own runs stay. -/
def Dsx.follow (own r : Dsx) : Dsx :=
  { own with calls := r.calls, carCalls := r.carCalls, force_ := r.force_, taken := r.taken, lanterns := r.lanterns,
             publish := r.publish, eligible := r.eligible, standT0 := r.standT0, pattern := r.pattern, sent := r.sent,
             digest := r.digest, summary := r.summary, result := none, nearRes := none }

/-- The run in progress and its results are discarded (08 R288). -/
def Dsx.discard (d : Dsx) : Dsx := { d with snap := none, result := none, nearRes := none }

namespace State

/-- The replicated state of the active module. -/
def replica (s : State) : Replica :=
  { axes := s.axes, lanes := s.lanes, sides := s.sides, modes := s.modes, base := s.cars.map (·.base), corr := s.cars.map (·.corr),
    health := s.cars.map (·.health), lv := s.lv,
    resets := BitVec.ofNat 16 (((idx 16).map fun c => b2n (s.isRetired (.resetInput c)) * 2 ^ c.val).sum), dsx := s.dsx,
    digest := s.dsx.ownDigest, seqTx := s.conns.map (·.seqTx) }

/-- A car that is LOST here and referenced there adopts the position of T0 `t`, brought forward with its own counts (04 R149). -/
def followPos (s : State) (m : Model) (r : Replica) (t : BitVec 32) (c : Fin 16) : State :=
  let cp := s.cars.get c
  let back := (s.tick.t0 - t).toNat
  let scale := scaleOf m (if cp.motSec then (fuseIn m c).sec else (fuseIn m c).motor)
  match cp.counts.head?, cp.counts[back]? with
  | some now, some then_ =>
    if cp.health = .lost && 2 ≤ Health.rank (r.health.get c) then
      let s := s.updCar c fun cp =>
        { cp with base := r.base.get c + diff32 now then_ * scale, corr := r.corr.get c, corrTgt := r.corr.get c, slew := 0,
                  startUp := false }
      s.setHealth c (r.health.get c)
    else s
  | _, _ => s

/-- The standby takes a replica that holds the state of the boundary of T0 `t`. `snap` tells that the dispatch snapshot is part of
it (08 R287). -/
def follow (s : State) (m : Model) (r : Replica) (t : BitVec 32) (snap : Bool) : State :=
  let dsx := s.dsx.follow r.dsx
  let s : State :=
    { s with
      axes := Vector.ofFn fun k => (s.axes.get k).follow (r.axes.get k)
      lanes := Vector.ofFn fun k => (s.lanes.get k).follow (r.lanes.get k)
      sides := Vector.ofFn fun d => (s.sides.get d).follow (r.sides.get d)
      modes := Vector.ofFn fun c => (s.modes.get c).follow (r.modes.get c)
      lv := Vector.ofFn fun c => (s.lv.get c).follow (r.lv.get c)
      dsx := { dsx with snap := if snap then r.dsx.snap else dsx.snap, peerDigest := if r.digest.isSome then r.digest else dsx.peerDigest }
      conns := (s.conns.zipIdx).map fun p => { p.1 with seqTx := r.seqTx.getD p.2 p.1.seqTx }
      fc := { s.fc with retired := s.fc.retired ++ ((idx 16).filter fun (c : Fin 16) => r.resets.getLsbD c.val && !s.isRetired (.resetInput c)).map TestUnit.resetInput } }
  s.each m.presentCars fun s c => s.followPos m r t c

end State

end Sys2Proof.Machine
end

