-- ==== Sys2Proof/Machine/Timebase.lean ====
section
/-! DEFINITION. Abandoned jobs and their escalation (01 R29 to R36) and the synchronisation fault of a standby (16 R524). An
abandoned job is marked; its next run is the one that is dropped (log 11). -/

namespace Sys2Proof.Machine

namespace State

/-- The module works its group's tick jobs (01 R46). -/
def live (s : State) : Bool := s.mod = .active || s.mod = .standby || s.mod = .safeHold

/-- A lane is computed (06 R187): its engine powered, its gain record of a kind, neither retired nor under test. -/
def laneRuns (s : State) (k : Fin 48) : Bool :=
  s.live && s.pd 5 && s.model.any (fun m => (m.gains.get k).kind ≠ 0) && !s.underTest (.lane k)

/-- A car core works its cars (16 R538). -/
def coreRuns (s : State) (cc : Fin 4) : Bool := s.pd 2 && !s.underTest (.carCore cc) && !s.isRetired (.carCore cc)

/-- The active module of a pair sends its state to the standby (15 R496, R498). -/
def replicates (s : State) : Bool := s.mod = .active && s.twinRole && s.pd 1 && s.pd 7

/-- The module exchanges heartbeats (15 R492). -/
def links (s : State) : Bool := s.twinRole && s.model.isSome && s.pd 1 && s.pd 7

/-- A job of the coming period that can be abandoned. -/
def jobRuns (s : State) : Job → Bool
  | .lanePg k | .laneCe k => s.laneRuns k
  | .frameBuild c => s.present.contains c && s.drives && s.coreRuns (carCore c)
  | .fusion c => s.live && s.present.contains c && s.coreRuns (carCore c)
  | .levee lc => s.pd 3 && s.model.isSome && !s.underTest (.levee lc) && !s.isRetired (.levee lc)
  | .carCoreT1 cc => (s.mod = .active || s.mod = .standby) && s.model.isSome && s.coreRuns cc
  | .heartbeat => s.links
  | .telemetry => s.live && s.model.isSome && s.pd 1
  | .rings => s.ringsRun && s.pd 1
  | .epoch => s.replicates
  | .solver => s.dsx.snap.isSome
  | .snapshot => s.replicates && s.tw.snapBytes.isSome
  | .publishFixtures cc => s.dsx.publish.get cc && s.coreRuns cc
  | .publishHost => s.mod = .active && s.pd 1

/-- Mark a job. -/
def mark (s : State) (j : Job) : State := { s with spill := { s.spill with abandoned := s.spill.abandoned ++ [j] } }

/-- Remove a mark. -/
def unmark (s : State) (j : Job) : State := { s with spill := { s.spill with abandoned := s.spill.abandoned.filter (· ≠ j) } }

/-- One more drop of a lane, SPILL_LANE (R36). -/
def countLane (s : State) (k : Fin 48) : State := { s with spill := { s.spill with lane := s.spill.lane.upd k (· + 1) } }

/-- A lane's coming computation is dropped, whichever of its parts was abandoned. -/
def laneMarked (s : State) (k : Fin 48) : Bool := s.abandoned (.lanePg k) || s.abandoned (.laneCe k)

/-- Spillway unit of a car core (R35). -/
def coreUnit (cc : Fin 4) : Fin 12 := ⟨2 + cc.val, by omega⟩

/-- Spillway unit of a levee core (R35). -/
def leveeUnit (lc : Fin 2) : Fin 12 := ⟨6 + lc.val, by omega⟩

/-- The hoist lane and the fitted door lanes of a car that are computed. -/
def carLanes (s : State) (c : Fin 16) : List (Fin 48) := (idx 48).filter fun k => laneCar k = c && s.laneRuns k

/-- BERM_ABANDON (R25, R29 to R36). A lane counts once for a computation, by whichever part is abandoned first; a frame build counts
as a drop of every lane of its car that has none. -/
def bermAbandon (s : State) (j : Job) : State :=
  if !s.jobRuns j || s.abandoned j then s
  else match j with
    | .lanePg k => if s.laneMarked k then s else ((s.mark j).countSpill 9 0).countLane k
    | .laneCe k => if s.laneMarked k then s else ((s.mark j).countSpill 10 0).countLane k
    | .frameBuild c =>
      ((s.mark j).countSpill (coreUnit (carCore c)) 0).each ((s.carLanes c).filter fun k => !s.laneMarked k) countLane
    | .fusion c => (s.mark j).countSpill (coreUnit (carCore c)) 0
    | .levee lc => (s.missEvaluation lc false).countSpill (leveeUnit lc) 0
    | .carCoreT1 cc => (s.mark j).countSpill (coreUnit cc) 1
    | .heartbeat => (s.mark j).countSpill 1 0
    | .telemetry | .rings => (s.mark j).countSpill 0 1
    | .epoch => (s.mark j).countSpill 1 1
    | .solver => s.abandonRun
    | .snapshot => (s.countSpill 1 2).updTw fun t => { t with snapBytes := none }
    | .publishFixtures cc => (s.mark j).countSpill (coreUnit cc) 2
    | .publishHost => (s.mark j).countSpill 0 2

/-- LANE_STOP (R31): two consecutive drops of a lane, each of its own or by its car's frame build, stop the axis. -/
def laneStop (s : State) (k : Fin 48) : State :=
  let l := s.lanes.get k
  match s.model with
  | none => s
  | some m =>
    if !l.stopped && s.laneRuns k && 2 ≤ l.missRun then
      let s := s.updLane k fun l => { l with stopped := true }
      let s := if isHoist k then s.askSf1 (laneCar k) else s.unrefSide m (laneSide k)
      s.raise 0x81 1 2 (BitVec.ofNat 32 k.val) 0
    else s

/-- CAR_CORE_JOB_DROPS (R31): reported once for a run of consecutive drops. -/
def carCoreJobDrops (s : State) (cc : Fin 4) : State :=
  let n := s.spill.core.get cc
  if 4 ≤ n && !s.spill.told.get cc then
    let s := { s with spill := { s.spill with told := s.spill.told.put cc true } }
    let s := s.each ((coreCars cc).filter s.present.contains) askSf1
    s.raise (0x72 + cc.val) 3 2 (BitVec.ofNat 32 n) 0
  else s

/-- TICK_SYNC_FAULT (16 R524): the offset of R20 has been beyond ±2 µs for 8 T0; `offset` in 10 ns. -/
def tickSyncFault (s : State) (offset : Int) : State :=
  if s.mod = .standby && 200 < offset.natAbs then s.raise 0xF1 2 2 (w32 offset) 0 else s

end State

/-- BERM_ABANDON, R29. -/
def execBermAbandon (job : Job) (s : State) : Out := .next (s.bermAbandon job)
/-- LANE_STOP, R31. -/
def execLaneStop (k : Fin 48) (s : State) : Out := .next (s.laneStop k)
/-- CAR_CORE_JOB_DROPS, R31. -/
def execCarCoreJobDrops (cc : Fin 4) (s : State) : Out := .next (s.carCoreJobDrops cc)
/-- TICK_SYNC_FAULT, R524. -/
def execTickSyncFault (offset : Int) (s : State) : Out := .next (s.tickSyncFault offset)

end Sys2Proof.Machine
end

