-- ==== Sys2Proof/Machine/Twin.lean ====
section
/-! DEFINITION. Twin operation, leases, the claim gate and the witness (15). -/

namespace Sys2Proof.Machine

/-- Reasons for a bad link frame (R492). -/
inductive LinkBad where
  | crc | tag
  deriving DecidableEq, Repr

/-- CRC-16/CCITT-FALSE over bits 55 to 16 of a claim word (R503). -/
def claimCrc (body : Nat) : Nat := (crc16 ((leBytes 5 body).reverse)).toNat

/-- The CLAIM of a claim word, where the word is valid (R503). -/
def claimOfWord (w : BitVec 64) : Option (BitVec 32) :=
  let n := w.toNat
  if n / 2 ^ 56 = 0xA5 && n % 65536 = claimCrc (n / 65536 % 2 ^ 40) then some (BitVec.ofNat 32 (n / 2 ^ 24)) else none

/-- A SEQ that a connection has already accepted (R506: the second copy of a frame). -/
def Conn.hasSeq (c : Conn) (q : BitVec 16) : Bool :=
  let back := (c.seqRx - q).toNat
  c.seqBased && back ≤ 8 && c.seen.getLsbD back

/-- Data bytes of a snapshot part (R498). -/
def partSize : Nat := 49104

namespace State

/-- The slot identifier of the role (R488). -/
def ownSlot (s : State) : Nat := match s.seals.role.val with | 0 => 1 | 1 => 2 | 2 => 0 | _ => 3

/-- The slot of the other module of a pair. -/
def peerSlot (s : State) : Nat := 3 - s.ownSlot

/-- Some lane of the Yilz link is synchronised. -/
def linkUp (s : State) : Bool := s.links && s.tw.lanes ≠ 0

/-- IMG_INFORCE_DIGEST bytes 0 to 7 (R493). -/
def digest8 (s : State) : List Byte := pad 8 (s.model.elim [] (·.digest))

/-! Link frames (R490, R492). -/

/-- The key K_Y (R490). -/
def yilzKey (s : State) (m : Model) : List Byte :=
  match (m.wit? s.peerSlot).bind fun i => m.nodes[i]? with
  | none => []
  | some r =>
    let own := leBytes 4 Config.moduleId.toNat
    let other := leBytes 4 r.nodeId.toNat
    hkdfExpand (connPrk m r.pubkey) (0x4B :: (if s.ownSlot = 1 then own ++ other else other ++ own)) 16

/-- TAG of a link frame. -/
def linkTag (s : State) (m : Model) (bs : List Byte) : List Byte := (cmac (s.yilzKey m) (0x59 :: bs)).take 4

/-- Send a link frame: header, body, CRC and TAG; none where CV15 has not delivered the CRC (16 R546). -/
def sendLink (s : State) (m : Model) (type : Nat) (seq fold : BitVec 32) (body : List Byte) : State :=
  let bs := leBytes 1 type ++ [0x01] ++ leBytes 2 (24 + body.length) ++ leBytes 1 s.ownSlot ++ [0, 0, 0] ++ leBytes 4 seq.toNat ++
    leBytes 4 s.tick.t0.toNat ++ body
  let bs := bs ++ leBytes 4 (cv fold bs).toNat
  let bad := s.cvSpoilt 15
  let s := s.useCv 15 true
  if bad then s else s.updTw fun t => { t with linkOut := t.linkOut ++ [bs ++ s.linkTag m bs] }

/-- The form of a received link frame: type, version, whole length, the peer's slot. -/
def linkForm (s : State) (bs : List Byte) (type lo hi : Nat) : Bool :=
  fld bs 0 1 = type && fld bs 1 1 = 1 && fld bs 2 2 = bs.length && fld bs 4 1 = s.peerSlot && lo ≤ bs.length && bs.length ≤ hi

/-- CRC and TAG of a received link frame. -/
def linkGood (s : State) (m : Model) (bs : List Byte) (fold : BitVec 32) : Bool :=
  let n := bs.length
  slice bs (n - 8) 4 = leBytes 4 (cv fold (bs.take (n - 8))).toNat && bs.drop (n - 4) = s.linkTag m (bs.take (n - 4))

/-- A failed link frame is counted. -/
def linkError (s : State) : State := s.updTw fun t => { t with linkErr := t.linkErr + 1 }

/-- A link frame arrives: `act` takes it when it passes, `bad` what follows a failure; CV15 computes its CRC (16 R544). -/
def onLink (s : State) (bs : List Byte) (type lo hi : Nat) (fold : BitVec 32) (bad : State → State) (act : State → Model → State) : State :=
  match s.model with
  | none => s
  | some m =>
    if !s.linkUp then s
    else if !s.linkForm bs type lo hi then bad s.linkError
    else
      let ok := s.linkGood m bs fold && !s.cvSpoilt 15
      let s := s.useCv 15 ok
      if ok then act s m else bad s.linkError

/-! Leases and the gate (R504 to R512). -/

/-- The conditions of R504 on an open gate. -/
def gateMay (s : State) : Bool :=
  (s.mod = .active || (s.mod = .safeHold && !s.tw.released)) && s.leased && decide (s.tw.claimPeer.toNat < s.tw.claimOwn.toNat)

/-- The gate closes as soon as a condition fails (R504): every output goes off (12 R403). -/
def judgeGate (s : State) : State :=
  if s.tw.gate && s.seals.role ≠ 3 && !s.gateMay then
    (s.updTw fun t => { t with gate := false }).each (idx 96) fun s i => if outRole (s.polRec i).role then s.switchOff i else s
  else s

/-- The gate at a T0 boundary (R504): it opens in ACTIVE only. -/
def openGate (s : State) : State :=
  if s.seals.role = 3 then s.updTw fun t => { t with gate := s.mod = .active || s.mod = .safeHold }
  else if s.mod = .active && s.gateMay then s.updTw fun t => { t with gate := true }
  else s.judgeGate

/-- RELEASED is set with the gate closed (R504, R512). -/
def release (s : State) (mute : Bool) : State :=
  (s.updTw fun t => { t with released := true, muted := t.muted || mute, state := .released, wLease := 0, pLease := 0 }).judgeGate

/-- Both leases are gone: the module is RELEASED and sends nothing more, the frames already listed with it (R256, R512). -/
def silence (s : State) : State := (s.release true).each (idx 12) fun s n => s.dropTx n true

/-! Witness frames (R506). -/

/-- Build and queue a witness frame on connection `i`: one frame on K0 and on K1. -/
def sendWit (s : State) (m : Model) (i ftype : Nat) (claim : BitVec 32) (payload : List Byte) : State :=
  match m.nodes[i]?, s.conns[i]? with
  | some r, some c =>
    let ident := 0x1F0 + s.ownSlot
    let (bs, c') := s.safetyBytes c r claim ident ftype payload
    (s.updConn i fun _ => c').each [0, 1] fun s (n : Fin 12) =>
      if s.cvUsable (busCv n) then (s.useCv (busCv n) true).send n ident bs false i else s.useCv (busCv n) true
  | _, _ => s

/-- A module's frame to the witness. -/
def toWitness (s : State) (ftype : Nat) (payload : List Byte) : State :=
  match s.model with
  | none => s
  | some m => (m.wit? 0).elim s fun i => s.sendWit m i ftype s.claim payload

/-- LEASE_REQ: a new grant (1) or a renewal (2). -/
def sendReq (s : State) (kind : Nat) : State :=
  s.toWitness 0x30 (leBytes 1 kind ++ leBytes 1 s.ownSlot ++ [0, 0] ++ leBytes 4 (if kind = 2 then s.claim.toNat else 0))

/-- LEASE_REL for the claim held. -/
def sendRel (s : State) : State := s.toWitness 0x32 (leBytes 4 s.claim.toNat)

/-- Checks 1 to 4, 6 and 7 of 11 R382 on a witness frame: the connection after them, or the failed check. -/
def checkWit (s : State) (r : NodeRec) (c : Conn) (fr : Frame) (ftype plen : Nat) : Except Rej Conn :=
  let bs := fr.data
  let l := bs.length
  let q := BitVec.ofNat 16 (fld bs 2 2)
  if !r.safety || !safetyFormat fr ftype plen then .error .format
  else if fld bs 4 4 ≠ r.nodeId.toNat || fld bs 8 4 ≠ Config.moduleId.toNat then .error .id
  else if !s.cvUsable (busCv fr.bus) ||
      slice bs (l - 8) 4 ≠ leBytes 4 (cv (BitVec.ofNat 32 (c.connId.toNat * 65536 + q.toNat)) (bs.take (l - 8))).toNat then .error .crc
  else if bs.drop (l - 4) ≠ tag4 c.key 0x56 fr.ident.toNat (bs.take (l - 4)) then .error .tag
  else match c.takeSeq q with
    | none => .error .seq
    | some c =>
      match c.takeTime (BitVec.ofNat 32 (fld bs 12 4)) fr.sof with
      | none => .error .time
      | some c => .ok c

/-- A witness frame of the sender at WIT address `addr` arrives on K0 or K1. The second copy of an accepted frame is discarded and
not counted. -/
def onWit (s : State) (fr : Frame) (addr ftype plen : Nat) (act : State → State) : State :=
  if 2 ≤ fr.bus.val || fr.ext || fr.ident.toNat ≠ 0x1F0 + addr then s
  else match s.hear fr, s.model with
    | some t, some m =>
      if t.lostRx fr then t
      else match (m.wit? addr).bind fun i => (m.nodes[i]?).bind fun r => (t.conns[i]?).map fun c => (i, r, c) with
        | none => t
        | some (i, r, c) =>
          let res := t.checkWit r c fr ftype plen
          let t := t.countCv fr.bus res
          match res with
          | .ok c => act (t.updConn i fun _ => c.accept fr.sof)
          | .error .seq => if c.hasSeq (BitVec.ofNat 16 (fld fr.data 2 2)) then t else t.updConn i (·.reject .seq)
          | .error e => t.updConn i (·.reject e)
    | some t, none => t
    | none, _ => s

/-! Replication at the standby (R495 to R500). -/

/-- The RSI version in use (R495). -/
def rsiInUse (s : State) : Option Nat :=
  s.tw.lastHb.bind fun h =>
    let a := Config.rsiVersion.toNat
    let b := h.rsi.toNat
    if a ≤ b + 1 && b ≤ a + 1 then some (min a b) else none

/-- The twin state behind CLAIMING. -/
def follows (s : State) : TwState := if s.tw.state = .claiming then s.tw.prior else s.tw.state

/-- The standby becomes UNSYNCED: a loss of heartbeat keeps it claiming. -/
def unsync (s : State) : State :=
  s.updTw fun t =>
    { t with state := if t.state = .claiming then .claiming else .unsynced, prior := if t.state = .claiming then .unsynced else t.prior,
             parts := [], kept := [], epochWait := none, install := false }

/-- The last EPOCH_SEQ accepted, applied or not. -/
def epochHave (s : State) : BitVec 32 :=
  if s.follows = .resync then s.tw.partsBase + BitVec.ofNat 32 s.tw.kept.length else s.tw.epochRx + (if s.tw.epochWait.isSome then 1 else 0)

/-- An epoch fails or is missing (R497). -/
def epochFail (s : State) (arrived : Bool) : State :=
  let want := s.epochHave + 1
  let s := if arrived then s.updTw fun t => { t with epochDisc := t.epochDisc + 1 } else s
  if s.follows = .synced || s.follows = .resync then s.unsync.raise 0xA1 4 1 0 want.toNat else s

/-- An epoch's body is applied: the T0 of its boundary follows from its T1CNT. -/
def applyEpoch (s : State) (m : Model) (bs : List Byte) : State :=
  let t := BitVec.ofNat 32 (fld bs 16 4 * 8)
  match Config.rsiApply (slice bs 32 (bs.length - 40)) s.replica with
  | none => s.epochFail true
  | some r => (((s.follow m r t (bitAt bs 24 0)).updTw fun w => { w with epochRx := w.epochRx + 1 })).checkDigest

/-- The accepted epoch that waits is applied. -/
def takeEpoch (s : State) (m : Model) : State :=
  match s.tw.epochWait with
  | none => s
  | some bs => (s.updTw fun t => { t with epochWait := none }).applyEpoch m bs

/-- The snapshot is installed and the kept epochs applied (R500). -/
def installRsi (s : State) (m : Model) : State :=
  let t := s.tw
  match Config.rsiInstall (t.parts.flatMap (·.2)) s.replica with
  | none => s.unsync
  | some r =>
    let s := s.follow m r (t.partsT2 <<< 8) false
    let s := s.updTw fun w =>
      { w with epochRx := t.partsBase, snapT2 := t.partsT2, parts := [], kept := [], install := false,
               state := if w.state = .claiming then .claiming else .synced, prior := if w.state = .claiming then .synced else w.prior }
    s.each t.kept fun s bs => if s.follows = .synced then s.applyEpoch m bs else s

/-- The standby's part of a T1 boundary: what has been accepted takes effect. An epoch that the peer's heartbeat tells of and that has
not arrived is missing. -/
def standbyT1 (s : State) (m : Model) : State :=
  if s.mod ≠ .standby then s
  else
    let gone := (s.follows = .synced || s.follows = .resync) && s.tw.lastHb.any fun h => decide (0 < diff32 h.epochSeq s.epochHave)
    if gone then s.epochFail false
    else if s.tw.install then s.installRsi m
    else if s.follows = .synced then s.takeEpoch m
    else s

/-- EPOCH_RX (R497, R500). -/
def epochRx (s : State) (bs : List Byte) : State :=
  if s.mod ≠ .standby || !s.linkUp then s
  else match s.follows with
    | .synced | .resync =>
      let want := s.epochHave + 1
      let seq := BitVec.ofNat 32 (fld bs 8 4)
      if s.follows = .resync && diff32 seq s.tw.partsBase ≤ 0 then s
      else s.onLink bs 2 48 49152 want (·.epochFail true) fun s _ =>
        if seq ≠ want || s.isRetired (.cv 15) || s.rsiInUse ≠ some (fld bs 20 2) then s.epochFail true
        else if s.follows = .resync then s.updTw fun t => { t with kept := t.kept ++ [bs] }
        else s.updTw fun t => { t with epochWait := some bs }
    | _ => s.updTw fun t => { t with epochDisc := t.epochDisc + 1 }

/-- A part fails in RESYNC (R499). -/
def partFail (s : State) : State := if s.follows = .resync then s.unsync else s

/-- A part joins the snapshot; the last one checks the whole against the CRC of part 0 (R498). -/
def addPart (s : State) (t2 : BitVec 32) (off : Nat) (data : List Byte) : State :=
  let s := s.updTw fun t => { t with parts := t.parts ++ [(off, data)] }
  if s.tw.parts.length < 32 then s
  else
    let ok : Bool := decide (cv t2 (s.tw.parts.flatMap (·.2)) = s.tw.partsCrc) && !s.cvSpoilt 15
    let s := s.useCv 15 ok
    if ok then s.updTw fun t => { t with install := true } else s.unsync

/-- A part whose frame is good. -/
def takePart (s : State) (bs : List Byte) : State :=
  let t2 := BitVec.ofNat 32 (fld bs 8 4)
  let part := fld bs 16 1
  let n := fld bs 28 4
  let off := fld bs 24 4
  let data := slice bs 40 n
  let form : Bool :=
    fld bs 17 1 = 32 && part < 32 && bs.length = 48 + n && s.rsiInUse = some (fld bs 18 2) && !s.isRetired (.cv 15)
  let here := s.tw.lastHb.any fun h => h.imgDig = s.digest8
  match s.follows with
  | .unsynced =>
    if part = 0 && form && off = 0 && here && s.tw.state ≠ .claiming then
      (s.updTw fun t =>
        { t with state := .resync, resyncs := t.resyncs + 1, parts := [], kept := [], epochWait := none, install := false,
                 partsT2 := t2, partsBase := BitVec.ofNat 32 (fld bs 20 4), partsCrc := BitVec.ofNat 32 (fld bs 32 4) }).addPart t2 off data
    else s
  | .resync =>
    if s.tw.install then s
    else if form && part = s.tw.parts.length && t2 = s.tw.partsT2 && fld bs 20 4 = s.tw.partsBase.toNat &&
        fld bs 32 4 = s.tw.partsCrc.toNat && off = (s.tw.parts.map (·.2.length)).sum then s.addPart t2 off data
    else s.partFail
  | _ => s

/-- SNAP_PART_RX (R498 to R500). -/
def snapPartRx (s : State) (bs : List Byte) : State :=
  if s.mod ≠ .standby then s
  else
    s.onLink bs 3 48 49152 (BitVec.ofNat 32 (fld bs 8 4) <<< 5 ||| BitVec.ofNat 32 (fld bs 16 1)) partFail fun s _ => s.takePart bs

/-! Replication at the active (R496, R498, R501). -/

/-- The epoch of the T1 that has ended. -/
def sendEpoch (s : State) (m : Model) : State :=
  if !s.replicates || s.tw.lanes = 0 || s.isRetired (.cv 15) then s
  else if s.abandoned .epoch then s.updTw fun t => { t with epochGap := true }
  else
    let (v, s) := s.take
    let seq := s.tw.epochTx + 1
    let recs := (Config.rsiDelta s.freeCtr s.replica).take 49112
    let flags := b2n (s.tick.t1.toNat % 32 = 0) + 2 * b2n s.tw.epochGap
    let body := leBytes 4 s.tick.t1.toNat ++ leBytes 2 ((s.rsiInUse).getD Config.rsiVersion.toNat) ++ leBytes 2 (v.toNat % 65536) ++
      leBytes 2 flags ++ List.replicate 6 0 ++ recs
    (s.updTw fun t => { t with epochTx := seq, epochGap := false }).sendLink m 2 seq seq body

/-- The snapshot of a T2 boundary is taken. One abandoned in its T2 leaves the standby on epochs until the next (01 R31). -/
def takeRsi (s : State) : State :=
  if !s.replicates then s
  else s.updTw fun t => { t with snapT2 := s.tick.t2, snapBase := t.epochTx + 1, snapBytes := some (Config.rsiImage s.replica) }

/-- The part of a snapshot that this T1 sends. -/
def sendPart (s : State) (m : Model) : State :=
  match s.tw.snapBytes with
  | none => s
  | some rsi =>
    if !s.replicates || s.tw.lanes = 0 || s.isRetired (.cv 15) then s
    else
      let part := s.tick.t1.toNat % 32
      let data := slice rsi (partSize * part) partSize
      let body := leBytes 1 part ++ [32] ++ leBytes 2 ((s.rsiInUse).getD Config.rsiVersion.toNat) ++ leBytes 4 s.tw.snapBase.toNat ++
        leBytes 4 (min (partSize * part) rsi.length) ++ leBytes 4 data.length ++ leBytes 4 (cv s.tw.snapT2 rsi).toNat ++ leBytes 4 0 ++ data
      s.sendLink m 3 s.tw.snapT2 (s.tw.snapT2 <<< 5 ||| BitVec.ofNat 32 part) body

/-- The image being sent to the standby: a pending one that waits for its answer, else the one in force (02 R77, R501). -/
def imgOut (s : State) : List Byte :=
  let k := match s.img.pending with
    | some p => if p.origin = .host && !p.peerOk then p.slot else s.img.inforce
    | none => s.img.inforce
  (s.img.slots.get k).getD []

/-- The IMAGE frames owed beside the image: the standby's answer and the boundary A (02 R77, log 61). -/
def sendOwed (s : State) (m : Model) : State :=
  if !s.links || s.tw.lanes = 0 then s
  else (s.updTw fun t => { t with imgOwe := [] }).each s.tw.imgOwe fun s p => s.sendLink m 4 p.1 p.1 p.2

/-- The next IMAGE frame of an image, one in a T0, after the frames owed. -/
def sendImage (s : State) (m : Model) : State :=
  let s := s.sendOwed m
  match s.tw.imgTx with
  | none => s
  | some off =>
    if !s.replicates || s.tw.lanes = 0 then s
    else
      let bs := s.imgOut
      let data := slice bs off 4072
      let next := off + data.length
      if data.isEmpty then s.updTw fun t => { t with imgTx := none }
      else
        (s.updTw fun t => { t with imgTx := if bs.length ≤ next then none else some next }).sendLink m 4 (BitVec.ofNat 32 off)
          (BitVec.ofNat 32 off) data

/-- IMAGE_LINK_FRAME (02 R77, R501): the image is complete when LENGTH bytes of it have come. SEQ 0xFFFFFFFF marks the standby's
answer at the active and the boundary A at the standby (log 61). A new image takes the place of one that waits for an A that never
came (R78). -/
def imageLinkFrame (s : State) (bs : List Byte) : State :=
  if s.mod ≠ .standby && s.mod ≠ .active then s
  else
    let off := fld bs 8 4
    s.onLink bs 4 32 4096 (BitVec.ofNat 32 off) id fun s _ =>
      let data := slice bs 16 (bs.length - 24)
      if off = 0xFFFFFFFF then
        if s.mod = .active then s.peerVerifyResult (BitVec.ofNat 8 (fld data 0 4)) (data.drop 4)
        else s.learnA (BitVec.ofNat 32 (fld data 0 4)) (BitVec.ofNat 32 (fld data 4 4))
      else if s.mod = .active then s
      else if off = 0 && s.img.work.isNone && s.img.pending.all (fun p => p.origin = .peer && p.applyT2.isNone) then
        take (s.updImg fun i =>
          { i with state := .receiving, pending := none, linkBuf := data, linkLen := fld data 8 4,
                   slots := i.pending.elim i.slots fun p => i.slots.put p.slot none })
      else if s.img.state = .receiving && off = s.img.linkBuf.length then
        take (s.updImg fun i => { i with linkBuf := i.linkBuf ++ data })
      else s
where
  /-- A complete image goes to verification. -/
  take (s : State) : State :=
    let i := s.img
    if i.linkLen ≤ i.linkBuf.length then
      let bs := i.linkBuf.take i.linkLen
      let sync := s.tw.lastHb.any fun h => h.imgDig = pad 8 (imgDigest bs) && h.imgDig ≠ s.digest8
      s.updImg fun i => { i with state := .verifying, work := some (bs, if sync then .sync else .peer), linkBuf := [], linkLen := 0 }
    else s

/-! Heartbeats (R492 to R494, R509, R513). -/

/-- The body of a heartbeat (R493). -/
def hbBody (s : State) : List Byte :=
  let t := s.tw
  let flags := packBits [t.wLease ≠ 0, t.pLease ≠ 0, s.mod = .standby && t.endorse, t.state = .synced, t.released, s.seals.now.getLsbD 0,
    s.seals.now.getLsbD 1]
  leBytes 1 (modCode s.mod) ++ leBytes 1 t.state.ctorIdx ++ leBytes 2 flags ++ leBytes 4 t.claimOwn.toNat ++ leBytes 4 s.t1Now.toNat ++
    leBytes 4 s.tick.t2.toNat ++ leBytes 2 (min t.wLease 15750) ++ leBytes 2 Config.rsiVersion.toNat ++
    leBytes 4 (if s.mod = .standby then t.epochRx else t.epochTx).toNat ++ leBytes 4 s.inforceSeq.toNat ++ s.digest8 ++ leBytes 4 0

/-- The heartbeat of a T0. -/
def sendHeartbeat (s : State) (m : Model) : State :=
  if !s.linkUp then s
  else if s.abandoned .heartbeat then s
  else
    let seq := s.tw.hbSeq + 1
    (s.updTw fun t => { t with hbSeq := seq }).sendLink m 1 seq s.tick.t0 s.hbBody

/-- A heartbeat's contents. -/
def readHb (bs : List Byte) : PeerHb :=
  { state := byteAt bs 16, twState := byteAt bs 17, flags := BitVec.ofNat 16 (fld bs 18 2), claim := BitVec.ofNat 32 (fld bs 20 4),
    t0 := BitVec.ofNat 32 (fld bs 12 4), t1 := BitVec.ofNat 32 (fld bs 24 4), t2 := BitVec.ofNat 32 (fld bs 28 4),
    rsi := BitVec.ofNat 16 (fld bs 34 2), epochSeq := BitVec.ofNat 32 (fld bs 36 4), imgSeq := BitVec.ofNat 32 (fld bs 40 4),
    imgDig := slice bs 44 8 }

/-- What a standby makes of the active's heartbeat: versions, model, RELEASED and the end of CLAIMING. -/
def standbyHb (s : State) (h : PeerHb) (counts : Bool) : State :=
  let released := h.flags.getLsbD 4
  let s := if s.rsiInUse.isNone then
      let s := if s.tw.rsiBad then s else (s.updTw fun t => { t with rsiBad := true }).raise 0xA1 5 2 0 h.rsi.toNat
      if s.follows = .unsynced then s else s.unsync
    else s.updTw fun t => { t with rsiBad := false }
  let s := if h.imgDig ≠ s.digest8 && s.follows ≠ .unsynced then s.unsync else s
  if released then
    s.updTw fun t => { t with relSeen := true, prior := if t.state = .claiming then t.prior else t.state, state := .claiming }
  else if counts && s.tw.state = .claiming then s.updTw fun t => { t with state := t.prior, relSeen := false }
  else s

/-- What an active makes of its standby's heartbeat: the P-lease, and the model it still lacks. -/
def activeHb (s : State) (h : PeerHb) : State :=
  let s := if h.flags.getLsbD 2 && s.mod = .active then
      s.updTw fun t => { t with pLease := 15750, endorse := true, endorsed := some s.tick.t0 }
    else s
  if s.mod = .active && h.state = 3 && h.imgDig ≠ s.digest8 && s.tw.imgTx.isNone then s.updTw fun t => { t with imgTx := some 0 } else s

/-- HEARTBEAT_RX (R494): `off` is the offset of its acceptance in the T0 in progress. -/
def heartbeatRx (s : State) (bs : List Byte) (off : Nat) : State :=
  s.onLink bs 1 64 64 (BitVec.ofNat 32 (fld bs 12 4)) id fun s _ =>
    let h := readHb bs
    let counts := h.t0 = s.tick.t0 && off ≤ 200
    let s := s.updTw fun t =>
      { t with lastHb := some h, hbAge := 0, hbThis := t.hbThis || counts, peer := t.peer || counts, hbMiss := if counts then 0 else t.hbMiss }
    match s.mod with
    | .standby => s.standbyHb h counts
    | .active => s.activeHb h
    | _ => s

/-- HEARTBEAT_LOST (R494, R513). -/
def heartbeatLost (s : State) : State :=
  if !s.twinRole || !s.tw.peer || s.tw.hbMiss < 8 then s
  else
    let s := s.updTw fun t => { t with peer := false, hbLosses := t.hbLosses + 1 }
    if s.mod = .standby then
      let s := s.updTw fun t => { t with prior := if t.state = .claiming then t.prior else t.state, state := .claiming }
      let s := s.updHi fun h => { h with hrdy := false }
      s.raise 0xA1 1 2 0 (s.tw.lastHb.elim 0 fun h => h.t0.toNat % 65536)
    else s

/-! Lanes (R491, R517). -/

/-- YILZ_LANE_LOSS: with the other lane left the link goes on; with none left it is down. -/
def yilzLaneLoss (s : State) (lane : Fin 2) : State :=
  if !s.twinRole || !s.tw.lanes.getLsbD lane.val then s
  else
    let left := s.tw.lanes &&& ~~~((1 : BitVec 2) <<< lane.val)
    let s := s.updTw fun t => { t with lanes := left }
    if left ≠ 0 then s.raise 0xA1 3 1 0 lane.val else s.raise 0xA1 2 2 0 3

/-- YILZ_LANE_SYNC (R521). -/
def yilzLaneSync (s : State) (lane : Fin 2) : State :=
  if s.twinRole && s.pd 7 then s.updTw fun t => { t with lanes := t.lanes ||| ((1 : BitVec 2) <<< lane.val) } else s

/-! Claim words (R503). -/

/-- CLAIM_WORD_SEND. -/
def claimWordSend (s : State) : State :=
  if !s.pwr.pd0 || !s.twinRole then s
  else
    let body := s.tw.claimOwn.toNat * 256 + b2n s.tw.gate * 128 + b2n s.leased * 64 + modCode s.mod % 8 * 8
    s.updTw fun t => { t with claimOut := BitVec.ofNat 64 (0xA5 * 2 ^ 56 + body * 65536 + claimCrc body) }

/-- CLAIM_WORD_RX: a valid word sets the peer claim. -/
def claimWordRx (s : State) (w : BitVec 64) : State :=
  if !s.pwr.pd0 || !s.twinRole then s
  else match claimOfWord w with
    | none => s.updTw fun t => { t with claimErr := t.claimErr + 1, claimBad := t.claimBad + 1 }
    | some c =>
      let s := s.updTw fun t => { t with claimPeer := c, claimOk := true, claimBad := 0 }
      let s := if c ≠ 0 && c = s.tw.claimOwn then s.raise 0xA2 2 3 0 c.toNat else s
      s.judgeGate

/-- CLAIM_WORD_TIMEOUT: no valid word for 120 µs. -/
def claimWordTimeout (s : State) : State :=
  if !s.pwr.pd0 || !s.twinRole then s
  else
    let was := s.tw.claimOk
    let bad := s.tw.claimBad
    let s := s.updTw fun t => { t with claimPeer := 0, claimOk := false }
    if was then s.raise 0xA2 1 2 0 bad.toNat else s

/-! Roles (R505, R509 to R515). -/

/-- The module negotiates its role (R510). -/
def negotiates (s : State) : Bool :=
  s.twinRole && s.model.isSome && ((s.mod = .boot && s.pwr.boot.step = 9 && !s.pwr.boot.halted) || s.mod = .config)

/-- The peer is known to be ACTIVE by its heartbeats. -/
def peerActive (s : State) : Bool := s.tw.lastHb.any (fun h => h.state = 4) && decide (s.tw.hbAge < 8)

/-- ROLE_NEGOTIATION (R510): 64 T0 of listening are over. -/
def roleNegotiation (s : State) : State :=
  if !s.negotiates || s.tw.listen < 64 || s.tw.asking then s
  else
    let s := s.updTw fun t => { t with asking := true, reqWait := 16 }
    if s.peerActive then s.updTw fun t => { t with reqWait := 0 } else s.sendReq 1

/-- A synced standby takes the epoch in hand before it acquires the lease. -/
def takeWaiting (s : State) : State :=
  if s.mod = .standby && s.follows = .synced then
    match s.model with
    | some m => s.takeEpoch m
    | none => s
  else s

/-- LEASE_ANS (R508, R514). -/
def leaseAns (s : State) (fr : Frame) : State :=
  if !s.twinRole then s
  else s.onWit fr 0 0x31 12 fun s =>
    let p := slice fr.data 20 12
    let result := fld p 0 1
    let q := BitVec.ofNat 16 (fld p 2 2)
    match s.tw.reqs.find? (·.seq = q) with
    | none => s
    | some r =>
      if fld p 1 1 ≠ s.ownSlot then s
      else
        let s := s.updTw fun t => { t with reqs := t.reqs.filter (·.seq ≠ q), lastAns := byteAt p 0 }
        let left := clamp (15750 - diff32 s.stamp r.sof) 0 16000
        let grant (s : State) : State := s.updTw fun t => { t with wLease := left.toNat, wLost := false }
        if result = 0 && r.kind = 1 then
          grant ((s.takeWaiting.setClaim (BitVec.ofNat 32 (fld p 4 4))).updTw fun t => { t with granted := true })
        else if result = 1 && r.kind = 2 && fld p 4 4 = s.claim.toNat then grant s
        else if result = 2 && r.kind = 2 then (s.updTw fun t => { t with wLease := 0, pLease := 0, granted := false }).judgeGate
        else s

/-- LEASE_EXPIRY (R504, R512): a lease that ends within the T0 in progress has ended. What follows in ACTIVE is the T0 boundary's. -/
def leaseExpiry (s : State) : State :=
  if !s.twinRole then s
  else
    let s := s.updTw fun t => { t with wLease := if t.wLease ≤ 250 then 0 else t.wLease, pLease := if t.pLease ≤ 250 then 0 else t.pLease }
    if s.mod = .safeHold && s.tw.gate && !s.leased then s.silence else s.judgeGate

/-- Torque is removed from every car. -/
def allOff (s : State) : Bool := s.present.all fun c => (s.lv.get c).torqueOff

/-- SAFE_HOLD_RELEASE (R504, R517). -/
def safeHoldRelease (s : State) : State :=
  if s.mod = .safeHold && s.twinRole && s.tw.gate && !s.tw.released && s.allStill && s.allOff then s.sendRel.release false else s

/-- Neither lease is valid in ACTIVE (R512): SAFE-HOLD, RELEASED, nothing sent any more. -/
def leasesGone (s : State) : State :=
  let double : Bool := match s.tw.lastHb, s.tw.endorsed with
    | some h, some e => decide (diff32 h.t0 e ≤ 0)
    | _, _ => false
  let s := (s.judgeGate.enterSafeHold 2).silence
  s.raise 0xA3 (if double then 3 else 2) 3 0 0

/-- A higher claim of the peer (R511). -/
def yieldClaim (s : State) : State :=
  let s := ((s.judgeGate).sendRel.changeState .standby 4).updDsx Dsx.discard
  s.updTw fun t => { t with state := .unsynced, prior := .unsynced, wLease := 0, pLease := 0, adopt := 1, parts := [], kept := [], epochWait := none,
                            install := false, granted := false, relSeen := false, snapBytes := none, imgTx := none }

/-- Entry to ACTIVE in a twin or standalone role (R505, R510, R514; 11 R388). A standalone module reserves epochs in flash as the
witness does (R507). -/
def becomeActive (s : State) (cause : Nat) : State :=
  let s := if s.seals.role = 3 then
      let e := s.tw.epochE + 1
      (s.updTw fun t => { t with epochE := e, wit := { t.wit with bound := if t.wit.bound < e then e + 15 else t.wit.bound } }).setClaim (BitVec.ofNat 32 (e * 256 + 3))
    else s
  let s := s.changeState .active cause
  (s.updTw fun t => { t with state := if s.seals.role = 3 then t.state else .holder, granted := false, asking := false }).startConns

/-- The takeover of R514 at its T0 boundary, cold under R515. -/
def takeover (s : State) (m : Model) : State :=
  let cold := s.follows ≠ .synced
  let s := s.becomeActive 1
  let s := s.updTw fun t =>
    { t with takeovers := t.takeovers + 1, takeT0 := s.tick.t0, taking := true, relSeen := false, parts := [], kept := [], epochWait := none,
             install := false }
  let s := (s.takeoverDoors).updDsx Dsx.discard
  let s := if s.img.state ≠ .idle then s.rejectImage rejPeer else s
  if cold then
    (s.each m.presentCars fun s c => (s.askSf1 c).startCar c).raise 0xA3 4 2 0 s.tw.epochRx.toNat
  else s

/-- Books of the heartbeats and leases of the T0 that has ended. -/
def ageTwin (s : State) : State :=
  let t := s.tw
  let good := s.mod = .standby && t.hbThis && t.lastHb.any fun h => h.state = 4 && decide (t.claimOwn.toNat < h.claim.toNat)
  let given := s.mod = .active && t.hbThis && t.endorse
  s.updTw fun t =>
    { t with hbMiss := if t.hbThis then 0 else satInc t.hbMiss 255, hbThis := false, hbAge := satInc t.hbAge 1000,
             endorse := good || given && decide (t.pLease > 250), endorsed := if good then some s.tick.t0 else t.endorsed,
             wLease := t.wLease - 250, pLease := t.pLease - 250, reqWait := t.reqWait - 1, linkOut := [],
             wit := { t.wit with exp := max (-16000) (t.wit.exp - 250), quiet := max (-16000) (t.wit.quiet - 250) },
             granted := t.granted && (s.mod = .standby || decide (t.wLease > 250)),
             listen := if s.negotiates then satInc t.listen 64 else 0, asking := t.asking && s.negotiates }

/-- The twin's changes of state at a T0 boundary. -/
def twinChanges (s : State) (m : Model) : State :=
  if !s.twinRole then s
  else if s.mod = .active then
    if !s.leased then s.leasesGone
    else if s.tw.claimOwn.toNat < s.tw.claimPeer.toNat then s.yieldClaim
    else if s.tw.wLease = 0 && !s.tw.wLost then (s.updTw fun t => { t with wLost := true }).raise 0xA3 1 2 0 s.tw.lastAns.toNat
    else s
  else if s.mod = .standby && s.tw.granted then s.takeover m
  else if s.mod = .safeHold && s.tw.gate && !s.leased then s.silence
  else s

/-- A new-grant request is permitted to a claiming standby (R509, R513). -/
def mayClaim (s : State) : Bool :=
  s.mod = .standby && s.tw.state = .claiming && !s.tw.granted &&
    (s.tw.relSeen || s.tw.endorsed.all fun e => decide (65 ≤ (s.tick.t0 - e).toNat))

/-- The lease requests of a T0 (R508, R510, R513). -/
def leaseRequests (s : State) : State :=
  let holds := s.mod = .active || (s.mod = .safeHold && s.tw.gate) || (s.negotiates && s.tw.granted)
  if !s.twinRole then s
  else if holds && s.tick.t0.toNat % 16 = 0 then s.sendReq 2
  else if s.mayClaim && s.tw.reqWait = 0 then (s.updTw fun t => { t with reqWait := 4 }).sendReq 1
  else if s.negotiates && s.tw.asking && !s.tw.granted && s.tw.reqWait = 0 && !s.peerActive then
    (s.updTw fun t => { t with reqWait := 16 }).sendReq 1
  else s

/-! The witness (R507, R518). -/

/-- Entry to WITNESS. -/
def startWitness (s : State) : State :=
  s.updTw fun t => { t with wit := { t.wit with epoch := t.wit.bound, holder := 0, quiet := 16000, exp := 0, granted := false } }

/-- The RESULT of a request and the witness after it; `t` is its start of frame from the last T0 boundary [µs]. -/
def witAnswer (w : Wit) (kind slot : Nat) (held : BitVec 32) (t : Int) : Nat × Wit :=
  let e := held.toNat / 256
  if t < w.quiet then (3, w)
  else if kind = 2 && ((w.holder = slot && held = w.hclaim) ||
      (w.holder = 0 && !w.granted && w.bound < e + 16 && e ≤ w.bound && held.toNat % 256 = slot)) then
    (1, { w with holder := slot, hclaim := held, exp := t + 16000 })
  else if kind = 1 && (w.holder = 0 || w.exp ≤ t) then
    if w.epoch = 0xFFFFFF then (4, w)
    else
      let n := w.epoch + 1
      (0, { w with epoch := n, bound := if w.bound < n then n + 15 else w.bound, holder := slot,
                   hclaim := BitVec.ofNat 32 (n * 256 + slot), exp := t + 16000, granted := true })
  else (2, w)

/-- The witness's answer to the module of a slot. -/
def answerModule (s : State) (slot : Nat) (claim : BitVec 32) (ans : List Byte) : State :=
  match s.model with
  | none => s
  | some m => (m.wit? slot).elim s fun i => s.sendWit m i 0x31 claim ans

/-- WITNESS_LEASE_REQ (R507): the answer goes to the sender's slot. -/
def witnessLeaseReq (s : State) (fr : Frame) : State :=
  let slot := fr.ident.toNat - 0x1F0
  if s.mod ≠ .witness || !(slot = 1 || slot = 2) then s
  else s.onWit fr slot 0x30 8 fun s =>
    let p := slice fr.data 20 8
    if fld p 1 1 ≠ slot then s
    else
      let t := diff32 fr.sof s.stamp
      let (res, w) := witAnswer s.tw.wit (fld p 0 1) slot (BitVec.ofNat 32 (fld p 4 4)) t
      let s := s.updTw fun x => { x with wit := w }
      let left := clamp (w.exp - t) 0 65535
      let ans := leBytes 1 res ++ leBytes 1 slot ++ slice fr.data 2 2 ++ leBytes 4 w.hclaim.toNat ++ leBytes 2 left.toNat ++ [0, 0]
      let s := s.answerModule slot w.hclaim ans
      if res = 4 then s.raise 0xA3 5 3 0 w.epoch else s

/-- WITNESS_LEASE_REL (R507). -/
def witnessLeaseRel (s : State) (fr : Frame) : State :=
  let slot := fr.ident.toNat - 0x1F0
  if s.mod ≠ .witness || !(slot = 1 || slot = 2) then s
  else s.onWit fr slot 0x32 4 fun s =>
    s.updTw fun t => if t.wit.holder = slot && fld fr.data 20 4 = t.wit.hclaim.toNat then { t with wit := { t.wit with holder := 0 } } else t

/-- WIT_STATUS_SEND (R506): every 16 T0, to each module. -/
def witStatusSend (s : State) : State :=
  if s.mod ≠ .witness || s.tick.t0.toNat % 16 ≠ 0 then s
  else match s.model with
    | none => s
    | some m =>
      let w := s.tw.wit
      let claim : BitVec 32 := if w.holder = 0 then 0 else w.hclaim
      s.each [1, 2] fun s addr => (m.wit? addr).elim s fun i =>
        s.sendWit m i 0x33 claim (leBytes 1 w.holder ++ [0, 0, 0] ++ leBytes 4 claim.toNat)

/-- WIT_STATUS_RX (R506). -/
def witStatusRx (s : State) (fr : Frame) : State :=
  if !s.twinRole then s
  else s.onWit fr 0 0x33 8 fun s =>
    s.updTw fun t => { t with holderSlot := byteAt fr.data 20, holderClaim := BitVec.ofNat 32 (fld fr.data 24 4) }

end State

/-- HEARTBEAT_RX, R494. -/
def execHeartbeatRx (bytes : List Byte) (off : Nat) (s : State) : Out := .next (s.heartbeatRx bytes off)
/-- HEARTBEAT_LOST, R513. -/
def execHeartbeatLost (s : State) : Out := .next s.heartbeatLost
/-- EPOCH_RX, R497. -/
def execEpochRx (bytes : List Byte) (s : State) : Out := .next (s.epochRx bytes)
/-- SNAP_PART_RX, R500. -/
def execSnapPartRx (bytes : List Byte) (s : State) : Out := .next (s.snapPartRx bytes)
/-- IMAGE_LINK_FRAME, R501. -/
def execImageLinkFrame (bytes : List Byte) (s : State) : Out := .next (s.imageLinkFrame bytes)
/-- YILZ_LANE_LOSS, R491. -/
def execYilzLaneLoss (lane : Fin 2) (s : State) : Out := .next (s.yilzLaneLoss lane)
/-- YILZ_LANE_SYNC, R521. -/
def execYilzLaneSync (lane : Fin 2) (s : State) : Out := .next (s.yilzLaneSync lane)
/-- CLAIM_WORD_SEND, R503. -/
def execClaimWordSend (s : State) : Out := .next s.claimWordSend
/-- CLAIM_WORD_RX, R503. -/
def execClaimWordRx (w : BitVec 64) (s : State) : Out := .next (s.claimWordRx w)
/-- CLAIM_WORD_TIMEOUT, R503. -/
def execClaimWordTimeout (s : State) : Out := .next s.claimWordTimeout
/-- ROLE_NEGOTIATION, R510. -/
def execRoleNegotiation (s : State) : Out := .next s.roleNegotiation
/-- LEASE_ANS, R508. -/
def execLeaseAns (fr : Frame) (s : State) : Out := .next (s.leaseAns fr)
/-- LEASE_EXPIRY, R512. -/
def execLeaseExpiry (s : State) : Out := .next s.leaseExpiry
/-- SAFE_HOLD_RELEASE, R517. -/
def execSafeHoldRelease (s : State) : Out := .next s.safeHoldRelease
/-- WITNESS_LEASE_REQ, R507. -/
def execWitnessLeaseReq (fr : Frame) (s : State) : Out := .next (s.witnessLeaseReq fr)
/-- WITNESS_LEASE_REL, R507. -/
def execWitnessLeaseRel (fr : Frame) (s : State) : Out := .next (s.witnessLeaseRel fr)
/-- WIT_STATUS_SEND, R506. -/
def execWitStatusSend (s : State) : Out := .next s.witStatusSend
/-- WIT_STATUS_RX, R506. -/
def execWitStatusRx (fr : Frame) (s : State) : Out := .next (s.witStatusRx fr)

end Sys2Proof.Machine
end

