-- ==== Sys2Proof/Machine/Boundary.lean ====
section
/-! DEFINITION. The boundaries of the three ticks (01 R15 to R28): what every part of the module does at them, in the phases of R24.
At one boundary the T2 part comes first, then the T0 part, then the T1 jobs (log 4). -/

namespace Sys2Proof.Machine

/-- The end of a lane's slot: consecutive drops run on or end, a frame-build drop counting as one of the lane (01 R31). -/
def Lane.closeSlot (l : Lane) (dropped : Bool) : Lane :=
  { l with drops := if dropped && !l.missNow then l.drops + 1 else l.drops, missNow := false,
           missRun := if dropped || l.missNow then satInc l.missRun 65535 else 0 }

namespace State

/-! The counters (R15 to R20). -/

/-- T0 periods from the T0CNT of a heartbeat to the present boundary bring the peer's counters forward (R18, R20). -/
def adoptTicks (t : Tick) (h : PeerHb) (age : Nat) : Tick :=
  let n := h.t0.toNat % 8 + age
  let k := n / 8
  let t0 := h.t0 + BitVec.ofNat 32 age
  let t1 := h.t1 + BitVec.ofNat 32 k
  let due : Bool := t0.toNat % 8 = 0
  { t with t0 := t0, t1 := if due then t1 - 1 else t1, t2 := h.t2 + BitVec.ofNat 32 ((h.t1.toNat % 32 + k) / 32), t1Due := due,
           syncT0 := t0, syncTb := t.tb }

/-- The tick counters at a T0 boundary. A T2 or T1 part that was not commanded is counted here. -/
def advance (s : State) (adj : Int) : State :=
  let t := s.tick
  if !t.started then
    let (v, s) := s.take
    let tb := BitVec.ofNat 64 (v.toNat % 25000)
    { s with tick := { t with started := true, tb0 := tb, tb := tb, t0 := 0, t1 := -1, t2 := 0, t1Due := true, t2Done := false } }
  else
    let d : Int := 25000 + if s.mod = .standby then clamp adj (-100) 100 else 0
    let n : Tick :=
      { t with t0 := t.t0 + 1, t1 := if t.t1Due then t.t1 + 1 else t.t1,
               t2 := if t.t0.toNat % 256 = 255 && !t.t2Done then t.t2 + 1 else t.t2,
               t1Due := (t.t0 + 1).toNat % 8 = 0, t2Done := false, tb := t.tb + BitVec.ofInt 64 d }
    match s.tw.lastHb with
    | some h =>
      if s.tw.adopt = 1 then
        { s.updTw (fun w => { w with adopt := 0 }) with tick := adoptTicks n h (s.tw.hbAge + 1) }
      else { s.updTw (fun w => { w with adopt := if w.adopt = 2 then 1 else w.adopt }) with tick := n }
    | none => { s with tick := n }

/-! The T0 phases (R24). -/

/-- Class F messages that have arrived take the module into SAFE-HOLD (16 R531, 01 R47). -/
def takeFatal (s : State) : State :=
  let any := !s.fc.arrived.isEmpty
  let s := (s.updFc fun f => { f with arrived := [] }).settleBoot
  if any && s.mod ≠ .off && s.mod ≠ .boot then s.enterSafeHold 3 else s

/-- SEAL4 to SEAL7 on at start-up (10 R357). -/
def sealFault (s : State) : State :=
  if s.seals.resvOn && s.mod ≠ .off && s.mod ≠ .boot then
    { s with seals := { s.seals with resvOn := false } }.raise 0xF0 2 3 0 s.seals.pwrup.toNat
  else s

/-- RATE 1 samples of a port's latch (06 R207). -/
def samplePorts (s : State) : State :=
  s.each (idx 4) fun s u => s.updCapu u fun c =>
    if h : c.rwc.unitSel.toNat < 48 then
      if c.en && c.state ≠ 0 && c.state ≠ 6 && c.rwc.rate = 1 then
        let n : Fin 48 := ⟨c.rwc.unitSel.toNat, h⟩
        let l := (s.ports.get n).latch
        let car : Fin 16 := Fin.ofNat 16 (s.model.elim 0 fun m => (m.ports.get n).car)
        let vals : List Int := [(l.count.toNat : Int), l.speed, ((s.ppStat n).toNat : Int), (l.edgeTs.toNat : Int)] ++
          [0x00, 0x04, 0x0C, 0x08].map fun off => ((s.cpReg car off).toNat : Int)
        decimate c (sampleBytes s.tick.t0 c.rwc.sig vals)
      else c
    else c

/-- The latches at offset 0, and the commits that take effect at the boundary (03 R93, 12 R402, 01 R30). -/
def latches (s : State) : State :=
  let s := s.latchPolders
  let s := s.each (idx 48) latchPort
  let s := s.each (idx 48) commitPort
  (s.each (idx 4) commitCapu).samplePorts

/-- The fusion of one car and its special run (04). A core that does not work drops it. -/
def fusion (s : State) (m : Model) (c : Fin 16) : State :=
  let cc := carCore c
  if s.abandoned (.fusion c) then (s.unmark (.fusion c)).dropFusion m c
  else if !s.coreRuns cc then (s.countSpill (coreUnit cc) 0).dropFusion m c
  else
    let s := s.fuse m c
    if s.mod = .active then s.specStep m c else s

/-- One lane's computation (05, 06). -/
def lane (s : State) (m : Model) (k : Fin 48) : State :=
  let s := if (s.lanes.get k).injection.isSome then s.watchInjection m k else s
  if (m.gains.get k).kind = 0 || !m.present (laneCar k) then s
  else if s.laneMarked k then ((s.unmark (.lanePg k)).unmark (.laneCe k)).dropLane k
  else if !s.pd 5 then ((s.countSpill 9 0).countLane k).dropLane k
  else
    let s := s.pgLane m k
    if isHoist k then s.ceLane m k
    else
      let d := laneSide k
      ((((s.setCurrent m d).ceLane m k).sampleForce m d).updSide d fun x => { x with replyNew := false }).refreshSide d

/-- The door guard of a slot car (07 R229): part of the frame build. A standby follows the DON replies it hears (R254): what the guard
makes of a side stands, and nothing is ordered or sent. -/
def guards (s : State) (m : Model) (c : Fin 16) : State :=
  if s.abandoned (.frameBuild c) || !s.coreRuns (carCore c) then s
  else if s.drives then s.each (carSides m c) fun s d => s.guardSide m d
  else if s.mod = .standby then s.each (carSides m c) fun s d => { s with sides := (s.guardSide m d).sides }
  else s

/-- The end of the slot for the lanes of a car. -/
def closeSlots (s : State) (m : Model) (c : Fin 16) (dropped : Bool) : State :=
  s.each ((idx 48).filter fun k => laneCar k = c && (m.gains.get k).kind ≠ 0) fun s k => s.updLane k (Lane.closeSlot · dropped)

/-- The frame build of a slot car (05 R177, 07 R216, 11 R387). -/
def frames (s : State) (m : Model) (c : Fin 16) : State :=
  let cc := carCore c
  let drop (s : State) : State :=
    { s with spill := { s.spill with build := s.spill.build.upd c fun n => satInc n 65535 } }.closeSlots m c true
  if !s.drives then ((s.stepPacket m c).answerJoins m c).closeSlots m c false
  else if s.abandoned (.frameBuild c) then drop (s.unmark (.frameBuild c))
  else if !s.coreRuns cc then drop ((s.countSpill (coreUnit cc) 0).each (s.carLanes c) countLane)
  else
    let s := ((s.stepPacket m c).sendSpeedRef m c).answerJoins m c
    { s with spill := { s.spill with build := s.spill.build.put c 0 } }.closeSlots m c false

/-- The work on the cars in one T0: fusion, the slot's guards, lanes and frames. -/
def carWork (s : State) (m : Model) : State :=
  if !s.live then s
  else
    let cars := m.presentCars.filter fun c => c.val % 8 = s.slot
    let lanes := (idx 48).filter fun k => k.val % 8 = s.slot
    let s := s.each m.presentCars fun s c => s.fusion m c
    let s := s.each cars fun s c => s.guards m c
    let s := s.each lanes fun s k => s.lane m k
    s.each cars fun s c => s.frames m c

/-- The levee evaluations of one T0 (10). A core without power misses them (17 R556). -/
def leveeWork (s : State) (m : Model) : State :=
  if s.mod = .off || s.mod = .boot || s.mod = .update then s
  else s.each (idx 2) fun s lc => if s.pd 3 then s.leveeCore m lc else s.missEvaluation lc false

/-- The refresh at offset 175 (12 R403): the channels of a core that has missed this evaluation hold (01 R31). -/
def refreshT0 (s : State) : State :=
  if !s.pd 7 then s
  else
    let held (i : Fin 96) : Bool := (polCar (s.polRec i)).any fun c => s.missesNow (carLevee c) && !s.leveeMissed (carLevee c)
    s.refresh held

/-- Every output reads back its safe state. -/
def outputsSafe (s : State) : Bool :=
  (idx 96).all fun i =>
    let r := s.polRec i
    let c := s.pol.ch.get i
    !outRole r.role || (c.on == s.safeState r && c.rb == s.safeState r)

/-- A module state with HRDY (14 R481). -/
def hrdyState (s : State) : Bool :=
  s.mod = .config || s.mod = .standby || s.mod = .active || s.mod = .witness || (s.mod = .safeHold && s.allStill && s.calm ≠ 0)

/-- HRDY at a T0 boundary (14 R481). -/
def tickHrdy (s : State) : State :=
  let low := s.mod = .off || s.mod = .boot || s.mod = .update || !s.pd 1 || s.tw.state = .claiming
  let ok := s.hrdyState && s.hi.ripe && !s.tw.taking
  let ripe := s.hrdyState
  s.updHi fun h => { h with hrdy := !low && (h.hrdy || ok), ripe := ripe }

/-- What is counted at the end of a T0's work: standing time, safe outputs, and the marks of the T0 that has been worked. -/
def closeT0 (s : State) : State :=
  let t0Job (j : Job) : Bool := match j with
    | .levee _ | .heartbeat => true
    | _ => false
  let still := s.dsx.standT0
  let stand : Tab 16 Nat := Vector.ofFn fun c =>
    if s.model.any fun m => m.present c && s.carStill m c && s.doorsClosed m c then satInc (still.get c) 0xFFFFFFFF else 0
  { s with spill := { s.spill with abandoned := s.spill.abandoned.filter (!t0Job ·) },
           dsx := { s.dsx with standT0 := stand }, calm := if s.outputsSafe then satInc s.calm 1000 else 0,
           fc := { s.fc with nmiPorts := false, nmiInputs := false } }

/-- The link and the leases at offset 0 of a T0. -/
def twinT0 (s : State) (m : Model) : State :=
  let s := s.sendHeartbeat m
  let s := s.sendImage m
  if s.pd 1 then s.leaseRequests else s

/-- The work of one T0 that needs a building model. -/
def modelT0 (s : State) (m : Model) : State := (((s.twinT0 m).carWork m).leveeWork m)

/-- The seal reader can start once the timebase runs (17 R567). -/
def bootStart (s : State) : State :=
  if s.mod = .boot && s.pwr.boot.step = 2 then s.updPwr fun p => { p with boot := { p.boot with step := 3 } } else s

/-- The work of a T0 before the inputs are latched: link, leases, gate, tests, supervisor. -/
def t0Begin (s : State) : State :=
  let s := s.ageTwin
  let s := s.model.elim s s.twinChanges
  let s := s.openGate.sealFault
  let s := (s.startPending.ageTests).updFc fun f => { f with powered := f.powered + 1 }
  if s.mod = .off then s else s.tickPower

/-- The registers that a T0 latch refreshes (11 R392, 12 R420, 15 R521). -/
def publish (s : State) : State :=
  { s with shown :=
      { conns := (List.range s.conns.length).map fun i => (List.range 8).map fun k => s.sfNow (32 * i + 4 * k),
        chans := (idx 96).map fun i => [s.polChNow i 0x0, s.polChNow i 0x8, s.polChNow i 0xC],
        tw := (List.range 15).map fun k => s.twNow (4 * k) } }

/-- The phases of R24 from the latch on. -/
def t0Phases (s : State) : State :=
  let s := s.tickSupplies.latches
  let s := (s.ageConns.publish.ageSides).each (idx 12) tickBus
  let s := s.model.elim s s.modelT0
  let s := s.refreshT0.tickHrdy
  (s.updTw fun t => { t with taking := false }).closeT0

/-- T0_BOUNDARY (R17, R24): `adj` lengthens the T0 that has ended, in TBASE counts (R20). -/
def t0Boundary (s : State) (adj : Int) : State :=
  if !s.pwr.pd0 then s
  else ((s.advance adj).bootStart.takeSluice.orderBatch).takeFatal.t0Begin.t0Phases

/-! The T1 jobs (R21). -/

/-- One reading of the seal switches (10 R356, R357): two reads that agree settle it, and the first settled reading fixes the role. -/
def readSeals (s : State) (r : BitVec 8) : State :=
  let x := s.seals
  let agree := x.reads ≠ 0 && r = x.lastRead
  let y : Seal := { x with lastRead := r, reads := satInc x.reads 2, now := if agree then r else x.now }
  if !agree then { s with seals := y }
  else if !x.fixed then
    let s : State := { s with seals := { y with fixed := true, pwrup := r, role := Fin.ofNat 4 (r.toNat / 4), resvOn := r.toNat / 16 ≠ 0 } }
    if s.mod = .boot && s.pwr.boot.step = 3 then s.updPwr fun p => { p with boot := { p.boot with step := 4 } } else s
  else if r = x.now then { s with seals := y }
  else
    let bad := (r ^^^ x.now) &&& 0xFC ≠ 0
    let s : State := { s with seals := { y with changes := x.changes + 1, changeErr := x.changeErr || bad } }
    let s := if bad then s.raise 0xF0 1 2 (BitVec.ofNat 32 (r.toNat + 256 * x.pwrup.toNat)) 0 else s
    s.sealLost

/-- The bytes 16 to 255 of a CAR record (14 R476). -/
def carBody (s : State) (m : Model) (c : Fin 16) : List Byte :=
  let w (v : BitVec 32) : List Byte := leBytes 4 v.toNat
  let h := hoist c
  let rear := m.rearFitted c
  let side (d : Fin 32) : List Byte := w (s.dsReg d 0x00) ++ w (s.dsReg d 0x04) ++ w (s.dsReg d 0x18)
  let fb := (s.nodeConn? m c .hdv).map (·.2.data)   -- of the last accepted feedback, LOST or not
  let a := s.axes.get h
  let wh (x : Nat) : Nat := if a.state = .idle then 0 else (x + 18000000) / 36000000
  let conn (o : Option (Nat × Conn)) : Nat := o.elim 0 fun p => p.2.state.ctorIdx
  let conns := conn (s.nodeConn? m c .hdv) + 4 * conn (s.nodeConn? m c .ctn) + 16 * conn (s.nodeConn? m c .ptn) +
    64 * conn (s.donConn? m (front c)) + if rear then 256 * conn (s.donConn? m (State.rear c)) else 0
  [0x00, 0x04, 0x08, 0x0C].flatMap (fun o => w (s.cpReg c o)) ++ [0x00, 0x04, 0x0C, 0x20].flatMap (fun o => w (s.axisReg h o)) ++
  w (s.laneReg h 0x0C) ++ w (s.laneReg h 0x10) ++ w (s.lvReg c 0x00) ++ w (s.lvReg c 0x08) ++ w (s.lvReg c 0x14) ++
  w (s.msReg c 0x0) ++ w (s.msReg c 0x4) ++ side (front c) ++ (if rear then side (State.rear c) else List.replicate 12 0) ++
  w (s.dsxReg (0x100 + 16 * c.val)) ++ w (s.dsxReg (0x108 + 16 * c.val)) ++ leBytes 2 (s.loadOf m c).toNat ++ [fb.elim 0 (·.fbStatus), 0] ++
  leBytes 4 (fb.elim 0 (·.speedAct.toNat)) ++ leBytes 2 (fb.elim 0 (·.torqAct.toNat)) ++ [0, 0] ++ leBytes 4 (fb.elim 0 (·.pDc.toNat)) ++
  leBytes 4 (wh a.energy.mot) ++ leBytes 4 (wh a.energy.reg) ++ leBytes 4 conns

/-- The records of a T1: CAR, ENERGY, and at the first T1 of a T2 the spillway's (14 R475, R477). Abandoned records leave a gap. -/
def telemetry (s : State) (m : Model) : State :=
  let t1 := s.tick.t1 - 1
  let st := s.tick.t1Stamp
  let spills := s.tick.t1.toNat % 32 = 0
  let due := s.hi.energyDue
  let s := s.updHi fun h => { h with energyDue := [] }
  if !s.live || !s.pd 1 then s
  else if s.abandoned .telemetry then
    let n := m.presentCars.length + due.length + if spills then 2 else 0
    (s.unmark .telemetry).updHi fun h => if h.en then { h with telSeq := h.telSeq + BitVec.ofNat 32 n } else h
  else
    let s := s.each m.presentCars fun s c => s.putTel 1 c.val t1 st (s.carBody m c)
    let s := s.each due fun s p => s.putTel 2 p.1 t1 st p.2
    if spills then
      let cnt := (idx 12).flatMap fun u => (idx 3).flatMap fun l => leBytes 4 ((s.spill.cnt.get u).get l).toNat
      let lane := (idx 48).flatMap fun k => leBytes 4 (s.spill.lane.get k).toNat
      (s.putTel 3 0xFF t1 st cnt).putTel 4 0xFF t1 st lane
    else s

/-- The T1 job of a car on a standby (01 R46): its own view of modes and doors, listening only. Nothing is ordered, reported or sent. -/
def followJob (s : State) (m : Model) (c : Fin 16) : State :=
  let t := s.carJob m c
  { s with sides := t.sides, modes := t.modes }

/-- The T1 job of one car core (R21, R31). On a synced standby the replica stands for its results (07 R254, 09 R319, log 74). -/
def coreT1 (s : State) (m : Model) (cc : Fin 4) : State :=
  if s.mod ≠ .active && s.mod ≠ .standby then s
  else
    let drop (s : State) : State := { s with spill := { s.spill with core := s.spill.core.upd cc fun n => satInc n 65535 } }
    if s.abandoned (.carCoreT1 cc) then drop (s.unmark (.carCoreT1 cc))
    else if !s.coreRuns cc then drop (s.countSpill (coreUnit cc) 1)
    else
      let s : State := { s with spill := { s.spill with core := s.spill.core.put cc 0, told := s.spill.told.put cc false } }
      if s.mod = .standby then
        if s.follows = .synced then s else s.each ((coreCars cc).filter m.present) fun s c => s.followJob m c
      else
        let s := s.each ((coreCars cc).filter m.present) fun s c => s.carJob m c
        s.publishCore m cc

/-- The T1 jobs that need a building model. -/
def modelT1 (s : State) (m : Model) : State :=
  let s := s.telemetry m
  let s := s.standbyT1 m
  let s := ((s.sendEpoch m).unmark .epoch).sendPart m
  s.each (idx 4) fun s cc => s.coreT1 m cc

/-- What a T1 boundary does once T1CNT has its value. -/
def t1Jobs (s : State) (seals : BitVec 8) : State :=
  let s := (s.updFc fun f => { f with countC := [] }).readSeals seals |>.unmark .rings
  let s := s.measureSupplies.measurePolders.measurePower
  let s := s.each (idx 12) tickSleep
  s.model.elim s s.modelT1

/-- T1_BOUNDARY (R18, R21): `seals` is the reading of SW1. -/
def t1Boundary (s : State) (seals : BitVec 8) : State :=
  if !s.pwr.pd0 || !s.tick.started || !s.tick.t1Due then s
  else
    let s := { s with tick := { s.tick with t1 := s.tick.t1 + 1, t1Due := false } }.t1Jobs seals
    { s with tick := { s.tick with t1Stamp := s.stamp } }

/-! The T2 boundary (R18, R47). -/

/-- Both levee cores are tested at each entry to CONFIG, STANDBY and WITNESS (10 R359). -/
def coreTests (s : State) : State := s.each (idx 2) startCoreTest

/-- BOOT is over: BOOT_ID is taken (14 R463). -/
def endBoot (s : State) : State :=
  if s.mod ≠ .boot then s
  else { s with pwr := { s.pwr with boot := { s.pwr.boot with step := 12 } },
                hi := { s.hi with bootId := (s.tick.tb >>> 16).setWidth 32 } }

/-- The module takes its role (R47, 15 R505, R510, R518; 09 R320). -/
def enterRole (s : State) (m : Model) : State :=
  let starts (s : State) : State := s.each m.presentCars startCar
  match s.seals.role.val with
  | 3 => starts ((s.endBoot).becomeActive 5)
  | 2 => ((s.endBoot.changeState .witness 5).startWitness).coreTests
  | _ =>
    if !s.tw.asking then s
    else if s.peerActive then
      ((s.endBoot.changeState .standby 5).waitConns.updTw fun t => { t with state := .unsynced, prior := .unsynced, adopt := 2, asking := false }).coreTests
    else if s.tw.granted then starts ((s.endBoot).becomeActive 5)
    else s

/-- State changes of start-up at a T2 boundary (R47). -/
def roleT2 (s : State) : State :=
  if s.pwr.boot.halted then s
  else match s.mod, s.model with
    | .boot, none => if s.pwr.boot.step = 9 then ((s.endBoot.changeState .config 5).commitTrial).coreTests else s
    | .boot, some m => if s.pwr.boot.step = 9 then s.enterRole m else s
    | .config, some m => s.enterRole m
    | _, _ => s

/-- Dispatch at a T2 boundary (08 R280): with PD4 off no result takes force (17 R556). A run that is unfinished when the next snapshot
is taken has been abandoned at its berm, a standby's at the boundary. An abandoned publication to the host leaves the CALL events of
this result for the next boundary (01 R31, log 72). -/
def dispatchT2 (s : State) (m : Model) : State :=
  if s.mod = .standby then s.abandonRun
  else if s.mod ≠ .active || !s.pd 4 then s
  else
    let held := s.abandoned .publishHost
    let s := (s.unmark .publishHost).updDsx fun d => { d with holding := held }
    let s := if held then s else s.releaseEvents
    let s := (s.takeForce m).updDsx fun d => { d with holding := false }
    s.abandonRun.takeSnap m

/-- What a T2 boundary does once T2CNT has its value. -/
def t2Jobs (s : State) : State :=
  let s := (s.updHi fun h => { h with timeouts := 0 }).imageT2
  let s := s.model.elim s s.dispatchT2
  ((s.takeRsi.flushMap).updateT2).roleT2

/-- T2_BOUNDARY (R18): it comes before the T0 part of its boundary and works at that boundary's T0CNT and TBASE. -/
def t2Boundary (s : State) : State :=
  let t := s.tick
  if !s.pwr.pd0 || !t.started || t.t2Done || t.t0.toNat % 256 ≠ 255 then s
  else
    let s := { s with tick := { t with t0 := t.t0 + 1, t2 := t.t2 + 1, tb := t.tb + 25000, t2Done := true } }.t2Jobs
    { s with tick := { s.tick with t0 := t.t0, tb := t.tb } }

end State

/-- T0_BOUNDARY, R17. -/
def execT0Boundary (adj : Int) (s : State) : Out := .next (s.t0Boundary adj)
/-- T1_BOUNDARY, R18. -/
def execT1Boundary (seals : BitVec 8) (s : State) : Out := .next (s.t1Boundary seals)
/-- T2_BOUNDARY, R18. -/
def execT2Boundary (s : State) : Out := .next s.t2Boundary

end Sys2Proof.Machine
end

