-- ==== Sys2Proof/Machine/Commands.lean ====
section
/-! DEFINITION. The host's commands (14 R467 to R470) that act on images, modes, cars, lanes and buses. -/

namespace Sys2Proof.Machine

/-- Modes the host may request (09 R304). -/
def hostModes : List Nat := [1, 2, 3, 6, 11]

/-- A data length a frame can carry (14 R468). -/
def rawLenOk (fd : Bool) (n : Nat) : Bool := if fd then fdLen n = n else n ≤ 8

/-- The landings of a LEARN_DOORS mask. -/
def maskLandings (e : CmdEntry) : List Nat := (List.range 128).filter fun l => bitAt e.param (l / 8) (l % 8)

/-- The sides a side mask names. -/
def maskSides (c : Fin 16) (mask : Byte) : List (Fin 32) := [State.front c, State.rear c].filter fun d => mask.getLsbD (State.sideNo d)

/-- Data read from host memory is what DATA_LEN tells (R467). -/
def dataOk (e : CmdEntry) (data : Option (List Byte)) : Bool := data.any fun d => d.length = e.dataLen.toNat

namespace State

/-- NOP (R468). -/
def nopCmd (s : State) (e : CmdEntry) : State :=
  s.command 0x01 e true (fun s => [(!s.hi.hrdy, 0x83)]) fun s => s.answer e .done 0 s.tick.t0

/-! Images (02). -/

/-- LOAD_IMAGE (02 R62, R65): the image is in DRAM and its verification goes on in the background. -/
def loadImage (s : State) (e : CmdEntry) (data : Option (List Byte)) : State :=
  s.command 0x10 e true
    (fun s => [(!(s.mod == .config || s.mod == .active || s.mod == .witness || s.mod == .safeHold), 0x83), (s.img.state != .idle, 0x0F),
               (!dataOk e data, 0x8C)])
    (fun s => (s.updImg fun i => { i with state := .verifying, work := some (data.getD [], .host) }).startRunning e)
    (fun code s => if code = 0x0F then s.updImg fun i => { i with reject := 0x0F } else s)

/-- CANCEL_IMAGE (02 R65): the pending image's slot is marked empty and its LOAD_IMAGE is cancelled. -/
def cancelImage (s : State) (e : CmdEntry) : State :=
  s.command 0x11 e true (fun s => [(!s.img.pending.any fun p => p.origin == .host, 0x8A)]) fun s =>
    match s.img.pending with
    | none => s
    | some p =>
      let s := s.updImg fun i => { i with state := .idle, reject := 0x10, pending := none, slots := i.slots.put p.slot none }
      let s := s.updTw fun t => { t with imgTx := none }
      ((s.imageEvent 0x10 p.model.seq 0 p.model.digest).finishLoad .cancelled 0x10).answer e .done 0

/-- The proposal that a PROP_ID names, 0 the oldest (R468). -/
def proposal? (s : State) (id : BitVec 32) : Option Proposal := if id = 0 then s.img.props.head? else s.img.props.find? (·.id = id)

/-- READ_PROPOSAL (02 R80): the proposal goes to host memory and may be discarded. -/
def readProposal (s : State) (e : CmdEntry) : State :=
  s.command 0x12 e (e.arg0.toNat ≤ 1)
    (fun s => [((s.proposal? e.arg2).isNone, 0x8A), ((s.proposal? e.arg2).any fun p => decide (e.dataLen.toNat < p.bytes.length), 0x8C)])
    fun s => match s.proposal? e.arg2 with
      | none => s
      | some p =>
        let s := s.updHi fun h => { h with dataOut := some (e.dataAddr, p.bytes) }
        let s := if e.arg0 = 1 then s.updImg fun i => { i with props := i.props.filter (·.id ≠ p.id) } else s
        s.answer e .done 0 (BitVec.ofNat 32 p.bytes.length)

/-! Modes (09 R309, R310). -/

/-- The car stands in M3 at rest with its doors closed (R309 NOT_QUIET). -/
def quietM3 (s : State) (m : Model) (c : Fin 16) : Bool := (s.modes.get c).mode = 3 && s.carStill m c && s.hoistIdle c && s.doorsClosed m c

/-- A refused mode command is counted. -/
def countRefused (s : State) (e : CmdEntry) : State :=
  match carOf? e with
  | some c => s.updMode c fun md => { md with refused := md.refused + 1 }
  | none => s

/-- SET_MODE (R309, R310): M0 withdraws the host's requests; the command ends in a T1 job. -/
def setModeCmd (s : State) (e : CmdEntry) : State :=
  let n := e.arg0.toNat
  s.carCommand 0x20 e (n ≤ 11)
    (fun s m c =>
      [(n != 0 && !(hostModes.contains n && (m.policy? c).any fun p => p.hostAllow.getLsbD n), 0x40), (n == 11 && !s.seal0, 0x42),
       (n == 11 && !s.quietM3 m c, 0x41)])
    (fun s _ c =>
      (s.updMode c fun md =>
        { md with host := if n = 0 then 0 else md.host ||| (1 <<< n), setCmds := md.setCmds ++ [(e, n, 0)] }).startRunning e)
    (fun _ s => s.countRefused e)

/-- The cause of a service hold persists (R309, 10 R340, R341, R344, 16 R539). -/
def holdPersists (s : State) (m : Model) (c : Fin 16) : Bool :=
  let l := s.lv.get c
  s.retirementHolds m c || l.holdCause = 0x0A || l.causes.contains 5 || l.causes.contains 6 ||
    (l.holdCause = 0xE2 && l.torqueOff && !l.stoSeen)

/-- CLEAR_MODE (R309): the latched M8 request, or the service hold of M3, whose end starts the tests again (10 R359). -/
def clearModeCmd (s : State) (e : CmdEntry) : State :=
  let n := e.arg0.toNat
  s.carCommand 0x21 e (n = 3 || n = 8)
    (fun s m c => [(n == 8 && s.groupIn m c 0x14, 0x43), (n == 3 && (s.modes.get c).hold && s.holdPersists m c, 0x43)])
    (fun s _ c =>
      let s :=
        if n = 8 then s.updMode c fun md => { md with clear8 := true }
        else if !(s.modes.get c).hold then s
        else
          ((s.updMode c fun md => { md with hold := false }).updLv c fun l => { l with hold := false, holdCause := 0 }).startTests c
      s.answer e .done 0)
    (fun _ s => s.countRefused e)

/-- CLEAR_DISPATCH_HOLD (R468): every hold of the car is cleared; a door's counts start anew (07 R243). -/
def clearDispatchHold (s : State) (e : CmdEntry) : State :=
  s.carCommand 0x22 e true
    (fun s m c => [(!heldOut (s.cars.get c).holds && !((carSides m c).any fun d => (s.sides.get d).held), 0x8A)])
    fun s _ c =>
      let s := s.updCar c fun cp => { cp with holds := { slip := false, relevel := false, start := false, following := false, door := false } }
      let s := s.each [front c, rear c] fun s d =>
        s.updSide d fun x => if x.held then { x with held := false, timer := none, stopRev := 0, nudgeRev := 0 } else x
      s.answer e .done 0

/-! Runs, doors and learning. -/

/-- RUN (R468). -/
def runCmd (s : State) (e : CmdEntry) : State :=
  let l := e.arg0.toNat
  s.carCommand 0x23 e true
    (fun s m c =>
      [(!(m.servedLandings c).contains l, 0x81), ((s.modes.get c).mode != 11, 0x85),
       (!(s.carStill m c && s.doorsClosed m c), 0x87), (decide (Health.rank (s.cars.get c).health < 2), 0x86),
       ((s.modes.get c).runCmd.isSome || !s.hoistIdle c || (s.cars.get c).spec.kind != .none || (s.lv.get c).bt.phase != 0, 0x89)])
    fun s m c =>
      let from_ := s.zoneLanding m c
      let s := s.handRun c { target := m.level l, kind := .normal, from_ := if from_ = 0xFF then none else some from_, dest := some l, cap := none }
      let s := s.updAxis (hoist c) fun a => { a with landed := false }
      (s.updMode c fun md => { md with runCmd := some e }).startRunning e

/-- The mode lets a host command act as a door button (R468). -/
def doorMode (md : Mode) : Bool := [0, 1, 2, 11].contains md.mode || (md.mode = 7 && md.sub = 3)

/-- DOOR (R468, R469): an open demand outside the door zone is refused whatever the mode. -/
def doorCmd (s : State) (e : CmdEntry) : State :=
  s.carCommand 0x24 e (1 ≤ e.arg0.toNat && e.arg0.toNat ≤ 3 && e.arg1.toNat ≤ 1)
    (fun s m c =>
      let ds := maskSides c e.arg0
      let opening := e.arg1 == 0
      [(ds.any fun d => !m.sideFitted c (sideNo d), 0x84), (opening && ds.any (!s.openPlace m ·), 0x86), (!doorMode (s.modes.get c), 0x85),
       (!s.hoistAtRest c || (ds.any fun d => let x := (s.sides.get d).state; x == .fault || x == .stopped) ||
         (opening && ds.any (!s.openValid m ·)), 0x87),
       (!(s.modes.get c).doorCmd.isEmpty, 0x89)])
    fun s _ c => (s.updMode c fun md => { md with doorCmd := md.doorCmd ++ [(e, e.arg1.toNat)] }).startRunning e

/-- DOOR_RESET (07 R230): from FAULT to UNREF, with the door's node up and ready. -/
def doorReset (s : State) (e : CmdEntry) : State :=
  s.carCommand 0x25 e (e.arg0.toNat ≤ 1)
    (fun s m c =>
      let d := if e.arg0 = 0 then front c else rear c
      let x := s.sides.get d
      let up := (s.donConn? m d).any fun p => connUp p.2
      [(!m.sideFitted c (sideNo d), 0x84), (x.state != .fault || !up || !x.nStatus.getLsbD 0 || x.nStatus.getLsbD 1, 0x87)])
    fun s m c => (s.setSide m (if e.arg0 = 0 then front c else rear c) .unref).answer e .done 0

/-- LEARN_SHAFT (04 R146). -/
def learnShaft (s : State) (e : CmdEntry) : State :=
  s.carCommand 0x30 e true (fun s m c => match s.learnRefusal m c with | some k => [(true, k)] | none => [])
    fun s m c => (s.startLearn m c).startRunning e

/-- LEARN_DOORS (07 R250). -/
def learnDoors (s : State) (e : CmdEntry) : State :=
  let n := e.arg1.toNat
  let ls := maskLandings e
  s.carCommand 0x31 e (1 ≤ e.arg0.toNat && e.arg0.toNat ≤ 3 && 4 ≤ n && n ≤ 32 && !ls.isEmpty && zeroAt e.param 16 16)
    (fun s m c =>
      let ds := maskSides c e.arg0
      [(ds.any fun d => !m.sideFitted c (sideNo d), 0x84), (ds.any fun d => ls.any fun l => !m.serves c (sideNo d) l, 0x81),
       (!((s.modes.get c).mode == 0 || (s.modes.get c).mode == 11), 0x85), ((s.learn.get c).isSome, 0x89)])
    fun s _ c =>
      let one (l : Nat) : DoorLearn :=
        { landing := l, clean := 0, acc := List.replicate 64 none, opens := [], closes := [], done := false, failed := false }
      let s := { s with learn := s.learn.put c (some { e := e, n := n }) }
      (s.each (maskSides c e.arg0) fun s d => s.updSide d fun x => { x with learn := ls.map one }).startRunning e

/-- LEARN_CANCEL (R468). -/
def learnCancel (s : State) (e : CmdEntry) : State :=
  s.carCommand 0x32 e true (fun s _ c => [((s.cars.get c).spec.kind != .learn && (s.learn.get c).isNone, 0x8A)])
    fun s _ c =>
      let s := if (s.cars.get c).spec.kind = .learn then s.learnAbort c 5 .cancelled else s
      (s.endLearnDoors c .cancelled).answer e .done 0

/-- BRAKE_TEST (10 R343). -/
def brakeTest (s : State) (e : CmdEntry) : State :=
  s.carCommand 0x33 e (200 ≤ e.arg1.toNat && e.arg1.toNat ≤ 1500)
    (fun s m c =>
      let l := s.lv.get c
      [(!s.seals.now.getLsbD 1, 0x88), ((s.modes.get c).mode != 11, 0x85), (!(btReady l (s.lvSrc m c l) && s.hoistIdle c), 0x87),
       (l.bt.phase != 0 || (s.modes.get c).runCmd.isSome || (s.cars.get c).spec.kind != .none, 0x89)])
    fun s _ c => (s.btStart c (e.arg1.toNat : Int) (some e)).startRunning e

/-! Lanes and buses. -/

/-- INJECT (06 R205). -/
def injectCmd (s : State) (e : CmdEntry) : State := s.command 0x34 e true (fun _ => []) fun s => s.startInject e false

/-- IDENTIFY (06 R210). -/
def identifyCmd (s : State) (e : CmdEntry) : State := s.command 0x36 e true (fun _ => []) fun s => s.startInject e true

/-- INJECT_ABORT (06 R205). -/
def injectAbort (s : State) (e : CmdEntry) : State :=
  let k : Fin 48 := Fin.ofNat 48 e.arg0.toNat
  s.command 0x35 e (e.arg0.toNat < 48) (fun s => [((s.lanes.get k).injection.isNone, 0x8A)])
    fun s => (s.abortInjection k 0x23).answer e .done 0

/-- Host raw frames pending on a channel (13 R435). -/
def rawPending (s : State) (n : Fin 12) : Nat := ((s.buses.get n).tx.filter (·.raw.isSome)).length

/-- RAW_SEND (13 R435). -/
def rawSend (s : State) (e : CmdEntry) (data : Option (List Byte)) : State :=
  let n : Fin 12 := Fin.ofNat 12 e.arg0.toNat
  let ext := e.arg1.getLsbD 0
  let fd := e.arg1.getLsbD 1
  let brs := e.arg1.getLsbD 2
  let ident := e.arg2.toNat
  let own := e.arg0.toNat < 12 && e.arg1.toNat ≤ 7 && (fd || !brs) && rawLenOk fd e.dataLen.toNat &&
    (if ext then ident < 2 ^ 29 && 0x800 ≤ ident % 4096 else ident < 0x800)
  s.command 0x40 e own
    (fun s => [(32 ≤ s.rawPending n, 0x89),
      (!((s.busRec n).any fun r => r.raw && (r.fd || !fd) && (r.brs || !brs)) || !txLive (s.buses.get n), 0x8E), (!dataOk e data, 0x8C)])
    fun s => (s.startRunning e).queue n
      { ext := ext, fd := fd, brs := brs, ident := BitVec.ofNat 29 ident, data := data.getD [], cyclic := false, dest := 0xFFFF, buf := none,
        raw := some e.tag, answer := none }

/-- BUS_RECOVER (13 R444). -/
def busRecover (s : State) (e : CmdEntry) : State :=
  let n : Fin 12 := Fin.ofNat 12 e.arg0.toNat
  s.command 0x41 e (e.arg0.toNat < 12) (fun s => [((s.buses.get n).state != .busoff || !((s.busRec n).any fun r => r.boff == 2), 0x8E)])
    fun s => (s.recoverBus n).startRunning e

end State

/-- NOP, R468. -/
def execNop (e : CmdEntry) (s : State) : Out := .next (s.nopCmd e)
/-- LOAD_IMAGE, R62. -/
def execLoadImage (e : CmdEntry) (data : Option (List Byte)) (s : State) : Out := .next (s.loadImage e data)
/-- CANCEL_IMAGE, R65. -/
def execCancelImage (e : CmdEntry) (s : State) : Out := .next (s.cancelImage e)
/-- READ_PROPOSAL, R80. -/
def execReadProposal (e : CmdEntry) (s : State) : Out := .next (s.readProposal e)
/-- SET_MODE, R309. -/
def execSetMode (e : CmdEntry) (s : State) : Out := .next (s.setModeCmd e)
/-- CLEAR_MODE, R309. -/
def execClearMode (e : CmdEntry) (s : State) : Out := .next (s.clearModeCmd e)
/-- CLEAR_DISPATCH_HOLD, R468. -/
def execClearDispatchHold (e : CmdEntry) (s : State) : Out := .next (s.clearDispatchHold e)
/-- RUN, R468. -/
def execRun (e : CmdEntry) (s : State) : Out := .next (s.runCmd e)
/-- DOOR, R468. -/
def execDoor (e : CmdEntry) (s : State) : Out := .next (s.doorCmd e)
/-- DOOR_RESET, R230. -/
def execDoorReset (e : CmdEntry) (s : State) : Out := .next (s.doorReset e)
/-- LEARN_SHAFT, R146. -/
def execLearnShaft (e : CmdEntry) (s : State) : Out := .next (s.learnShaft e)
/-- LEARN_DOORS, R250. -/
def execLearnDoors (e : CmdEntry) (s : State) : Out := .next (s.learnDoors e)
/-- LEARN_CANCEL, R468. -/
def execLearnCancel (e : CmdEntry) (s : State) : Out := .next (s.learnCancel e)
/-- BRAKE_TEST, R343. -/
def execBrakeTest (e : CmdEntry) (s : State) : Out := .next (s.brakeTest e)
/-- INJECT, R205. -/
def execInject (e : CmdEntry) (s : State) : Out := .next (s.injectCmd e)
/-- INJECT_ABORT, R205. -/
def execInjectAbort (e : CmdEntry) (s : State) : Out := .next (s.injectAbort e)
/-- IDENTIFY, R210. -/
def execIdentify (e : CmdEntry) (s : State) : Out := .next (s.identifyCmd e)
/-- RAW_SEND, R435. -/
def execRawSend (e : CmdEntry) (data : Option (List Byte)) (s : State) : Out := .next (s.rawSend e data)
/-- BUS_RECOVER, R444. -/
def execBusRecover (e : CmdEntry) (s : State) : Out := .next (s.busRecover e)

end Sys2Proof.Machine
end

