-- ==== Sys2Proof/Machine/Registers.lean ====
section
/-! DEFINITION. What a host write does to the registers of BAR0 (18 R577 to R585): the fields of R584 by their access codes, the
page register, and the read of TICK_TBASE_LO. -/

namespace Sys2Proof.Machine

/-- Bits of a field replaced where a write clears them: a W1C flag. -/
def w1c (old written : Bool) : Bool := old && !written

namespace State

/-- MAP_PAGE_SELECT (R577, R578): 3 is ignored, and so is every write in recovery mode. -/
def mapPageSelect (s : State) (v : BitVec 32) : State :=
  if s.hostUp && bits v 1 0 ≠ 3 then { s with page := Fin.ofNat 4 (bits v 1 0) } else s

/-- TBASE_LO_READ (01 R37): `off` counts of 10 ns after the last T0 boundary. -/
def tbaseLoRead (s : State) (off : Fin 25000) : State :=
  if s.hostUp then { s with tick := { s.tick with hi := ((s.tick.tb + BitVec.ofNat 64 off.val) >>> 32).setWidth 32 } } else s

/-! HI (14 R484, 18 R581). -/

/-- HI_CTRL: EN is RW, the rest RS, judged by the state before the write. -/
def writeHiCtrl (s : State) (v : BitVec 32) : State :=
  match s.hi.en, bit v 0 with
  | false, true => s.hiEnable v
  | true, false => s.hiDisable v
  | false, false => s.updHi fun h => { h with msixEn := bit v 1, crcEn := bit v 2 }
  | true, true => s.updHi fun h => { h with werr := h.werr || bit v 1 != h.msixEn || bit v 2 != h.crcEn }

/-- A word of RS fields of the HI block: taken while EN is 0, else flagged. -/
def writeHiRs (s : State) (f : Hi → Hi) : State := s.updHi fun h => if h.en then { h with werr := true } else f h

/-- The low or the high half of an address register replaced. -/
def half (old : BitVec 64) (high : Bool) (v : BitVec 32) : BitVec 64 :=
  if high then v ++ old.setWidth 32 else ((old >>> 32).setWidth 32 : BitVec 32) ++ v

/-- A ring's registers. -/
def writeRing (s : State) (r : Fin 6) (off : Nat) (v : BitVec 32) : State :=
  let f (g : Ring → Ring) : State := s.writeHiRs fun h => { h with rings := h.rings.upd r g }
  match off with
  | 0x0 => f fun x => { x with base := half x.base false v }
  | 0x4 => f fun x => { x with base := half x.base true v }
  | 0x8 => f fun x => { x with size := v.setWidth 15, vec := Fin.ofNat 16 (bits v 19 16), irq := bit v 20 }
  | _ => s

/-- The HI block. -/
def writeHi (s : State) (off : Nat) (v : BitVec 32) : State :=
  match off with
  | 0x00 => s.writeHiCtrl v
  | 0x04 => s.updHi fun h =>
      { h with cfgErr := w1c h.cfgErr (bit v 1), werr := w1c h.werr (bit v 2), dbErr := w1c h.dbErr (bit v 3),
               dbLost := w1c h.dbLost (bit v 4), dmaErr := w1c h.dmaErr (bit v 5), accErr := w1c h.accErr (bit v 6) }
  | 0x08 => s.writeHiRs fun h => { h with sb := half h.sb false v }
  | 0x0C => s.writeHiRs fun h => { h with sb := half h.sb true v }
  | 0x10 => s.updHi fun h => { h with evtThresh := v.setWidth 12 }
  | 0x14 => s.updHi fun h => { h with irqMod := v.setWidth 16 }
  | 0xA0 => s.writeHiRs fun h => { h with cplVec := Fin.ofNat 16 (bits v 3 0), cplIrq := bit v 4 }
  | _ => if h : 0x40 ≤ off ∧ (off - 0x40) / 16 < 6 then s.writeRing ⟨(off - 0x40) / 16, h.2⟩ (off % 16) v else s

/-! DSX, CE, PP (08 R299, 06 R214, 03 R120, R121). -/

/-- The DSX block. -/
def writeDsx (s : State) (off : Nat) (v : BitVec 32) : State :=
  match off with
  | 0x00 => s.updDsx fun d => { d with pattern := Fin.ofNat 4 (bits v 1 0), trace := bit v 2 }
  | 0x04 => s.updDsx fun d => { d with mismatch := w1c d.mismatch (bit v 5), late := w1c d.late (bit v 6) }
  | _ => s

/-- A capture unit: CAPU_SRC and CAPU_PRE go to its shadow. -/
def writeCapu (s : State) (u : Fin 4) (off : Nat) (v : BitVec 32) : State :=
  match off with
  | 0x00 => s.capuCtrlWrite u v
  | 0x04 => s.updCapu u fun c =>
      { c with shadow := { c.shadow with unitSel := v.setWidth 6, trigPort := (v >>> 8).setWidth 6, sig := (v >>> 16).setWidth 12 } }
  | 0x08 => s.updCapu u fun c => { c with shadow := { c.shadow with pre := v.setWidth 13 } }
  | 0x0C => s.updCapu u fun c => { c with commitErr := w1c c.commitErr (bit v 8), ovr := w1c c.ovr (bit v 9) }
  | _ => s

/-- The CE block: only the capture units are the host's. -/
def writeCe (s : State) (off : Nat) (v : BitVec 32) : State :=
  if h : 0xC00 ≤ off ∧ (off - 0xC00) / 0x40 < 4 then s.writeCapu ⟨(off - 0xC00) / 0x40, h.2⟩ (off % 0x40) v else s

/-- The W1C flags of PP_STAT. -/
def clearPortFlags (f : PortFlags) (v : BitVec 32) : PortFlags :=
  { illegal := w1c f.illegal (bit v 8), wrap := w1c f.wrap (bit v 9), idxOvr := w1c f.idxOvr (bit v 10), cmpOvr := w1c f.cmpOvr (bit v 11),
    ssiErr := w1c f.ssiErr (bit v 12), line := w1c f.line (bit v 13), noclk := w1c f.noclk (bit v 14), werr := w1c f.werr (bit v 15),
    commitErr := w1c f.commitErr (bit v 16) }

/-- The PP block: the host writes only the W1C fields. -/
def writePp (s : State) (off : Nat) (v : BitVec 32) : State :=
  if h : off / 0x40 < 48 then
    if off % 0x40 = 0x3C then s.updPort ⟨off / 0x40, h⟩ fun p => { p with flags := clearPortFlags p.flags v } else s
  else if off = 0xC04 then
    { s with sup := { s.sup with werr := w1c s.sup.werr (bit v 24),
                                 groups := (idx 6).foldl (fun t g => t.upd g fun u => { u with oc := w1c u.oc (bit v (8 + g.val)) }) s.sup.groups } }
  else s

/-! POL, K, LV (12 R420 to R422, 13 R449, R454, 10 R365). -/

/-- The W1C flags of a polder channel. -/
def clearPolFlags (f : PolFlags) (v : BitVec 32) : PolFlags :=
  { wb := w1c f.wb (bit v 0), guard := w1c f.guard (bit v 1), shortLp := w1c f.shortLp (bit v 2), ovld := w1c f.ovld (bit v 3),
    cross := w1c f.cross (bit v 4), darkFail := w1c f.darkFail (bit v 5), wdog := w1c f.wdog (bit v 6) }

/-- The POL block. -/
def writePol (s : State) (off : Nat) (v : BitVec 32) : State :=
  if h : off / 16 < 96 then
    if off % 16 = 4 then s.updCh ⟨off / 16, h⟩ fun c => { c with flags := clearPolFlags c.flags v } else s
  else if h : 0x800 ≤ off ∧ (off - 0x800) / 16 < 12 then
    if off % 16 = 0 then s.updPol ⟨(off - 0x800) / 16, h.2⟩ fun p => { p with lpLow := w1c p.lpLow (bit v 1) } else s
  else if h : 0x900 ≤ off ∧ (off - 0x900) / 4 < 3 then
    { s with pol := { s.pol with gout := s.pol.gout.put ⟨(off - 0x900) / 4, h.2⟩ v } }
  else s

/-- A word of wake fields (R454): RS, the channel enabled while REQ is 1 or it sleeps; K0 to K3 have none. -/
def writeWake (s : State) (n : Fin 12) (f : Bus → Bus) : State :=
  if n.val < 4 then s
  else s.updBus n fun b => if b.sleepReq || b.state = .sleep then { b with werr := true } else f b

/-- A bus channel's registers. -/
def writeBus (s : State) (n : Fin 12) (off : Nat) (v : BitVec 32) : State :=
  match off with
  | 0x00 => s.updBus n fun b =>
      { b with woke := w1c b.woke (bit v 6), collision := w1c b.collision (bit v 7), busoff := w1c b.busoff (bit v 8),
               rxOvr := w1c b.rxOvr (bit v 9), werr := w1c b.werr (bit v 10) }
  | 0x1C => s.kSleepWrite n v
  | 0x20 => s.writeWake n fun b => { b with wakeId := v.setWidth 29, wakeExt := bit v 29 }
  | 0x24 => s.writeWake n fun b => { b with wakeMask := v.setWidth 29 }
  | 0x28 => s.writeWake n fun b =>
      { b with wakeD0 := v.setWidth 8, wakeD1 := (v >>> 8).setWidth 8, wakeM0 := (v >>> 16).setWidth 8, wakeM1 := (v >>> 24).setWidth 8 }
  | _ => s

/-- The LV block: SEAL_STAT.CHANGE_ERR alone. -/
def writeLv (s : State) (off : Nat) (v : BitVec 32) : State :=
  if off = 0x800 then { s with seals := { s.seals with changeErr := w1c s.seals.changeErr (bit v 18) } } else s

/-! FC and PWR (16 R528, R530, R532, R548, R549; 17 R575). -/

/-- A sluice word written to the shadow; only the defined bits are kept. -/
def writeSluice (s : State) (n : Nat) (v : BitVec 32) : State :=
  s.updFc fun f => { f with shadow := (n, v &&& 0x001F1F1F) :: f.shadow.filter (·.1 ≠ n) }

/-- FC_STAT: FIRST_VALID stays while FC_FIRST holds a class F message, NERR once class F has been recorded since BOOT. -/
def writeFcStat (f : Fc) (v : BitVec 32) : Fc :=
  let heldF := f.first.any fun r => r.msg.cls = 3
  { f with firstValid := if heldF then f.firstValid else w1c f.firstValid (bit v 0),
           nerr := if f.fSeen then f.nerr else w1c f.nerr (bit v 1), commitErr := w1c f.commitErr (bit v 3) }

/-- The FC block. -/
def writeFc (s : State) (off : Nat) (v : BitVec 32) : State :=
  if off = 0x00 then (if bit v 0 then s.sluiceCommit else s)
  else if off = 0x04 then s.updFc fun f => writeFcStat f v
  else if off = 0x30 then s.updFc fun f => { f with plogSel := Fin.ofNat 1024 (bits v 9 0) }
  else if 0x100 ≤ off && off < 0x500 then s.writeSluice ((off - 0x100) / 4) v
  else s

/-- Four bytes of the recovery window written. -/
def writeWindow (s : State) (off : Nat) (v : BitVec 32) : State :=
  s.updPwr fun p => let w := pad 4096 p.recWin; { p with recWin := w.take off ++ leBytes 4 v.toNat ++ w.drop (off + 4) }

/-- Writes in recovery mode (17 R565, R575, 18 R578): PWR_RECOV_CTRL, PWR_RECOV_OFF and the window. -/
def writeRecovery (s : State) (a : Nat) (v : BitVec 32) : State :=
  if a = 0x7060 then
    let s := if bit v 0 then s.recoveryStart else s
    if bit v 1 then s.recoveryCommit else s
  else if a = 0x7064 then s.recoveryChunk (v.setWidth 24)
  else if 0x8000 ≤ a && a < 0x9000 then s.writeWindow (a - 0x8000) v
  else s

/-- A write to an aligned BAR0 address in service (R576, R584): any field that R584 does not list is ignored without a flag. -/
def writeBar0 (s : State) (a : Nat) (v : BitVec 32) : State :=
  if 0x400 ≤ a && a < 0x500 then s.writeHi (a - 0x400) v
  else if 0x800 ≤ a && a < 0xA00 then s.writeDsx (a - 0x800) v
  else if h : 0x1800 ≤ a ∧ (a - 0x1800) / 0x80 < 12 then s.writeBus ⟨(a - 0x1800) / 0x80, h.2⟩ (a % 0x80) v
  else if a = 0x1E00 then s.mapPageSelect v
  else if 0x2000 ≤ a && a < 0x3000 then s.writePp (a - 0x2000) v
  else if 0x3000 ≤ a && a < 0x4000 then s.writeCe (a - 0x3000) v
  else if 0x4000 ≤ a && a < 0x5000 then s.writeLv (a - 0x4000) v
  else if 0x5000 ≤ a && a < 0x6000 then s.writePol (a - 0x5000) v
  else if 0x6000 ≤ a && a < 0x7000 then s.writeFc (a - 0x6000) v
  else if a = 0x7050 then s.pwrParkWrite v
  else s

/-- REGISTER_WRITE (R581, R584): an unaligned one is R456's. -/
def registerWrite (s : State) (addr : BitVec 16) (v : BitVec 32) : State :=
  let a := addr.toNat
  if a % 4 ≠ 0 then s.unalignedAccess
  else if s.recovers then s.writeRecovery a v
  else if s.hostUp then s.writeBar0 a v
  else s

end State

/-- MAP_PAGE_SELECT, R577. -/
def execMapPageSelect (v : BitVec 32) (s : State) : Out := .next (s.mapPageSelect v)
/-- TBASE_LO_READ, 01 R37. -/
def execTbaseLoRead (off : Fin 25000) (s : State) : Out := .next (s.tbaseLoRead off)
/-- REGISTER_WRITE, R581. -/
def execRegisterWrite (addr : BitVec 16) (v : BitVec 32) (s : State) : Out := .next (s.registerWrite addr v)

end Sys2Proof.Machine
end

