-- ==== Sys2Proof/Machine/Dispatch.lean ====
section
/-! DEFINITION. The meaning of every command, one arm each. -/

namespace Sys2Proof.Machine

/-- The effect of a command on everything but the queue. -/
def exec (i : Instr) (s : State) : Host.Outcome State Fault Refusal :=
  match i with
  | .powerOn => Sys2Proof.Machine.execPowerOn s
  | .vinFault mv => Sys2Proof.Machine.execVinFault mv s
  | .vinRestored mv => Sys2Proof.Machine.execVinRestored mv s
  | .powerFail mv => Sys2Proof.Machine.execPowerFail mv s
  | .railFault d rail mv => Sys2Proof.Machine.execRailFault d rail mv s
  | .railDomainOff d => Sys2Proof.Machine.execRailDomainOff d s
  | .domainSwitchOn d inWindow => Sys2Proof.Machine.execDomainSwitchOn d inWindow s
  | .nrstinAssert => Sys2Proof.Machine.execNrstinAssert s
  | .nrstinRelease => Sys2Proof.Machine.execNrstinRelease s
  | .perst kind => Sys2Proof.Machine.execPerst kind s
  | .slotSelect => Sys2Proof.Machine.execSlotSelect s
  | .startupSelfTestsDone passed => Sys2Proof.Machine.execStartupSelfTestsDone passed s
  | .modelLoad => Sys2Proof.Machine.execModelLoad s
  | .bootWatchdog => Sys2Proof.Machine.execBootWatchdog s
  | .thermalWarn sensor temp => Sys2Proof.Machine.execThermalWarn sensor temp s
  | .derateOff => Sys2Proof.Machine.execDerateOff s
  | .thermalTrip sensor temp => Sys2Proof.Machine.execThermalTrip sensor temp s
  | .t0Boundary adj => Sys2Proof.Machine.execT0Boundary adj s
  | .t1Boundary seals => Sys2Proof.Machine.execT1Boundary seals s
  | .t2Boundary => Sys2Proof.Machine.execT2Boundary s
  | .tickSyncFault offset => Sys2Proof.Machine.execTickSyncFault offset s
  | .bermAbandon job => Sys2Proof.Machine.execBermAbandon job s
  | .laneStop k => Sys2Proof.Machine.execLaneStop k s
  | .carCoreJobDrops cc => Sys2Proof.Machine.execCarCoreJobDrops cc s
  | .leveeMissSafeState lc => Sys2Proof.Machine.execLeveeMissSafeState lc s
  | .solverRunComplete us => Sys2Proof.Machine.execSolverRunComplete us s
  | .nearestCarFallback => Sys2Proof.Machine.execNearestCarFallback s
  | .portEdge n x ts => Sys2Proof.Machine.execPortEdge n x ts s
  | .indexEvent n x => Sys2Proof.Machine.execIndexEvent n x s
  | .ssiFrame n fr => Sys2Proof.Machine.execSsiFrame n fr s
  | .ssiFrameLate n started => Sys2Proof.Machine.execSsiFrameLate n started s
  | .portLineFault n pair present => Sys2Proof.Machine.execPortLineFault n pair present s
  | .portStandstill n => Sys2Proof.Machine.execPortStandstill n s
  | .supplyOvercurrent g => Sys2Proof.Machine.execSupplyOvercurrent g s
  | .supplySettled g => Sys2Proof.Machine.execSupplySettled g s
  | .supplyChainStart => Sys2Proof.Machine.execSupplyChainStart s
  | .fusionDropHealth c => Sys2Proof.Machine.execFusionDropHealth c s
  | .tsContradiction c => Sys2Proof.Machine.execTsContradiction c s
  | .absSourceFail c => Sys2Proof.Machine.execAbsSourceFail c s
  | .correctionRun c => Sys2Proof.Machine.execCorrectionRun c s
  | .correctionRunEnd c => Sys2Proof.Machine.execCorrectionRunEnd c s
  | .homingRun c => Sys2Proof.Machine.execHomingRun c s
  | .relevelStart c => Sys2Proof.Machine.execRelevelStart c s
  | .relevelTimeout c => Sys2Proof.Machine.execRelevelTimeout c s
  | .learnShaftDone c => Sys2Proof.Machine.execLearnShaftDone c s
  | .brakeLiftWait c => Sys2Proof.Machine.execBrakeLiftWait c s
  | .planEnd c => Sys2Proof.Machine.execPlanEnd c s
  | .brakeDropWait c => Sys2Proof.Machine.execBrakeDropWait c s
  | .startFailure c => Sys2Proof.Machine.execStartFailure c s
  | .hdvFeedback fr => Sys2Proof.Machine.execHdvFeedback fr s
  | .followingErrorStop c => Sys2Proof.Machine.execFollowingErrorStop c s
  | .injectionStart k => Sys2Proof.Machine.execInjectionStart k s
  | .injectionComplete k => Sys2Proof.Machine.execInjectionComplete k s
  | .injectionWaitTimeout k => Sys2Proof.Machine.execInjectionWaitTimeout k s
  | .identifyFit k => Sys2Proof.Machine.execIdentifyFit k s
  | .capuTrigger u => Sys2Proof.Machine.execCapuTrigger u s
  | .capuBlockDeliver u => Sys2Proof.Machine.execCapuBlockDeliver u s
  | .capuCtrlWrite u v => Sys2Proof.Machine.execCapuCtrlWrite u v s
  | .donReply fr => Sys2Proof.Machine.execDonReply fr s
  | .doorReopen d => Sys2Proof.Machine.execDoorReopen d s
  | .lockTimeout d => Sys2Proof.Machine.execLockTimeout d s
  | .homingCloseFailure d => Sys2Proof.Machine.execHomingCloseFailure d s
  | .dwellExpiry c => Sys2Proof.Machine.execDwellExpiry c s
  | .doorLearnDone c => Sys2Proof.Machine.execDoorLearnDone c s
  | .hallCall fr => Sys2Proof.Machine.execHallCall fr s
  | .destCall fr => Sys2Proof.Machine.execDestCall fr s
  | .carCall fr => Sys2Proof.Machine.execCarCall fr s
  | .callEntry => Sys2Proof.Machine.execCallEntry s
  | .stoMissing c => Sys2Proof.Machine.execStoMissing c s
  | .contactorFbTimeout c => Sys2Proof.Machine.execContactorFbTimeout c s
  | .brakeFbTimeout c circuit => Sys2Proof.Machine.execBrakeFbTimeout c circuit s
  | .brakeTestAuto c => Sys2Proof.Machine.execBrakeTestAuto c s
  | .brakeTestPhaseEnd c => Sys2Proof.Machine.execBrakeTestPhaseEnd c s
  | .brakeTestOverdue c => Sys2Proof.Machine.execBrakeTestOverdue c s
  | .brakeTestRetry c => Sys2Proof.Machine.execBrakeTestRetry c s
  | .discrepancy c src => Sys2Proof.Machine.execDiscrepancy c src s
  | .xchkFail c => Sys2Proof.Machine.execXchkFail c s
  | .overspeed c => Sys2Proof.Machine.execOverspeed c s
  | .safetyReset c => Sys2Proof.Machine.execSafetyReset c s
  | .resetStuck c => Sys2Proof.Machine.execResetStuck c s
  | .startTestFailed c => Sys2Proof.Machine.execStartTestFailed c s
  | .join fr => Sys2Proof.Machine.execJoin fr s
  | .hdvRep fr => Sys2Proof.Machine.execHdvRep fr s
  | .ctnRep fr => Sys2Proof.Machine.execCtnRep fr s
  | .ptnRep fr => Sys2Proof.Machine.execPtnRep fr s
  | .connectionWatchdog node => Sys2Proof.Machine.execConnectionWatchdog node s
  | .inputFilterAccept node samples => Sys2Proof.Machine.execInputFilterAccept node samples s
  | .inputGuard node => Sys2Proof.Machine.execInputGuard node s
  | .lpLow p => Sys2Proof.Machine.execLpLow p s
  | .lpRestored p => Sys2Proof.Machine.execLpRestored p s
  | .couplerFault node => Sys2Proof.Machine.execCouplerFault node s
  | .fieldWatchdog node => Sys2Proof.Machine.execFieldWatchdog node s
  | .readbackFault node detail => Sys2Proof.Machine.execReadbackFault node detail s
  | .busFrameUnowned fr => Sys2Proof.Machine.execBusFrameUnowned fr s
  | .frameSent n sof delay => Sys2Proof.Machine.execFrameSent n sof delay s
  | .rateAdopted n => Sys2Proof.Machine.execRateAdopted n s
  | .rateCandidateDrop n why => Sys2Proof.Machine.execRateCandidateDrop n why s
  | .noack n => Sys2Proof.Machine.execNoack n s
  | .collision n => Sys2Proof.Machine.execCollision n s
  | .errorPassive n tec rec => Sys2Proof.Machine.execErrorPassive n tec rec s
  | .busoff n tec rec => Sys2Proof.Machine.execBusoff n tec rec s
  | .busRecovered n => Sys2Proof.Machine.execBusRecovered n s
  | .busSleep n => Sys2Proof.Machine.execBusSleep n s
  | .busWake n how => Sys2Proof.Machine.execBusWake n how s
  | .kSleepWrite n v => Sys2Proof.Machine.execKSleepWrite n v s
  | .dbCmdTail v => Sys2Proof.Machine.execDbCmdTail v s
  | .dbCallTail v => Sys2Proof.Machine.execDbCallTail v s
  | .dbEvtHead v => Sys2Proof.Machine.execDbEvtHead v s
  | .dbTelHead v => Sys2Proof.Machine.execDbTelHead v s
  | .dbLogHead v => Sys2Proof.Machine.execDbLogHead v s
  | .dbCapHead v => Sys2Proof.Machine.execDbCapHead v s
  | .dbCplHead v => Sys2Proof.Machine.execDbCplHead v s
  | .hiEnable v => Sys2Proof.Machine.execHiEnable v s
  | .hiDisable v => Sys2Proof.Machine.execHiDisable v s
  | .cmdFetch bytes => Sys2Proof.Machine.execCmdFetch bytes s
  | .callFetch bytes => Sys2Proof.Machine.execCallFetch bytes s
  | .statusBlockWrite => Sys2Proof.Machine.execStatusBlockWrite s
  | .irqModerationEnd vec => Sys2Proof.Machine.execIrqModerationEnd vec s
  | .unalignedAccess write addr => Sys2Proof.Machine.execUnalignedAccess write addr s
  | .mapPageSelect v => Sys2Proof.Machine.execMapPageSelect v s
  | .tbaseLoRead off => Sys2Proof.Machine.execTbaseLoRead off s
  | .fcSluiceCommit => Sys2Proof.Machine.execFcSluiceCommit s
  | .pwrParkWrite v => Sys2Proof.Machine.execPwrParkWrite v s
  | .groupPark g => Sys2Proof.Machine.execGroupPark g s
  | .groupUnpark g => Sys2Proof.Machine.execGroupUnpark g s
  | .recoveryStart => Sys2Proof.Machine.execRecoveryStart s
  | .recoveryChunk off => Sys2Proof.Machine.execRecoveryChunk off s
  | .recoveryCommit => Sys2Proof.Machine.execRecoveryCommit s
  | .registerWrite addr v => Sys2Proof.Machine.execRegisterWrite addr v s
  | .nop e => Sys2Proof.Machine.execNop e s
  | .loadImage e data => Sys2Proof.Machine.execLoadImage e data s
  | .imageVerified flashOk => Sys2Proof.Machine.execImageVerified flashOk s
  | .peerVerifyResult code digest => Sys2Proof.Machine.execPeerVerifyResult code digest s
  | .imageNotQuiet => Sys2Proof.Machine.execImageNotQuiet s
  | .cancelImage e => Sys2Proof.Machine.execCancelImage e s
  | .readProposal e => Sys2Proof.Machine.execReadProposal e s
  | .keyRelease e => Sys2Proof.Machine.execKeyRelease e s
  | .setMode e => Sys2Proof.Machine.execSetMode e s
  | .clearMode e => Sys2Proof.Machine.execClearMode e s
  | .clearDispatchHold e => Sys2Proof.Machine.execClearDispatchHold e s
  | .run e => Sys2Proof.Machine.execRun e s
  | .door e => Sys2Proof.Machine.execDoor e s
  | .doorReset e => Sys2Proof.Machine.execDoorReset e s
  | .learnShaft e => Sys2Proof.Machine.execLearnShaft e s
  | .learnDoors e => Sys2Proof.Machine.execLearnDoors e s
  | .learnCancel e => Sys2Proof.Machine.execLearnCancel e s
  | .brakeTest e => Sys2Proof.Machine.execBrakeTest e s
  | .inject e => Sys2Proof.Machine.execInject e s
  | .injectAbort e => Sys2Proof.Machine.execInjectAbort e s
  | .identify e => Sys2Proof.Machine.execIdentify e s
  | .rawSend e data => Sys2Proof.Machine.execRawSend e data s
  | .busRecover e => Sys2Proof.Machine.execBusRecover e s
  | .clearRetired e => Sys2Proof.Machine.execClearRetired e s
  | .update e data => Sys2Proof.Machine.execUpdate e data s
  | .updateFlashDone ok => Sys2Proof.Machine.execUpdateFlashDone ok s
  | .updateNotQuiet => Sys2Proof.Machine.execUpdateNotQuiet s
  | .reset e => Sys2Proof.Machine.execReset e s
  | .heartbeatRx bytes off => Sys2Proof.Machine.execHeartbeatRx bytes off s
  | .heartbeatLost => Sys2Proof.Machine.execHeartbeatLost s
  | .epochRx bytes => Sys2Proof.Machine.execEpochRx bytes s
  | .snapPartRx bytes => Sys2Proof.Machine.execSnapPartRx bytes s
  | .imageLinkFrame bytes => Sys2Proof.Machine.execImageLinkFrame bytes s
  | .yilzLaneLoss lane => Sys2Proof.Machine.execYilzLaneLoss lane s
  | .claimWordSend => Sys2Proof.Machine.execClaimWordSend s
  | .claimWordRx w => Sys2Proof.Machine.execClaimWordRx w s
  | .claimWordTimeout => Sys2Proof.Machine.execClaimWordTimeout s
  | .roleNegotiation => Sys2Proof.Machine.execRoleNegotiation s
  | .leaseAns fr => Sys2Proof.Machine.execLeaseAns fr s
  | .leaseExpiry => Sys2Proof.Machine.execLeaseExpiry s
  | .safeHoldRelease => Sys2Proof.Machine.execSafeHoldRelease s
  | .witStatusRx fr => Sys2Proof.Machine.execWitStatusRx fr s
  | .witnessLeaseReq fr => Sys2Proof.Machine.execWitnessLeaseReq fr s
  | .witnessLeaseRel fr => Sys2Proof.Machine.execWitnessLeaseRel fr s
  | .witStatusSend => Sys2Proof.Machine.execWitStatusSend s
  | .faultReport m => Sys2Proof.Machine.execFaultReport m s
  | .targetedTestDone u r => Sys2Proof.Machine.execTargetedTestDone u r s
  | .crstReboot => Sys2Proof.Machine.execCrstReboot s
  | .yilzLaneSync lane => Sys2Proof.Machine.execYilzLaneSync lane s
  | .hostMemoryAccessDone cls r => Sys2Proof.Machine.execHostMemoryAccessDone cls r s
  | .updateImageChecked => Sys2Proof.Machine.execUpdateImageChecked s
  | .recoveryWriteDone ok => Sys2Proof.Machine.execRecoveryWriteDone ok s
  | .pciPowerStateChange d3 => Sys2Proof.Machine.execPciPowerStateChange d3 s

end Sys2Proof.Machine
end

