-- ==== Sys2Proof/Safety.lean ====
section
/-! DEFINITION. What counts as a safe run, and the relations of the tick counters that every step keeps. -/

namespace Sys2Proof

/-- `k` steps from a state, none of which ends in a fault or a refusal. -/
def Safe : Nat → Machine.State → Prop
  | 0, _ => True
  | k + 1, s => ∃ t, Machine.step s = .next t ∧ Safe k t

namespace Machine

/-- The relations of R19 between the three counters of one boundary. -/
def CountersAgree (t0 t1 t2 : BitVec 32) : Prop :=
  t1.extractLsb' 0 29 = t0.extractLsb' 3 29 ∧ t2.extractLsb' 0 27 = t1.extractLsb' 5 27 ∧ t2.extractLsb' 0 24 = t0.extractLsb' 8 24

/-- T1CNT of the boundary at which the tick stands: a T1 part not yet commanded counts as made (log 4). -/
def Tick.t1Seen (t : Tick) : BitVec 32 := if t.t1Due then t.t1 + 1 else t.t1

/-- T2CNT of the boundary at which the tick stands: the T2 part of the coming boundary does not count yet (log 4). -/
def Tick.t2Seen (t : Tick) : BitVec 32 := if t.t2Done then t.t2 - 1 else t.t2

/-- The counters agree, a T1 part waits only at a T1 boundary, and a T2 part is made in advance only in the last T0 of a T2. -/
def Tick.Agree (t : Tick) : Prop :=
  CountersAgree t.t0 t.t1Seen t.t2Seen ∧ (t.t1Due → t.t0.toNat % 8 = 0) ∧ (t.t2Done → t.t0.toNat % 256 = 255 ∧ t.t1Due = false)

/-- The tick counters agree, and so do those of the last heartbeat heard. -/
def State.CountersInv (s : State) : Prop := s.tick.Agree ∧ ∀ h ∈ s.tw.lastHb, CountersAgree h.t0 h.t1 h.t2

/-- The heartbeat that waits at the front of the queue carries counters that agree; any other command passes. -/
def State.PeerAgrees (s : State) : Prop :=
  match s.pending with
  | .heartbeatRx bytes _ :: _ => CountersAgree (State.readHb bytes).t0 (State.readHb bytes).t1 (State.readHb bytes).t2
  | _ => True

/-- PD1 to PD7 have been reset and the module is in BOOT (17 R559): the timebase, the seals and the retirement map go on, and all that
lives outside PD0 and flash is as at reset. -/
structure State.Restarted (s t : State) : Prop where
  mod     : t.mod = .boot
  step    : t.pwr.boot.step = if s.seals.fixed then 4 else 3
  tick    : t.tick = s.tick
  role    : t.seals.role = s.seals.role ∧ t.seals.fixed = s.seals.fixed ∧ t.seals.now = s.seals.now
  retired : t.fc.retired = s.fc.retired
  counts  : t.fc.cntC = s.fc.cntC ∧ t.fc.cntU = s.fc.cntU ∧ t.fc.cntF = s.fc.cntF
  domains : t.pwr.domOn = 0x01 ∧ t.pwr.pd0 = s.pwr.pd0
  gate    : t.tw.gate = false
  model   : t.model = none ∧ t.conns = []
  blocks  : t.hi = reset.hi ∧ t.buses = reset.buses ∧ t.ports = reset.ports ∧ t.sup = reset.sup ∧ t.pol = reset.pol ∧
    t.capus = reset.capus ∧ t.axes = reset.axes ∧ t.lanes = reset.lanes ∧ t.cars = reset.cars ∧ t.sides = reset.sides ∧
    t.modes = reset.modes ∧ t.dsx = reset.dsx
  queue   : t.pending = s.pending

/-- The module has no power (17 R553): all but flash and the one-time-programmable counter is as at reset. -/
structure State.Unpowered (s t : State) : Prop where
  mod    : t.mod = .off
  pd0    : t.pwr.pd0 = false
  tick   : t.tick = reset.tick
  gate   : t.tw.gate = false
  model  : t.model = none
  blocks : t.hi = reset.hi ∧ t.buses = reset.buses ∧ t.ports = reset.ports ∧ t.pol = reset.pol ∧ t.axes = reset.axes ∧
    t.lanes = reset.lanes ∧ t.cars = reset.cars ∧ t.sides = reset.sides ∧ t.modes = reset.modes ∧ t.dsx = reset.dsx
  flash  : t.img.key = s.img.key ∧ t.img.slots = s.img.slots ∧ t.pwr.slots = s.pwr.slots ∧ t.pwr.preferred = s.pwr.preferred ∧
    t.pwr.minSec = s.pwr.minSec ∧ t.fc.retired = s.fc.flashMap
  queue  : t.pending = s.pending

/-- A privileged frame of a class is heard, finds room in the receive FIFO and names node `i` of the model in force (11 R382, 13 R437);
`t` is the state that has heard it. -/
structure State.Reaches (s t : State) (fr : Frame) (cls : Nat) (m : Model) (i : Nat) (r : NodeRec) (c : Conn) : Prop where
  heard : s.hear fr = some t
  model : s.model = some m
  room  : t.lostRx fr = false
  bus   : fr.bus.val < 4
  form  : fr.ext = false ∧ fr.fd = true
  cls   : (privParts fr).1 = cls
  named : nodeAt m fr.bus (privParts fr).2.1 (privParts fr).2.2 = some i
  node  : m.nodes[i]? = some r
  conn  : t.conns[i]? = some c

/-- A fixture frame of a function is heard, finds room in the receive FIFO and names fixture node `i` of the model in force (08 R292,
13 R437); `t` is the state that has heard it. -/
structure State.ReachesFixture (s t : State) (fr : Frame) (fn : Nat) (m : Model) (i : Nat) (r : NodeRec) (c : Conn) : Prop where
  heard : s.hear fr = some t
  model : s.model = some m
  room  : t.lostRx fr = false
  bus   : 4 ≤ fr.bus.val
  form  : fr.ext = true ∧ fr.fd = true ∧ fr.ident.toNat / 2 ^ 26 = 4
  fn    : fixFn fr = fn
  named : fixtureAt m fr = some i
  node  : m.nodes[i]? = some r
  conn  : t.conns[i]? = some c

/-- A cause has started the demand of a car that had none (10 R331 to R336): its books, and torque removed at once where the cause is
immediate or the car still, with the torque-removal frame queued where the module drives the car's HDV, the monitored stop otherwise. No
other car's levee changes. -/
structure State.Demanded (s t : State) (c : Fin 16) (code : Nat) : Prop where
  causes : (t.lv.get c).causes = [code] ∧ (t.lv.get c).demand = true
  books  : (t.lv.get c).first = BitVec.ofNat 8 code ∧ (t.lv.get c).demandT0 = s.tick.t0 ∧ (t.lv.get c).lastT0 = s.tick.t0 ∧
    (t.lv.get c).vd = (s.lv.get c).speed.natAbs ∧ (t.lv.get c).dir = sgn (s.lv.get c).speed ∧ (t.lv.get c).k = 0 ∧
    (t.lv.get c).demands = (s.lv.get c).demands + 1
  trip   : ∀ b, tripBit code = some b → (t.lv.get c).trip.getLsbD b = true
  torque : (s.lv.get c).torqueOff = false → ((s.lv.get c).still = true ∨ kindM (s.lv.get c).vmode code = false) →
    (t.lv.get c).torqueOff = true ∧ (t.lv.get c).mc = false ∧ (t.lv.get c).brk1 = false ∧
    (t.lv.get c).brk2 = false ∧ (t.lv.get c).mstop = false ∧
    (t.lv.get c).tqSent = (s.drives && (s.model.bind fun m => m.node? c .hdv).isSome) ∧ (s.drives = false → t.buses = s.buses)
  stop   : (s.lv.get c).torqueOff = false → (s.lv.get c).still = false → kindM (s.lv.get c).vmode code = true →
    (t.lv.get c).mstop = true ∧ (t.lv.get c).torqueOff = false ∧ (t.lv.get c).mc = (s.lv.get c).mc ∧
    (t.lv.get c).brk1 = (s.lv.get c).brk1 ∧ (t.lv.get c).brk2 = (s.lv.get c).brk2 ∧ t.buses = s.buses
  kept   : (t.lv.get c).pos = (s.lv.get c).pos ∧ (t.lv.get c).speed = (s.lv.get c).speed ∧ (t.lv.get c).modeLv = (s.lv.get c).modeLv
  others : ∀ d, d ≠ c → t.lv.get d = s.lv.get d
  rest   : t.tick = s.tick ∧ t.cars = s.cars ∧ t.axes = s.axes ∧ t.ports = s.ports ∧ t.sides = s.sides ∧ t.model = s.model ∧
    t.mod = s.mod ∧ t.pending = s.pending

/-- No cause, demand or trip is in force for a car. -/
structure State.Undemanded (s : State) (c : Fin 16) : Prop where
  causes : (s.lv.get c).causes = []
  demand : (s.lv.get c).demand = false
  trip   : (s.lv.get c).trip = 0

/-- A line of pairs 1 to 3 is high after INV, before a sample. -/
def Port.lineWas (p : Port) (i : Nat) : Bool := p.level.getLsbD i != p.cfg.inv.getLsbD i

/-- And after a sample that gives pairs 1 and 2 the levels `lv`. -/
def Port.lineNow (p : Port) (lv : BitVec 2) (i : Nat) : Bool := lv.getLsbD i != p.cfg.inv.getLsbD i

/-- A rising edge of pair `i + 1` after INV. -/
def Port.rises (p : Port) (lv : BitVec 2) (i : Nat) : Bool := !p.lineWas i && p.lineNow lv i

/-- A change of pair `i + 1`. -/
def Port.changes (p : Port) (lv : BitVec 2) (i : Nat) : Bool := p.lineWas i != p.lineNow lv i

/-- A sample is a counting edge in direction `d` before DIR (03 R85 to R87): a step with a steady direction level in MODE 1, a rising
edge of one pair alone in MODE 2, a change of one of A and B alone in MODE 3, upward when A leads. -/
def Port.edgeAt (p : Port) (lv : BitVec 2) (d : Int) : Bool :=
  match p.cfg.mode.val with
  | 1 => p.rises lv 0 && !p.changes lv 1 && decide (d = if p.lineNow lv 1 then 1 else -1)
  | 2 => (p.rises lv 0 && !p.rises lv 1 && decide (d = 1)) || (p.rises lv 1 && !p.rises lv 0 && decide (d = -1))
  | 3 => (p.changes lv 0 && !p.changes lv 1 && decide (d = if p.lineNow lv 0 != p.lineNow lv 1 then 1 else -1)) ||
    (p.changes lv 1 && !p.changes lv 0 && decide (d = if p.lineNow lv 0 == p.lineNow lv 1 then 1 else -1))
  | _ => false

/-- A sample is illegal (03 R85 to R87): both pairs at once. -/
def Port.illegalAt (p : Port) (lv : BitVec 2) : Bool :=
  match p.cfg.mode.val with
  | 1 => p.rises lv 0 && p.changes lv 1
  | 2 => p.rises lv 0 && p.rises lv 1
  | 3 => p.changes lv 0 && p.changes lv 1
  | _ => false

/-- A link frame of a type passes form, CRC and TAG while the link is up (15 R492); `t` is the state that has used CV15 for it. -/
structure State.LinkPasses (s t : State) (m : Model) (bs : List Byte) (type lo hi : Nat) (fold : BitVec 32) : Prop where
  model : s.model = some m
  up    : s.linkUp = true
  form  : s.linkForm bs type lo hi = true
  good  : s.linkGood m bs fold = true
  sound : s.cvSpoilt 15 = false
  used  : t = s.useCv 15 true

/-- A witness frame heard on K0 or K1 finds room, names a node of the WIT records and passes its checks (15 R506); `t` is the state
that has heard it, `c` its connection after the checks, `n` the state that has accepted it. -/
structure State.WitPasses (s t n : State) (fr : Frame) (addr ftype plen i : Nat) (m : Model) (r : NodeRec) (c₀ c : Conn) : Prop where
  heard : s.hear fr = some t
  model : s.model = some m
  room  : t.lostRx fr = false
  form  : fr.bus.val < 2 ∧ fr.ext = false ∧ fr.ident.toNat = 0x1F0 + addr
  wit   : m.wit? addr = some i
  node  : m.nodes[i]? = some r
  conn  : t.conns[i]? = some c₀
  check : t.checkWit r c₀ fr ftype plen = .ok c
  taken : n = { t with conns := t.conns.modify i fun _ => c.accept fr.sof, cvs := (t.countCv fr.bus (.ok c)).cvs }

/-- A CMD entry starts (14 R465 to R470): it is the first that waits, its fields pass PARAM and the module's state admits it; `n` is
the state that has taken it. -/
structure State.Starts (s n : State) (op : Nat) (e : CmdEntry) (own : Bool) : Prop where
  front : s.canStart op e = true
  param : paramOk e own = true
  state : s.mod = .standby → op ∈ standbyOps ++ injectOps
  taken : n = s.takeEntry e

/-- The same for a command of a present car in ACTIVE, with the model in force. -/
structure State.StartsFor (s n : State) (op : Nat) (e : CmdEntry) (own : Bool) (m : Model) (c : Fin 16) : Prop where
  starts : s.Starts n op e own
  active : s.mod = .active
  model  : s.model = some m
  car    : carOf? e = some c
  present : m.present c = true

end Machine

end Sys2Proof
end

