-- ==== Sys2Proof/Certificates/Slice0/Obligations.lean ====
section
/-! DEFINITION. The statements for the provers, from the spec's rules. -/

open Sys2Proof Sys2Proof.Machine Sys2Proof.Machine.State

/-- A step runs the command at the front of the queue, and idles when none waits -/
def Obligations.StepRunsFrontCommandOrIdles : Prop :=
  (∀ (c : Instr) (s : State), step { s with pending := c :: s.pending } = exec c s) ∧
  (∀ s : State, s.pending = [] → step s = .next s)

/-- The state after reset: module OFF, counters 0, the PWR, HI and TICK registers at their reset values -/
def Obligations.ResetIsOffWithRegistersClear : Prop :=
  State.reset.mod = .off ∧ State.reset.pending = [] ∧ State.reset.model = none ∧
  State.reset.tick.t0 = 0 ∧ State.reset.tick.t1 = 0 ∧ State.reset.tick.t2 = 0 ∧ State.reset.tick.tb = 0 ∧
  State.pwrReg State.reset 0x00 = 0x0101 ∧
  (∀ off ∈ [0x04, 0x10, 0x2C, 0x30, 0x34, 0x40, 0x44, 0x48, 0x50, 0x68], State.pwrReg State.reset off = 0) ∧
  (∀ off ∈ [0x0C, 0x10, 0x14, 0x18], State.tickReg State.reset off = 0) ∧
  (∀ r, (State.reset.hi.rings.get r).head = 0 ∧ (State.reset.hi.rings.get r).tail = 0 ∧ (State.reset.hi.rings.get r).data = []) ∧
  (∀ n, (State.reset.buses.get n).state = .off) ∧ (∀ c, (State.reset.cars.get c).health = .lost)

/-- The tick counters agree after reset -/
def Obligations.CountersAgreeAtReset : Prop :=
  State.reset.CountersInv

/-- Every step keeps the relations of T0CNT, T1CNT and T2CNT -/
def Obligations.CountersAgreeAfterEveryStep : Prop :=
  ∀ s t : State, s.CountersInv → s.PeerAgrees → step s = .next t → t.CountersInv

/-- Every command answers a next state and leaves the queue of waiting commands alone -/
def Obligations.EveryCommandCompletesAndLeavesTheQueue : Prop :=
  ∀ (c : Instr) (s : State), ∃ t, exec c s = .next t ∧ t.pending = s.pending

/-- The building model in force changes only at MODEL_LOAD and at a T2 boundary -/
def Obligations.ModelChangesOnlyAtLoadAndT2Boundary : Prop :=
  ∀ (c : Instr) (s t : State), exec c s = .next t →
    t.model = s.model ∨ t.model = none ∨ (c = .modelLoad ∧ s.mod = .boot ∧ s.pwr.boot.step = 7) ∨
    (c = .t2Boundary ∧ ∃ p, s.img.pending = some p ∧ t.model = some p.model)

/-- TB0 keeps its value while PD0 is powered -/
def Obligations.TimebaseOriginIsNeverRewritten : Prop :=
  ∀ (c : Instr) (s t : State), exec c s = .next t → s.tick.started = true →
    (t.tick.started = true ∧ t.tick.tb0 = s.tick.tb0) ∨ t.tick = State.reset.tick

/-- POWER_ON brings up PD0 into BOOT; POWER_FAIL and the loss of PD0 take all but flash -/
def Obligations.PowerOnAndPowerFail : Prop :=
  (∀ s : State, s.pwr.pd0 = false → s.mod = .off → ∃ t, exec .powerOn s = .next t ∧ t.pwr.pd0 = true ∧
    t.mod = (if s.pwr.nrstin then .off else .boot) ∧ t.pwr.boot.step = 2 ∧ t.tick = State.reset.tick ∧ t.model = none ∧
    t.img.key = s.img.key ∧ t.img.slots = s.img.slots ∧ t.pwr.slots = s.pwr.slots ∧ t.pwr.minSec = s.pwr.minSec ∧
    t.fc.retired = s.fc.flashMap ∧ t.hi = State.reset.hi ∧ t.pol = State.reset.pol ∧ t.pending = s.pending) ∧
  (∀ (s : State) (mv : Nat), s.pwr.pd0 = true → (mv < 16000 ∨ 34000 < mv) → ∃ t, exec (.powerFail mv) s = .next t ∧ s.Unpowered t) ∧
  (∀ s : State, s.pwr.pd0 = true → ∃ t, exec (.railDomainOff 0) s = .next t ∧ s.Unpowered t)

/-- nRSTIN, RESET, CRST and the boot watchdog restart the module through BOOT; the timebase runs on -/
def Obligations.ResetPinAndRestarts : Prop :=
  (∀ s : State, s.mod ≠ .off → s.pwr.nrstin = false → ∃ t, exec .nrstinAssert s = .next t ∧ s.Restarted t ∧ t.pwr.nrstin = true) ∧
  (∀ s : State, s.mod = .boot → s.pwr.nrstin = true →
    exec .nrstinRelease s = .next { s with pwr := { s.pwr with nrstin := false } }) ∧
  (∀ s : State, s.mod = .off → s.pwr.pd0 = true → s.pwr.nrstin = true → ∃ t, exec .nrstinRelease s = .next t ∧ t.mod = .boot ∧
    t.pwr.nrstin = false ∧ t.tick = s.tick ∧ t =
      { s with mod := .boot, fc := { s.fc with boots := s.fc.boots + 1 }, pwr := { s.pwr with nrstin := false, boot := t.pwr.boot } }) ∧
  (∀ (s : State) (e : CmdEntry), s.canStart 0x61 e = true → paramOk e true = true → s.mod = .safeHold → (s.pwr.tripped = false ∨ s.pwr.derate = false) →
    ∃ t, exec (.reset e) s = .next t ∧ s.Restarted t) ∧
  (∀ s : State, s.fc.crst = true → s.mod = .safeHold → s.allStill = true → ∃ t, exec .crstReboot s = .next t ∧ s.Restarted t) ∧
  (∀ s : State, s.mod = .boot → 5 ≤ s.pwr.boot.step → s.pwr.boot.trial = true → 240000 ≤ s.pwr.boot.age →
    ∃ t, exec .bootWatchdog s = .next t ∧ s.Restarted t ∧ (t.pwr.slots.get s.pwr.running).state = 3 ∧ t.pwr.preferred = s.pwr.preferred)

/-- KEY_RELEASE, the end of an update and of a recovery restart the module with flash changed -/
def Obligations.RestartsThatChangeFlash : Prop :=
  (∀ (s : State) (e : CmdEntry), s.canStart 0x13 e = true → paramOk e true = true → (s.mod = .config ∨ s.mod = .safeHold) →
    s.seal0 = true → s.allStill = true → ∃ t, exec (.keyRelease e) s = .next t ∧ s.Restarted t ∧ t.img.key = none ∧
      (∀ k, t.img.slots.get k = none)) ∧
  (∀ (s : State) (u : Update) (ok : Bool), s.pwr.update = some u → s.mod = .update → u.writing = true →
    ∃ t, exec (.updateFlashDone ok) s = .next t ∧ s.Restarted t ∧ t.pwr.preferred = s.pwr.running ∧
      t.pwr.slots = s.pwr.slots.put (1 - s.pwr.running) (if ok then { image := u.image, state := 2 } else FwSlot.zero)) ∧
  (∀ s : State, s.recovers = true → s.pwr.recState = 3 → ∃ t, exec (.recoveryWriteDone true) s = .next t ∧ s.Restarted t ∧
    t.pwr.slots.get 0 = { image := s.recoveryImage, state := 2 } ∧
    t.pwr.slots.get 1 = (if (s.pwr.slots.get 1).state = 3 then FwSlot.zero else s.pwr.slots.get 1)) ∧
  (∀ s : State, s.recovers = true → s.pwr.recState = 3 →
    exec (.recoveryWriteDone false) s = .next { s with pwr := { s.pwr with recState := 5, recCode := 0xA3 } })

/-- VIN_FAULT raises VIN once per T2; VIN_RESTORED ends the condition -/
def Obligations.VinExcursionsAreReported : Prop :=
  (∀ (s : State) (mv : Nat), s.pwr.pd0 = true → (mv < 19000 ∨ 32000 < mv) → (s.pwr.vinBad = false ∨ s.pwr.vinRepT2 ≠ s.tick.t2) →
    exec (.vinFault mv) s = .next (State.raise
      { s with pwr := { s.pwr with vinMv := BitVec.ofNat 16 mv, vinOk := false, vinBad := true, vinRepT2 := s.tick.t2 } }
      0xF2 1 2 (BitVec.ofNat 32 mv) 0)) ∧
  (∀ (s : State) (mv : Nat), s.pwr.pd0 = true → (mv < 19000 ∨ 32000 < mv) → s.pwr.vinBad = true → s.pwr.vinRepT2 = s.tick.t2 →
    exec (.vinFault mv) s = .next { s with pwr := { s.pwr with vinMv := BitVec.ofNat 16 mv, vinOk := false } }) ∧
  (∀ (s : State) (mv : Nat), s.pwr.pd0 = true → 19200 ≤ mv → mv ≤ 30000 →
    exec (.vinRestored mv) s = .next { s with pwr := { s.pwr with vinMv := BitVec.ofNat 16 mv, vinOk := true, vinBad := false } })

/-- RAIL_FAULT reports a rail outside 5 %, RAIL_DOMAIN_OFF switches its domain off until the next BOOT, DOMAIN_SWITCH_ON brings up the next domain or fails it -/
def Obligations.RailsAndDomains : Prop :=
  (∀ (s : State) (d : Fin 8) (rail : Fin 7) (mv v : Nat), railNominal d rail = some v → s.pd d.val = true →
    (20 * mv < 19 * v ∨ 21 * v < 20 * mv) → ∃ rails, exec (.railFault d rail mv) s = .next (State.raise
      { s with pwr := { s.pwr with domOk := s.pwr.domOk &&& ~~~((1 : BitVec 8) <<< d.val), rails := rails } }
      (0xB0 + d.val) 1 2 (BitVec.ofNat 32 mv) rail.val) ∧ (∀ e, e ≠ d → rails.get e = s.pwr.rails.get e) ∧
      (rails.get d = if rail = 0 then (BitVec.ofNat 16 mv, (s.pwr.rails.get d).2)
        else if rail = 1 then ((s.pwr.rails.get d).1, BitVec.ofNat 16 mv) else s.pwr.rails.get d)) ∧
  (∀ (s : State) (d : Fin 8), s.pwr.pd0 = true → d ≠ 0 → ∃ t, exec (.railDomainOff d) s = .next t ∧ t.pending = s.pending ∧
    t.tick = s.tick ∧ t.model = s.model ∧ t.mod = s.mod ∧ t.pwr.pd0 = true ∧
    t.pwr.domLock = s.pwr.domLock ||| ((1 : BitVec 8) <<< d.val) ∧
    (s.pd d.val = false → t = { s with pwr := t.pwr } ∧ t.pwr.domOn = s.pwr.domOn) ∧
    (s.pd d.val = true → t.pwr.domOn = s.pwr.domOn &&& ~~~((1 : BitVec 8) <<< d.val) ∧ t.pwr.domOk = s.pwr.domOk &&& ~~~((1 : BitVec 8) <<< d.val) ∧
      (d = 1 → t.hi.hrdy = false ∧ t.hi.en = false) ∧
      (d = 2 → ∀ c ∈ s.present, (t.lv.get c).req.sf1 = true) ∧
      (d = 3 → t = { s with pwr := t.pwr }) ∧
      (d = 4 → t.dsx = { s.dsx with snap := none, result := none, nearRes := none }) ∧
      (d = 5 → ∀ g, (t.sup.groups.get g).on = false ∧ .group g ∉ t.sup.queue) ∧
      (d = 6 → ∀ n, (t.buses.get n).state = .off ∧ (t.buses.get n).trxOn = false) ∧
      (d = 7 → t.tw.lanes = 0))) ∧
  (∀ (s : State) (d : Fin 8), s.pwr.domLock.getLsbD d.val = true → s.nextDomain ≠ some d) ∧
  (∀ (s : State) (d : Fin 8), s.nextDomain = some d → 16 ≤ s.pwr.lastOn → s.pwr.domOk.getLsbD (s.domainBefore d).val = true →
    ∃ t, exec (.domainSwitchOn d true) s = .next t ∧ t.pwr = { s.pwr with
        lastOn := 0
        domOn := s.pwr.domOn ||| ((1 : BitVec 8) <<< d.val)
        domOk := s.pwr.domOk ||| ((1 : BitVec 8) <<< d.val)
        boot := if s.mod = .boot ∧ t.nextDomain = none ∧ s.pwr.boot.step = 5 then { s.pwr.boot with step := 6 } else s.pwr.boot } ∧
      t = { s with pwr := t.pwr, ports := t.ports, sup := t.sup, buses := t.buses } ∧
      (d ≠ 5 → t.ports = s.ports) ∧ (d ≠ 6 → t.buses = s.buses) ∧ (d ≠ 5 → d ≠ 6 → t.sup = s.sup) ∧
      (∀ m, s.model = some m → d = 5 → ∀ n, (t.ports.get n).count = 0 ∧ (t.ports.get n).est = Est.zero ∧
        (t.ports.get n).en = decide ((m.ports.get n).mode ≠ 0))) ∧
  (∀ (s : State) (d : Fin 8), s.nextDomain = some d → 16 ≤ s.pwr.lastOn → s.pwr.domOk.getLsbD (s.domainBefore d).val = true → s.mod ≠ .boot →
    exec (.domainSwitchOn d false) s = .next { s with pwr := { s.pwr with lastOn := 0 } }) ∧
  (∀ (s : State) (d : Fin 8), s.nextDomain = some d → 16 ≤ s.pwr.lastOn → s.pwr.domOk.getLsbD (s.domainBefore d).val = true → s.mod = .boot →
    ∃ t, exec (.domainSwitchOn d false) s = .next t ∧ t.mod = .boot ∧ t.pwr.boot.step = 4 ∧ t.pwr.domOn = 0x01 ∧ t.tick = s.tick ∧
      t.pwr.boot.tried = s.pwr.boot.tried ∧ (∀ k, k ≠ s.pwr.running → t.pwr.slots.get k = s.pwr.slots.get k) ∧
      t.pwr.slots.get s.pwr.running = (if (s.pwr.slots.get s.pwr.running).state = 2
        then { s.pwr.slots.get s.pwr.running with state := 3 } else s.pwr.slots.get s.pwr.running))

/-- SLOT_SELECT starts the first slot that passes or enters recovery; self-tests go on or fail the slot; MODEL_LOAD takes the best image and commits a TRIAL slot -/
def Obligations.BootSelectsAndCommitsSlots : Prop :=
  (∀ (s : State) (ks : List (Fin 2)), s.mod = .boot → s.pwr.boot.step = 4 → s.pwr.boot.halted = false → s.pwr.nrstin = false →
    s.pwr.recovery = false → s.pwr.domLock.getLsbD 1 = false →
    (let more (k : Fin 2) : List (Fin 2) := if (s.pwr.slots.get k).state = 1 ∨ (s.pwr.slots.get k).state = 2 then [k] else [];
     let k := ((idx 2).find? fun k => (s.pwr.slots.get k).state = 2).getD s.pwr.preferred;
     ks = if s.pwr.boot.tried = 0 then k :: more (1 - k) else if s.pwr.boot.tried = 1 then more (1 - s.pwr.boot.first) else []) →
    ∃ t, exec .slotSelect s = .next t ∧ t.mod = .boot ∧ t.pwr.domOn = s.pwr.domOn ||| 0x02 ∧ t.tick = s.tick ∧ t.pending = s.pending ∧
      (∀ k, t.pwr.slots.get k = if k ∈ ks.takeWhile (fun k => (fwCode s.pwr.minSec (s.pwr.slots.get k).image).isSome) ∧ (s.pwr.slots.get k).state = 2
        then { s.pwr.slots.get k with state := 3 } else s.pwr.slots.get k) ∧
      (match ks.find? fun k => (fwCode s.pwr.minSec (s.pwr.slots.get k).image).isNone with
       | some k => t.pwr.running = k ∧ t.pwr.boot.step = 5 ∧ t.pwr.boot.trial = decide ((s.pwr.slots.get k).state = 2) ∧
         t.pwr.boot.startT0 = s.tick.t0 ∧ t.pwr.boot.age = 0 ∧ t.pwr.recovery = false ∧ t.fc = s.fc ∧
         t.pwr.fallback = (if s.pwr.boot.tried = 0 then decide (ks.head? ≠ some k) else decide (k ≠ s.pwr.boot.first))
       | none => t.pwr.recovery = true ∧ t.pwr.recState = 0 ∧ t.pwr.boot.step = 4 ∧ t.fc = { s.fc with nerr := true })) ∧
  (∀ s : State, s.mod = .boot → s.pwr.boot.step = 6 → s.pwr.boot.halted = false → exec (.startupSelfTestsDone true) s =
    .next { s with pwr := { s.pwr with boot := { s.pwr.boot with step := 7 } } }) ∧
  (∀ s : State, s.mod = .boot → s.pwr.boot.step = 6 → s.pwr.boot.halted = false → ∃ t, exec (.startupSelfTestsDone false) s = .next t ∧
    t.mod = .boot ∧ t.pwr.boot.step = 4 ∧ t.pwr.boot.tried = s.pwr.boot.tried ∧ t.pwr.domOn = 0x01 ∧ t.tick = s.tick ∧
    (∀ k, k ≠ s.pwr.running → t.pwr.slots.get k = s.pwr.slots.get k) ∧
    t.pwr.slots.get s.pwr.running = (if (s.pwr.slots.get s.pwr.running).state = 2
      then { s.pwr.slots.get s.pwr.running with state := 3 } else s.pwr.slots.get s.pwr.running)) ∧
  (∀ s : State, s.mod = .boot → s.pwr.boot.step = 7 → s.pwr.boot.halted = false → ∃ t, exec .modelLoad s = .next t ∧ t.mod = .boot ∧
    t.pwr.boot.step = 9 ∧ t.pwr.boot.loaded = true ∧ t.tick = s.tick ∧ t.pending = s.pending ∧ t.img.key = s.img.key ∧
    (∀ k, t.img.slots.get k = (s.img.slots.get k).filter s.slotOk) ∧
    (match firstMin (fun a b => decide ((imgSeq b.2).toNat < (imgSeq a.2).toNat))
        ((idx 4).filterMap fun k => ((s.img.slots.get k).filter s.slotOk).map fun b => (k, b)) with
     | some (k, bs) => t.model = some (readModel bs) ∧ t.img.inforce = k
     | none => t.model = s.model ∧ t.img.inforce = s.img.inforce) ∧
    (if t.model.isSome ∧ s.pwr.boot.trial then t.pwr.boot.trial = false ∧ t.pwr.preferred = s.pwr.running ∧
        t.pwr.slots = s.pwr.slots.put s.pwr.running { s.pwr.slots.get s.pwr.running with state := 1 } ∧
        t.pwr.minSec = max s.pwr.minSec (fwSec (s.pwr.slots.get s.pwr.running).image)
      else t.pwr.boot.trial = s.pwr.boot.trial ∧ t.pwr.preferred = s.pwr.preferred ∧ t.pwr.slots = s.pwr.slots ∧ t.pwr.minSec = s.pwr.minSec))

/-- THERMAL_WARN turns derating on, THERMAL_TRIP is a class F fault, DERATE_OFF ends derating -/
def Obligations.Temperature : Prop :=
  (∀ (s : State) (x : Sensor) (v : Int), s.pwr.pd0 = true → (if x = .base then 850 else 1100) < v →
    exec (.thermalWarn x v) s = .next (State.raise
      { s with pwr := { s.pwr with derate := true, die0 := (if x = .die0 then v else s.pwr.die0), die1 := (if x = .die1 then v else s.pwr.die1),
                                   base := (if x = .base then v else s.pwr.base) } }
      0xF2 2 1 (w32 v) (match x with | .die0 => 0 | .die1 => 1 | .base => 2))) ∧
  (∀ (s : State) (x : Sensor) (v : Int), s.pwr.pd0 = true → (if x = .base then 950 else 1250) < v →
    exec (.thermalTrip x v) s = .next (State.raise
      { s with pwr := { s.pwr with tripped := true, die0 := (if x = .die0 then v else s.pwr.die0), die1 := (if x = .die1 then v else s.pwr.die1),
                                   base := (if x = .base then v else s.pwr.base) } }
      0xF2 3 3 (w32 v) (match x with | .die0 => 0 | .die1 => 1 | .base => 2))) ∧
  (∀ s : State, s.pwr.derate = true → s.mod ≠ .boot → exec .derateOff s = .next { s with pwr := { s.pwr with derate := false } }) ∧
  (∀ s : State, s.mod = .boot → s.pwr.boot.halted = true → s.pwr.boot.hot = true →
    ∃ t, exec .derateOff s = .next t ∧ t.mod = .boot ∧ t.pwr.boot.step = (if s.seals.fixed then 4 else 3) ∧ t.pwr.boot.halted = false ∧ t.pwr.derate = false ∧ t.tick = s.tick)

/-- In recovery mode START begins receiving, a chunk lands at its offset, COMMIT checks the image -/
def Obligations.RecoveryTakesAnImage : Prop :=
  (∀ s : State, s.recovers = true → exec .recoveryStart s = .next { s with pwr := { s.pwr with recState := 1, recCode := 0, recImg := [] } }) ∧
  (∀ (s : State) (off : BitVec 24), s.recovers = true → s.pwr.recState = 1 → ∃ img, exec (.recoveryChunk off) s =
      .next { s with pwr := { s.pwr with recImg := img } } ∧
    (∀ i, byteAt img i = if off.toNat ≤ i ∧ i < off.toNat + 4096 then byteAt s.pwr.recWin (i - off.toNat) else byteAt s.pwr.recImg i)) ∧
  (∀ s : State, s.recovers = true → s.pwr.recState = 1 → exec .recoveryCommit s = .next { s with
    pwr := match fwCode s.pwr.minSec s.recoveryImage with
      | some c => { s.pwr with recState := 5, recCode := BitVec.ofNat 8 c }
      | none => { s.pwr with recState := 3 } })

/-- UPDATE takes the image, UPDATE_IMAGE_CHECKED refuses it with its code or lets it wait for entry, UPDATE_NOT_QUIET gives up after 1,000 T2 -/
def Obligations.UpdateIsCheckedThenWaits : Prop :=
  (∀ (s : State) (e : CmdEntry) (d : List Byte), s.canStart 0x60 e = true → paramOk e true = true → s.pwr.update = none → d.length = e.dataLen.toNat →
    (s.mod = .config ∨ s.mod = .standby ∨ s.mod = .witness ∨ s.mod = .safeHold ∨ (s.mod = .active ∧ s.seals.role = 3)) →
    exec (.update e (some d)) s = .next
      { s with hi := { (s.takeEntry e).hi with running := s.hi.running ++ [⟨e, false⟩] },
               pwr := { s.pwr with update := some ⟨d, e, false, false, 0⟩ } }) ∧
  (∀ (s : State) (e : CmdEntry) (d : Option (List Byte)) (code : Nat), s.canStart 0x60 e = true → paramOk e true = true →
    (¬ (s.mod = .config ∨ s.mod = .standby ∨ s.mod = .witness ∨ s.mod = .safeHold ∨ (s.mod = .active ∧ s.seals.role = 3)) ∨
      s.pwr.update.isSome = true ∨ d = none ∨ (d.getD []).length ≠ e.dataLen.toNat) →
    code = (if ¬ (s.mod = .config ∨ s.mod = .standby ∨ s.mod = .witness ∨ s.mod = .safeHold ∨ (s.mod = .active ∧ s.seals.role = 3)) then 0x83
      else if s.pwr.update.isSome then 0x89 else 0x8C) →
    exec (.update e d) s = .next ((s.takeEntry e).answer e .refused code)) ∧
  (∀ (s : State) (u : Update), s.pwr.update = some u → u.checked = false → s.pwr.derate = false → exec .updateImageChecked s = .next (
    match fwCode s.pwr.minSec u.image with
    | some c => State.finish { s with pwr := { s.pwr with update := none } } u.e .failed c
    | none => { s with pwr := { s.pwr with update := some { u with checked := true } } })) ∧
  (∀ (s : State) (u : Update), s.pwr.update = some u → s.mod = .active → u.writing = false → 1000 ≤ u.waited →
    exec .updateNotQuiet s = .next (State.finish { s with pwr := { s.pwr with update := none } } u.e .failed 0xA4))

/-- PWR_PARK is written, a group with quiet cars is parked and its cars lose their position, and unparked through the supply chain -/
def Obligations.ParkedGroups : Prop :=
  (∀ (s : State) (v : BitVec 32), s.hostUp = true → exec (.pwrParkWrite v) s = .next
    { s with pwr := { s.pwr with parkReq := v.setWidth 6, parkAuto := s.pwr.parkAuto &&& ~~~((v >>> 16).setWidth 6) } }) ∧
  (∀ (s : State) (m : Model) (g : Fin 6), s.model = some m → s.groupState = true → s.pwr.parkReq.getLsbD g.val = true →
    s.pwr.parked.getLsbD g.val = false → (State.groupCars m g).all (s.parkReady m) = true → ∃ t, exec (.groupPark g) s = .next t ∧
      t.pwr = { s.pwr with parked := s.pwr.parked ||| (1 <<< g.val) } ∧
      t = { s with pwr := t.pwr, sup := t.sup, cars := t.cars, lv := t.lv, modes := t.modes } ∧
      (∀ c ∈ State.groupCars m g, (t.cars.get c).health = .lost ∧ (t.lv.get c).posOk = false ∧ (t.modes.get c).mode = (s.modes.get c).mode) ∧
      (∀ c, c ∉ State.groupCars m g → t.cars.get c = s.cars.get c ∧ t.lv.get c = s.lv.get c ∧ t.modes.get c = s.modes.get c)) ∧
  (∀ (s : State) (m : Model) (g : Fin 6), s.model = some m → s.pwr.parked.getLsbD g.val = true →
    (s.pwr.parkReq.getLsbD g.val = false ∨ s.unparkAsked m g = true) → ∃ t, exec (.groupUnpark g) s = .next t ∧
      t = { s with pwr := t.pwr, sup := t.sup } ∧ t.pwr =
      { s.pwr with
        parked := s.pwr.parked &&& ~~~((1 : BitVec 6) <<< g.val)
        parkReq := s.pwr.parkReq &&& ~~~((1 : BitVec 6) <<< g.val)
        parkAuto := (if s.pwr.parkReq.getLsbD g.val then s.pwr.parkAuto ||| (1 <<< g.val) else s.pwr.parkAuto) })

/-- What the three boundary commands do to the counters -/
def Obligations.BoundariesAdvanceTheCounters : Prop :=
  (∀ (s : State) (adj : Int), s.pwr.pd0 = true → s.tick.started = false → ∃ t, exec (.t0Boundary adj) s = .next t ∧
    t.tick.started = true ∧ t.tick.t0 = 0 ∧ t.tick.t1Seen = 0 ∧ t.tick.t2Seen = 0 ∧ t.tick.tb0 = t.tick.tb ∧ t.tick.t1Due = true ∧
    t.pending = s.pending) ∧
  (∀ (s : State) (adj : Int), s.pwr.pd0 = true → s.tick.started = true → (s.tw.lastHb = none ∨ s.tw.adopt ≠ 1) →
    ∃ t, exec (.t0Boundary adj) s = .next t ∧ t.pending = s.pending ∧ t.tick = { s.tick with
      t0 := s.tick.t0 + 1
      t1 := (if s.tick.t1Due then s.tick.t1 + 1 else s.tick.t1)
      t2 := (if s.tick.t0.toNat % 256 = 255 ∧ s.tick.t2Done = false then s.tick.t2 + 1 else s.tick.t2)
      t1Due := decide ((s.tick.t0 + 1).toNat % 8 = 0)
      t2Done := false
      tb := s.tick.tb + BitVec.ofInt 64 (25000 + if s.mod = .standby then max (-100) (min adj 100) else 0) }) ∧
  (∀ (s : State) (seals : BitVec 8), s.pwr.pd0 = true → s.tick.started = true → s.tick.t1Due = true → ∃ t, exec (.t1Boundary seals) s = .next t ∧
    t.pending = s.pending ∧ t.model = s.model ∧ t.tick = { s.tick with t1 := s.tick.t1 + 1, t1Due := false, t1Stamp := s.stamp }) ∧
  (∀ s : State, s.pwr.pd0 = true → s.tick.started = true → s.tick.t2Done = false → s.tick.t0.toNat % 256 = 255 →
    ∃ t, exec .t2Boundary s = .next t ∧ t.pending = s.pending ∧ t.tick = { s.tick with t2 := s.tick.t2 + 1, t2Done := true })

/-- BERM_ABANDON marks and counts a job and reports a missed levee evaluation; LEVEE_MISS_SAFE_STATE puts the core's outputs into their safe state -/
def Obligations.AbandonedJobsAreCounted : Prop :=
  (∀ (s : State) (j : Job) (u : Fin 12) (l : Fin 3), s.jobRuns j = true → s.abandoned j = false →
    (match j with
     | .fusion c => u.val = 2 + c.val / 4 ∧ l = 0
     | .carCoreT1 cc => u.val = 2 + cc.val ∧ l = 1
     | .publishFixtures cc => u.val = 2 + cc.val ∧ l = 2
     | .heartbeat => u = 1 ∧ l = 0
     | .epoch => u = 1 ∧ l = 1
     | .telemetry => u = 0 ∧ l = 1
     | .rings => u = 0 ∧ l = 1
     | .publishHost => u = 0 ∧ l = 2
     | _ => False) →
    exec (.bermAbandon j) s = .next { s with spill := { s.spill with
      abandoned := s.spill.abandoned ++ [j]
      cnt := s.spill.cnt.put u ((s.spill.cnt.get u).put l ((s.spill.cnt.get u).get l + 1)) } }) ∧
  (∀ (s : State) (k : Fin 48) (pg : Bool), s.jobRuns (if pg then .lanePg k else .laneCe k) = true → s.laneMarked k = false →
    exec (.bermAbandon (if pg then .lanePg k else .laneCe k)) s = .next { s with spill := { s.spill with
      abandoned := s.spill.abandoned ++ [if pg then .lanePg k else .laneCe k]
      cnt := s.spill.cnt.put (if pg then 9 else 10) ((s.spill.cnt.get (if pg then 9 else 10)).put 0 ((s.spill.cnt.get (if pg then 9 else 10)).get 0 + 1))
      lane := s.spill.lane.put k (s.spill.lane.get k + 1) } }) ∧
  (∀ (s : State) (c : Fin 16), s.jobRuns (.frameBuild c) = true → s.abandoned (.frameBuild c) = false →
    ∃ lane, exec (.bermAbandon (.frameBuild c)) s = .next { s with spill := { s.spill with
      abandoned := s.spill.abandoned ++ [.frameBuild c]
      cnt := s.spill.cnt.put (State.coreUnit (State.carCore c))
        ((s.spill.cnt.get (State.coreUnit (State.carCore c))).put 0 ((s.spill.cnt.get (State.coreUnit (State.carCore c))).get 0 + 1))
      lane := lane } } ∧
    (∀ k, lane.get k = s.spill.lane.get k + if laneCar k = c ∧ s.laneRuns k = true ∧ s.laneMarked k = false then 1 else 0)) ∧
  (∀ s : State, s.jobRuns .snapshot = true → s.abandoned .snapshot = false → exec (.bermAbandon .snapshot) s = .next { s with
      tw := { s.tw with snapBytes := none }
      spill := { s.spill with cnt := s.spill.cnt.put 1 ((s.spill.cnt.get 1).put 2 ((s.spill.cnt.get 1).get 2 + 1)) } }) ∧
  (∀ s : State, s.jobRuns .solver = true → s.abandoned .solver = false → ∃ t, exec (.bermAbandon .solver) s = .next t ∧
      t.dsx.snap = none ∧ t.dsx.result = s.dsx.result ∧ t.dsx.calls = s.dsx.calls ∧
      t.spill = { s.spill with solver := s.spill.solver + 1, cnt := s.spill.cnt.put 8 ((s.spill.cnt.get 8).put 2 ((s.spill.cnt.get 8).get 2 + 1)) } ∧
      t = { s with dsx := t.dsx, spill := t.spill, hi := t.hi } ∧
      (s.dsx.trace = false → t.dsx = { s.dsx with snap := none } ∧ t.hi = s.hi)) ∧
  (∀ (s : State) (lc : Fin 2), s.jobRuns (.levee lc) = true → s.abandoned (.levee lc) = false → ∃ n : State, exec (.bermAbandon (.levee lc)) s =
      .next (State.countSpill n ⟨6 + lc.val, by omega⟩ 0) ∧
      n = State.raise
        { s with spill := { s.spill with abandoned := s.spill.abandoned ++ [.levee lc], miss := s.spill.miss.put lc (s.spill.miss.get lc + 1) } }
        (0x76 + lc.val) 2 2 (BitVec.ofNat 32 (s.spill.miss.get lc + 1)) 0) ∧
  (∀ (s : State) (lc : Fin 2), 2 ≤ s.spill.miss.get lc → ∃ t, exec (.leveeMissSafeState lc) s = .next t ∧ t = { s with pol := t.pol } ∧
      (∀ i, (outRole (s.polRec i).role = true ∧ ∃ c, polCar (s.polRec i) = some c ∧ State.carLevee c = lc) →
        (t.pol.ch.get i).on = s.safeState (s.polRec i) ∧ (t.pol.ch.get i).cmd = s.safeState (s.polRec i)))

/-- LANE_STOP, CAR_CORE_JOB_DROPS and TICK_SYNC_FAULT react to repeated drops and to a lost tick -/
def Obligations.RepeatedDropsEscalate : Prop :=
  (∀ (s : State) (m : Model) (k : Fin 48), s.model = some m → (s.lanes.get k).stopped = false → s.laneRuns k = true →
    2 ≤ (s.lanes.get k).missRun → isHoist k = true → ∃ n : State, exec (.laneStop k) s =
      .next (State.raise n 0x81 1 2 (BitVec.ofNat 32 k.val) 0) ∧ n = { s with lanes := n.lanes, lv := n.lv } ∧
      n.lanes = s.lanes.put k { s.lanes.get k with stopped := true } ∧
      n.lv = s.lv.put (laneCar k) { s.lv.get (laneCar k) with req := { (s.lv.get (laneCar k)).req with sf1 := true } }) ∧
  (∀ (s : State) (m : Model) (k : Fin 48), s.model = some m → (s.lanes.get k).stopped = false → s.laneRuns k = true →
    2 ≤ (s.lanes.get k).missRun → isHoist k = false → exec (.laneStop k) s =
      .next (State.raise (State.unrefSide { s with lanes := s.lanes.put k { s.lanes.get k with stopped := true } } m (laneSide k))
        0x81 1 2 (BitVec.ofNat 32 k.val) 0)) ∧
  (∀ (s : State) (cc : Fin 4), 4 ≤ s.spill.core.get cc → s.spill.told.get cc = false → ∃ n : State, exec (.carCoreJobDrops cc) s =
      .next (State.raise n (0x72 + cc.val) 3 2 (BitVec.ofNat 32 (s.spill.core.get cc)) 0) ∧
      n = { s with spill := { s.spill with told := s.spill.told.put cc true }, lv := n.lv } ∧
      (∀ c : Fin 16, (n.lv.get c).req.sf1 = ((s.lv.get c).req.sf1 || (decide (c.val / 4 = cc.val) && s.present.contains c)))) ∧
  (∀ (s : State) (off : Int), s.mod = .standby → (off < -200 ∨ 200 < off) → exec (.tickSyncFault off) s =
      .next (State.raise s 0xF1 2 2 (w32 off) 0))

/-- SOLVER_RUN_COMPLETE ends the run and holds its result; the third drop starts the nearest-car rule -/
def Obligations.SolverRunsAndTheFallback : Prop :=
  (∀ (s : State) (m : Model) (snap : Snap) (us : Nat), s.model = some m → s.dsx.snap = some snap → us ≤ 60000 →
    ∃ t, exec (.solverRunComplete us) s = .next t ∧ t.dsx.snap = none ∧ t.dsx.runT2 = snap.t2 ∧ t.dsx.runTime = BitVec.ofNat 32 us ∧
      t.dsx.pairs = BitVec.ofNat 32 (Run.solve m snap).pairs ∧ t.dsx.swaps = BitVec.ofNat 32 (Run.solve m snap).swaps ∧ t.dsx.calls = s.dsx.calls ∧
      t.tick = s.tick ∧ t.model = s.model ∧ t.pending = s.pending ∧
      (s.mod = .standby → t.spill.solver = 0) ∧
      (s.mod ≠ .standby → s.dsx.fallback = false → t.dsx.result = some (Run.solve m snap) ∧ t.spill.solver = 0) ∧
      (s.mod ≠ .standby → s.dsx.fallback = true → us ≤ 30000 → t.dsx.result = some (Run.solve m snap) ∧ t.spill.solver = 0 ∧ t.dsx.fallback = false) ∧
      (s.mod ≠ .standby → s.dsx.fallback = true → 30000 < us → t.dsx.result = s.dsx.result ∧ t.spill.solver = s.spill.solver ∧ t.dsx.fallback = true)) ∧
  (∀ s : State, s.mod = .active → 3 ≤ s.spill.solver → s.dsx.fallback = false → exec .nearestCarFallback s =
      .next (State.dispatchEvent { s with dsx := { s.dsx with fallback := true, fallbacks := s.dsx.fallbacks + 1 } } 1))

/-- PORT_EDGE decodes the levels of pairs 1 and 2 by mode: a counting edge moves the count by one, feeds the estimator and may be a compare hit -/
def Obligations.PortEdgesCount : Prop :=
  (∀ (s : State) (n : Fin 48) (lv : BitVec 2) (held : Nat) (ts : BitVec 32), held ≤ (s.ports.get n).cfg.filt.toNat →
    exec (.portEdge n ⟨lv, held⟩ ts) s = .next s) ∧
  (∀ (s : State) (n : Fin 48) (lv : BitVec 2) (held : Nat) (ts : BitVec 32) (d₀ : Int), (s.ports.get n).cfg.filt.toNat < held →
    s.portLive n = true → (s.ports.get n).incremental = true → (s.ports.get n).dataFault = false → (s.ports.get n).edgeAt lv d₀ = true →
    ∃ t, exec (.portEdge n ⟨lv, held⟩ ts) s = .next t ∧ t = { s with ports := t.ports, capus := t.capus } ∧
    (∀ k, k ≠ n → t.ports.get k = s.ports.get k) ∧
    (let p := s.ports.get n
     let q := t.ports.get n
     let d : Int := if p.cfg.dir then -d₀ else d₀
     let count := p.count + BitVec.ofInt 32 d
     q.count = count ∧ q.edgeTs = ts ∧ q.cfg = p.cfg ∧ q.en = p.en ∧ q.level = (p.level &&& 4) ||| lv.setWidth 3 ∧
     q.est = (if p.est.moving = false ∨ d ≠ p.est.dir then { p.est with moving := true, dir := d, speed := 0, anchorT := ts, n := 0, edgeT := ts }
              else { p.est with n := p.est.n + 1, lastT := ts, edgeT := ts }) ∧
     q.flags.wrap = (p.flags.wrap || decide ((d = 1 ∧ p.count = 0x7FFFFFFF) ∨ (d = -1 ∧ p.count = 0x80000000))) ∧
     (let hit := p.rwc.cmpEn && decide (count = p.rwc.cmp) && decide (sgn (s32 p.rwc.spacing) = d)
      q.evCmp = (if hit then p.evCmp + 1 else p.evCmp) ∧ q.rwc.cmp = (if hit then p.rwc.cmp + p.rwc.spacing else p.rwc.cmp) ∧
      q.hits = (if hit && decide (p.hits.length < 16) then p.hits ++ [(count, ts)] else p.hits) ∧
      q.flags.cmpOvr = (p.flags.cmpOvr || (hit && !decide (p.hits.length < 16)))))) ∧
  (∀ (s : State) (n : Fin 48) (lv : BitVec 2) (held : Nat) (ts : BitVec 32), (s.ports.get n).cfg.filt.toNat < held →
    (s.portLive n = false ∨ (s.ports.get n).incremental = false ∨ (s.ports.get n).dataFault = true ∨
      ((s.ports.get n).edgeAt lv 1 = false ∧ (s.ports.get n).edgeAt lv (-1) = false ∧ (s.ports.get n).illegalAt lv = false)) →
    exec (.portEdge n ⟨lv, held⟩ ts) s = .next { s with ports := s.ports.put n { s.ports.get n with
      level := ((s.ports.get n).level &&& 4) ||| lv.setWidth 3 } })

/-- An illegal transition leaves count and estimator, sets ILLEGAL, counts and reports class C from the port -/
def Obligations.IllegalTransitionLeavesTheCount : Prop :=
  ∀ (s : State) (n : Fin 48) (lv : BitVec 2) (held : Nat) (ts : BitVec 32), (s.ports.get n).cfg.filt.toNat < held → s.portLive n = true →
    (s.ports.get n).incremental = true → (s.ports.get n).dataFault = false → (s.ports.get n).illegalAt lv = true →
    (∃ t, exec (.portEdge n ⟨lv, held⟩ ts) s = .next t ∧ (t.ports.get n).count = (s.ports.get n).count ∧ (t.ports.get n).est = (s.ports.get n).est) ∧
    exec (.portEdge n ⟨lv, held⟩ ts) s = .next (State.raise
      { s with ports := s.ports.put n { s.ports.get n with
        level := ((s.ports.get n).level &&& 4) ||| lv.setWidth 3
        flags := { (s.ports.get n).flags with illegal := true }
        evIllegal := (s.ports.get n).evIllegal + 1 } }
      (0x000 + n.val) 1 1 (s.ports.get n).latch.count 0)

/-- INDEX_EVENT captures the count and judges an armed window; PORT_STANDSTILL stops the estimator -/
def Obligations.IndexAndStandstill : Prop :=
  (∀ (s : State) (n : Fin 48) (lv : Bool) (held : Nat) (ts : BitVec 32), held ≤ (s.ports.get n).cfg.filt.toNat →
    exec (.indexEvent n ⟨lv, held, ts⟩) s = .next s) ∧
  (∀ (s : State) (n : Fin 48) (lv : Bool) (held : Nat) (ts : BitVec 32), (s.ports.get n).cfg.filt.toNat < held → s.portLive n = true →
    (s.ports.get n).incremental = true → (s.ports.get n).linePair.getLsbD 2 = false →
    (s.ports.get n).lineWas 2 = (s.ports.get n).cfg.idxEdge → (lv != (s.ports.get n).cfg.inv.getLsbD 2) = !(s.ports.get n).cfg.idxEdge →
    ∃ q, exec (.indexEvent n ⟨lv, held, ts⟩) s = .next { s with ports := s.ports.put n q } ∧ q.seenNow = true ∧ q.count = (s.ports.get n).count ∧
      q.level = ((s.ports.get n).level &&& 3 ||| if lv then 4 else 0) ∧ q.est = (s.ports.get n).est ∧
      (let p := s.ports.get n
       (p.capNow = true → q.flags.idxOvr = true ∧ q.idxCap = p.idxCap ∧ q.idxTs = p.idxTs ∧ q.rwc = p.rwc ∧ q.resNow = p.resNow) ∧
       (p.capNow = false → q.capNow = true ∧ q.idxCap = p.count ∧ q.idxTs = ts ∧ q.flags = p.flags ∧ q.rwc = { p.rwc with idxArm := false } ∧
         q.resNow = if p.missEdge = true ∧ p.edgeTs = ts then 2 else if p.rwc.idxArm = false ∨ p.resNow ≠ 0 then p.resNow
           else if (diff32 p.count p.rwc.idxExp).natAbs ≤ p.rwc.idxWin.toNat then 1 else 2))) ∧
  (∀ (s : State) (n : Fin 48) (lv : Bool) (held : Nat) (ts : BitVec 32), (s.ports.get n).cfg.filt.toNat < held →
    (s.portLive n = false ∨ (s.ports.get n).incremental = false ∨ (s.ports.get n).linePair.getLsbD 2 = true ∨
      (s.ports.get n).lineWas 2 ≠ (s.ports.get n).cfg.idxEdge ∨ (lv != (s.ports.get n).cfg.inv.getLsbD 2) = (s.ports.get n).cfg.idxEdge) →
    exec (.indexEvent n ⟨lv, held, ts⟩) s = .next { s with ports := s.ports.put n { s.ports.get n with
      level := ((s.ports.get n).level &&& 3 ||| if lv then 4 else 0) } }) ∧
  (∀ (s : State) (n : Fin 48), (s.ports.get n).incremental = true → (s.ports.get n).est.moving = true →
    (s.ports.get n).cfg.tstop.toNat * 100000 ≤ (BitVec.setWidth 32 (s.tick.tb + 25000) - (s.ports.get n).est.edgeT).toNat →
    exec (.portStandstill n) s = .next { s with ports := s.ports.put n { s.ports.get n with
      est := { (s.ports.get n).est with moving := false, speed := 0, n := 0 } } })

/-- An SSI frame gives its value or is discarded with its reason; a late frame, a missing clock and a line fault are reported -/
def Obligations.SsiFramesAndLineFaults : Prop :=
  (∀ (s : State) (n : Fin 48) (fr : SsiBits), s.portLive n = true → (s.ports.get n).cfg.mode = 4 → (s.ports.get n).ssiOpen = true → (s.ports.get n).dataFault = false →
    let p := s.ports.get n
    let raw := BitVec.ofNat 32 (fr.bits.toNat % 2 ^ p.rwc.bits.toNat)
    let errs := p.rwc.errEn && (fr.bits.getLsbD p.rwc.errPos.toNat != p.rwc.errLow)
    let field := raw.toNat / 2 ^ p.rwc.posLsb.toNat % 2 ^ p.rwc.posBits.toNat
    (fr.idleHigh = true → fr.endBit = false → errs = false → exec (.ssiFrame n fr) s = .next { s with ports := s.ports.put n { p with
      ssiOpen := false
      ssiRaw := raw
      ssiNow := some (BitVec.ofNat 32 (if p.rwc.gray then grayToBin p.rwc.posBits.toNat field else field)) } }) ∧
    (fr.idleHigh = false ∨ fr.endBit = true ∨ errs = true → exec (.ssiFrame n fr) s = .next (State.raise
      { s with ports := s.ports.put n { p with ssiOpen := false, flags := { p.flags with ssiErr := true } } } n.val 2 1 raw
      (if fr.idleHigh = false then 1 else if fr.endBit then 2 else 3)))) ∧
  (∀ (s : State) (n : Fin 48) (started : Bool), s.portLive n = true → (s.ports.get n).cfg.mode = 4 → (s.ports.get n).ssiOpen = true → (s.ports.get n).dataFault = false →
    ((s.ports.get n).driving = true ∨ started = true) → exec (.ssiFrameLate n started) s = .next (State.raise
      { s with
        freeCtr := s.freeCtr + 1
        ports := s.ports.put n { s.ports.get n with ssiOpen := false, flags := { (s.ports.get n).flags with ssiErr := true } }
        spill := { s.spill with cnt := s.spill.cnt.put 11 ((s.spill.cnt.get 11).put 0 ((s.spill.cnt.get 11).get 0 + 1)) } }
      n.val 2 1 (BitVec.setWidth 32 (Config.free s.freeCtr)) 4)) ∧
  (∀ (s : State) (n : Fin 48), s.portLive n = true → (s.ports.get n).cfg.mode = 4 → (s.ports.get n).ssiOpen = true → (s.ports.get n).dataFault = false →
    (s.ports.get n).driving = false → exec (.ssiFrameLate n false) s =
      .next { s with ports := s.ports.put n { s.ports.get n with ssiOpen := false, flags := { (s.ports.get n).flags with noclk := true } } }) ∧
  (∀ (s : State) (n : Fin 48) (pair : Fin 3), s.portLive n = true → (s.ports.get n).usedPairs.getLsbD pair.val = true → s.parked (State.portGroup n) = false →
    let p := s.ports.get n
    let bit := BitVec.ofNat 3 (2 ^ pair.val)
    (p.linePair.getLsbD pair.val = false → exec (.portLineFault n pair true) s = .next (State.raise
      { s with ports := s.ports.put n { p with linePair := p.linePair ||| bit, flags := { p.flags with line := true } } } n.val 3 2 p.latch.count
      (p.linePair ||| bit).toNat)) ∧
    (p.linePair.getLsbD pair.val = true → exec (.portLineFault n pair true) s = .next s)) ∧
  (∀ (s : State) (n : Fin 48) (pair : Fin 3), exec (.portLineFault n pair false) s = .next { s with
    ports := s.ports.put n { s.ports.get n with linePair := (s.ports.get n).linePair &&& ~~~BitVec.ofNat 3 (2 ^ pair.val) } })

/-- An overcurrent switches a supply group off and reports it, a group settles, and the chain starts its first ready member every 32 T0 -/
def Obligations.SuppliesAndTheChain : Prop :=
  (∀ (s : State) (g : Fin 6), (s.sup.groups.get g).on = true → exec (.supplyOvercurrent g) s = .next (State.raise
      { s with sup := { s.sup with
        groups := s.sup.groups.put g { s.sup.groups.get g with on := false, settle := 0, oc := true, trip := true }
        queue := s.sup.queue.filter (· ≠ .group g) } }
      0xB5 2 2 (BitVec.ofNat 32 g.val) 0)) ∧
  (∀ (s : State) (g : Fin 6), (s.sup.groups.get g).on = true → (s.sup.groups.get g).settle = 1 → exec (.supplySettled g) s =
      .next { s with sup := { s.sup with groups := s.sup.groups.put g { s.sup.groups.get g with settle := 0 } } }) ∧
  (∀ (s : State) (g : Fin 6), s.sup.wait = 0 → .group g ∈ s.sup.queue → s.chainReady (.group g) = true →
    (∀ i ∈ s.sup.queue, s.chainReady i = true → g.val ≤ State.chainKey i) → exec .supplyChainStart s =
      .next { s with sup := { s.sup with
        groups := s.sup.groups.put g { s.sup.groups.get g with on := true, settle := 81 }
        queue := s.sup.queue.filter (· ≠ .group g)
        wait := 32 } }) ∧
  (∀ (s : State) (n : Fin 12), s.sup.wait = 0 → .trx n ∈ s.sup.queue → s.chainReady (.trx n) = true →
    (∀ i ∈ s.sup.queue, s.chainReady i = true → 6 + n.val ≤ State.chainKey i) → exec .supplyChainStart s =
      .next { s with
        sup := { s.sup with queue := s.sup.queue.filter (· ≠ .trx n), wait := 32 }
        buses := s.buses.put n { s.buses.get n with
          trxOn := true
          onWait := false
          start := true
          restate := (s.buses.get n).restate || (s.buses.get n).state == .sleep } })

/-- Dropped fusions, terminal switch contradictions and a failed absolute source -/
def Obligations.PositionHealthFalls : Prop :=
  (∀ (s : State) (c : Fin 16), 8 ≤ (s.cars.get c).drops → (s.cars.get c).health ≠ .lost → exec (.fusionDropHealth c) s = .next
    { s with
      cars := s.cars.put c { s.cars.get c with health := .lost }
      lv := s.lv.put c { s.lv.get c with req := { (s.lv.get c).req with sf1 := true } } }) ∧
  (∀ (s : State) (c : Fin 16), 4 ≤ (s.cars.get c).drops → (s.cars.get c).drops < 8 →
    ((s.cars.get c).health = .valid ∨ (s.cars.get c).health = .degraded) → exec (.fusionDropHealth c) s = .next
    { s with cars := s.cars.put c { s.cars.get c with health := .suspect, startUp := false } }) ∧
  (∀ (s : State) (c : Fin 16), 2 ≤ (s.cars.get c).tsBad → ((s.cars.get c).health = .valid ∨ (s.cars.get c).health = .degraded) →
    ∃ n : State, exec (.tsContradiction c) s = .next { n with cars := n.cars.put c { n.cars.get c with health := .suspect, startUp := false } } ∧
      n = State.finding { s with cars := s.cars.put c { s.cars.get c with tsBad := 0 } } c 3 0 0 ∧ n.cars = s.cars.put c { s.cars.get c with tsBad := 0 }) ∧
  (∀ (s : State) (m : Model) (c : Fin 16), s.model = some m → (s.cars.get c).absOk = true →
    (3 ≤ (s.cars.get c).rejects ∨ (m.hoists.get c).absBridge ≤ (s.cars.get c).gap) → exec (.absSourceFail c) s = .next
      (State.finding { s with cars := s.cars.put c { s.cars.get c with absOk := false, rejects := 0, series := 0 } } c 2
        (w32 (fxRound (s.cars.get c).lastAcc)) 0))

/-- When correction, homing and re-level runs start, and what they hand to the hoist axis -/
def Obligations.SpecialRunsStart : Prop :=
  (∀ (s : State) (m : Model) (c : Fin 16), s.model = some m → ((s.cars.get c).health = .suspect ∧ (s.cars.get c).spec.kind = .none ∨ (s.cars.get c).spec.kind = .homing ∧ (s.cars.get c).spec.leg = 9) →
    s.specReady m c = true → s.dz2 m c = true → ∃ t, exec (.correctionRun c) s = .next t ∧ t = { s with cars := t.cars, axes := t.axes } ∧
      (t.cars.get c).spec.kind = (if (s.cars.get c).spec.kind = .homing then .homing else .correction) ∧ (t.cars.get c).spec.leg = 11 ∧
      (t.cars.get c).spec.landing = (if (s.cars.get c).spec.kind = .homing then (s.cars.get c).spec.landing else (s.cars.get c).landing) ∧
      (t.cars.get c).health = (s.cars.get c).health ∧
      (t.cars.get c).pos = (s.cars.get c).pos ∧ (∀ d, d ≠ c → t.cars.get d = s.cars.get d) ∧ (∀ k, k ≠ hoist c → t.axes.get k = s.axes.get k) ∧
      (t.axes.get (hoist c)).req.run = some ⟨(State.carLimits m c).2, .correction, none, none, none⟩) ∧
  (∀ (s : State) (m : Model) (c : Fin 16), s.model = some m → (s.cars.get c).health = .lost → (s.cars.get c).spec.kind = .none →
    (s.cars.get c).inspect = false → ((s.cars.get c).motorOk = true ∨ (s.cars.get c).secOk = true) → s.specReady m c = true →
    ∃ t, exec (.homingRun c) s = .next t ∧ t = { s with cars := t.cars, axes := t.axes } ∧ (t.cars.get c).spec.kind = .homing ∧
      (t.cars.get c).health = .lost ∧ (∀ d, d ≠ c → t.cars.get d = s.cars.get d) ∧ (∀ k, k ≠ hoist c → t.axes.get k = s.axes.get k) ∧
      ∃ r, (t.axes.get (hoist c)).req.run = some r ∧
        r.target = (if s.carIn m c Role.tsUp = true ∨ s.carIn m c Role.tsDn = true then (State.carLimits m c).2 else (State.carLimits m c).1)) ∧
  (∀ (s : State) (m : Model) (c : Fin 16), s.model = some m → s.mod = .active → 4 ≤ (s.cars.get c).relevT1 → (s.cars.get c).spec.kind = .none →
    s.relevelDeviates m c = true → ∃ t, exec (.relevelStart c) s = .next t ∧
      t = { s with cars := t.cars, axes := t.axes, hi := t.hi, freeCtr := t.freeCtr } ∧
      (t.cars.get c).spec.kind = .relevel ∧ (t.cars.get c).spec.landing = (s.cars.get c).landing ∧ (∀ d, d ≠ c → t.cars.get d = s.cars.get d) ∧
      (∀ k, k ≠ hoist c → t.axes.get k = s.axes.get k) ∧
      (t.axes.get (hoist c)).req.run = some ⟨m.level (s.cars.get c).landing, .relevel, none, none, some 3000⟩)

/-- How a correction run, a re-level and a shaft learn run end -/
def Obligations.SpecialRunsEnd : Prop :=
  (∀ (s : State) (m : Model) (c : Fin 16), s.model = some m → (s.cars.get c).spec.leg = 14 →
    State.correctionOf m c (m.hoists.get c) (s.cars.get c).spec = none → exec (.correctionRunEnd c) s = .next
    { s with
      cars := s.cars.put c { s.cars.get c with spec := SpecRun.idle, barred := false, health := .lost }
      lv := if (s.cars.get c).health = .lost then s.lv else s.lv.put c { s.lv.get c with req := { (s.lv.get c).req with sf1 := true } } }) ∧
  (∀ (s : State) (m : Model) (c : Fin 16) (d : Int), s.model = some m → (s.cars.get c).spec.leg = 14 →
    State.correctionOf m c (m.hoists.get c) (s.cars.get c).spec = some d → ∃ t, exec (.correctionRunEnd c) s = .next t ∧
      (t.cars.get c).spec = SpecRun.idle ∧ (t.cars.get c).corr = (s.cars.get c).corr + d ∧ (t.cars.get c).corrTgt = (s.cars.get c).corr + d ∧
      (t.cars.get c).slew = 0 ∧ (t.cars.get c).base = (s.cars.get c).base ∧
      (t.cars.get c).pos = fxRound ((s.cars.get c).base + (s.cars.get c).corr + d) ∧ (∀ e, e ≠ c → t.cars.get e = s.cars.get e) ∧
      (t.cars.get c).absOk = ((s.cars.get c).absOk && !decide ((fx (m.hoists.get c).posTolCoarse).natAbs < ((s.cars.get c).corr + d).natAbs)) ∧
      (t.cars.get c).health = State.sourcesHealth (t.cars.get c) (State.fuseIn m c).absP.isSome (s.dz1Lost m c) ∧
      t.axes = s.axes ∧ t.model = s.model ∧ t.tick = s.tick ∧ t.pending = s.pending) ∧
  (∀ (s : State) (m : Model) (c : Fin 16), s.model = some m → (s.cars.get c).spec.kind = .relevel → (s.cars.get c).spec.leg < 3 →
    (s.dz1 m c = false ∨ s.dz2 m c = false ∨ Health.rank (s.cars.get c).health < 2 ∨ 12000 < (s.cars.get c).spec.age) →
    exec (.relevelTimeout c) s = .next (State.orderStop (State.finding
      { s with cars := s.cars.put c { s.cars.get c with spec := { (s.cars.get c).spec with leg := 3 }, takeOut := true } } c 6
      (w32 ((s.cars.get c).pos - m.level (s.cars.get c).spec.landing)) 0) c)) ∧
  (∀ (s : State) (m : Model) (c : Fin 16) (reason : Nat), s.model = some m → (s.cars.get c).spec.kind = .learn → (s.cars.get c).spec.leg = 4 →
    State.learnResult m c (s.cars.get c).spec = .inr reason → exec (.learnShaftDone c) s = .next (s.learnAbort c reason .failed)) ∧
  (∀ (s : State) (m : Model) (c : Fin 16) (out : List State.Learned), s.model = some m → (s.cars.get c).spec.kind = .learn → (s.cars.get c).spec.leg = 4 →
    State.learnResult m c (s.cars.get c).spec = .inl out → ∃ t cnt, exec (.learnShaftDone c) s = .next t ∧
      t = State.finishOp (State.learnEvent (State.addProposal
        { s with cars := s.cars.put c { s.cars.get c with spec := SpecRun.idle } } 0x02 c.val 0xFF out.length (out.flatMap (State.landingBytes m)))
        c 1 (s.cars.get c).spec.source 0 cnt) 0x30 c.val .done 0
        (State.addProposal s 0x02 c.val 0xFF out.length (out.flatMap (State.landingBytes m))).img.nextProp)

/-- The steps of a hoist run: the plan at the brake lift, its end, the end of the run after the brake drop, and a start that fails -/
def Obligations.RunStartAndEnd : Prop :=
  (∀ (s : State) (m : Model) (c : Fin 16) (r : NewRun) (mag : BitVec 32), s.model = some m → (s.axes.get (hoist c)).held = some r →
    (s.axes.get (hoist c)).magAt = some mag → (s.axes.get (hoist c)).state = .start → (s.tick.t0 + 1).toNat % 8 = c.val % 8 →
    (m.hoists.get c).brakeLift * 40 ≤ (s.tick.t0 + 1 - mag).toNat → exec (.brakeLiftWait c) s =
      .next { s with axes := s.axes.put (hoist c) { s.axes.get (hoist c) with due := true } }) ∧
  (∀ (s t : State) (m : Model) (c : Fin 16) (r : NewRun), (s.axes.get (hoist c)).held = some r → (s.axes.get (hoist c)).state = .start →
    (s.axes.get (hoist c)).due = true → t = s.installRun m c →
      t = { s with lanes := t.lanes, axes := t.axes } ∧ (∀ k, k ≠ hoist c → t.axes.get k = s.axes.get k ∧ t.lanes.get k = s.lanes.get k) ∧
      (t.axes.get (hoist c)).state = .run ∧ (t.axes.get (hoist c)).fHold = false ∧ (t.axes.get (hoist c)).target = r.target ∧
      (t.axes.get (hoist c)).held = none ∧ (t.axes.get (hoist c)).failures = 0 ∧ (t.axes.get (hoist c)).startT0 = s.tick.t0 ∧
      (t.axes.get (hoist c)).originPos = (s.cars.get c).pos ∧ (t.lanes.get (hoist c)).gain = some (m.gains.get (hoist c))) ∧
  (∀ (s : State) (c : Fin 16), (s.axes.get (hoist c)).moving = true → (s.tick.t0 + 1).toNat % 8 = c.val % 8 →
    planLen (s.axes.get (hoist c)).segs ≤ (s.axes.get (hoist c)).tauAt (s.tick.t0 + 1) + 2000 → ∃ t, exec (.planEnd c) s = .next t ∧
      t = { s with axes := t.axes, lv := t.lv, cars := t.cars } ∧ (∀ k, k ≠ hoist c → t.axes.get k = s.axes.get k) ∧
      t.axes.get (hoist c) = { s.axes.get (hoist c) with
        state := .end_
        fHold := true
        endAt := some (s.tick.t0 + 1)
        landed := (s.axes.get (hoist c)).state == .run
        refPos := ((s.axes.get (hoist c)).segs.getLast?).elim (s.axes.get (hoist c)).refPos (·.endPos)
        refVel := 0
        refAcc := 0 } ∧
      t.lv = s.lv.put c { s.lv.get c with req := { (s.lv.get c).req with drop := true } }) ∧
  (∀ (s : State) (m : Model) (c : Fin 16) (e : BitVec 32), s.model = some m → (s.axes.get (hoist c)).endAt = some e →
    (s.axes.get (hoist c)).state = .end_ → (s.tick.t0 + 1).toNat % 8 = c.val % 8 → (m.hoists.get c).brakeDrop * 40 ≤ (s.tick.t0 + 1 - e).toNat →
    exec (.brakeDropWait c) s = .next (State.endRunCmd { s with
      hi := { s.hi with energyDue := s.hi.energyDue ++ [(c.val, s.energyBody m c (s.axes.get (hoist c)))] }
      axes := s.axes.put (hoist c) { s.axes.get (hoist c) with state := .idle, fRun := false, fHold := false, endAt := none }
      lv := s.lv.put c { s.lv.get c with req := { (s.lv.get c).req with runEnd := true } } } c (s.axes.get (hoist c)).landed)) ∧
  (∀ (s : State) (c : Fin 16), (s.axes.get (hoist c)).state = .start → (s.axes.get (hoist c)).magAt = none →
    250 ≤ (s.axes.get (hoist c)).startWait → ∃ n : State, exec (.startFailure c) s = .next
      (State.endRunCmd (n.positionEvent c 5 ((s.axes.get (hoist c)).failures + 1 : Nat)) c false) ∧ n = { s with axes := n.axes, lv := n.lv, cars := n.cars } ∧
      n.axes = s.axes.put (hoist c) { s.axes.get (hoist c) with
        state := .idle
        fRun := false
        fHold := false
        held := none
        due := false
        failures := (s.axes.get (hoist c)).failures + 1 } ∧
      n.lv = s.lv.put c { s.lv.get c with req := { (s.lv.get c).req with runEnd := true } } ∧
      n.cars = (if 3 ≤ (s.axes.get (hoist c)).failures + 1 then
        s.cars.put c { s.cars.get c with holds := { (s.cars.get c).holds with start := true } } else s.cars))

/-- FE_OVER in 4 consecutive computations stops the car and holds it -/
def Obligations.FollowingErrorAndFeedback : Prop :=
  ∀ (s : State) (c : Fin 16), 4 ≤ (s.lanes.get (hoist c)).feRun → ((s.axes.get (hoist c)).state = .run ∨ (s.axes.get (hoist c)).state = .stopping) →
    (s.cars.get c).holds.following = false → ∃ n : State, exec (.followingErrorStop c) s = .next (State.orderStop
      { n with cars := n.cars.put c { n.cars.get c with holds := { (n.cars.get c).holds with following := true } } } c) ∧
      n = s.finding c 7 (w32 (s.lanes.get (hoist c)).fe) c.val

/-- A report that passes the checks of R382 restarts its connection and is taken; a JOIN is kept for its answer; a failed check is counted -/
def Obligations.NodeReportsAreTaken : Prop :=
  (∀ (s t : State) (fr : Frame) (m : Model) (i : Nat) (r : NodeRec) (c a : Conn), s.Reaches t fr 2 m i r c → r.cls = .hdv →
    t.checkSafety r c fr 0x20 8 false = .ok a → ∃ n : State, exec (.hdvRep fr) s = .next n ∧ n = { t with conns := n.conns, cvs := n.cvs } ∧
      n.conns = t.conns.modify i (fun _ => { a with
        state := .up
        age := 0
        lastSof := fr.sof
        rxOk := a.rxOk + 1
        data := { a.data with any := true, hdv := byteAt (slice fr.data 20 8) 0, torque := BitVec.ofNat 16 (fld (slice fr.data 20 8) 2 2) } })) ∧
  (∀ (s t : State) (fr : Frame) (m : Model) (i : Nat) (r : NodeRec) (c a : Conn), s.Reaches t fr 2 m i r c → r.cls = .ctn →
    t.checkSafety r c fr 0x21 12 false = .ok a → ∃ n : State, exec (.ctnRep fr) s = .next n ∧ n = { t with conns := n.conns, cvs := n.cvs } ∧
      n.conns = t.conns.modify i (fun _ => { a with
        state := .up
        age := 0
        lastSof := fr.sof
        rxOk := a.rxOk + 1
        data := { a.data with
          any := true
          ctn := ⟨byteAt (slice fr.data 20 12) 0, byteAt (slice fr.data 20 12) 1, byteAt (slice fr.data 20 12) 2,
            byteAt (slice fr.data 20 12) 3, BitVec.ofNat 16 (fld (slice fr.data 20 12) 4 2)⟩
          loadT0 := s.tick.t0 } })) ∧
  (∀ (s t : State) (fr : Frame) (m : Model) (i : Nat) (r : NodeRec) (c a : Conn), s.Reaches t fr 2 m i r c → r.cls = .ptn →
    t.checkSafety r c fr 0x22 4 false = .ok a → ∃ n : State, exec (.ptnRep fr) s = .next n ∧ n = { t with conns := n.conns, cvs := n.cvs } ∧
      n.conns = t.conns.modify i (fun _ => { a with
        state := .up
        age := 0
        lastSof := fr.sof
        rxOk := a.rxOk + 1
        data := { a.data with any := true, ptn := byteAt (slice fr.data 20 4) 0 } })) ∧
  (∀ (s t : State) (fr : Frame) (m : Model) (i : Nat) (r : NodeRec) (c a : Conn), s.Reaches t fr 2 m i r c →
    t.checkSafety r c fr 0x02 8 true = .ok a → ∃ n : State, exec (.join fr) s = .next n ∧ n = { t with conns := n.conns, cvs := n.cvs } ∧
      n.conns = t.conns.modify i (fun c => { c with
        rxOk := c.rxOk + 1
        joinNonce := if s.mod = .active ∨ s.seals.role = 3 then some (slice fr.data 20 8) else c.joinNonce })) ∧
  (∀ (s t : State) (fr : Frame) (m : Model) (i : Nat) (r : NodeRec) (c : Conn) (e : Rej), s.Reaches t fr 2 m i r c → r.cls = .hdv →
    t.checkSafety r c fr 0x20 8 false = .error e → ∃ n : State, exec (.hdvRep fr) s = .next n ∧ n = { t with conns := n.conns, cvs := n.cvs } ∧
      n.conns = t.conns.modify i (fun c => c.reject e))

/-- A door operator's reply and a drive's feedback are taken after their checks; a connection whose watchdog has passed is LOST -/
def Obligations.OperatorAndDriveRepliesAndTheWatchdog : Prop :=
  (∀ (s t : State) (fr : Frame) (m : Model) (i : Nat) (r : NodeRec) (c : Conn) (h : r.car < 16), s.Reaches t fr 4 m i r c → r.cls = .hdv →
    checkReply c fr 0x46 = none → exec (.hdvFeedback fr) s = .next { t with
      conns := t.conns.modify i fun c => { c with
        state := .up
        age := 0
        lastSof := fr.sof
        rxOk := c.rxOk + 1
        data := { c.data with
          any := true
          fbStatus := byteAt fr.data 1
          speedAct := BitVec.ofNat 32 (fld fr.data 4 4)
          torqAct := BitVec.ofNat 16 (fld fr.data 8 2)
          fbFault := BitVec.ofNat 16 (fld fr.data 10 2)
          pDc := BitVec.ofNat 32 (fld fr.data 12 4) } }
      axes := t.axes.put (hoist ⟨r.car, h⟩) { t.axes.get (hoist ⟨r.car, h⟩) with
        energy := if (t.axes.get (hoist ⟨r.car, h⟩)).fRun then addEnergy (t.axes.get (hoist ⟨r.car, h⟩)).energy fr.sof (sfld fr.data 12 4)
          else { (t.axes.get (hoist ⟨r.car, h⟩)).energy with lastSof := some fr.sof } } }) ∧
  (∀ (s t : State) (fr : Frame) (m : Model) (i : Nat) (r : NodeRec) (c : Conn) (d : Fin 32), r.car < 16 → r.side < 2 →
    s.Reaches t fr 4 m i r c → r.cls = .don → checkReply c fr 0x52 = none → d.val = 16 * r.side + r.car →
    (BitVec.ofNat 16 (fld fr.data 2 2) = (t.sides.get d).seqSent ∨ BitVec.ofNat 16 (fld fr.data 2 2) = (t.sides.get d).seqPrev) →
    ∃ n : State, exec (.donReply fr) s = .next n ∧ n = { t with conns := t.conns.modify i (·.accept fr.sof), sides := n.sides } ∧
      (∀ e, e ≠ d → n.sides.get e = t.sides.get e) ∧ (n.sides.get d).enc = BitVec.ofNat 32 (fld fr.data 4 4) ∧
      (n.sides.get d).current = sfld fr.data 8 2 ∧ (n.sides.get d).nStatus = byteAt fr.data 1 ∧ (n.sides.get d).nContacts = byteAt fr.data 10 ∧
      (n.sides.get d).contact = (byteAt fr.data 10).getLsbD 0 ∧ (n.sides.get d).nTemp = byteAt fr.data 11 ∧
      (n.sides.get d).pm = rdiv ((s32 (BitVec.ofNat 32 (fld fr.data 4 4)) - s32 (t.sides.get d).encZero) * 65536) (t.laneRec m (doorAxis d)).p2 ∧
      (n.sides.get d).state = (t.sides.get d).state ∧ (n.sides.get d).lastSof = some fr.sof) ∧
  (∀ (s t : State) (fr : Frame) (m : Model) (i : Nat) (r : NodeRec) (c : Conn) (d : Fin 32), r.car < 16 → r.side < 2 →
    s.Reaches t fr 4 m i r c → r.cls = .don → checkReply c fr 0x52 = none → d.val = 16 * r.side + r.car →
    BitVec.ofNat 16 (fld fr.data 2 2) ≠ (t.sides.get d).seqSent → BitVec.ofNat 16 (fld fr.data 2 2) ≠ (t.sides.get d).seqPrev →
    exec (.donReply fr) s = .next { t with conns := t.conns.modify i fun c => { c with rejSeq := c.rejSeq + 1 } }) ∧
  (∀ (s : State) (m : Model) (i : Nat) (r : NodeRec) (c : Conn), r.car < 16 → s.model = some m → m.nodes[i]? = some r →
    s.conns[i]? = some c → r.cls ≠ .don → r.cls ≠ .hdv → s.watchdogDue r c = true → exec (.connectionWatchdog i) s = .next (State.raise
      { s with conns := s.conns.modify i fun c => { c with state := .lost, based := false, losses := c.losses + 1 } }
      (0xE0 + r.car) 1 2 (BitVec.ofNat 32 i) (State.classCode r.cls)))

/-- DOOR_REOPEN, LOCK_TIMEOUT, HOMING_CLOSE_FAILURE, DWELL_EXPIRY and DOOR_LEARN_DONE when they are due -/
def Obligations.DoorTimersActOnTheirSide : Prop :=
  (∀ (s : State) (m : Model) (d : Fin 32), s.model = some m → (s.sides.get d).state = .stopped → (s.sides.get d).opObst = 1 →
    500 ≤ (s.t1Now - (s.sides.get d).stopT1).toNat → exec (.doorReopen d) s = .next { s with
      sides := s.sides.put d { s.sides.get d with
        state := .opening
        buzzer := false
        landing := some (s.cars.get (sideCar d)).landing
        closeAge := 0
        openRun := 0
        openT1 := 0 }
      axes := s.axes.put (doorAxis d) { s.axes.get (doorAxis d) with req := { (s.axes.get (doorAxis d)).req with
        run := some ⟨(m.doors.get d).openPos, .ref, none, none, none⟩ } } }) ∧
  (∀ (s : State) (m : Model) (d : Fin 32), s.model = some m → (s.sides.get d).state = .locking → 1000 ≤ (s.sides.get d).lockAge →
    s.lockMade d = false → ∃ t : State, exec (.lockTimeout d) s = .next t ∧
      t = { s with sides := t.sides, axes := t.axes, hi := (s.doorEvent d 3 ((s.sides.get d).lockFails + 1)).hi, freeCtr := s.freeCtr + 1 } ∧
      (t.sides.get d).state = .reversing ∧ (t.sides.get d).lastCause = 7 ∧ (t.sides.get d).reversals = (s.sides.get d).reversals + 1 ∧
      (t.sides.get d).lockFails = (s.sides.get d).lockFails + 1 ∧ (t.sides.get d).lockRev = decide (3 ≤ (s.sides.get d).lockFails + 1) ∧
      (∀ e, e ≠ d → t.sides.get e = s.sides.get e) ∧ (∀ k, k ≠ doorAxis d → t.axes.get k = s.axes.get k) ∧
      (t.axes.get (doorAxis d)).req.run = some ⟨(m.doors.get d).openPos, .normal, none, none, none⟩) ∧
  (∀ (s : State) (m : Model) (d : Fin 32), s.model = some m → (s.sides.get d).state = .homing → 500 ≤ (s.sides.get d).planEnd →
    (s.sides.get d).contact = false → ∃ t : State, exec (.homingCloseFailure d) s = .next t ∧
      ((s.sides.get d).homeFails = 0 → t = { s with sides := t.sides, axes := t.axes, lanes := t.lanes, capus := t.capus, injStat := t.injStat, hi := t.hi }) ∧
      (t.sides.get d).state = (if (s.sides.get d).homeFails = 0 then .unref else .fault) ∧ (t.sides.get d).ref = false ∧
      (t.sides.get d).homeFails = (s.sides.get d).homeFails + 1 ∧ (t.sides.get d).openDem = false ∧
      t.tick = s.tick ∧ t.model = s.model ∧ t.pending = s.pending ∧
      (∀ e, e ≠ d → t.sides.get e = s.sides.get e) ∧ (∀ k, k ≠ doorAxis d → t.axes.get k = s.axes.get k) ∧
      (t.axes.get (doorAxis d)).req.istop = true) ∧
  (∀ (s : State) (m : Model) (c : Fin 16), s.mod = .active → s.model = some m → ∃ t : State, exec (.dwellExpiry c) s = .next t ∧
      t = { s with sides := t.sides } ∧ ∀ d, t.sides.get d =
        if d ∈ State.carSides m c ∧ (s.sides.get d).state = .open_ ∧ (s.sides.get d).dwell = some 0 then
          { s.sides.get d with closeDem := true } else s.sides.get d) ∧
  (∀ (s : State) (m : Model) (c : Fin 16) (cmd : DoorLearnCmd), s.model = some m → s.learn.get c = some cmd →
    (s.sides.get (front c)).learn ++ (s.sides.get (rear c)).learn ≠ [] →
    ((s.sides.get (front c)).learn ++ (s.sides.get (rear c)).learn).all (·.done) = true →
    ∃ t : State, exec (.doorLearnDone c) s = .next t ∧
      t = { s with img := t.img, cvs := t.cvs, hi := t.hi, freeCtr := t.freeCtr, learn := s.learn.put c none, sides := t.sides } ∧
      t.img.nextProp = s.img.nextProp + 2 ∧ (t.sides.get (front c)).learn = [] ∧ (t.sides.get (rear c)).learn = [] ∧
      (∀ d, d ≠ front c → d ≠ rear c → t.sides.get d = s.sides.get d))

/-- HALL_CALL, DEST_CALL and CAR_CALL in ACTIVE: accepted, merged and refused calls -/
def Obligations.CallsFromTheNodes : Prop :=
  (∀ (s t : State) (fr : Frame) (m : Model) (i : Nat) (r : NodeRec) (c a : Conn) (q : Asked), s.ReachesFixture t fr 0x10 m i r c →
    checkCall c fr (tagF c.key 0x48 fr.ident.toNat (fr.data.take 12)) = .ok a → s.mod = .active →
    (byteAt fr.data 1 = 1 ∨ byteAt fr.data 1 = 2) → (byteAt fr.data 2).toNat ≤ 3 → byteAt fr.data 3 = 0 → zeroAt fr.data 6 6 = true →
    q = ⟨(byteAt fr.data 1).toNat, bitAt fr.data 2 0, r.addr.toNat / 128 % 128, b2n (bitAt fr.data 2 1), 0xFF, 0, 0, 0,
      .lfn i (BitVec.ofNat 16 (fld fr.data 4 2))⟩ → callCode m q = none →
    (∀ x ∈ s.dsx.calls, (x.kind = .dest ∨ x.kind.code ≠ q.kind ∨ x.origin ≠ q.origin ∨ x.side ≠ q.side)) → s.freeSlot < 512 →
    ∃ x : Call, x.slot = s.freeSlot ∧ x.kind.code = q.kind ∧ x.origin = q.origin ∧ x.side = q.side ∧ x.access = q.access ∧ x.state = .open_ ∧
      x.car = none ∧ x.regT0 = s.tick.t0 ∧ x.source = q.source ∧ exec (.hallCall fr) s = .next (State.serveAtOnce (State.callNote { t with
        conns := t.conns.modify i fun _ => a
        dsx := { s.dsx with calls := s.dsx.calls ++ [x] } } x 0 0) m x)) ∧
  (∀ (s t : State) (fr : Frame) (m : Model) (i : Nat) (r : NodeRec) (c a : Conn) (x : Call), s.ReachesFixture t fr 0x10 m i r c →
    checkCall c fr (tagF c.key 0x48 fr.ident.toNat (fr.data.take 12)) = .ok a → s.mod = .active →
    (byteAt fr.data 1 = 1 ∨ byteAt fr.data 1 = 2) → (byteAt fr.data 2).toNat ≤ 3 → byteAt fr.data 3 = 0 → zeroAt fr.data 6 6 = true →
    callCode m ⟨(byteAt fr.data 1).toNat, bitAt fr.data 2 0, r.addr.toNat / 128 % 128, b2n (bitAt fr.data 2 1), 0xFF, 0, 0, 0,
      .lfn i (BitVec.ofNat 16 (fld fr.data 4 2))⟩ = none →
    x ∈ s.dsx.calls → x.kind.code = (byteAt fr.data 1).toNat → x.origin = r.addr.toNat / 128 % 128 → x.side = b2n (bitAt fr.data 2 1) →
    exec (.hallCall fr) s = .next { t with conns := t.conns.modify i fun _ => a }) ∧
  (∀ (s t : State) (fr : Frame) (m : Model) (i : Nat) (r : NodeRec) (c a : Conn) (q : Asked) (code : Nat), s.ReachesFixture t fr 0x11 m i r c →
    checkCall c fr (tagF c.key 0x44 fr.ident.toNat (fr.data.take 12)) = .ok a → s.mod = .active →
    (byteAt fr.data 2).toNat ≤ 3 → zeroAt fr.data 6 6 = true →
    q = ⟨3, bitAt fr.data 2 0, r.addr.toNat / 128 % 128, b2n (bitAt fr.data 2 1), (byteAt fr.data 1).toNat, (byteAt fr.data 3).toNat, 0, 0,
      .lfn i (BitVec.ofNat 16 (fld fr.data 4 2))⟩ → callCode m q = some code → ∃ n : State,
      n = State.callEvent { t with conns := t.conns.modify i fun _ => a, dsx := { s.dsx with refused := s.dsx.refused + 1 } }
        3 6 q.origin q.dest none code 0 0 q.source.code ∧
      exec (.destCall fr) s = .next (n.sendAllocation m i code 0xFF q.side (BitVec.ofNat 16 (fld fr.data 4 2)) q.dest (some fr.sof))) ∧
  (∀ (s t : State) (fr : Frame) (m : Model) (i : Nat) (r : NodeRec) (c a : Conn) (q : Asked), s.ReachesFixture t fr 0x11 m i r c →
    checkCall c fr (tagF c.key 0x44 fr.ident.toNat (fr.data.take 12)) = .ok a → s.mod = .active →
    (byteAt fr.data 2).toNat ≤ 3 → zeroAt fr.data 6 6 = true →
    q = ⟨3, bitAt fr.data 2 0, r.addr.toNat / 128 % 128, b2n (bitAt fr.data 2 1), (byteAt fr.data 1).toNat, (byteAt fr.data 3).toNat, 0, 0,
      .lfn i (BitVec.ofNat 16 (fld fr.data 4 2))⟩ → callCode m q = none → s.freeSlot < 512 →
    ∃ x : Call, x.slot = s.freeSlot ∧ x.kind = .dest ∧ x.origin = q.origin ∧ x.side = q.side ∧ x.dest = q.dest ∧ x.pax = q.pax ∧
      x.access = q.access ∧ x.state = .open_ ∧ x.car = none ∧ x.regT0 = s.tick.t0 ∧ x.source = q.source ∧ exec (.destCall fr) s = .next
      (State.sendAllocation (State.callNote { t with
        conns := t.conns.modify i fun _ => a
        dsx := { s.dsx with calls := s.dsx.calls ++ [x] } } x 0 0) m i 0 0xFF q.side (BitVec.ofNat 16 (fld fr.data 4 2)) q.dest (some fr.sof))) ∧
  (∀ (s t : State) (fr : Frame) (m : Model) (i : Nat) (r : NodeRec) (c a : Conn) (h : r.car < 16) (x : CarCall), s.Reaches t fr 5 m i r c → r.cls = .ctn →
    checkCall c fr (tag4 c.key 0x4B fr.ident.toNat (fr.data.take 12)) = .ok a → s.mod = .active →
    byteAt fr.data 1 = 2 → (byteAt fr.data 2).toNat ≤ 1 → zeroAt fr.data 6 6 = true → m.dispatch.ctnCancel = true →
    s.carCallAllowed ⟨r.car, h⟩ false = true → (s.modes.get ⟨r.car, h⟩).mode ≠ 5 →
    (s.dsx.carCalls.get ⟨r.car, h⟩).find? (fun x => x.landing = (byteAt fr.data 3).toNat) = some x →
    exec (.carCall fr) s = .next (State.each { t with
      conns := t.conns.modify i fun _ => a
      dsx := { s.dsx with carCalls := s.dsx.carCalls.put ⟨r.car, h⟩ ((s.dsx.carCalls.get ⟨r.car, h⟩).filter (·.landing ≠ x.landing)) } }
      (refsOf x.ref x.more) fun n ref => n.callEvent 4 5 0xFF x.landing (some ⟨r.car, h⟩) 0 (carCallSlot ⟨r.car, h⟩ x.landing) ref (if x.host then 0 else 2))) ∧
  (∀ (s t : State) (fr : Frame) (m : Model) (i : Nat) (r : NodeRec) (c a : Conn) (h : r.car < 16), s.Reaches t fr 5 m i r c → r.cls = .ctn →
    checkCall c fr (tag4 c.key 0x4B fr.ident.toNat (fr.data.take 12)) = .ok a → s.mod = .active →
    byteAt fr.data 1 = 1 → (byteAt fr.data 2).toNat ≤ 1 → zeroAt fr.data 6 6 = true → m.present ⟨r.car, h⟩ = true →
    (byteAt fr.data 3).toNat < m.landings.length → m.served ⟨r.car, h⟩ (byteAt fr.data 3).toNat = true →
    s.carCallAllowed ⟨r.car, h⟩ false = true → (s.modes.get ⟨r.car, h⟩).mode ≠ 5 → (s.dsx.carCalls.get ⟨r.car, h⟩).length < 128 →
    (∀ x ∈ s.dsx.carCalls.get ⟨r.car, h⟩, x.landing ≠ (byteAt fr.data 3).toNat) → ∃ n : State, n = { t with
      conns := t.conns.modify i fun _ => a
      dsx := { s.dsx with carCalls := s.dsx.carCalls.put ⟨r.car, h⟩ (s.dsx.carCalls.get ⟨r.car, h⟩ ++
        [⟨(byteAt fr.data 3).toNat, s.tick.t0, bitAt fr.data 2 0, 0, false, []⟩]) } } ∧
      exec (.carCall fr) s = .next (n.callEvent 4 1 0xFF (byteAt fr.data 3).toNat (some ⟨r.car, h⟩) 0
        (carCallSlot ⟨r.car, h⟩ (byteAt fr.data 3).toNat) 0 2)) ∧
  (∀ (s t : State) (fr : Frame) (m : Model) (i : Nat) (r : NodeRec) (c : Conn) (e : Rej), s.ReachesFixture t fr 0x10 m i r c →
    checkCall c fr (tagF c.key 0x48 fr.ident.toNat (fr.data.take 12)) = .error e →
    exec (.hallCall fr) s = .next { t with conns := t.conns.modify i fun c => c.reject e })

/-- CALL_ENTRY takes the oldest fetched CALL entry and answers it once -/
def Obligations.CallEntriesAreAnswered : Prop :=
  (∀ (s n : State) (m : Model) (b : List Byte) (l : List (List Byte)) (slot : Nat), s.hi.calls = b :: l → s.model = some m → s.mod = .active →
    State.callRecord { s with hi := { s.hi with calls := l } } m b = (n, .inr slot) →
    exec .callEntry s = .next (n.complete ⟨1, byteAt b 0, 0, 0, BitVec.ofNat 32 (fld b 8 4), BitVec.ofNat 32 slot⟩)) ∧
  (∀ (s n : State) (m : Model) (b : List Byte) (l : List (List Byte)) (code : Nat), s.hi.calls = b :: l → s.model = some m → s.mod = .active →
    State.callRecord { s with hi := { s.hi with calls := l } } m b = (n, .inl code) →
    exec .callEntry s = .next (n.complete ⟨1, byteAt b 0, 3, BitVec.ofNat 8 code, BitVec.ofNat 32 (fld b 8 4), 0⟩)) ∧
  (∀ (s : State) (b : List Byte) (l : List (List Byte)), s.hi.calls = b :: l → s.mod ≠ .active →
    exec .callEntry s = .next (State.complete { s with hi := { s.hi with calls := l } }
      ⟨1, byteAt b 0, 3, if s.mod = .standby then 0x8B else 0x83, BitVec.ofNat 32 (fld b 8 4), 0⟩))

/-- OVERSPEED, XCHK_FAIL, the feedback timeouts and DISCREPANCY start the car's demand; STO_MISSING holds the car -/
def Obligations.LeveeCausesStartADemand : Prop :=
  (∀ (s : State) (m : Model) (c : Fin 16), s.model = some m → s.Undemanded c → 8 ≤ (s.lv.get c).xRun →
    ∃ t, exec (.xchkFail c) s = .next t ∧ s.Demanded t c 0x03 ∧ t.modes = s.modes) ∧
  (∀ (s : State) (m : Model) (c : Fin 16), s.model = some m → s.Undemanded c → 2 ≤ (s.lv.get c).osRun →
    ∃ t, exec (.overspeed c) s = .next t ∧ s.Demanded t c 0x30 ∧ t.modes = s.modes) ∧
  (∀ (s : State) (m : Model) (c : Fin 16), s.model = some m → s.Undemanded c → (s.lv.get c).wMc.due = true →
    ∃ t, exec (.contactorFbTimeout c) s = .next t ∧ s.Demanded t c 0x06 ∧ (t.lv.get c).hold = true ∧
      t.modes = s.modes.put c { s.modes.get c with hold := true }) ∧
  (∀ (s : State) (m : Model) (c : Fin 16) (k : Fin 2), s.model = some m → s.Undemanded c →
    (if k = 0 then (s.lv.get c).wBrk1 else (s.lv.get c).wBrk2).due = true →
    ∃ t, exec (.brakeFbTimeout c k) s = .next t ∧ s.Demanded t c 0x05 ∧ (t.lv.get c).hold = true ∧
      t.modes = s.modes.put c { s.modes.get c with hold := true }) ∧
  (∀ (s : State) (m : Model) (c : Fin 16) (k : DualSource), s.model = some m → s.Undemanded c →
    State.discT0 m c (State.dualOf (s.lv.get c) k).2 < (State.dualOf (s.lv.get c) k).1.disagree → (State.dualOf (s.lv.get c) k).1.latched = false →
    ∃ t, exec (.discrepancy c k) s = .next t ∧ s.Demanded t c 0x51 ∧ (State.dualOf (t.lv.get c) k).1.latched = true ∧
      (t.lv.get c).discreps = (s.lv.get c).discreps + 1 ∧ t.modes = s.modes) ∧
  (∀ (s : State) (m : Model) (c : Fin 16) (i : Nat), s.model = some m → m.node? c .hdv = some i → (s.lv.get c).torqueOff = true →
    (s.lv.get c).tqSent = true → (s.lv.get c).stoSeen = false → (s.lv.get c).stoRaised = false → 16 ≤ (s.lv.get c).tqAge → ∃ n : State,
      n = State.raise { s with lv := s.lv.put c { s.lv.get c with stoRaised := true } } (0xE0 + c.val) 2 2 (BitVec.ofNat 32 i) 0 ∧
      exec (.stoMissing c) s = .next (n.serviceHold c 0xE2))

/-- The brake-holding test: its automatic start and retry, its phases, the pass and the overdue event -/
def Obligations.BrakeTestsRun : Prop :=
  (∀ (s : State) (m : Model) (c : Fin 16), s.model = some m → 345600000 ≤ (s.lv.get c).bt.ageT0 → s.tick.t0.toNat % 256 = 0 →
    (s.lv.get c).bt.retry = none → (s.lv.get c).bt.torq ≠ 0 → s.mod = .active → (s.modes.get c).mode = 3 → (s.lv.get c).bt.phase = 0 →
    State.btReady (s.lv.get c) (s.lvSrc m c (s.lv.get c)) = true → s.hoistIdle c = true → s.carParked m c = false →
    exec (.brakeTestAuto c) s = .next { s with lv := s.lv.put c { s.lv.get c with bt := { (s.lv.get c).bt with
      phase := 1
      circuit := 1
      torque := (s.lv.get c).bt.torq.toInt
      age := 0
      p0 := (s.lv.get c).pos
      e := none
      res1 := 0
      res2 := 0
      maxSlip := 0 } } }) ∧
  (∀ (s : State) (m : Model) (c : Fin 16), s.model = some m → 345600000 ≤ (s.lv.get c).bt.ageT0 → s.tick.t0.toNat % 256 = 0 →
    (s.lv.get c).bt.retry = none → (s.lv.get c).bt.torq = 0 → 345600000 ≤ (s.lv.get c).bt.noTorq → exec (.brakeTestAuto c) s = .next
    (State.leveeEvent { s with lv := s.lv.put c { s.lv.get c with bt := { (s.lv.get c).bt with noTorq := 0 } } } c 3 0 0)) ∧
  (∀ (s : State) (m : Model) (c : Fin 16), s.model = some m → (s.lv.get c).bt.retry = some 0 → s.mod = .active → (s.modes.get c).mode = 3 →
    (s.lv.get c).bt.phase = 0 → State.btReady (s.lv.get c) (s.lvSrc m c (s.lv.get c)) = true → s.hoistIdle c = true →
    s.carParked m c = false → exec (.brakeTestRetry c) s = .next { s with lv := s.lv.put c { s.lv.get c with bt := { (s.lv.get c).bt with
      phase := 1
      circuit := 1
      torque := (s.lv.get c).bt.torq.toInt
      age := 0
      p0 := (s.lv.get c).pos
      e := none
      res1 := 0
      res2 := 0
      maxSlip := 0
      retry := none } } }) ∧
  (∀ (s : State) (m : Model) (c : Fin 16), s.model = some m → 6000 ≤ (s.lv.get c).bt.age → ((s.lv.get c).bt.phase = 2 ∨ (s.lv.get c).bt.phase = 5) →
    exec (.brakeTestPhaseEnd c) s = .next { s with lv := s.lv.put c { s.lv.get c with
      bt := { (s.lv.get c).bt with phase := (s.lv.get c).bt.phase + 1, age := 0 } } }) ∧
  (∀ (s : State) (m : Model) (c : Fin 16), s.model = some m → 6000 ≤ (s.lv.get c).bt.age → (s.lv.get c).bt.phase = 3 →
    ∃ t, exec (.brakeTestPhaseEnd c) s = .next t ∧ t = { s with lv := t.lv } ∧ (∀ d, d ≠ c → t.lv.get d = s.lv.get d) ∧
      (t.lv.get c).brk1 = false ∧ (t.lv.get c).brk2 = false ∧ (t.lv.get c).mc = (s.lv.get c).mc ∧
      (if (s.lv.get c).bt.circuit = 1 then (t.lv.get c).bt.res1 else (t.lv.get c).bt.res2) = 1 ∧
      (t.lv.get c).bt.phase = 4 ∧ (t.lv.get c).bt.circuit = 2) ∧
  (∀ (s : State) (m : Model) (c : Fin 16), s.model = some m → 6000 ≤ (s.lv.get c).bt.age → (s.lv.get c).bt.phase = 6 → ∃ n : State,
      exec (.brakeTestPhaseEnd c) s = .next (match (s.lv.get c).bt.e with
        | some e => n.finish e .done 0 (pk [(0, 2, (n.lv.get c).bt.res1.val), (2, 2, (n.lv.get c).bt.res2.val), (16, 16, min (s.lv.get c).bt.maxSlip 65535)])
        | none => n) ∧
      n = { s with lv := n.lv, hi := n.hi, freeCtr := n.freeCtr } ∧ (∀ d, d ≠ c → n.lv.get d = s.lv.get d) ∧
      (n.lv.get c).brk1 = false ∧ (n.lv.get c).brk2 = false ∧ (n.lv.get c).mc = (s.lv.get c).mc ∧ (n.lv.get c).req.runEnd = true ∧
      (if (s.lv.get c).bt.circuit = 1 then (n.lv.get c).bt.res1 else (n.lv.get c).bt.res2) = 1 ∧ (n.lv.get c).bt.phase = 0 ∧
      (n.lv.get c).bt.ageT0 = 0 ∧ (n.lv.get c).bt.overdue = false ∧ 
      (n.lv.get c).bt.torq = if (s.lv.get c).bt.e.isSome then BitVec.ofInt 16 (s.lv.get c).bt.torque else (s.lv.get c).bt.torq) ∧
  (∀ (s : State) (c : Fin 16), 691200000 ≤ (s.lv.get c).bt.ageT0 → (s.lv.get c).bt.overdue = false → exec (.brakeTestOverdue c) s = .next
    (State.leveeEvent { s with lv := s.lv.put c { s.lv.get c with bt := { (s.lv.get c).bt with overdue := true } } } c 4 0 0))

/-- SAFETY_RESET clears what no longer holds, RESET_STUCK retires the reset, START_TEST_FAILED holds the car -/
def Obligations.ResetsAndStartTests : Prop :=
  (∀ (s : State) (m : Model) (c : Fin 16) (n : Nat), s.model = some m → (s.lv.get c).released = some n → 800 ≤ n → n ≤ 12000 →
    (s.lv.get c).still = true → (s.lv.get c).torqueOff = true → s.isRetired (.resetInput c) = false → ∃ t, exec (.safetyReset c) s = .next t ∧
      t = { s with lv := t.lv } ∧ (∀ d, d ≠ c → t.lv.get d = s.lv.get d) ∧ (t.lv.get c).released = none ∧
      (∀ b : Fin 8, (t.lv.get c).trip.getLsbD b = true → (s.lv.get c).trip.getLsbD b = true) ∧
      (∀ x ∈ (t.lv.get c).causes, x ∈ (s.lv.get c).causes) ∧
      (∀ (b : Fin 8), (s.lv.get c).trip.getLsbD b = true → tripCodes.getD b 0 ∉ State.lvConditions m c { s.lv.get c with released := none }
        (State.lvSrc { s with lv := s.lv.put c { s.lv.get c with released := none } } m c { s.lv.get c with released := none }) false →
        (t.lv.get c).trip.getLsbD b = false)) ∧
  (∀ (s : State) (m : Model) (c : Fin 16) (n : Nat), s.model = some m → (s.lv.get c).released = some n → 12000 < n →
    exec (.safetyReset c) s = .next (State.leveeEvent { s with lv := s.lv.put c { s.lv.get c with
      released := none
      resetHeld := (s.lv.get c).resetHeld + 1 } } c 2 0 ((n / 4 : Nat) : Int))) ∧
  (∀ (s : State) (m : Model) (c : Fin 16) (n : Nat), s.model = some m → (s.lv.get c).released = some n → n < 800 →
    exec (.safetyReset c) s = .next { s with lv := s.lv.put c { s.lv.get c with released := none } }) ∧
  (∀ (s : State) (m : Model) (c : Fin 16) (n : Nat), s.model = some m → (s.lv.get c).released = some n → 800 ≤ n → n ≤ 12000 →
    ((s.lv.get c).still = false ∨ (s.lv.get c).torqueOff = false ∨ s.isRetired (.resetInput c) = true) →
    exec (.safetyReset c) s = .next { s with lv := s.lv.put c { s.lv.get c with released := none } }) ∧
  (∀ (s : State) (c : Fin 16), s.isRetired (.resetInput c) = false → (s.lv.get c).stuck = true → exec (.resetStuck c) s = .next (State.markRetired
      (State.finding { s with lv := s.lv.put c { s.lv.get c with stuck := false } } c 0x0B 0 1) (.resetInput c) (BitVec.ofNat 10 (0xD0 + c.val)) 0x0B 2 0)) ∧
  (∀ (s : State) (c : Fin 16) (n : Nat), s.isRetired (.resetInput c) = false → (s.lv.get c).stuck = false → (s.lv.get c).press = some n →
    120000 ≤ n → exec (.resetStuck c) s = .next (State.markRetired (s.finding c 0x0B 0 2) (.resetInput c)
      (BitVec.ofNat 10 (0xD0 + c.val)) 0x0B 2 0)) ∧
  (∀ (s : State) (c : Fin 16) (n : Nat), 1 ≤ (s.lv.get c).tests.step → (s.lv.get c).tests.step ≤ 7 → (s.lv.get c).tests.failed = false →
    (State.testLimit (s.lv.get c).tests.step = some n ∧ n < (s.lv.get c).tests.age ∨ 400 < (s.lv.get c).tests.sub) → exec (.startTestFailed c) s = .next (State.serviceHold (State.finding
      { s with lv := s.lv.put c { s.lv.get c with tests := { (s.lv.get c).tests with failed := true } } } c 9 0 (s.lv.get c).tests.step) c 9))

/-- What an accepted class, an indeterminate input, the loss of L+, coupler failures, the watchdog and each readback fault do to a channel -/
def Obligations.FieldChannelsAndTheirSupply : Prop :=
  (∀ (s : State) (i : Fin 96) (l : List Nat) (k : PolClass), l ≠ [] → (∀ x ∈ l, sampleClass (s.polRec i).wbEn x = some k) →
    (outRole (s.polRec i).role = true ∨ 8 * (if (s.polRec i).filter = 0 then 4 else (s.polRec i).filter) ≤ l.length) → ∃ t : State,
    t = { s with pol := { s.pol with ch := s.pol.ch.put i { s.pol.ch.get i with
      cls := k
      guard := false
      current := BitVec.ofNat 16 (l.getLast?.getD 0)
      flags := { (s.pol.ch.get i).flags with wb := (s.pol.ch.get i).flags.wb || (inRole (s.polRec i).role && k == .wireBreak) } } } } ∧
    exec (.inputFilterAccept i l) s = .next (if inRole (s.polRec i).role && k == .wireBreak && (s.pol.ch.get i).cls != .wireBreak
      then t.fieldEvent 1 i.val else t)) ∧
  (∀ (s : State) (i : Fin 96) (l : List Nat), (outRole (s.polRec i).role = false ∧
      l.length < 8 * (if (s.polRec i).filter = 0 then 4 else (s.polRec i).filter)) ∨ (∃ x ∈ l, sampleClass (s.polRec i).wbEn x = none) →
    exec (.inputFilterAccept i l) s = .next s) ∧
  (∀ (s : State) (i : Fin 96), inRole (s.polRec i).role = true → (s.pol.ch.get i).guard = false → ∃ t : State,
    t = { s with pol := { s.pol with ch := s.pol.ch.put i { s.pol.ch.get i with
      guard := true
      flags := { (s.pol.ch.get i).flags with guard := true } } } } ∧
    exec (.inputGuard i) s = .next (t.fieldEvent 2 i.val) ∧ t.inValue i = t.demandState (t.polRec i)) ∧
  (∀ (s : State) (p : Fin 12), (s.pol.pol.get p).lpOk = true → ∃ t : State,
    t = { s with pol := { s.pol with pol := s.pol.pol.put p { s.pol.pol.get p with lpOk := false, lpLow := true } } } ∧
    exec (.lpLow p) s = .next (t.fieldEvent 3 p.val) ∧ ∀ i, State.polOf i = p → t.inValue i = t.demandState (t.polRec i)) ∧
  (∀ (s : State) (p : Fin 12), (s.pol.pol.get p).lpOk = false → exec (.lpRestored p) s = .next (State.fieldEvent
    { s with pol := { s.pol with pol := s.pol.pol.put p { s.pol.pol.get p with lpOk := true } } } 4 p.val)) ∧
  (∀ (s : State) (i : Fin 96), s.lpOk i = true → exec (.couplerFault i) s = .next (State.raise
    { s with pol := { s.pol with pol := s.pol.pol.put (State.polOf i) { s.pol.pol.get (State.polOf i) with
      coupler := (s.pol.pol.get (State.polOf i)).coupler + 4 } } } (0x40 + i.val / 8) 5 2 (BitVec.ofNat 32 i.val) 4)) ∧
  (∀ (s : State) (i : Fin 96), outRole (s.polRec i).role = true → exec (.fieldWatchdog i) s = .next
    { s with pol := { s.pol with ch := s.pol.ch.put i { s.pol.ch.get i with wdogOff := true, on := s.safeState (s.polRec i) } } }) ∧
  (∀ (s : State) (i : Fin 96) (d : OvldDetail), outRole (s.polRec i).role = true → s.rbSuspended i = false →
    (s.pol.ch.get i).heldOff = false → (s.pol.ch.get i).cmd = true → (d = .readback → 2 ≤ (s.pol.ch.get i).badRb) →
    exec (.readbackFault i d) s = .next (State.raise
      { s with pol := { s.pol with ch := s.pol.ch.put i { s.pol.ch.get i with
        heldOff := true
        badRb := 0
        flags := { (s.pol.ch.get i).flags with ovld := true }
        cmd := false
        on := false
        defer := false
        onT0 := none
        skipRb := true } } } (0x40 + i.val / 8) 3 2 (BitVec.ofNat 32 i.val)
        (match d with | .currentLimit => 1 | .thermal => 2 | .readback => 3))) ∧
  (∀ (s : State) (i : Fin 96), outRole (s.polRec i).role = true → s.rbSuspended i = false → (s.pol.ch.get i).heldOff = false →
    (s.pol.ch.get i).cmd = false → 2 ≤ (s.pol.ch.get i).badRb → exec (.readbackFault i .readback) s = .next (State.raise
      { s with pol := { s.pol with ch := s.pol.ch.put i { s.pol.ch.get i with
        heldOff := true
        badRb := 0
        flags := { (s.pol.ch.get i).flags with shortLp := true }
        cmd := false
        on := false
        defer := false
        onT0 := none } } } (0x40 + i.val / 8) 1 2 (BitVec.ofNat 32 i.val) 0))

/-- A frame without an owner, a sent frame, a missing acknowledgement and the rate sweep -/
def Obligations.BusTrafficAndRates : Prop :=
  (∀ (s : State) (fr : Frame) (b : Bus), s.ownedFrame fr = false → b = s.buses.get fr.bus → busHears b = true →
    (fr.fd = true → (s.busRec fr.bus).any (·.fd) = true) → b.fifo < 64 → exec (.busFrameUnowned fr) s = .next
    (if (s.busRec fr.bus).any (·.raw) then State.rawEvent { s with buses := s.buses.put fr.bus { b with
        rxOk := b.rxOk + 1
        fifo := b.fifo + 1 } } fr
      else { s with buses := s.buses.put fr.bus { b with
        rxOk := b.rxOk + 1
        fifo := b.fifo + 1
        unknown := b.unknown + 1 } })) ∧
  (∀ (s : State) (fr : Frame) (b : Bus), s.ownedFrame fr = false → b = s.buses.get fr.bus → busHears b = true →
    (fr.fd = true → (s.busRec fr.bus).any (·.fd) = true) → 64 ≤ b.fifo → exec (.busFrameUnowned fr) s = .next
    { s with buses := s.buses.put fr.bus { b with
      rxOk := b.rxOk + 1
      rxOvr := true
      rxDrop := b.rxDrop + 1
      fifo := 65 } }) ∧
  (∀ (s : State) (fr : Frame), (s.ownedFrame fr = true ∨ busHears (s.buses.get fr.bus) = false ∨
      (fr.fd = true ∧ (s.busRec fr.bus).any (·.fd) = false)) → exec (.busFrameUnowned fr) s = .next s) ∧
  (∀ (s : State) (n : Fin 12) (sof : BitVec 32) (delay i : Nat) (f : TxFrame) (r : BusRec) (b : Bus), s.onOffer n = some (i, f) →
    s.busRec n = some r → b = s.buses.get n → ∃ (b' : Bus) (t u : State),
    b' = { b with
      tx := if r.txq then b.tx.eraseIdx i else rebuffer (b.tx.eraseIdx i)
      txOk := b.txOk + 1
      noack := false
      late := if f.answer.any (fun x => 4000 < (sof - x).toNat) then b.late + 1 else b.late } ∧
    t = { s.noteReq f sof with buses := s.buses.put n (if f.brs && r.measures then { b' with
      tdcMeas := BitVec.ofNat 8 delay
      ssp := BitVec.ofNat 8 (delay + r.tdcOffset) } else b') } ∧
    u = (if f.brs && r.measures && decide (40 < delay) then t.raise (0x60 + n.val) 3 2 0 delay else t) ∧
    exec (.frameSent n sof delay) s = .next
      (match f.raw.bind fun tag => u.hi.running.find? fun x => x.e.opcode = 0x40 && x.e.tag = tag with
        | some x => u.finish x.e .done 0 sof
        | none => u)) ∧
  (∀ (s : State) (n : Fin 12), (s.onOffer n).isSome = true → exec (.noack n) s = .next (State.busEvent
    { s with buses := s.buses.put n { s.buses.get n with
      noack := true
      errors := (s.buses.get n).errors + 16
      lastErr := 3
      errPhase := false } } n 1)) ∧
  (∀ (s : State) (n : Fin 12), (s.buses.get n).state = .detect → exec (.rateAdopted n) s = .next
    { s with buses := s.buses.put n { s.buses.get n with adopted := true } }) ∧
  (∀ (s : State) (n : Fin 12) (why : RateDrop) (b : Bus), b = s.buses.get n → b.state = .detect → b.adopted = false →
    ∃ (k : Fin 8) (b' : Bus) (c : Nat), (k = 1 ∨ k = 2 ∨ k = 6) ∧
    b' = { b with
      lastErr := (match why with | .error => k | .dwell => b.lastErr)
      cand := if b.cand < 8 then b.cand + 1 else 0
      swept := b.swept || decide (8 ≤ b.cand)
      noRate := b.noRate || (decide (8 ≤ b.cand) && !b.swept) } ∧
    exec (.rateCandidateDrop n why) s = .next (if decide (8 ≤ b.cand) && !b.swept
      then State.busEvent { s with freeCtr := c, buses := s.buses.put n b' } n 3
      else { s with freeCtr := c, buses := s.buses.put n b' }))

/-- Collision, error-passive, bus-off, recovery, sleep and wake of a bus channel -/
def Obligations.BusErrorsSleepAndWake : Prop :=
  (∀ (s : State) (n : Fin 12) (i : Nat) (f : TxFrame), s.onOffer n = some (i, f) → ∃ (t : State) (k : Fin 8), (k = 4 ∨ k = 5) ∧
    t = { s with freeCtr := s.freeCtr + 1, buses := s.buses.put n { s.buses.get n with 
      collision := true
      errors := (s.buses.get n).errors + 3
      lastErr := k
      errPhase := f.brs } } ∧
    exec (.collision n) s = .next (t.raise (0x60 + n.val) 2 2 0 f.ident.toNat)) ∧
  (∀ (s : State) (n : Fin 12) (tec rec_ : Nat), (s.buses.get n).state = .active → (128 ≤ tec ∨ 128 ≤ rec_) → exec (.errorPassive n tec rec_) s = .next
    (State.busEvent { s with buses := s.buses.put n { s.buses.get n with
      tec := BitVec.ofNat 8 (min tec 255)
      recv := BitVec.ofNat 8 (min rec_ 255)
      state := .passive } } n 2)) ∧
  (∀ (s : State) (n : Fin 12) (tec rec_ : Nat), (s.buses.get n).state = .passive → tec < 128 → rec_ < 128 → exec (.errorPassive n tec rec_) s = .next
    { s with buses := s.buses.put n { s.buses.get n with
      tec := BitVec.ofNat 8 (min tec 255)
      recv := BitVec.ofNat 8 (min rec_ 255)
      state := .active } }) ∧
  (∀ (s : State) (n : Fin 12) (tec rec_ : Nat), ((s.buses.get n).state = .active ∨ (s.buses.get n).state = .passive) →
    exec (.busoff n tec rec_) s = .next (State.raise { s with buses := s.buses.put n { s.buses.get n with
      state := .busoff
      busoff := true
      busoffs := (s.buses.get n).busoffs + 1
      tec := BitVec.ofNat 8 (min tec 255)
      recv := BitVec.ofNat 8 (min rec_ 255) } } (0x60 + n.val) 1 2 0 (min tec 255 + 256 * min rec_ 255))) ∧
  (∀ (s : State) (n : Fin 12), (s.buses.get n).state = .recover → ∃ t : State,
    t = State.busEvent (State.startBus { s with buses := s.buses.put n { s.buses.get n with tec := 0, recv := 0 } } n) n 5 ∧
    exec (.busRecovered n) s = .next (match t.hi.running.find? fun x => x.e.opcode = 0x41 && x.e.arg0.toNat = n.val with
      | some x => t.finish x.e .done 0
      | none => t)) ∧
  (∀ (s : State) (n : Fin 12), 4 ≤ n.val → (s.buses.get n).sleepReq = true → ((s.buses.get n).state = .active ∨ (s.buses.get n).state = .passive) →
    1 ≤ (s.buses.get n).sleepT1 → (s.buses.get n).tx = [] → exec (.busSleep n) s = .next { s with buses := s.buses.put n { s.buses.get n with
      state := .sleep
      sleepT1 := 0
      trxOn := false
      start := false
      onWait := false } }) ∧
  (∀ (s : State) (n : Fin 12), 4 ≤ n.val → (s.buses.get n).sleepReq = true → ((s.buses.get n).state = .active ∨ (s.buses.get n).state = .passive) →
    8 ≤ (s.buses.get n).sleepT1 → ∃ t : State, exec (.busSleep n) s = .next t ∧ (t.buses.get n).state = .sleep ∧ (t.buses.get n).tx = [] ∧
      (t.buses.get n).trxOn = false ∧ (t.buses.get n).txDrop = (s.buses.get n).txDrop + BitVec.ofNat 8 (s.buses.get n).tx.length) ∧
  (∀ (s : State) (n : Fin 12) (how : BusWake), (s.buses.get n).state = .sleep → (s.buses.get n).onWait = false →
    ((s.buses.get n).wakeMode = false ∧ how = .pattern ∨ (s.buses.get n).wakeMode = true ∧
      ∃ x i d, how = .frame x i d ∧ wakeMatch (s.buses.get n) x i d = true) → ∃ t : State,
    exec (.busWake n how) s = .next (t.busEvent n 4) ∧ t = { s with sup := t.sup, buses := t.buses } ∧
      (∀ k, k ≠ n → t.buses.get k = s.buses.get k) ∧ (t.buses.get n).woke = true ∧ (t.buses.get n).onWait = true ∧
      (t.buses.get n).sleepReq = false ∧ (t.buses.get n).state = .sleep ∧ (t.buses.get n).wakes = (s.buses.get n).wakes + 1) ∧
  (∀ (s : State) (n : Fin 12), (s.buses.get n).state = .sleep → (s.buses.get n).onWait = false → (s.buses.get n).sleepReq = false → ∃ t : State,
    exec (.busWake n .host) s = .next t ∧ t = { s with sup := t.sup, buses := t.buses } ∧
      (∀ k, k ≠ n → t.buses.get k = s.buses.get k) ∧ (t.buses.get n).woke = (s.buses.get n).woke ∧ (t.buses.get n).onWait = true) ∧
  (∀ (s : State) (n : Fin 12) (how : BusWake), ((s.buses.get n).state ≠ .sleep ∨ (s.buses.get n).onWait = true ∨
      (s.buses.get n).wakeMode = true ∧ how = .pattern ∨ how = .host ∧ (s.buses.get n).sleepReq = true ∨
      ∃ x i d, how = .frame x i d ∧ ((s.buses.get n).wakeMode = false ∨ wakeMatch (s.buses.get n) x i d = false)) →
    exec (.busWake n how) s = .next s) ∧
  (∀ (s : State) (n : Fin 12) (v : BitVec 32), s.hostUp = true → 4 ≤ n.val → bit v 0 = true → (s.buses.get n).sleepReq = false →
    (s.buses.get n).state ≠ .sleep → exec (.kSleepWrite n v) s = .next { s with buses := s.buses.put n { s.buses.get n with
      wakeMode := bit v 1
      sleepReq := true
      sleepT1 := 0 } }) ∧
  (∀ (s : State) (n : Fin 12) (v : BitVec 32), s.hostUp = true → n.val < 4 → bit v 0 = true → exec (.kSleepWrite n v) s = .next
    { s with buses := s.buses.put n { s.buses.get n with werr := true } }) ∧
  (∀ (s : State) (n : Fin 12) (v : BitVec 32), s.hostUp = true → 4 ≤ n.val → bit v 0 = false → (s.buses.get n).state = .sleep →
    (s.buses.get n).onWait = false → ∃ t, exec (.kSleepWrite n v) s = .next t ∧ t = { s with sup := t.sup, buses := t.buses } ∧
      (∀ k, k ≠ n → t.buses.get k = s.buses.get k) ∧ (t.buses.get n).onWait = true ∧ (t.buses.get n).sleepReq = false ∧
      (t.buses.get n).state = .sleep) ∧
  (∀ (s : State) (n : Fin 12) (v : BitVec 32) (b : Bus), s.hostUp = true → 4 ≤ n.val → bit v 0 = false → b = s.buses.get n → b.state ≠ .sleep →
    exec (.kSleepWrite n v) s = .next { s with buses := s.buses.put n { b with
      wakeMode := if b.sleepReq then b.wakeMode else bit v 1
      werr := b.werr || (b.sleepReq && bit v 1 != b.wakeMode)
      sleepReq := false
      sleepT1 := 0 } })

/-- The seven doorbells: the index of bits [15:0] is taken, or the write is ignored with DB_ERR or DB_LOST -/
def Obligations.DoorbellsMoveTheirIndex : Prop :=
  (∀ (s : State) (v : BitVec 32), s.hostUp = true → s.hi.hrdy = true → s.hi.en = true → v.toNat % 65536 < (s.hi.rings.get 0).size.toNat →
    exec (.dbCmdTail v) s = .next { s with hi := { s.hi with rings := s.hi.rings.put 0 { s.hi.rings.get 0 with tail := v.toNat % 65536 } } }) ∧
  (∀ (s : State) (v : BitVec 32), s.hostUp = true → s.hi.hrdy = true → s.hi.en = true → v.toNat % 65536 < (s.hi.rings.get 1).size.toNat →
    exec (.dbCallTail v) s = .next { s with hi := { s.hi with rings := s.hi.rings.put 1 { s.hi.rings.get 1 with tail := v.toNat % 65536 } } }) ∧
  (∀ (s : State) (v : BitVec 32) (cmd : Instr) (r : Fin 6), ((r = 2 ∧ cmd = .dbEvtHead v) ∨ (r = 3 ∧ cmd = .dbTelHead v) ∨ (r = 4 ∧ cmd = .dbLogHead v) ∨
    (r = 5 ∧ cmd = .dbCapHead v)) → s.hostUp = true → s.hi.hrdy = true → s.hi.en = true → v.toNat % 65536 < (s.hi.rings.get r).size.toNat →
    (v.toNat % 65536 + (s.hi.rings.get r).size.toNat - (s.hi.rings.get r).head) % (s.hi.rings.get r).size.toNat ≤
      ((s.hi.rings.get r).tail + (s.hi.rings.get r).size.toNat - (s.hi.rings.get r).head) % (s.hi.rings.get r).size.toNat →
    ∃ t : State, exec cmd s = .next t ∧ t = { s with hi := t.hi } ∧ (t.hi.rings.get r).head = v.toNat % 65536 ∧
      (t.hi.rings.get r).size = (s.hi.rings.get r).size ∧ t.hi.dbErr = s.hi.dbErr ∧ t.hi.dbLost = s.hi.dbLost ∧ t.hi.dbIgn = s.hi.dbIgn) ∧
  (∀ (s : State) (v : BitVec 32), s.hostUp = true → s.hi.hrdy = true → s.hi.en = true → v.toNat % 65536 < 16 →
    (v.toNat % 65536 + 16 - s.hi.cplHead) % 16 ≤ (s.hi.cplTail + 16 - s.hi.cplHead) % 16 →
    ∃ t : State, exec (.dbCplHead v) s = .next t ∧ t = { s with hi := t.hi } ∧ t.hi.cplHead = v.toNat % 65536 ∧
      t.hi.dbErr = s.hi.dbErr ∧ t.hi.dbLost = s.hi.dbLost ∧ t.hi.dbIgn = s.hi.dbIgn) ∧
  (∀ (s : State) (v : BitVec 32) (cmd : Instr) (r : Fin 6), ((r = 0 ∧ cmd = .dbCmdTail v) ∨ (r = 1 ∧ cmd = .dbCallTail v) ∨ (r = 3 ∧ cmd = .dbTelHead v) ∨
    (r = 4 ∧ cmd = .dbLogHead v) ∨ (r = 5 ∧ cmd = .dbCapHead v)) → s.hostUp = true → s.hi.hrdy = true → s.hi.en = true →
    ((s.hi.rings.get r).size.toNat ≤ v.toNat % 65536 ∨ (3 ≤ r.val ∧
      ((s.hi.rings.get r).tail + (s.hi.rings.get r).size.toNat - (s.hi.rings.get r).head) % (s.hi.rings.get r).size.toNat <
      (v.toNat % 65536 + (s.hi.rings.get r).size.toNat - (s.hi.rings.get r).head) % (s.hi.rings.get r).size.toNat)) →
    exec cmd s = .next { s with hi := { s.hi with dbIgn := s.hi.dbIgn + 1, dbErr := true } }) ∧
  (∀ (s : State) (v : BitVec 32) (cmd : Instr), (cmd = .dbCmdTail v ∨ cmd = .dbCallTail v ∨ cmd = .dbTelHead v ∨ cmd = .dbLogHead v ∨
    cmd = .dbCapHead v ∨ cmd = .dbCplHead v) → s.hostUp = true → (s.hi.hrdy = false ∨ s.hi.en = false) →
    exec cmd s = .next { s with hi := { s.hi with dbIgn := s.hi.dbIgn + 1, dbLost := true } }) ∧
  (∀ (s : State) (v : BitVec 32), s.hostUp = true → s.hi.hrdy = true → s.hi.en = true → (16 ≤ v.toNat % 65536 ∨
    (s.hi.cplTail + 16 - s.hi.cplHead) % 16 < (v.toNat % 65536 + 16 - s.hi.cplHead) % 16) →
    exec (.dbCplHead v) s = .next { s with hi := { s.hi with dbIgn := s.hi.dbIgn + 1, dbErr := true } }) ∧
  (∀ (s : State) (v : BitVec 32), s.hostUp = true → ∃ t : State, exec (.dbEvtHead v) s = .next t ∧
    ((s.hi.hrdy = false ∨ s.hi.en = false) → t = { s with hi := { s.hi with dbIgn := s.hi.dbIgn + 1, dbLost := true, hatn := t.hi.hatn } }) ∧
    (s.hi.hrdy = true → s.hi.en = true → ((s.hi.rings.get 2).size.toNat ≤ v.toNat % 65536 ∨
      ((s.hi.rings.get 2).tail + (s.hi.rings.get 2).size.toNat - (s.hi.rings.get 2).head) % (s.hi.rings.get 2).size.toNat <
      (v.toNat % 65536 + (s.hi.rings.get 2).size.toNat - (s.hi.rings.get 2).head) % (s.hi.rings.get 2).size.toNat) →
      t = { s with hi := { s.hi with dbIgn := s.hi.dbIgn + 1, dbErr := true, hatn := t.hi.hatn } }))

/-- HI_ENABLE and HI_DISABLE, the endpoint's resets, D3hot and an unaligned access -/
def Obligations.HostInterfaceComesAndGoes : Prop :=
  (∀ (s : State) (v : BitVec 32) (h : Hi), s.hostUp = true → s.hi.en = false → bit v 0 = true → h = { s.hi with msixEn := bit v 1, crcEn := bit v 2 } →
    State.enableOk { s with hi := h } = true → ∃ t : State, exec (.hiEnable v) s = .next t ∧ t = { s with hi := t.hi } ∧
      t.hi.en = true ∧ t.hi.enableSeq = s.hi.enableSeq + 1 ∧ t.hi.cplHead = 0 ∧ t.hi.cplTail = 0 ∧ (∀ r, (t.hi.rings.get r).head = 0) ∧
      (∀ r, r ≠ 2 → r ≠ 4 → (t.hi.rings.get r).tail = 0)) ∧
  (∀ (s : State) (v : BitVec 32) (h : Hi), s.hostUp = true → s.hi.en = false → bit v 0 = true → h = { s.hi with msixEn := bit v 1, crcEn := bit v 2 } →
    State.enableOk { s with hi := h } = false → exec (.hiEnable v) s = .next { s with hi := { h with cfgErr := true } }) ∧
  (∀ (s : State) (v : BitVec 32), s.hostUp = true → s.hi.en = true → bit v 0 = false → exec (.hiDisable v) s = .next { s with hi := { s.hi with
    werr := s.hi.werr || bit v 1 != s.hi.msixEn || bit v 2 != s.hi.crcEn
    en := false
    waiting := []
    calls := []
    cplWait := []
    tags := Tab.all 0
    telHeld := []
    running := s.hi.running.map fun r => { r with silent := true } } }) ∧
  (∀ (s : State) (k : EndpointReset), s.mod ≠ .off → ∃ u t : State, u = (if k == .linkDown && s.hi.en then s.raise 0xA0 2 1 0 0 else s) ∧
    exec (.perst k) s = .next t ∧ t = { u with hi := t.hi } ∧
    t.hi.en = false ∧ (∀ r, t.hi.rings.get r = Ring.zero) ∧ (∀ v, t.hi.vecs.get v = Vec.zero) ∧ t.hi.cplTail = 0 ∧ t.hi.msixEn = false ∧
    t.hi.waiting = [] ∧ t.hi.calls = [] ∧ t.hi.d3 = false ∧ t.hi.evtLost = 0 ∧ t.hi.telDrop = 0 ∧ t.hi.capDrop = 0 ∧ t.hi.dbIgn = 0 ∧
    t.hi.hatn = (u.hi.hatn && (u.hi.fHeld || (u.hi.rings.get 2).data.any evtFatal)) ∧
    t.hi.running = u.hi.running.map (fun r => { r with silent := true }) ∧ t.hi.evtSeq = u.hi.evtSeq ∧ t.hi.backlog = u.hi.backlog) ∧
  (∀ (s : State), s.mod ≠ .off → s.pd 1 = true → exec (.pciPowerStateChange true) s = .next { s with hi := { s.hi with d3 := true } }) ∧
  (∀ (s : State), s.mod ≠ .off → s.pd 1 = true → ∃ t : State, exec (.pciPowerStateChange false) s = .next t ∧ t = { s with hi := t.hi } ∧
    t.hi.d3 = false ∧ t.ringsRun = s.hi.en ∧ (s.hi.en = false → t = { s with hi := { s.hi with d3 := false } })) ∧
  (∀ (s : State) (d3 : Bool), (s.mod = .off ∨ s.pd 1 = false) → exec (.pciPowerStateChange d3) s = .next s) ∧
  (∀ (s : State) (w : Bool) (a : BitVec 16), s.hostUp = true → exec (.unalignedAccess w a) s = .next { s with hi := { s.hi with accErr := true } })

/-- CMD_FETCH, CALL_FETCH, STATUS_BLOCK_WRITE, IRQ_MODERATION_END and HOST_MEMORY_ACCESS_DONE -/
def Obligations.HostRingsAreServed : Prop :=
  (∀ (s : State) (b : List Byte), s.mayFetch 0 .cmd = true → s.inExec < 64 → ∃ (t u : State) (ok : Bool),
    t = { s with hi := { s.hi with
      tags := s.hi.tags.put 0 (s.hi.tags.get 0 + 1)
      rings := s.hi.rings.put 0 { s.hi.rings.get 0 with head := ((s.hi.rings.get 0).head + 1) % (s.hi.rings.get 0).size.toNat } } } ∧
    ok = (s.cvUsable 14 && cv (BitVec.ofNat 32 (s.hi.rings.get 0).head) (b.take 60) == (readEntry b).crc) ∧
    u = (if s.hi.crcEn then t.useCv 14 ok else t) ∧
    exec (.cmdFetch b) s = .next
      (if s.hi.crcEn && !ok then u.complete ⟨0, (readEntry b).opcode, 3, 0x82, (readEntry b).tag, 0⟩
      else if opcodes.contains (readEntry b).opcode.toNat = false then u.complete ⟨0, (readEntry b).opcode, 3, 0x80, (readEntry b).tag, 0⟩
      else { u with hi := { u.hi with waiting := u.hi.waiting ++ [readEntry b] } })) ∧
  (∀ (s : State) (b : List Byte), (64 ≤ s.inExec ∨ s.mayFetch 0 .cmd = false) → exec (.cmdFetch b) s = .next s) ∧
  (∀ (s : State) (b : List Byte), s.mayFetch 1 .call = true → exec (.callFetch b) s = .next { s with hi := { s.hi with
      tags := s.hi.tags.put 1 (s.hi.tags.get 1 + 1)
      rings := s.hi.rings.put 1 { s.hi.rings.get 1 with head := ((s.hi.rings.get 1).head + 1) % (s.hi.rings.get 1).size.toNat }
      calls := s.hi.calls ++ [b] } }) ∧
  (∀ (s : State), s.ringsRun = true → s.hi.tags.get 6 < 4 → ∃ t : State, exec .statusBlockWrite s = .next t ∧ t = { s with hi := t.hi } ∧
    t.hi.sbOld = s.statusBytes ∧ t.hi.tags = s.hi.tags.put 6 (s.hi.tags.get 6 + 1) ∧ t.hi.hatn = (s.hi.hatn || s.hatnDue) ∧
    t.hi.rings = s.hi.rings) ∧
  (∀ (s : State) (b : List Byte), s.mayFetch 1 .call = false → exec (.callFetch b) s = .next s) ∧
  (∀ (s : State) (v : Fin 16) (x : Vec), x = s.hi.vecs.get v → exec (.irqModerationEnd v) s = .next { s with hi := { s.hi with
    vecs := s.hi.vecs.put v (if x.want && s.hi.msixEn then
        (if x.masked then { x with holdoff := false, pba := true, want := false }
        else { x with sent := x.sent + 1, want := false, holdoff := s.hi.irqMod ≠ 0 })
      else { x with holdoff := false }) } }) ∧
  (∀ (s : State) (c : TagClass) (r : AccessResult), ∃ u v : State,
    u = State.drainTel (State.drainLog (State.drainEvt { s with hi := { s.hi with
      tags := s.hi.tags.put (tagIx c) (s.hi.tags.get (tagIx c) - 1) } })) ∧
    v = { u with hi := { u.hi with dmaErr := true, timeouts := if r = .timeout then u.hi.timeouts + 1 else u.hi.timeouts } } ∧
    exec (.hostMemoryAccessDone c r) s = .next
      (match r with
        | .ok => u
        | .error addr ring => v.raise 0xA0 1 1 addr ring.val
        | .timeout => if u.hi.timeouts = 2 then v.raise 0xA0 3 2 0 0 else v))

/-- At most one image in reception, verification or pending; the host may cancel a pending one, and its slot is marked empty -/
def Obligations.OneImageAtATimeAndItsCancel : Prop :=
  (∀ (s n : State) (e : CmdEntry) (d : List Byte), s.Starts n 0x10 e true →
    (s.mod = .config ∨ s.mod = .active ∨ s.mod = .witness ∨ s.mod = .safeHold) → s.img.state = .idle → d.length = e.dataLen.toNat →
    exec (.loadImage e (some d)) s = .next { n with
      img := { s.img with state := .verifying, work := some (d, .host) }
      hi := { n.hi with running := n.hi.running ++ [⟨e, false⟩] } }) ∧
  (∀ (s n : State) (e : CmdEntry) (d : Option (List Byte)), s.Starts n 0x10 e true →
    (s.mod = .config ∨ s.mod = .active ∨ s.mod = .witness ∨ s.mod = .safeHold) → s.img.state ≠ .idle →
    exec (.loadImage e d) s = .next (State.answer { n with img := { s.img with reject := 0x0F } } e .refused 0x0F)) ∧
  (∀ (s n : State) (e : CmdEntry) (p : PendingImg), s.Starts n 0x11 e true → s.img.pending = some p → p.origin = .host →
    ∃ u : State, exec (.cancelImage e) s = .next (u.answer e .done 0) ∧ u = { s with
      img := { s.img with state := .idle, reject := 0x10, pending := none, slots := s.img.slots.put p.slot none }
      tw := { s.tw with imgTx := none }
      hi := u.hi
      freeCtr := u.freeCtr })

/-- IMAGE_VERIFIED, PEER_VERIFY_RESULT and IMAGE_NOT_QUIET -/
def Obligations.ImagesAreVerifiedAndPending : Prop :=
  (∀ (s : State) (bs : List Byte) (o : ImgOrigin) (flashOk : Bool), s.img.state = .verifying → s.img.work = some (bs, o) →
    (s.pwr.derate = false ∨ o ≠ .host) → ∃ t : State, exec (.imageVerified flashOk) s = .next t ∧ t.model = s.model ∧ t.img.work = none ∧
    (match (s.verifyCode bs o).or (if flashOk then none else some 0x0B) with
      | some c => t.img.state = .idle ∧ t.img.reject = BitVec.ofNat 8 c ∧ t.img.pending = none ∧
          t.img.slots = (match s.img.pending with | some p => s.img.slots.put p.slot none | none => s.img.slots)
      | none => t.img.state = .pending ∧ t.img.reject = s.img.reject ∧ t.img.slots = s.img.slots.put s.slotFor (some bs) ∧
          ∃ p, t.img.pending = some p ∧ p.model = readModel bs ∧ p.slot = s.slotFor ∧ p.origin = o)) ∧
  (∀ (s : State) (flashOk : Bool), (s.img.state ≠ .verifying ∨ s.img.work = none ∨ (s.pwr.derate = true ∧ ∃ bs, s.img.work = some (bs, .host))) →
    exec (.imageVerified flashOk) s = .next s) ∧
  (∀ (s : State) (p : PendingImg), s.mod = .active → s.img.pending = some p → p.origin = .host → p.peerOk = false →
    exec (.peerVerifyResult 0 p.model.digest) s = .next { s with
      img := { s.img with pending := some { p with peerOk := true, applyT2 := some (s.tick.t2 + 2) } }
      tw := { s.tw with imgOwe := s.tw.imgOwe ++ [(0xFFFFFFFF, leBytes 4 (s.tick.t2 + 2).toNat ++ leBytes 4 p.model.seq.toNat)] } }) ∧
  (∀ (s : State) (p : PendingImg) (code : BitVec 8) (d : List Byte), s.mod = .active → s.img.pending = some p → p.origin = .host → p.peerOk = false →
    (code ≠ 0 ∨ d ≠ p.model.digest) → ∃ t : State, exec (.peerVerifyResult code d) s = .next t ∧ t.img.pending = none ∧ t.img.reject = 0x0C ∧
      t.img.slots = s.img.slots.put p.slot none ∧ t = { s with img := t.img, hi := t.hi, tw := t.tw, freeCtr := t.freeCtr }) ∧
  (∀ (s : State) (code : BitVec 8) (d : List Byte), (s.mod ≠ .active ∨ s.img.pending = none ∨
    ∃ p, s.img.pending = some p ∧ (p.origin ≠ .host ∨ p.peerOk = true)) → exec (.peerVerifyResult code d) s = .next s) ∧
  (∀ (s : State) (p : PendingImg), s.img.pending = some p → 1000 ≤ p.waited → ∃ t : State, exec .imageNotQuiet s = .next t ∧ t.img.pending = none ∧
    t.img.reject = 0x0D ∧ t.img.slots = s.img.slots.put p.slot none ∧ t = { s with img := t.img, hi := t.hi, tw := t.tw, freeCtr := t.freeCtr }) ∧
  (∀ (s : State), (s.img.pending = none ∨ ∃ p, s.img.pending = some p ∧ p.waited < 1000) → exec .imageNotQuiet s = .next s)

/-- NOP, READ_PROPOSAL, RAW_SEND, BUS_RECOVER, CLEAR_RETIRED, and the PARAM and STANDBY refusals -/
def Obligations.PlainCommandsAreAnswered : Prop :=
  (∀ (s n : State) (e : CmdEntry), s.Starts n 0x01 e true →
    exec (.nop e) s = .next (if s.hi.hrdy then n.answer e .done 0 s.tick.t0 else n.answer e .refused 0x83)) ∧
  (∀ (s n : State) (e : CmdEntry) (p : Proposal), s.Starts n 0x12 e (e.arg0.toNat ≤ 1) → s.proposal? e.arg2 = some p → p.bytes.length ≤ e.dataLen.toNat →
    exec (.readProposal e) s = .next (State.answer { n with
      hi := { n.hi with dataOut := some (e.dataAddr, p.bytes) }
      img := { s.img with props := if e.arg0 = 1 then s.img.props.filter (·.id ≠ p.id) else s.img.props } } e .done 0
      (BitVec.ofNat 32 p.bytes.length))) ∧
  (∀ (s n : State) (e : CmdEntry), s.Starts n 0x12 e (e.arg0.toNat ≤ 1) → (∀ p, s.proposal? e.arg2 = some p → e.dataLen.toNat < p.bytes.length) →
    exec (.readProposal e) s = .next (n.answer e .refused (if s.proposal? e.arg2 = none then 0x8A else 0x8C))) ∧
  (∀ (s n : State) (e : CmdEntry) (d : List Byte) (c : Fin 12) (r : BusRec) (ext fd brs : Bool), e.arg0.toNat = c.val → e.arg1.toNat ≤ 7 →
    ext = e.arg1.getLsbD 0 → fd = e.arg1.getLsbD 1 → brs = e.arg1.getLsbD 2 → (brs = true → fd = true) →
    (if ext then e.arg2.toNat < 2 ^ 29 ∧ 0x800 ≤ e.arg2.toNat % 4096 else e.arg2.toNat < 0x800) → rawLenOk fd e.dataLen.toNat = true →
    s.Starts n 0x40 e true → s.rawPending c < 32 → s.busRec c = some r → r.raw = true → (fd = true → r.fd = true) → (brs = true → r.brs = true) →
    txLive (s.buses.get c) = true → d.length = e.dataLen.toNat → exec (.rawSend e (some d)) s = .next (State.queue (n.startRunning e) c
      ⟨ext, fd, brs, BitVec.ofNat 29 e.arg2.toNat, d, false, 0xFFFF, none, some e.tag, none⟩)) ∧
  (∀ (s n : State) (e : CmdEntry) (d : Option (List Byte)) (c : Fin 12), e.arg0.toNat = c.val → e.arg1.toNat ≤ 3 →
    (if e.arg1.getLsbD 0 then e.arg2.toNat < 2 ^ 29 ∧ 0x800 ≤ e.arg2.toNat % 4096 else e.arg2.toNat < 0x800) →
    rawLenOk (e.arg1.getLsbD 1) e.dataLen.toNat = true → s.Starts n 0x40 e true → (32 ≤ s.rawPending c ∨ s.busRec c = none ∨
      txLive (s.buses.get c) = false ∨ ∃ r, s.busRec c = some r ∧ (r.raw = false ∨ e.arg1.getLsbD 1 = true ∧ r.fd = false)) →
    exec (.rawSend e d) s = .next (n.answer e .refused (if 32 ≤ s.rawPending c then 0x89 else 0x8E))) ∧
  (∀ (s n : State) (e : CmdEntry) (c : Fin 12) (r : BusRec), e.arg0.toNat = c.val → s.Starts n 0x41 e true → (s.buses.get c).state = .busoff →
    s.busRec c = some r → r.boff = 2 → exec (.busRecover e) s = .next { n with
      buses := s.buses.put c { s.buses.get c with state := .recover }
      hi := { n.hi with running := n.hi.running ++ [⟨e, false⟩] } }) ∧
  (∀ (s n : State) (e : CmdEntry) (c : Fin 12), e.arg0.toNat = c.val → s.Starts n 0x41 e true → ((s.buses.get c).state ≠ .busoff ∨
    (∀ r, s.busRec c = some r → r.boff ≠ 2)) → exec (.busRecover e) s = .next (n.answer e .refused 0x8E)) ∧
  (∀ (s n : State) (e : CmdEntry) (us : List TestUnit) (m : Model), s.model = some m → s.Starts n 0x50 e (clearArgs e) → s.mod = .active →
    s.seal0 = true → s.fc.clearing = none → us = s.namedUnits e → (us ≠ [] ∨ e.arg0 = 0xFF) →
    (∀ u ∈ us, ∀ c ∈ State.unitCars m u, (s.modes.get c).mode = 11) → ∃ (t : State) (tested : List TestUnit),
    tested = us.filter (fun u => match u with | .resetInput _ => false | _ => true) ∧
    t = { n with fc := { s.fc with
      retired := s.fc.retired.filter (!us.contains ·)
      hist := s.fc.hist.filter (!us.contains ·.1)
      flashDue := true } } ∧
    exec (.clearRetired e) s = .next (if tested = [] then t.answer e .done 0
      else State.each (State.startRunning { t with fc := { t.fc with clearing := some (tested, false) } } e) tested fun s u =>
        s.scheduleTest u (BitVec.ofNat 10 (ownSource u).1) (BitVec.ofNat 8 (ownSource u).2) (ownContext u) true)) ∧
  (∀ (s : State) (e : CmdEntry), s.canStart 0x01 e = true → paramOk e true = false →
    exec (.nop e) s = .next ((s.takeEntry e).answer e .refused 0x81)) ∧
  (∀ (s : State) (e : CmdEntry), s.canStart 0x41 e = true → paramOk e (e.arg0.toNat < 12) = true → s.mod = .standby →
    exec (.busRecover e) s = .next ((s.takeEntry e).answer e .refused 0x8B))

/-- SET_MODE, CLEAR_MODE and CLEAR_DISPATCH_HOLD of a present car in ACTIVE, and their refusals -/
def Obligations.ModeCommandsActOnTheRequests : Prop :=
  (∀ (s n : State) (e : CmdEntry) (m : Model) (c : Fin 16) (r : PolicyRec), s.StartsFor n 0x20 e (e.arg0.toNat ≤ 11) m c →
    e.arg0.toNat ∈ hostModes → (e.arg0 = 11 → s.seal0 = true ∧ s.quietM3 m c = true) → m.policy? c = some r → r.hostAllow.getLsbD e.arg0.toNat = true → exec (.setMode e) s = .next { n with
      modes := s.modes.put c { s.modes.get c with
        host := (s.modes.get c).host ||| (1 <<< e.arg0.toNat)
        setCmds := (s.modes.get c).setCmds ++ [(e, e.arg0.toNat, 0)] }
      hi := { n.hi with running := n.hi.running ++ [⟨e, false⟩] } }) ∧
  (∀ (s n : State) (e : CmdEntry) (m : Model) (c : Fin 16), s.StartsFor n 0x20 e (e.arg0.toNat ≤ 11) m c → e.arg0 = 0 →
    exec (.setMode e) s = .next { n with
      modes := s.modes.put c { s.modes.get c with host := 0, setCmds := (s.modes.get c).setCmds ++ [(e, 0, 0)] }
      hi := { n.hi with running := n.hi.running ++ [⟨e, false⟩] } }) ∧
  (∀ (s n : State) (e : CmdEntry) (m : Model) (c : Fin 16), s.StartsFor n 0x20 e (e.arg0.toNat ≤ 11) m c → e.arg0 ≠ 0 →
    (e.arg0.toNat ∉ hostModes ∨ (∀ r, m.policy? c = some r → r.hostAllow.getLsbD e.arg0.toNat = false)) → exec (.setMode e) s = .next (State.answer
      { n with modes := s.modes.put c { s.modes.get c with refused := (s.modes.get c).refused + 1 } } e .refused 0x40)) ∧
  (∀ (s n : State) (e : CmdEntry) (m : Model) (c : Fin 16) (r : PolicyRec), s.StartsFor n 0x20 e (e.arg0.toNat ≤ 11) m c → e.arg0.toNat = 11 →
    m.policy? c = some r → r.hostAllow.getLsbD 11 = true → (s.seal0 = false ∨ s.quietM3 m c = false) → exec (.setMode e) s = .next (State.answer
      { n with modes := s.modes.put c { s.modes.get c with refused := (s.modes.get c).refused + 1 } } e .refused (if s.seal0 then 0x41 else 0x42))) ∧
  (∀ (s n : State) (e : CmdEntry) (m : Model) (c : Fin 16), s.StartsFor n 0x21 e (e.arg0.toNat = 3 || e.arg0.toNat = 8) m c → e.arg0 = 8 →
    exec (.clearMode e) s = .next (if s.groupIn m c 0x14
      then State.answer { n with modes := s.modes.put c { s.modes.get c with refused := (s.modes.get c).refused + 1 } } e .refused 0x43
      else State.answer { n with modes := s.modes.put c { s.modes.get c with clear8 := true } } e .done 0)) ∧
  (∀ (s n : State) (e : CmdEntry) (m : Model) (c : Fin 16), s.StartsFor n 0x21 e (e.arg0.toNat = 3 || e.arg0.toNat = 8) m c → e.arg0 = 3 →
    ((s.modes.get c).hold = false ∨ s.holdPersists m c = true) → exec (.clearMode e) s = .next (if (s.modes.get c).hold
      then State.answer { n with modes := s.modes.put c { s.modes.get c with refused := (s.modes.get c).refused + 1 } } e .refused 0x43
      else n.answer e .done 0)) ∧
  (∀ (s n : State) (e : CmdEntry) (m : Model) (c : Fin 16), s.StartsFor n 0x21 e (e.arg0.toNat = 3 || e.arg0.toNat = 8) m c → e.arg0 = 3 →
    (s.modes.get c).hold = true → s.holdPersists m c = false → ∃ t : State, exec (.clearMode e) s = .next (t.answer e .done 0) ∧
      t = { n with modes := s.modes.put c { s.modes.get c with hold := false }, lv := t.lv, coreTest := t.coreTest, freeCtr := t.freeCtr } ∧
      (t.lv.get c).hold = false ∧ (t.lv.get c).holdCause = 0 ∧ (t.lv.get c).tests = State.StartTests.first ∧
      (∀ d, d ≠ c → (t.lv.get d).hold = (s.lv.get d).hold)) ∧
  (∀ (s n : State) (e : CmdEntry) (m : Model) (c : Fin 16), s.StartsFor n 0x22 e true m c → (State.heldOut (s.cars.get c).holds = true ∨ ∃ d ∈ State.carSides m c, (s.sides.get d).held = true) →
    ∃ t : State, exec (.clearDispatchHold e) s = .next (t.answer e .done 0) ∧ t = { n with cars := t.cars, sides := t.sides } ∧
      t.cars = s.cars.put c { s.cars.get c with holds := ⟨false, false, false, false, false⟩ } ∧
      (∀ d, (t.sides.get d).state = (s.sides.get d).state) ∧ (t.sides.get (front c)).held = false ∧ (t.sides.get (rear c)).held = false) ∧
  (∀ (s n : State) (e : CmdEntry) (m : Model) (c : Fin 16), s.StartsFor n 0x22 e true m c → State.heldOut (s.cars.get c).holds = false →
    (∀ d ∈ State.carSides m c, (s.sides.get d).held = false) → exec (.clearDispatchHold e) s = .next (n.answer e .refused 0x8A))

/-- RUN, DOOR and DOOR_RESET of a present car in ACTIVE, and a door request outside the door zone -/
def Obligations.RunsAndDoorsAreCommanded : Prop :=
  (∀ (s n : State) (e : CmdEntry) (m : Model) (c : Fin 16), s.StartsFor n 0x23 e true m c → e.arg0.toNat ∈ m.servedLandings c →
    (s.modes.get c).mode = 11 → s.carStill m c = true → s.doorsClosed m c = true → 2 ≤ Health.rank (s.cars.get c).health →
    (s.modes.get c).runCmd = none → s.hoistIdle c = true → (s.cars.get c).spec.kind = .none → (s.lv.get c).bt.phase = 0 →
    ∃ t : State, exec (.run e) s = .next t ∧ t = { n with axes := t.axes, modes := t.modes, hi := t.hi } ∧
      t.hi = { n.hi with running := n.hi.running ++ [⟨e, false⟩] } ∧ t.modes = s.modes.put c { s.modes.get c with runCmd := some e } ∧
      (∀ k, k ≠ hoist c → t.axes.get k = s.axes.get k) ∧ ∃ r, (t.axes.get (hoist c)).req.run = some r ∧ r.target = m.level e.arg0.toNat ∧
      r.kind = .normal ∧ r.dest = some e.arg0.toNat) ∧
  (∀ (s n : State) (e : CmdEntry) (m : Model) (c : Fin 16),
    s.StartsFor n 0x24 e (1 ≤ e.arg0.toNat && e.arg0.toNat ≤ 3 && e.arg1.toNat ≤ 1) m c →
    (∀ d ∈ maskSides c e.arg0, m.sideFitted c (State.sideNo d) = true ∧ (s.sides.get d).state ≠ .fault ∧ (s.sides.get d).state ≠ .stopped ∧
      (e.arg1 = 0 → s.openPlace m d = true ∧ s.openValid m d = true)) →
    State.doorMode (s.modes.get c) = true → s.hoistAtRest c = true → (s.modes.get c).doorCmd = [] → exec (.door e) s = .next { n with
      modes := s.modes.put c { s.modes.get c with doorCmd := [(e, e.arg1.toNat)] }
      hi := { n.hi with running := n.hi.running ++ [⟨e, false⟩] } }) ∧
  (∀ (s n : State) (e : CmdEntry) (m : Model) (c : Fin 16) (d : Fin 32),
    s.StartsFor n 0x24 e (1 ≤ e.arg0.toNat && e.arg0.toNat ≤ 3 && e.arg1.toNat ≤ 1) m c → e.arg1 = 0 →
    (∀ d ∈ maskSides c e.arg0, m.sideFitted c (State.sideNo d) = true) → d ∈ maskSides c e.arg0 → s.openPlace m d = false →
    exec (.door e) s = .next (n.answer e .refused 0x86)) ∧
  (∀ (s n : State) (e : CmdEntry) (m : Model) (c : Fin 16) (d : Fin 32) (i : Nat) (k : Conn), s.StartsFor n 0x25 e (e.arg0.toNat ≤ 1) m c →
    d = (if e.arg0 = 0 then front c else rear c) → m.sideFitted c (State.sideNo d) = true → (s.sides.get d).state = .fault →
    s.donConn? m d = some (i, k) → connUp k = true → (s.sides.get d).nStatus.getLsbD 0 = true → (s.sides.get d).nStatus.getLsbD 1 = false →
    exec (.doorReset e) s = .next (State.answer { n with sides := s.sides.put d { s.sides.get d with state := .unref, buzzer := false, ref := false } } e .done 0))

/-- LEARN_SHAFT, LEARN_DOORS, LEARN_CANCEL and BRAKE_TEST of a present car in ACTIVE -/
def Obligations.LearningAndBrakeTestCommands : Prop :=
  (∀ (s n : State) (e : CmdEntry) (m : Model) (c : Fin 16), s.StartsFor n 0x30 e true m c → s.learnRefusal m c = none →
    ∃ t : State, exec (.learnShaft e) s = .next t ∧ t = { n with cars := t.cars, axes := t.axes, hi := t.hi } ∧
      t.hi = { n.hi with running := n.hi.running ++ [⟨e, false⟩] } ∧ (t.cars.get c).spec.kind = .learn ∧ (t.cars.get c).spec.leg = 1 ∧
      (t.cars.get c).spec.up = true ∧ (∀ d, d ≠ c → t.cars.get d = s.cars.get d) ∧ (∀ k, k ≠ hoist c → t.axes.get k = s.axes.get k)) ∧
  (∀ (s n : State) (e : CmdEntry) (m : Model) (c : Fin 16) (code : Nat), s.StartsFor n 0x30 e true m c → s.learnRefusal m c = some code →
    exec (.learnShaft e) s = .next (n.answer e .refused code)) ∧
  (∀ (s n : State) (e : CmdEntry) (m : Model) (c : Fin 16), s.StartsFor n 0x31 e (1 ≤ e.arg0.toNat && e.arg0.toNat ≤ 3 && 4 ≤ e.arg1.toNat &&
      e.arg1.toNat ≤ 32 && !(maskLandings e).isEmpty && zeroAt e.param 16 16) m c →
    (∀ d ∈ maskSides c e.arg0, m.sideFitted c (State.sideNo d) = true ∧ ∀ l ∈ maskLandings e, m.serves c (State.sideNo d) l = true) →
    ((s.modes.get c).mode = 0 ∨ (s.modes.get c).mode = 11) → s.learn.get c = none →
    ∃ t : State, exec (.learnDoors e) s = .next t ∧ t = { n with learn := t.learn, sides := t.sides, hi := t.hi } ∧
      t.hi = { n.hi with running := n.hi.running ++ [⟨e, false⟩] } ∧ t.learn = s.learn.put c (some ⟨e, e.arg1.toNat⟩) ∧
      (∀ d ∈ maskSides c e.arg0, (t.sides.get d).learn.map (·.landing) = maskLandings e ∧ ∀ x ∈ (t.sides.get d).learn, x.clean = 0 ∧ x.done = false) ∧
      (∀ d, d ∉ maskSides c e.arg0 → t.sides.get d = s.sides.get d)) ∧
  (∀ (s n : State) (e : CmdEntry) (m : Model) (c : Fin 16) (l : DoorLearnCmd), s.StartsFor n 0x32 e true m c → (s.cars.get c).spec.kind ≠ .learn →
    s.learn.get c = some l → ∃ t : State, exec (.learnCancel e) s = .next (t.answer e .done 0) ∧
      t = { n with learn := s.learn.put c none, sides := t.sides, hi := t.hi, freeCtr := t.freeCtr } ∧
      (t.sides.get (front c)).learn = [] ∧ (t.sides.get (rear c)).learn = []) ∧
  (∀ (s n : State) (e : CmdEntry) (m : Model) (c : Fin 16), s.StartsFor n 0x32 e true m c → (s.cars.get c).spec.kind = .learn →
    ∃ t : State, exec (.learnCancel e) s = .next (t.answer e .done 0) ∧
      (t.cars.get c).spec = SpecRun.idle ∧ (∀ d, d ≠ c → t.cars.get d = s.cars.get d) ∧ t.learn.get c = none ∧ t.modes = s.modes ∧ t.lv = s.lv ∧
      ((s.axes.get (hoist c)).state ≠ .idle → (t.axes.get (hoist c)).req.cstop = true)) ∧
  (∀ (s n : State) (e : CmdEntry) (m : Model) (c : Fin 16), s.StartsFor n 0x32 e true m c → (s.cars.get c).spec.kind ≠ .learn →
    s.learn.get c = none → exec (.learnCancel e) s = .next (n.answer e .refused 0x8A)) ∧
  (∀ (s n : State) (e : CmdEntry) (m : Model) (c : Fin 16), s.StartsFor n 0x33 e (200 ≤ e.arg1.toNat && e.arg1.toNat ≤ 1500) m c →
    s.seals.now.getLsbD 1 = true → (s.modes.get c).mode = 11 → State.btReady (s.lv.get c) (s.lvSrc m c (s.lv.get c)) = true →
    s.hoistIdle c = true → (s.lv.get c).bt.phase = 0 → (s.modes.get c).runCmd = none → (s.cars.get c).spec.kind = .none →
    ∃ t : State, exec (.brakeTest e) s = .next t ∧ t = { n with lv := t.lv, hi := t.hi } ∧
      t.hi = { n.hi with running := n.hi.running ++ [⟨e, false⟩] } ∧ (∀ d, d ≠ c → t.lv.get d = s.lv.get d) ∧
      t.lv.get c = { s.lv.get c with bt := { (s.lv.get c).bt with
        phase := 1
        circuit := 1
        torque := e.arg1.toNat
        age := 0
        p0 := (s.lv.get c).pos
        e := some e
        res1 := 0
        res2 := 0
        maxSlip := 0
        retry := none } })

/-- INJECT, IDENTIFY and INJECT_ABORT, and the start, completion, timeout and fit of an injection -/
def Obligations.InjectionsRunAndEnd : Prop :=
  (∀ (s n : State) (e : CmdEntry) (m : Model) (k : Fin 48), s.Starts n 0x34 e true → s.model = some m → fld e.param 0 1 = k.val →
    s.injectCode m k e false = none → exec (.inject e) s = .next { n with
      lanes := s.lanes.put k { s.lanes.get k with injection := some (State.injectOf e none (s.lanes.get k).set) }
      injStat := ⟨BitVec.ofNat 6 k.val, 1, 0⟩
      hi := { n.hi with running := n.hi.running ++ [⟨e, false⟩] } }) ∧
  (∀ (s n : State) (e : CmdEntry) (m : Model) (k : Fin 48) (code op : Nat) (b : Bool) (cmd : Instr),
    (b = false ∧ op = 0x34 ∧ cmd = .inject e ∨ b = true ∧ op = 0x36 ∧ cmd = .identify e) → s.Starts n op e true → s.model = some m →
    fld e.param 0 1 = k.val → s.injectCode m k e b = some code → exec cmd s = .next (State.answer
      { n with injStat := ⟨BitVec.ofNat 6 k.val, BitVec.ofNat 8 code, 0⟩ } e .refused code)) ∧
  (∀ (s n : State) (e : CmdEntry) (op : Nat) (cmd : Instr), (op = 0x34 ∧ cmd = .inject e ∨ op = 0x36 ∧ cmd = .identify e) →
    s.Starts n op e true → (48 ≤ fld e.param 0 1 ∨ s.model = none) → ∃ code, code = (if 48 ≤ fld e.param 0 1 then 0x12 else 0x13) ∧
    exec cmd s = .next (State.answer { n with injStat := { s.injStat with result := BitVec.ofNat 8 code } } e .refused code)) ∧
  (∀ (s n : State) (e : CmdEntry) (m : Model) (k : Fin 48) (u : Fin 4), s.Starts n 0x36 e true → s.model = some m → fld e.param 0 1 = k.val →
    s.injectCode m k e true = none → s.freeCapu = some u → exec (.identify e) s = .next { n with
      lanes := s.lanes.put k { s.lanes.get k with injection := some (State.injectOf e (some u) (s.lanes.get k).set) }
      capus := s.capus.put u { s.capus.get u with state := 6, taken := [], samples := [] }
      injStat := ⟨BitVec.ofNat 6 k.val, 1, 0⟩
      hi := { n.hi with running := n.hi.running ++ [⟨e, false⟩] } }) ∧
  (∀ (s n : State) (e : CmdEntry) (k : Fin 48) (j : Inject), e.arg0.toNat = k.val → s.Starts n 0x35 e true → (s.lanes.get k).injection = some j →
    exec (.injectAbort e) s = .next (State.answer (State.finish { n with
      lanes := s.lanes.put k { s.lanes.get k with injection := none }
      capus := (match j.identify with | some u => s.capus.put u { s.capus.get u with state := 0, taken := [] } | none => s.capus)
      injStat := ⟨BitVec.ofNat 6 k.val, 0x23, BitVec.ofNat 16 (min j.i 65535)⟩ } j.e .aborted 0x23) e .done 0)) ∧
  (∀ (s n : State) (e : CmdEntry) (k : Fin 48), e.arg0.toNat = k.val → s.Starts n 0x35 e true → (s.lanes.get k).injection = none →
    exec (.injectAbort e) s = .next (n.answer e .refused 0x8A)) ∧
  (∀ (s : State) (k : Fin 48) (j : Inject), (s.lanes.get k).injection = some j → j.started = false → (s.axes.get k).state = .run →
    ∃ t : State, exec (.injectionStart k) s = .next t ∧ t = { s with lanes := t.lanes, capus := t.capus } ∧
      t.lanes = s.lanes.put k { s.lanes.get k with injection := some { j with started := true, set0 := (s.lanes.get k).set } } ∧
      ∀ u : Fin 4, (t.capus.get u) = { s.capus.get u with fired := (s.capus.get u).fired || (State.waits (s.capus.get u) 1 &&
        (((s.capus.get u).rwc.rate = 0 && (s.capus.get u).rwc.unitSel.toNat = k.val) || j.capu.getLsbD u.val)) }) ∧
  (∀ (s : State) (k : Fin 48), ((s.lanes.get k).injection = none ∨ (s.axes.get k).state ≠ .run) → exec (.injectionStart k) s = .next s) ∧
  (∀ (s : State) (k : Fin 48) (j : Inject), (s.lanes.get k).injection = some j → j.started = true → j.dur ≤ j.i →
    exec (.injectionComplete k) s = .next (if j.identify = none then State.finish { s with
        lanes := s.lanes.put k { s.lanes.get k with injection := none }
        injStat := ⟨BitVec.ofNat 6 k.val, 0x02, BitVec.ofNat 16 (min j.i 65535)⟩ } j.e .done 0x02
      else { s with injStat := ⟨BitVec.ofNat 6 k.val, 0x02, BitVec.ofNat 16 (min j.i 65535)⟩ })) ∧
  (∀ (s : State) (k : Fin 48) (j : Inject), (s.lanes.get k).injection = some j → j.started = false → 30000 ≤ j.wait →
    exec (.injectionWaitTimeout k) s = .next (State.finish { s with
      lanes := s.lanes.put k { s.lanes.get k with injection := none }
      capus := (match j.identify with | some u => s.capus.put u { s.capus.get u with state := 0, taken := [] } | none => s.capus)
      injStat := ⟨BitVec.ofNat 6 k.val, 0x22, BitVec.ofNat 16 (min j.i 65535)⟩ } j.e .aborted 0x22)) ∧
  (∀ (s : State) (m : Model) (k : Fin 48) (j : Inject) (u : Fin 4), s.model = some m → (s.lanes.get k).injection = some j → j.identify = some u →
    j.started = true → j.dur ≤ j.i → ∃ (n : State) (ok : Bool),
      ok = (State.identifyProposal (s.laneRec m k) (isHoist k) j.set0 (s.capus.get u).taken).isSome ∧
      exec (.identifyFit k) s = .next (if ok then n.finish j.e .done 0x02 (s.img.nextProp + 1) else n.finish j.e .failed 0x30) ∧
      n = { s with lanes := n.lanes, capus := n.capus, injStat := n.injStat, hi := n.hi, img := n.img, cvs := n.cvs, freeCtr := n.freeCtr } ∧
      (n.lanes.get k).injection = none ∧ (n.capus.get u).state = 0 ∧ n.injStat.result = (if ok then 0x02 else 0x30) ∧
      (ok = false → n.img = s.img) ∧
      (ok = true → n.img.nextProp = s.img.nextProp + 1 ∧ ∃ p ∈ n.img.props, p.id = s.img.nextProp + 1 ∧ p.kind = 0x0F))

/-- CAPU_CTRL_WRITE, CAPU_TRIGGER and CAPU_BLOCK_DELIVER -/
def Obligations.CaptureUnitsRecordAndDeliver : Prop :=
  (∀ (s : State) (u : Fin 4) (v : BitVec 32) (c : Capu), s.hostUp = true → c = s.capus.get u → ∃ (t : State) (sh : CapuRwc),
    sh = { c.shadow with
      arm := bit v 2
      stream := bit v 3
      rate := Fin.ofNat 4 (bits v 5 4)
      trig := Fin.ofNat 8 (bits v 8 6)
      decim := BitVec.ofNat 8 (bits v 23 16) } ∧
    exec (.capuCtrlWrite u v) s = .next t ∧ t = { s with capus := t.capus } ∧ (∀ w, w ≠ u → t.capus.get w = s.capus.get w) ∧
    (t.capus.get u).shadow = sh ∧ (t.capus.get u).en = bit v 0 ∧
    ((bit v 0 = true ∨ c.state = 6) → (t.capus.get u).state = c.state ∧ (t.capus.get u).samples = c.samples ∧ (t.capus.get u).rwc = c.rwc) ∧
    (bit v 0 = false → c.state ≠ 6 → (t.capus.get u).state = 0 ∧ (t.capus.get u).samples = [] ∧ (t.capus.get u).fired = false ∧
      (t.capus.get u).rwc = { c.rwc with arm := false }) ∧
    (t.capus.get u).commit = (if bit v 1 && c.state ≠ 6 then some sh else c.commit) ∧
    (t.capus.get u).commitErr = (c.commitErr || (bit v 1 && c.state == 6))) ∧
  (∀ (s : State) (u : Fin 4), (s.capus.get u).en = true → (s.capus.get u).state = 2 → (s.capus.get u).fired = true → exec (.capuTrigger u) s = .next
    { s with capus := s.capus.put u { s.capus.get u with state := 3, fired := false, count := 0, trigT0 := s.tick.t0 } }) ∧
  (∀ (s : State) (u : Fin 4), ((s.capus.get u).en = false ∨ (s.capus.get u).state ≠ 2 ∨ (s.capus.get u).fired = false) → ∃ t : State,
    exec (.capuTrigger u) s = .next t ∧ t = { s with capus := t.capus } ∧ ∀ w, t.capus.get w = s.capus.get w) ∧
  (∀ (s : State) (u : Fin 4) (c : Capu), c = s.capus.get u → (c.state = 4 ∨ c.state = 3 ∧ c.rwc.stream = true ∧ 4064 / State.recSize c.rwc ≤ c.samples.length) →
    s.pwr.derate = false → s.ringsRun = true → State.ringRoom (s.hi.rings.get 5) ≠ 0 → State.tagFree s.hi .cap = true →
    ∃ (b : List Byte) (n : Nat) (ends : Bool), n = min (4064 / State.recSize c.rwc) c.samples.length ∧
      ends = (c.state == 4 && (c.samples.drop n).isEmpty) ∧ b.length = 4096 ∧ fld b 0 1 = u.val ∧ fld b 4 4 = c.blockSeq.toNat ∧ fld b 16 2 = n % 65536 ∧
      exec (.capuBlockDeliver u) s = .next { s with
        hi := State.useTag { s.hi with rings := s.hi.rings.put 5 (State.ringPut (s.hi.rings.get 5) b) } .cap
        capus := s.capus.put u { c with
          samples := c.samples.drop n
          blockSeq := c.blockSeq + 1
          dropped := 0
          state := if ends then 5 else c.state
          rwc := { c.rwc with arm := c.rwc.arm && !ends } } }) ∧
  (∀ (s : State) (u : Fin 4) (c : Capu), c = s.capus.get u → (c.state = 4 ∨ c.state = 3 ∧ c.rwc.stream = true ∧ 4064 / State.recSize c.rwc ≤ c.samples.length) →
    (s.pwr.derate = true ∨ s.ringsRun = false ∨ State.ringRoom (s.hi.rings.get 5) = 0 ∨ State.tagFree s.hi .cap = false) →
    ∃ (n : Nat) (ends : Bool), n = min (4064 / State.recSize c.rwc) c.samples.length ∧ ends = (c.state == 4 && (c.samples.drop n).isEmpty) ∧
      exec (.capuBlockDeliver u) s = .next { s with
        hi := { s.hi with capDrop := if s.pwr.derate then s.hi.capDrop else s.hi.capDrop + 1 }
        capus := s.capus.put u { c with
          samples := c.samples.drop n
          blockSeq := c.blockSeq + 1
          dropped := c.dropped + 1
          drop := c.drop + 1
          ovr := true
          state := if ends then 5 else c.state
          rwc := { c.rwc with arm := c.rwc.arm && !ends } } }) ∧
  (∀ (s : State) (u : Fin 4), (s.capus.get u).state ≠ 4 → ((s.capus.get u).state ≠ 3 ∨ (s.capus.get u).rwc.stream = false ∨
      (s.capus.get u).samples.length < 4064 / State.recSize (s.capus.get u).rwc) → exec (.capuBlockDeliver u) s = .next s)

/-- What a host write does by its access code: plain, W1C, RS with its enable, page, commit; an unaligned one is ignored and flagged -/
def Obligations.HostRegisterAccesses : Prop :=
  (∀ (s : State) (v : BitVec 32), s.hostUp = true → bits v 1 0 ≠ 3 → exec (.mapPageSelect v) s = .next { s with page := Fin.ofNat 4 (bits v 1 0) }) ∧
  (∀ (s : State) (v : BitVec 32), (s.hostUp = false ∨ bits v 1 0 = 3) → exec (.mapPageSelect v) s = .next s) ∧
  (∀ (s : State) (o : Fin 25000), s.hostUp = true → exec (.tbaseLoRead o) s = .next { s with
      tick := { s.tick with hi := ((s.tick.tb + BitVec.ofNat 64 o.val) >>> 32).setWidth 32 } }) ∧
  (∀ (s : State) (o : Fin 25000), s.hostUp = false → exec (.tbaseLoRead o) s = .next s) ∧
  (∀ s : State, s.hostUp = true → exec .fcSluiceCommit s = .next { s with fc := { s.fc with commit := some s.fc.shadow } }) ∧
  (∀ (s : State) (a : BitVec 16) (v : BitVec 32), s.hostUp = true → a.toNat % 4 ≠ 0 →
    exec (.registerWrite a v) s = .next { s with hi := { s.hi with accErr := true } }) ∧
  (∀ (s : State) (v : BitVec 32), s.hostUp = true → exec (.registerWrite 0x0410 v) s = .next { s with
      hi := { s.hi with evtThresh := v.setWidth 12 } }) ∧
  (∀ (s : State) (v : BitVec 32), s.hostUp = true → exec (.registerWrite 0x0404 v) s = .next { s with hi := { s.hi with
      cfgErr := s.hi.cfgErr && !v.getLsbD 1
      werr := s.hi.werr && !v.getLsbD 2
      dbErr := s.hi.dbErr && !v.getLsbD 3
      dbLost := s.hi.dbLost && !v.getLsbD 4
      dmaErr := s.hi.dmaErr && !v.getLsbD 5
      accErr := s.hi.accErr && !v.getLsbD 6 } }) ∧
  (∀ (s : State) (v : BitVec 32), s.hostUp = true → s.hi.en = true → exec (.registerWrite 0x0408 v) s = .next { s with hi := { s.hi with werr := true } }) ∧
  (∀ (s : State) (v : BitVec 32), s.hostUp = true → s.hi.en = false → exec (.registerWrite 0x0408 v) s = .next { s with
      hi := { s.hi with sb := (((s.hi.sb >>> 32).setWidth 32 : BitVec 32) ++ v) } }) ∧
  (∀ (s : State) (n : Fin 48) (v : BitVec 32), s.hostUp = true → exec (.registerWrite (BitVec.ofNat 16 (0x203C + 0x40 * n.val)) v) s = .next { s with
      ports := s.ports.put n { s.ports.get n with flags := {
        illegal := (s.ports.get n).flags.illegal && !v.getLsbD 8
        wrap := (s.ports.get n).flags.wrap && !v.getLsbD 9
        idxOvr := (s.ports.get n).flags.idxOvr && !v.getLsbD 10
        cmpOvr := (s.ports.get n).flags.cmpOvr && !v.getLsbD 11
        ssiErr := (s.ports.get n).flags.ssiErr && !v.getLsbD 12
        line := (s.ports.get n).flags.line && !v.getLsbD 13
        noclk := (s.ports.get n).flags.noclk && !v.getLsbD 14
        werr := (s.ports.get n).flags.werr && !v.getLsbD 15
        commitErr := (s.ports.get n).flags.commitErr && !v.getLsbD 16 } } }) ∧
  (∀ (s : State) (a : BitVec 16) (v : BitVec 32), s.hostUp = true → a.toNat % 4 = 0 → (a.toNat < 0x400 ∨ 0x7054 ≤ a.toNat) →
    exec (.registerWrite a v) s = .next s) ∧
  (∀ (s : State) (a : BitVec 16) (v : BitVec 32), s.hostUp = false → s.recovers = false → exec (.registerWrite a v) s = .next s ∧
    exec .fcSluiceCommit s = .next s)

/-- A heartbeat that counts restarts the count; the active takes its endorsement, the standby its RELEASED; the loss of eight makes the standby claim -/
def Obligations.HeartbeatsKeepThePairTogether : Prop :=
  (∀ (s t : State) (m : Model) (bs : List Byte) (off : Nat) (h : PeerHb) (k : Bool), s.LinkPasses t m bs 1 64 64 (BitVec.ofNat 32 (fld bs 12 4)) →
    h = readHb bs → k = (decide (h.t0 = s.tick.t0) && decide (off ≤ 200)) → s.mod = .active →
    exec (.heartbeatRx bs off) s = .next { t with tw := { s.tw with
      lastHb := some h
      hbAge := 0
      hbThis := s.tw.hbThis || k
      peer := s.tw.peer || k
      hbMiss := if k then 0 else s.tw.hbMiss
      pLease := if h.flags.getLsbD 2 then 15750 else s.tw.pLease
      endorse := s.tw.endorse || h.flags.getLsbD 2
      endorsed := if h.flags.getLsbD 2 then some s.tick.t0 else s.tw.endorsed
      imgTx := if h.state = 3 && h.imgDig ≠ s.digest8 && s.tw.imgTx.isNone then some 0 else s.tw.imgTx } }) ∧
  (∀ (s t : State) (m : Model) (bs : List Byte) (off : Nat) (h : PeerHb) (k : Bool), s.LinkPasses t m bs 1 64 64 (BitVec.ofNat 32 (fld bs 12 4)) →
    h = readHb bs → k = (decide (h.t0 = s.tick.t0) && decide (off ≤ 200)) → s.mod = .standby →
    Config.rsiVersion.toNat ≤ h.rsi.toNat + 1 → h.rsi.toNat ≤ Config.rsiVersion.toNat + 1 → h.imgDig = s.digest8 →
    exec (.heartbeatRx bs off) s = .next { t with tw := { s.tw with
      lastHb := some h
      hbAge := 0
      hbThis := s.tw.hbThis || k
      peer := s.tw.peer || k
      hbMiss := if k then 0 else s.tw.hbMiss
      rsiBad := false
      relSeen := if h.flags.getLsbD 4 then true else s.tw.relSeen && !(k && s.tw.state == .claiming)
      prior := if h.flags.getLsbD 4 && s.tw.state != .claiming then s.tw.state else s.tw.prior
      state := if h.flags.getLsbD 4 then .claiming else if k && s.tw.state == .claiming then s.tw.prior else s.tw.state } }) ∧
  (∀ (s t : State) (m : Model) (bs : List Byte) (off : Nat) (h : PeerHb) (k : Bool), s.LinkPasses t m bs 1 64 64 (BitVec.ofNat 32 (fld bs 12 4)) →
    h = readHb bs → k = (decide (h.t0 = s.tick.t0) && decide (off ≤ 200)) → s.mod = .standby →
    Config.rsiVersion.toNat ≤ h.rsi.toNat + 1 → h.rsi.toNat ≤ Config.rsiVersion.toNat + 1 → h.imgDig ≠ s.digest8 → h.flags.getLsbD 4 = false →
    (s.tw.state = .synced ∨ s.tw.state = .resync) → exec (.heartbeatRx bs off) s = .next { t with tw := { s.tw with
      lastHb := some h
      hbAge := 0
      hbThis := s.tw.hbThis || k
      peer := s.tw.peer || k
      hbMiss := if k then 0 else s.tw.hbMiss
      rsiBad := false
      state := .unsynced
      parts := []
      kept := []
      epochWait := none
      install := false } }) ∧
  (∀ (s t : State) (m : Model) (bs : List Byte) (off : Nat) (h : PeerHb) (k : Bool), s.LinkPasses t m bs 1 64 64 (BitVec.ofNat 32 (fld bs 12 4)) →
    h = readHb bs → k = (decide (h.t0 = s.tick.t0) && decide (off ≤ 200)) → s.mod = .standby →
    (h.rsi.toNat + 1 < Config.rsiVersion.toNat ∨ Config.rsiVersion.toNat + 1 < h.rsi.toNat) → s.tw.rsiBad = false → h.imgDig = s.digest8 →
    h.flags.getLsbD 4 = false → (s.tw.state = .synced ∨ s.tw.state = .resync) →
    exec (.heartbeatRx bs off) s = .next (State.unsync (State.raise { t with tw := { s.tw with
      lastHb := some h
      hbAge := 0
      hbThis := s.tw.hbThis || k
      peer := s.tw.peer || k
      hbMiss := if k then 0 else s.tw.hbMiss
      rsiBad := true } } 0xA1 5 2 0 h.rsi.toNat))) ∧
  (∀ (s t : State) (m : Model) (bs : List Byte) (off : Nat) (h : PeerHb) (k : Bool), s.LinkPasses t m bs 1 64 64 (BitVec.ofNat 32 (fld bs 12 4)) →
    h = readHb bs → k = (decide (h.t0 = s.tick.t0) && decide (off ≤ 200)) → s.mod ≠ .active →
    s.mod ≠ .standby → exec (.heartbeatRx bs off) s = .next { t with tw := { s.tw with
      lastHb := some h
      hbAge := 0
      hbThis := s.tw.hbThis || k
      peer := s.tw.peer || k
      hbMiss := if k then 0 else s.tw.hbMiss } }) ∧
  (∀ (s : State) (m : Model) (bs : List Byte) (off : Nat), s.model = some m → s.linkUp = true → s.linkForm bs 1 64 64 = true →
    (s.linkGood m bs (BitVec.ofNat 32 (fld bs 12 4)) = false ∨ s.cvSpoilt 15 = true) → exec (.heartbeatRx bs off) s = .next { s.useCv 15 false with
      tw := { s.tw with linkErr := s.tw.linkErr + 1 } }) ∧
  (∀ (s : State) (m : Model) (bs : List Byte) (off : Nat), s.model = some m → s.linkUp = true → s.linkForm bs 1 64 64 = false →
    exec (.heartbeatRx bs off) s = .next { s with tw := { s.tw with linkErr := s.tw.linkErr + 1 } }) ∧
  (∀ (s : State) (bs : List Byte) (off : Nat), (s.model = none ∨ s.linkUp = false) → exec (.heartbeatRx bs off) s = .next s) ∧
  (∀ s : State, s.twinRole = true → s.tw.peer = true → 8 ≤ s.tw.hbMiss → s.mod = .standby →
    exec .heartbeatLost s = .next (State.raise { s with
      tw := { s.tw with
        peer := false
        hbLosses := s.tw.hbLosses + 1
        prior := if s.tw.state = .claiming then s.tw.prior else s.tw.state
        state := .claiming }
      hi := { s.hi with hrdy := false } } 0xA1 1 2 0 (s.tw.lastHb.elim 0 fun h => h.t0.toNat % 65536))) ∧
  (∀ s : State, s.twinRole = true → s.tw.peer = true → 8 ≤ s.tw.hbMiss → s.mod ≠ .standby →
    exec .heartbeatLost s = .next { s with tw := { s.tw with peer := false, hbLosses := s.tw.hbLosses + 1 } }) ∧
  (∀ s : State, (s.twinRole = false ∨ s.tw.peer = false ∨ s.tw.hbMiss < 8) → exec .heartbeatLost s = .next s)

/-- A SYNCED standby keeps the next epoch, a bad one makes it UNSYNCED; snapshot parts join in order; image frames join to an image for verification -/
def Obligations.ReplicationReachesTheStandby : Prop :=
  (∀ (s t : State) (m : Model) (bs : List Byte) (want : BitVec 32), s.mod = .standby → (s.follows = .synced ∨ s.follows = .resync) →
    want = s.epochHave + 1 → s.LinkPasses t m bs 2 48 49152 want → BitVec.ofNat 32 (fld bs 8 4) = want →
    (s.follows = .resync → 0 < diff32 want s.tw.partsBase) → s.isRetired (.cv 15) = false → t.rsiInUse = some (fld bs 20 2) →
    exec (.epochRx bs) s = .next { t with tw := (if s.follows = .resync then { s.tw with kept := s.tw.kept ++ [bs] }
      else { s.tw with epochWait := some bs }) }) ∧
  (∀ (s : State) (m : Model) (bs : List Byte) (want : BitVec 32), s.mod = .standby → (s.tw.state = .synced ∨ s.tw.state = .resync ∧
      0 < diff32 (BitVec.ofNat 32 (fld bs 8 4)) s.tw.partsBase) → want = s.epochHave + 1 → s.model = some m →
    s.linkUp = true → s.linkForm bs 2 48 49152 = true → (s.linkGood m bs want = false ∨ s.cvSpoilt 15 = true) →
    exec (.epochRx bs) s = .next (State.raise { s.useCv 15 false with tw := { s.tw with
      linkErr := s.tw.linkErr + 1
      epochDisc := s.tw.epochDisc + 1
      state := .unsynced
      parts := []
      kept := []
      epochWait := none
      install := false } } 0xA1 4 1 0 want.toNat)) ∧
  (∀ (s : State) (bs : List Byte), s.mod = .standby → s.linkUp = true → s.follows ≠ .synced → s.follows ≠ .resync →
    exec (.epochRx bs) s = .next { s with tw := { s.tw with epochDisc := s.tw.epochDisc + 1 } }) ∧
  (∀ (s : State) (bs : List Byte), (s.mod ≠ .standby ∨ s.linkUp = false) → exec (.epochRx bs) s = .next s ∧ exec (.snapPartRx bs) s = .next s) ∧
  (∀ (s t : State) (m : Model) (bs : List Byte), s.mod = .standby → s.tw.state = .unsynced →
    s.LinkPasses t m bs 3 48 49152 (BitVec.ofNat 32 (fld bs 8 4) <<< 5) → fld bs 16 1 = 0 → fld bs 17 1 = 32 → fld bs 24 4 = 0 →
    bs.length = 48 + fld bs 28 4 → s.isRetired (.cv 15) = false → t.rsiInUse = some (fld bs 18 2) → (s.tw.lastHb.any fun h => h.imgDig = s.digest8) = true →
    exec (.snapPartRx bs) s = .next { t with tw := { s.tw with
      state := .resync
      resyncs := s.tw.resyncs + 1
      parts := [(0, slice bs 40 (fld bs 28 4))]
      kept := []
      epochWait := none
      install := false
      partsT2 := BitVec.ofNat 32 (fld bs 8 4)
      partsBase := BitVec.ofNat 32 (fld bs 20 4)
      partsCrc := BitVec.ofNat 32 (fld bs 32 4) } }) ∧
  (∀ (s t : State) (m : Model) (bs : List Byte) (all : List (Nat × List Byte)), s.mod = .standby → s.tw.state = .resync → s.tw.install = false →
    s.LinkPasses t m bs 3 48 49152 (BitVec.ofNat 32 (fld bs 8 4) <<< 5 ||| BitVec.ofNat 32 (fld bs 16 1)) → fld bs 16 1 = s.tw.parts.length →
    s.tw.parts.length < 32 → fld bs 17 1 = 32 → bs.length = 48 + fld bs 28 4 → s.isRetired (.cv 15) = false → t.rsiInUse = some (fld bs 18 2) →
    BitVec.ofNat 32 (fld bs 8 4) = s.tw.partsT2 → fld bs 20 4 = s.tw.partsBase.toNat → fld bs 32 4 = s.tw.partsCrc.toNat →
    fld bs 24 4 = (s.tw.parts.map (·.2.length)).sum → all = s.tw.parts ++ [(fld bs 24 4, slice bs 40 (fld bs 28 4))] →
    exec (.snapPartRx bs) s = .next (if all.length < 32 then { t with tw := { s.tw with parts := all } }
      else if cv s.tw.partsT2 (all.flatMap (·.2)) = s.tw.partsCrc then { t.useCv 15 true with tw := { s.tw with parts := all, install := true } }
      else { t.useCv 15 false with tw := { s.tw with state := .unsynced, parts := [], kept := [], epochWait := none, install := false } })) ∧
  (∀ (s t : State) (m : Model) (bs : List Byte), s.mod = .standby → s.tw.state = .resync → s.tw.install = false →
    s.LinkPasses t m bs 3 48 49152 (BitVec.ofNat 32 (fld bs 8 4) <<< 5 ||| BitVec.ofNat 32 (fld bs 16 1)) → fld bs 16 1 ≠ s.tw.parts.length →
    exec (.snapPartRx bs) s = .next { t with tw := { s.tw with state := .unsynced, parts := [], kept := [], epochWait := none, install := false } }) ∧
  (∀ (s t : State) (m : Model) (bs data : List Byte) (off : Nat) (g : Img) (sync : Bool), s.mod = .standby → off = fld bs 8 4 →
    s.LinkPasses t m bs 4 32 4096 (BitVec.ofNat 32 off) → data = slice bs 16 (bs.length - 24) → off ≠ 0xFFFFFFFF →
    (off = 0 ∧ s.img.work = none ∧ (∀ p, s.img.pending = some p → p.origin = .peer ∧ p.applyT2 = none) ∧ g = { s.img with
        state := .receiving, pending := none, linkBuf := data, linkLen := fld data 8 4,
        slots := (match s.img.pending with | some p => s.img.slots.put p.slot none | none => s.img.slots) } ∨
      0 < off ∧ off = s.img.linkBuf.length ∧ s.img.state = .receiving ∧ g = { s.img with linkBuf := s.img.linkBuf ++ data }) →
    sync = (s.tw.lastHb.any fun h => h.imgDig = pad 8 (imgDigest (g.linkBuf.take g.linkLen)) && h.imgDig ≠ s.digest8) →
    exec (.imageLinkFrame bs) s = .next { t with img := (if g.linkLen ≤ g.linkBuf.length then { g with
        state := .verifying
        work := some (g.linkBuf.take g.linkLen, if sync then .sync else .peer)
        linkBuf := []
        linkLen := 0 }
      else g) }) ∧
  (∀ (s t : State) (m : Model) (bs data : List Byte), fld bs 8 4 = 0xFFFFFFFF → s.LinkPasses t m bs 4 32 4096 0xFFFFFFFF →
    data = slice bs 16 (bs.length - 24) → (s.mod = .active ∨ s.mod = .standby) → exec (.imageLinkFrame bs) s = .next
      (if s.mod = .active then t.peerVerifyResult (BitVec.ofNat 8 (fld data 0 4)) (data.drop 4)
      else { t with img := { s.img with pending := s.img.pending.map fun p =>
        if p.origin = .peer && p.model.seq = BitVec.ofNat 32 (fld data 4 4) then { p with applyT2 := some (BitVec.ofNat 32 (fld data 0 4)) } else p } }))

/-- The link lives while a lane is synchronised; a claim word is sent with the module's claim, gate and leases, and the peer's last valid word is its claim -/
def Obligations.LinkLanesAndClaimWords : Prop :=
  (∀ (s : State) (l : Fin 2), s.twinRole = true → s.tw.lanes = 3 → exec (.yilzLaneLoss l) s =
    .next (State.raise { s with tw := { s.tw with lanes := if l = 0 then 2 else 1 } } 0xA1 3 1 0 l.val)) ∧
  (∀ (s : State) (l : Fin 2), s.twinRole = true → s.tw.lanes = (if l = 0 then 1 else 2) → exec (.yilzLaneLoss l) s =
    .next (State.raise { s with tw := { s.tw with lanes := 0 } } 0xA1 2 2 0 3)) ∧
  (∀ (s : State) (l : Fin 2), s.twinRole = true → s.pd 7 = true → exec (.yilzLaneSync l) s =
    .next { s with tw := { s.tw with lanes := s.tw.lanes ||| (if l = 0 then 1 else 2) } }) ∧
  (∀ s : State, s.twinRole = true → s.pwr.pd0 = true → ∃ w : BitVec 64, exec .claimWordSend s = .next { s with tw := { s.tw with claimOut := w } } ∧
    claimOfWord w = some s.tw.claimOwn ∧ w.getLsbD 23 = s.tw.gate ∧ w.getLsbD 22 = s.leased ∧ (w.extractLsb' 19 3).toNat = modCode s.mod % 8) ∧
  (∀ (s : State) (w : BitVec 64) (c : BitVec 32), s.twinRole = true → s.pwr.pd0 = true → claimOfWord w = some c → ∃ u v : State,
    u = { s with tw := { s.tw with claimPeer := c, claimOk := true, claimBad := 0 } } ∧
    v = (if c ≠ 0 ∧ c = s.tw.claimOwn then u.raise 0xA2 2 3 0 c.toNat else u) ∧ exec (.claimWordRx w) s = .next v.judgeGate ∧
    (s.tw.gate = false → v.judgeGate = v)) ∧
  (∀ (s : State) (w : BitVec 64) (c : BitVec 32), s.twinRole = true → s.pwr.pd0 = true → claimOfWord w = some c →
    s.tw.claimOwn.toNat < c.toNat → s.tw.gate = true → s.seals.role ≠ 3 → ∃ t : State, exec (.claimWordRx w) s = .next t ∧
      t = { s with tw := { s.tw with claimPeer := c, claimOk := true, claimBad := 0, gate := false }, pol := t.pol } ∧
      (∀ i, outRole (s.polRec i).role = true → (t.pol.ch.get i).cmd = false ∧ (t.pol.ch.get i).on = false) ∧
      (∀ i, outRole (s.polRec i).role = false → t.pol.ch.get i = s.pol.ch.get i)) ∧
  (∀ (s : State) (w : BitVec 64), s.twinRole = true → s.pwr.pd0 = true → claimOfWord w = none → exec (.claimWordRx w) s =
    .next { s with tw := { s.tw with claimErr := s.tw.claimErr + 1, claimBad := s.tw.claimBad + 1 } }) ∧
  (∀ s : State, s.twinRole = true → s.pwr.pd0 = true → ∃ u : State, u = { s with tw := { s.tw with claimPeer := 0, claimOk := false } } ∧
    exec .claimWordTimeout s = .next (if s.tw.claimOk then u.raise 0xA2 1 2 0 s.tw.claimBad.toNat else u)) ∧
  (∀ (s : State) (w : BitVec 64), (s.twinRole = false ∨ s.pwr.pd0 = false) → exec .claimWordSend s = .next s ∧ exec (.claimWordRx w) s = .next s ∧
    exec .claimWordTimeout s = .next s) ∧
  (∀ (s : State) (l : Fin 2), (s.twinRole = false ∨ s.tw.lanes.getLsbD l.val = false) → exec (.yilzLaneLoss l) s = .next s) ∧
  (∀ (s : State) (l : Fin 2), (s.twinRole = false ∨ s.pd 7 = false) → exec (.yilzLaneSync l) s = .next s)

/-- A module asks for a lease after 64 T0, takes the answer to its own request, and is released when its leases end or its cars stand in SAFE-HOLD -/
def Obligations.LeasesRunAndEnd : Prop :=
  (∀ s : State, s.negotiates = true → 64 ≤ s.tw.listen → s.tw.asking = false → s.peerActive = false → exec .roleNegotiation s =
    .next (State.sendReq { s with tw := { s.tw with asking := true, reqWait := 16 } } 1)) ∧
  (∀ s : State, s.negotiates = true → 64 ≤ s.tw.listen → s.tw.asking = false → s.peerActive = true → exec .roleNegotiation s =
    .next { s with tw := { s.tw with asking := true, reqWait := 0 } }) ∧
  (∀ s : State, (s.negotiates = false ∨ s.tw.listen < 64 ∨ s.tw.asking = true) → exec .roleNegotiation s = .next s) ∧
  (∀ (s t n : State) (fr : Frame) (m : Model) (i : Nat) (r : NodeRec) (c₀ c : Conn) (q : LeaseReq), s.WitPasses t n fr 0 0x31 12 i m r c₀ c →
    s.twinRole = true → n.tw.reqs.find? (·.seq = BitVec.ofNat 16 (fld (slice fr.data 20 12) 2 2)) = some q → q.kind = 2 →
    fld (slice fr.data 20 12) 1 1 = s.ownSlot → fld (slice fr.data 20 12) 0 1 = 1 → fld (slice fr.data 20 12) 4 4 = n.tw.claimOwn.toNat →
    exec (.leaseAns fr) s = .next { n with tw := { n.tw with
      reqs := n.tw.reqs.filter (·.seq ≠ BitVec.ofNat 16 (fld (slice fr.data 20 12) 2 2))
      lastAns := byteAt (slice fr.data 20 12) 0
      wLease := (clamp (15750 - diff32 n.stamp q.sof) 0 16000).toNat
      wLost := false } }) ∧
  (∀ (s t n : State) (fr : Frame) (m : Model) (i : Nat) (r : NodeRec) (c₀ c : Conn) (q : LeaseReq), s.WitPasses t n fr 0 0x31 12 i m r c₀ c →
    s.twinRole = true → n.tw.reqs.find? (·.seq = BitVec.ofNat 16 (fld (slice fr.data 20 12) 2 2)) = some q → q.kind = 2 →
    fld (slice fr.data 20 12) 1 1 = s.ownSlot → fld (slice fr.data 20 12) 0 1 = 2 → ∃ u : State, exec (.leaseAns fr) s = .next u ∧
      u = { n with tw := u.tw, pol := u.pol } ∧ u.tw.wLease = 0 ∧ u.tw.pLease = 0 ∧ u.tw.gate = false ∧ u.tw.granted = false) ∧
  (∀ (s t n : State) (fr : Frame) (m : Model) (i : Nat) (r : NodeRec) (c₀ c : Conn) (q : LeaseReq), s.WitPasses t n fr 0 0x31 12 i m r c₀ c →
    s.twinRole = true → n.tw.reqs.find? (·.seq = BitVec.ofNat 16 (fld (slice fr.data 20 12) 2 2)) = some q → q.kind = 1 →
    fld (slice fr.data 20 12) 1 1 = s.ownSlot → fld (slice fr.data 20 12) 0 1 = 0 → ∃ (u v : State) (a : BitVec 32),
      a = BitVec.ofNat 32 (fld (slice fr.data 20 12) 4 4) ∧
      u = State.takeWaiting { n with tw := { n.tw with
        reqs := n.tw.reqs.filter (·.seq ≠ BitVec.ofNat 16 (fld (slice fr.data 20 12) 2 2))
        lastAns := byteAt (slice fr.data 20 12) 0 } } ∧
      v = (if u.tw.claimOwn = a then u else { u with
        tw := { u.tw with claimOwn := a }
        conns := u.conns.map fun c => { c with seqBased := false, seen := 0 } }) ∧
      exec (.leaseAns fr) s = .next { v with tw := { v.tw with
        granted := true
        wLease := (clamp (15750 - diff32 n.stamp q.sof) 0 16000).toNat
        wLost := false } }) ∧
  (∀ (s t n : State) (fr : Frame) (m : Model) (i : Nat) (r : NodeRec) (c₀ c : Conn) (q : LeaseReq) (z : Nat), s.WitPasses t n fr 0 0x31 12 i m r c₀ c →
    s.twinRole = true → n.tw.reqs.find? (·.seq = BitVec.ofNat 16 (fld (slice fr.data 20 12) 2 2)) = some q → z = fld (slice fr.data 20 12) 0 1 →
    fld (slice fr.data 20 12) 1 1 = s.ownSlot → ¬ (z = 0 ∧ q.kind = 1) → ¬ (z = 2 ∧ q.kind = 2) →
    ¬ (z = 1 ∧ q.kind = 2 ∧ fld (slice fr.data 20 12) 4 4 = n.tw.claimOwn.toNat) →
    exec (.leaseAns fr) s = .next { n with tw := { n.tw with
      reqs := n.tw.reqs.filter (·.seq ≠ BitVec.ofNat 16 (fld (slice fr.data 20 12) 2 2))
      lastAns := byteAt (slice fr.data 20 12) 0 } }) ∧
  (∀ (s t n : State) (fr : Frame) (m : Model) (i : Nat) (r : NodeRec) (c₀ c : Conn), s.WitPasses t n fr 0 0x31 12 i m r c₀ c →
    s.twinRole = true → (n.tw.reqs.find? (·.seq = BitVec.ofNat 16 (fld (slice fr.data 20 12) 2 2)) = none ∨
      fld (slice fr.data 20 12) 1 1 ≠ s.ownSlot) → exec (.leaseAns fr) s = .next n) ∧
  (∀ s : State, s.twinRole = true → ∃ u : State, u = { s with tw := { s.tw with
      wLease := if s.tw.wLease ≤ 250 then 0 else s.tw.wLease
      pLease := if s.tw.pLease ≤ 250 then 0 else s.tw.pLease } } ∧
    exec .leaseExpiry s = .next (if s.mod = .safeHold ∧ s.tw.gate = true ∧ s.tw.wLease ≤ 250 ∧ s.tw.pLease ≤ 250 then u.silence else u.judgeGate) ∧
    (s.tw.gate = false → u.judgeGate = u)) ∧
  (∀ s : State, s.twinRole = true → s.mod = .safeHold → s.tw.gate = true → s.tw.wLease ≤ 250 → s.tw.pLease ≤ 250 → ∃ t : State,
    exec .leaseExpiry s = .next t ∧ t.tw.released = true ∧ t.tw.muted = true ∧ t.tw.state = .released ∧ t.tw.gate = false ∧
      ∀ n, (t.buses.get n).tx = []) ∧
  (∀ s : State, s.twinRole = true → s.mod ≠ .safeHold → s.tw.gate = true → s.tw.wLease ≤ 250 → s.tw.pLease ≤ 250 → ∃ t : State,
    exec .leaseExpiry s = .next t ∧ t = { s with tw := { s.tw with wLease := 0, pLease := 0, gate := false }, pol := t.pol } ∧
      ∀ i, outRole (s.polRec i).role = true → (t.pol.ch.get i).cmd = false ∧ (t.pol.ch.get i).on = false) ∧
  (∀ s : State, s.twinRole = false → exec .leaseExpiry s = .next s) ∧
  (∀ s : State, s.mod = .safeHold → s.twinRole = true → s.tw.gate = true → s.tw.released = false → s.allStill = true → s.allOff = true → ∃ t : State,
    exec .safeHoldRelease s = .next t ∧ t = { s with tw := t.tw, conns := t.conns, cvs := t.cvs, buses := t.buses, pol := t.pol, hi := t.hi, freeCtr := t.freeCtr } ∧
      t.tw.released = true ∧ t.tw.state = .released ∧ t.tw.gate = false ∧ t.tw.wLease = 0 ∧ t.tw.pLease = 0 ∧
      ∀ i, outRole (s.polRec i).role = true → (t.pol.ch.get i).cmd = false ∧ (t.pol.ch.get i).on = false) ∧
  (∀ s : State, (s.mod ≠ .safeHold ∨ s.twinRole = false ∨ s.tw.gate = false ∨ s.tw.released = true ∨ s.allStill = false ∨ s.allOff = false) →
    exec .safeHoldRelease s = .next s)

/-- The witness answers QUIET, GRANTED, RENEWED or HELD as R507 says, takes a release of the holder, and tells both modules; a module takes what it tells -/
def Obligations.TheWitnessGrantsOneHolder : Prop :=
  (∀ (s t n : State) (fr : Frame) (m : Model) (k i : Nat) (r : NodeRec) (c₀ c : Conn) (z : Int), s.mod = .witness → (k = 1 ∨ k = 2) →
    s.WitPasses t n fr k 0x30 8 i m r c₀ c → fld (slice fr.data 20 8) 1 1 = k → z = diff32 fr.sof n.stamp → ∃ (res : Nat) (w : Wit) (u : State),
    (res, w) = witAnswer n.tw.wit (fld (slice fr.data 20 8) 0 1) k (BitVec.ofNat 32 (fld (slice fr.data 20 8) 4 4)) z ∧
    u = State.answerModule { n with tw := { n.tw with wit := w } } k w.hclaim (leBytes 1 res ++ leBytes 1 k ++ slice fr.data 2 2 ++
      leBytes 4 w.hclaim.toNat ++ leBytes 2 (clamp (w.exp - z) 0 65535).toNat ++ [0, 0]) ∧
    exec (.witnessLeaseReq fr) s = .next (if res = 4 then u.raise 0xA3 5 3 0 w.epoch else u)) ∧
  (∀ (w : Wit) (kind k : Nat) (held : BitVec 32) (z : Int), z < w.quiet → witAnswer w kind k held z = (3, w)) ∧
  (∀ (w : Wit) (k : Nat) (held : BitVec 32) (z : Int), w.quiet ≤ z → (w.holder = k ∧ held = w.hclaim ∨ w.holder = 0 ∧ w.granted = false ∧
      w.bound < held.toNat / 256 + 16 ∧ held.toNat / 256 ≤ w.bound ∧ held.toNat % 256 = k) →
    witAnswer w 2 k held z = (1, { w with holder := k, hclaim := held, exp := z + 16000 })) ∧
  (∀ (w : Wit) (k : Nat) (held : BitVec 32) (z : Int), w.quiet ≤ z → (w.holder = 0 ∨ w.exp ≤ z) → witAnswer w 1 k held z =
    if w.epoch = 0xFFFFFF then (4, w) else (0, { w with
      epoch := w.epoch + 1,
      bound := if w.bound < w.epoch + 1 then w.epoch + 1 + 15 else w.bound,
      holder := k,
      hclaim := BitVec.ofNat 32 ((w.epoch + 1) * 256 + k),
      exp := z + 16000,
      granted := true })) ∧
  (∀ (w : Wit) (kind k : Nat) (held : BitVec 32) (z : Int), w.quiet ≤ z → (kind = 1 → w.holder ≠ 0 ∧ z < w.exp) →
    (kind = 2 → (w.holder = k → held ≠ w.hclaim) ∧ (w.holder = 0 → w.granted = true ∨ held.toNat / 256 + 16 ≤ w.bound ∨ w.bound < held.toNat / 256 ∨
      held.toNat % 256 ≠ k)) → witAnswer w kind k held z = (2, w)) ∧
  (∀ (s t n : State) (fr : Frame) (m : Model) (k i : Nat) (r : NodeRec) (c₀ c : Conn), s.mod = .witness → (k = 1 ∨ k = 2) →
    s.WitPasses t n fr k 0x30 8 i m r c₀ c → fld (slice fr.data 20 8) 1 1 ≠ k → exec (.witnessLeaseReq fr) s = .next n) ∧
  (∀ (s : State) (fr : Frame), s.mod ≠ .witness → exec (.witnessLeaseReq fr) s = .next s ∧ exec (.witnessLeaseRel fr) s = .next s ∧
    exec .witStatusSend s = .next s) ∧
  (∀ (s t n : State) (fr : Frame) (m : Model) (k i : Nat) (r : NodeRec) (c₀ c : Conn), s.mod = .witness → (k = 1 ∨ k = 2) →
    s.WitPasses t n fr k 0x32 4 i m r c₀ c → n.tw.wit.holder = k → fld fr.data 20 4 = n.tw.wit.hclaim.toNat →
    exec (.witnessLeaseRel fr) s = .next { n with tw := { n.tw with wit := { n.tw.wit with holder := 0 } } }) ∧
  (∀ (s t n : State) (fr : Frame) (m : Model) (k i : Nat) (r : NodeRec) (c₀ c : Conn), s.mod = .witness → (k = 1 ∨ k = 2) →
    s.WitPasses t n fr k 0x32 4 i m r c₀ c → (n.tw.wit.holder ≠ k ∨ fld fr.data 20 4 ≠ n.tw.wit.hclaim.toNat) →
    exec (.witnessLeaseRel fr) s = .next n) ∧
  (∀ (s : State) (m : Model) (i j : Nat) (a b : NodeRec) (c d : Conn), s.mod = .witness → s.tick.t0.toNat % 16 = 0 → s.model = some m →
    m.wit? 1 = some i → m.wit? 2 = some j → i ≠ j → m.nodes[i]? = some a → m.nodes[j]? = some b → s.conns[i]? = some c → s.conns[j]? = some d →
    ∃ t : State, exec .witStatusSend s = .next t ∧ t = { s with conns := t.conns, cvs := t.cvs, buses := t.buses, hi := t.hi, freeCtr := t.freeCtr } ∧
      t.conns[i]? = some { c with seqTx := c.seqTx + 1, sent := true } ∧ t.conns[j]? = some { d with seqTx := d.seqTx + 1, sent := true }) ∧
  (∀ (s t n : State) (fr : Frame) (m : Model) (i : Nat) (r : NodeRec) (c₀ c : Conn), s.twinRole = true →
    s.WitPasses t n fr 0 0x33 8 i m r c₀ c → exec (.witStatusRx fr) s = .next { n with tw := { n.tw with
      holderSlot := byteAt fr.data 20
      holderClaim := BitVec.ofNat 32 (fld fr.data 24 4) } })

/-- A message joins the batch with its reactions on arrival; a targeted test that passes is transient, one that fails retires its unit -/
def Obligations.FaultMessagesAndTests : Prop :=
  (∀ (s : State) (m : FaultMsg) (r : BitVec 5), s.mod ≠ .off → sourceExists m.source.toNat = true → m.cls ≠ 0 →
    (unitOf m).any s.silenced = false → (m.cls = 1 → countOf s.fc.countC m.source < 8 ∧ batchFull s.fc.batch = false) →
    ¬ (0x90 ≤ m.source.toNat ∧ m.source.toNat < 0xA0 ∧ m.kind = 1) → ¬ ((m.source = 0x76 ∨ m.source = 0x77) ∧ m.kind = 1) → s.mod ≠ .boot →
    r = reactionOf s.fc m.source.toNat m.cls → ∃ t : State, t = { s with fc := { s.fc with
        batch := s.fc.batch ++ [m]
        countC := if m.cls = 1 then bumpCount s.fc.countC m.source else s.fc.countC } } ∧
      exec (.faultReport m) s = .next (State.onArrival t m) ∧
      (m.cls ≠ 3 → r.getLsbD 2 = false → State.onArrival t m = { t with fc := { t.fc with nerr := t.fc.nerr || r.getLsbD 4 } }) ∧
      (m.cls = 3 → r.getLsbD 2 = false → State.onArrival t m = { t with
        fc := { t.fc with
          nerr := t.fc.nerr || r.getLsbD 4
          arrived := t.fc.arrived ++ [⟨m, r⟩]
          crst := t.fc.crst || r.getLsbD 3 }
        hi := { t.hi with
          hatn := t.hi.hatn || !t.hi.en
          fHeld := t.hi.fHeld || !t.hi.en } })) ∧
  (∀ (s : State) (m : FaultMsg), s.mod ≠ .off → s.mod ≠ .boot → m.source = 0xA0 → m.cls = 2 →
    (reactionOf s.fc 0xA0 2).getLsbD 2 = true → ∃ t : State, exec (.faultReport m) s = .next t ∧ t.hi.en = false ∧
      (∀ k, t.hi.rings.get k = Ring.zero) ∧ t.fc.batch = s.fc.batch ++ [m] ∧ t.mod = s.mod) ∧
  (∀ (s : State) (m : FaultMsg) (k : Fin 16), s.mod ≠ .off → s.mod ≠ .boot → m.source.toNat = 0x90 + k.val → m.kind = 1 → m.cls = 2 →
    s.isRetired (.cv k) = false → ∃ t : State, exec (.faultReport m) s = .next t ∧ t.fc.batch = s.fc.batch ++ [m] ∧
      (t.cvs.get k).mismatch = (s.cvs.get k).mismatch + 1 ∧ (t.cvs.get k).bad = true ∧ (∀ x, x ≠ k → t.cvs.get x = s.cvs.get x)) ∧
  (∀ (s : State) (m : FaultMsg) (lc : Fin 2), s.mod ≠ .off → s.mod ≠ .boot → m.source.toNat = 0x76 + lc.val → m.kind = 1 → m.cls = 2 →
    s.isRetired (.levee lc) = false → .levee lc ∉ s.spill.abandoned → ∃ t : State, exec (.faultReport m) s = .next t ∧
      t.fc.batch = s.fc.batch ++ [m] ∧ t.spill = { s.spill with
        abandoned := s.spill.abandoned ++ [.levee lc]
        miss := s.spill.miss.put lc (s.spill.miss.get lc + 1) }) ∧
  (∀ (s : State) (m : FaultMsg), s.mod = .boot → sourceExists m.source.toNat = true → m.cls = 3 → (unitOf m).any s.silenced = false →
    s.failsSlot m = false → s.pwr.boot.failed = false → ∃ t : State, exec (.faultReport m) s = .next t ∧ t.pwr.boot.halted = true ∧
      t.hi.hrdy = false ∧ t.mod = .boot ∧ t.fc.batch = s.fc.batch ++ [m] ∧ t.pwr.boot.hot = (m.source == 0xF2 && m.kind == 3)) ∧
  (∀ (s : State) (m : FaultMsg), s.mod ≠ .off → s.mod ≠ .boot → sourceExists m.source.toNat = true → m.cls = 1 →
    ¬ (0x90 ≤ m.source.toNat ∧ m.source.toNat < 0xA0) → m.source ≠ 0x76 → m.source ≠ 0x77 → (unitOf m).any s.silenced = false →
    (8 ≤ countOf s.fc.countC m.source ∨ batchFull s.fc.batch = true) → exec (.faultReport m) s = .next { s with fc := { s.fc with
      suppressed := s.fc.suppressed + 1
      countC := bumpCount s.fc.countC m.source } }) ∧
  (∀ (s : State) (m : FaultMsg), s.mod ≠ .boot → m.source.toNat < 0x70 → (unitOf m).any s.silenced = true →
    exec (.faultReport m) s = .next s) ∧
  (∀ (s : State) (m : FaultMsg), (s.mod = .off ∨ sourceExists m.source.toNat = false) → exec (.faultReport m) s = .next s) ∧
  (∀ (s : State) (u : TestUnit) (t : TestRun), s.fc.tests.find? (fun t => t.unit = u && t.running && decide (testT0 u ≤ t.age)) = some t →
    ((passesOf s.fc.hist u).filter fun x => s.fc.powered - x < dayT0).length < 2 → ∃ v : State,
    exec (.targetedTestDone u .pass) s = .next v ∧ v.mod = s.mod ∧ v.model = s.model ∧ v.fc.transient = s.fc.transient + 1 ∧
      v.fc.retired = s.fc.retired ∧ v.fc.tests = s.fc.tests.filter (·.unit ≠ u) ∧ s.fc.powered ∈ passesOf v.fc.hist u) ∧
  (∀ (s : State) (u : TestUnit) (t : TestRun), s.fc.tests.find? (fun t => t.unit = u && t.running && decide (testT0 u ≤ t.age)) = some t →
    2 ≤ ((passesOf s.fc.hist u).filter fun x => s.fc.powered - x < dayT0).length → s.sramRetired < 32 → ∃ v : State,
    exec (.targetedTestDone u .pass) s = .next v ∧ v.fc.transient = s.fc.transient ∧ u ∈ v.fc.retired ∧ s.fc.powered ∈ passesOf v.fc.hist u ∧
      ∀ x ∈ v.fc.tests, x.unit ≠ u) ∧
  (∀ (s : State) (n : Fin 48) (t : TestRun), s.fc.tests.find? (fun t => t.unit = TestUnit.port n && t.running && decide (testT0 (.port n) ≤ t.age)) = some t →
    ((passesOf s.fc.hist (.port n)).filter fun x => s.fc.powered - x < dayT0).length < 2 → s.fc.clearing = none → ∃ u : State,
    exec (.targetedTestDone (.port n) .pass) s = .next u ∧ u = { s with fc := u.fc, ports := u.ports } ∧
      (∀ k, k ≠ n → u.ports.get k = s.ports.get k) ∧
      (∀ c f a b, (s.ports.get n).saved = some (c, f, a, b) → (u.ports.get n).count = c ∧ (u.ports.get n).saved = none)) ∧
  (∀ (s : State) (u : TestUnit) (t : TestRun), s.fc.tests.find? (fun t => t.unit = u && t.running && decide (testT0 u ≤ t.age)) = some t →
    s.sramRetired < 32 → ∃ v : State, exec (.targetedTestDone u .fail) s = .next v ∧ u ∈ v.fc.retired ∧ v.mod = s.mod ∧ v.model = s.model ∧
      ∀ x ∈ v.fc.tests, x.unit ≠ u) ∧
  (∀ (s : State) (i j : Fin 96) (t : TestRun),
    s.fc.tests.find? (fun t => t.unit = TestUnit.channel i && t.running && decide (testT0 (.channel i) ≤ t.age)) = some t → ∃ v : State,
    exec (.targetedTestDone (.channel i) (.cross j)) s = .next v ∧ .channel i ∈ v.fc.retired ∧ .channel j ∈ v.fc.retired) ∧
  (∀ (s : State) (u : TestUnit) (r : TestResult), s.fc.tests.find? (fun t => t.unit = u && t.running && decide (testT0 u ≤ t.age)) = none →
    exec (.targetedTestDone u r) s = .next s)
end

