-- ==== Sys2Proof/Laws/State.lean ====
section
/-! SUPPORT. One lemma for each field of the state under each of the operations that change one unit (Machine/Ops.lean), true by
definition: a proof cites these and unfolds no record update. -/

namespace Sys2Proof.Machine.State

variable (s : State)

section updPort
variable (n : Fin 48) (f : Port → Port)
@[simp] theorem updPort_mod : (s.updPort n f).mod = s.mod := rfl
@[simp] theorem updPort_tick : (s.updPort n f).tick = s.tick := rfl
@[simp] theorem updPort_spill : (s.updPort n f).spill = s.spill := rfl
@[simp] theorem updPort_fc : (s.updPort n f).fc = s.fc := rfl
@[simp] theorem updPort_cvs : (s.updPort n f).cvs = s.cvs := rfl
@[simp] theorem updPort_img : (s.updPort n f).img = s.img := rfl
@[simp] theorem updPort_model : (s.updPort n f).model = s.model := rfl
@[simp] theorem updPort_hi : (s.updPort n f).hi = s.hi := rfl
@[simp] theorem updPort_buses : (s.updPort n f).buses = s.buses := rfl
@[simp] theorem updPort_pwr : (s.updPort n f).pwr = s.pwr := rfl
@[simp] theorem updPort_page : (s.updPort n f).page = s.page := rfl
@[simp] theorem updPort_ports : (s.updPort n f).ports = s.ports.upd n f := rfl
@[simp] theorem updPort_sup : (s.updPort n f).sup = s.sup := rfl
@[simp] theorem updPort_cars : (s.updPort n f).cars = s.cars := rfl
@[simp] theorem updPort_axes : (s.updPort n f).axes = s.axes := rfl
@[simp] theorem updPort_lanes : (s.updPort n f).lanes = s.lanes := rfl
@[simp] theorem updPort_capus : (s.updPort n f).capus = s.capus := rfl
@[simp] theorem updPort_injStat : (s.updPort n f).injStat = s.injStat := rfl
@[simp] theorem updPort_pol : (s.updPort n f).pol = s.pol := rfl
@[simp] theorem updPort_conns : (s.updPort n f).conns = s.conns := rfl
@[simp] theorem updPort_lv : (s.updPort n f).lv = s.lv := rfl
@[simp] theorem updPort_seals : (s.updPort n f).seals = s.seals := rfl
@[simp] theorem updPort_modes : (s.updPort n f).modes = s.modes := rfl
@[simp] theorem updPort_sides : (s.updPort n f).sides = s.sides := rfl
@[simp] theorem updPort_learn : (s.updPort n f).learn = s.learn := rfl
@[simp] theorem updPort_dsx : (s.updPort n f).dsx = s.dsx := rfl
@[simp] theorem updPort_tw : (s.updPort n f).tw = s.tw := rfl
@[simp] theorem updPort_coreTest : (s.updPort n f).coreTest = s.coreTest := rfl
@[simp] theorem updPort_calm : (s.updPort n f).calm = s.calm := rfl
@[simp] theorem updPort_shown : (s.updPort n f).shown = s.shown := rfl
@[simp] theorem updPort_freeCtr : (s.updPort n f).freeCtr = s.freeCtr := rfl
@[simp] theorem updPort_pending : (s.updPort n f).pending = s.pending := rfl
end updPort

section updCar
variable (c : Fin 16) (f : CarPos → CarPos)
@[simp] theorem updCar_mod : (s.updCar c f).mod = s.mod := rfl
@[simp] theorem updCar_tick : (s.updCar c f).tick = s.tick := rfl
@[simp] theorem updCar_spill : (s.updCar c f).spill = s.spill := rfl
@[simp] theorem updCar_fc : (s.updCar c f).fc = s.fc := rfl
@[simp] theorem updCar_cvs : (s.updCar c f).cvs = s.cvs := rfl
@[simp] theorem updCar_img : (s.updCar c f).img = s.img := rfl
@[simp] theorem updCar_model : (s.updCar c f).model = s.model := rfl
@[simp] theorem updCar_hi : (s.updCar c f).hi = s.hi := rfl
@[simp] theorem updCar_buses : (s.updCar c f).buses = s.buses := rfl
@[simp] theorem updCar_pwr : (s.updCar c f).pwr = s.pwr := rfl
@[simp] theorem updCar_page : (s.updCar c f).page = s.page := rfl
@[simp] theorem updCar_ports : (s.updCar c f).ports = s.ports := rfl
@[simp] theorem updCar_sup : (s.updCar c f).sup = s.sup := rfl
@[simp] theorem updCar_cars : (s.updCar c f).cars = s.cars.upd c f := rfl
@[simp] theorem updCar_axes : (s.updCar c f).axes = s.axes := rfl
@[simp] theorem updCar_lanes : (s.updCar c f).lanes = s.lanes := rfl
@[simp] theorem updCar_capus : (s.updCar c f).capus = s.capus := rfl
@[simp] theorem updCar_injStat : (s.updCar c f).injStat = s.injStat := rfl
@[simp] theorem updCar_pol : (s.updCar c f).pol = s.pol := rfl
@[simp] theorem updCar_conns : (s.updCar c f).conns = s.conns := rfl
@[simp] theorem updCar_lv : (s.updCar c f).lv = s.lv := rfl
@[simp] theorem updCar_seals : (s.updCar c f).seals = s.seals := rfl
@[simp] theorem updCar_modes : (s.updCar c f).modes = s.modes := rfl
@[simp] theorem updCar_sides : (s.updCar c f).sides = s.sides := rfl
@[simp] theorem updCar_learn : (s.updCar c f).learn = s.learn := rfl
@[simp] theorem updCar_dsx : (s.updCar c f).dsx = s.dsx := rfl
@[simp] theorem updCar_tw : (s.updCar c f).tw = s.tw := rfl
@[simp] theorem updCar_coreTest : (s.updCar c f).coreTest = s.coreTest := rfl
@[simp] theorem updCar_calm : (s.updCar c f).calm = s.calm := rfl
@[simp] theorem updCar_shown : (s.updCar c f).shown = s.shown := rfl
@[simp] theorem updCar_freeCtr : (s.updCar c f).freeCtr = s.freeCtr := rfl
@[simp] theorem updCar_pending : (s.updCar c f).pending = s.pending := rfl
end updCar

section updAxis
variable (k : Fin 48) (f : Axis → Axis)
@[simp] theorem updAxis_mod : (s.updAxis k f).mod = s.mod := rfl
@[simp] theorem updAxis_tick : (s.updAxis k f).tick = s.tick := rfl
@[simp] theorem updAxis_spill : (s.updAxis k f).spill = s.spill := rfl
@[simp] theorem updAxis_fc : (s.updAxis k f).fc = s.fc := rfl
@[simp] theorem updAxis_cvs : (s.updAxis k f).cvs = s.cvs := rfl
@[simp] theorem updAxis_img : (s.updAxis k f).img = s.img := rfl
@[simp] theorem updAxis_model : (s.updAxis k f).model = s.model := rfl
@[simp] theorem updAxis_hi : (s.updAxis k f).hi = s.hi := rfl
@[simp] theorem updAxis_buses : (s.updAxis k f).buses = s.buses := rfl
@[simp] theorem updAxis_pwr : (s.updAxis k f).pwr = s.pwr := rfl
@[simp] theorem updAxis_page : (s.updAxis k f).page = s.page := rfl
@[simp] theorem updAxis_ports : (s.updAxis k f).ports = s.ports := rfl
@[simp] theorem updAxis_sup : (s.updAxis k f).sup = s.sup := rfl
@[simp] theorem updAxis_cars : (s.updAxis k f).cars = s.cars := rfl
@[simp] theorem updAxis_axes : (s.updAxis k f).axes = s.axes.upd k f := rfl
@[simp] theorem updAxis_lanes : (s.updAxis k f).lanes = s.lanes := rfl
@[simp] theorem updAxis_capus : (s.updAxis k f).capus = s.capus := rfl
@[simp] theorem updAxis_injStat : (s.updAxis k f).injStat = s.injStat := rfl
@[simp] theorem updAxis_pol : (s.updAxis k f).pol = s.pol := rfl
@[simp] theorem updAxis_conns : (s.updAxis k f).conns = s.conns := rfl
@[simp] theorem updAxis_lv : (s.updAxis k f).lv = s.lv := rfl
@[simp] theorem updAxis_seals : (s.updAxis k f).seals = s.seals := rfl
@[simp] theorem updAxis_modes : (s.updAxis k f).modes = s.modes := rfl
@[simp] theorem updAxis_sides : (s.updAxis k f).sides = s.sides := rfl
@[simp] theorem updAxis_learn : (s.updAxis k f).learn = s.learn := rfl
@[simp] theorem updAxis_dsx : (s.updAxis k f).dsx = s.dsx := rfl
@[simp] theorem updAxis_tw : (s.updAxis k f).tw = s.tw := rfl
@[simp] theorem updAxis_coreTest : (s.updAxis k f).coreTest = s.coreTest := rfl
@[simp] theorem updAxis_calm : (s.updAxis k f).calm = s.calm := rfl
@[simp] theorem updAxis_shown : (s.updAxis k f).shown = s.shown := rfl
@[simp] theorem updAxis_freeCtr : (s.updAxis k f).freeCtr = s.freeCtr := rfl
@[simp] theorem updAxis_pending : (s.updAxis k f).pending = s.pending := rfl
end updAxis

section updLane
variable (k : Fin 48) (f : Lane → Lane)
@[simp] theorem updLane_mod : (s.updLane k f).mod = s.mod := rfl
@[simp] theorem updLane_tick : (s.updLane k f).tick = s.tick := rfl
@[simp] theorem updLane_spill : (s.updLane k f).spill = s.spill := rfl
@[simp] theorem updLane_fc : (s.updLane k f).fc = s.fc := rfl
@[simp] theorem updLane_cvs : (s.updLane k f).cvs = s.cvs := rfl
@[simp] theorem updLane_img : (s.updLane k f).img = s.img := rfl
@[simp] theorem updLane_model : (s.updLane k f).model = s.model := rfl
@[simp] theorem updLane_hi : (s.updLane k f).hi = s.hi := rfl
@[simp] theorem updLane_buses : (s.updLane k f).buses = s.buses := rfl
@[simp] theorem updLane_pwr : (s.updLane k f).pwr = s.pwr := rfl
@[simp] theorem updLane_page : (s.updLane k f).page = s.page := rfl
@[simp] theorem updLane_ports : (s.updLane k f).ports = s.ports := rfl
@[simp] theorem updLane_sup : (s.updLane k f).sup = s.sup := rfl
@[simp] theorem updLane_cars : (s.updLane k f).cars = s.cars := rfl
@[simp] theorem updLane_axes : (s.updLane k f).axes = s.axes := rfl
@[simp] theorem updLane_lanes : (s.updLane k f).lanes = s.lanes.upd k f := rfl
@[simp] theorem updLane_capus : (s.updLane k f).capus = s.capus := rfl
@[simp] theorem updLane_injStat : (s.updLane k f).injStat = s.injStat := rfl
@[simp] theorem updLane_pol : (s.updLane k f).pol = s.pol := rfl
@[simp] theorem updLane_conns : (s.updLane k f).conns = s.conns := rfl
@[simp] theorem updLane_lv : (s.updLane k f).lv = s.lv := rfl
@[simp] theorem updLane_seals : (s.updLane k f).seals = s.seals := rfl
@[simp] theorem updLane_modes : (s.updLane k f).modes = s.modes := rfl
@[simp] theorem updLane_sides : (s.updLane k f).sides = s.sides := rfl
@[simp] theorem updLane_learn : (s.updLane k f).learn = s.learn := rfl
@[simp] theorem updLane_dsx : (s.updLane k f).dsx = s.dsx := rfl
@[simp] theorem updLane_tw : (s.updLane k f).tw = s.tw := rfl
@[simp] theorem updLane_coreTest : (s.updLane k f).coreTest = s.coreTest := rfl
@[simp] theorem updLane_calm : (s.updLane k f).calm = s.calm := rfl
@[simp] theorem updLane_shown : (s.updLane k f).shown = s.shown := rfl
@[simp] theorem updLane_freeCtr : (s.updLane k f).freeCtr = s.freeCtr := rfl
@[simp] theorem updLane_pending : (s.updLane k f).pending = s.pending := rfl
end updLane

section updCapu
variable (u : Fin 4) (f : Capu → Capu)
@[simp] theorem updCapu_mod : (s.updCapu u f).mod = s.mod := rfl
@[simp] theorem updCapu_tick : (s.updCapu u f).tick = s.tick := rfl
@[simp] theorem updCapu_spill : (s.updCapu u f).spill = s.spill := rfl
@[simp] theorem updCapu_fc : (s.updCapu u f).fc = s.fc := rfl
@[simp] theorem updCapu_cvs : (s.updCapu u f).cvs = s.cvs := rfl
@[simp] theorem updCapu_img : (s.updCapu u f).img = s.img := rfl
@[simp] theorem updCapu_model : (s.updCapu u f).model = s.model := rfl
@[simp] theorem updCapu_hi : (s.updCapu u f).hi = s.hi := rfl
@[simp] theorem updCapu_buses : (s.updCapu u f).buses = s.buses := rfl
@[simp] theorem updCapu_pwr : (s.updCapu u f).pwr = s.pwr := rfl
@[simp] theorem updCapu_page : (s.updCapu u f).page = s.page := rfl
@[simp] theorem updCapu_ports : (s.updCapu u f).ports = s.ports := rfl
@[simp] theorem updCapu_sup : (s.updCapu u f).sup = s.sup := rfl
@[simp] theorem updCapu_cars : (s.updCapu u f).cars = s.cars := rfl
@[simp] theorem updCapu_axes : (s.updCapu u f).axes = s.axes := rfl
@[simp] theorem updCapu_lanes : (s.updCapu u f).lanes = s.lanes := rfl
@[simp] theorem updCapu_capus : (s.updCapu u f).capus = s.capus.upd u f := rfl
@[simp] theorem updCapu_injStat : (s.updCapu u f).injStat = s.injStat := rfl
@[simp] theorem updCapu_pol : (s.updCapu u f).pol = s.pol := rfl
@[simp] theorem updCapu_conns : (s.updCapu u f).conns = s.conns := rfl
@[simp] theorem updCapu_lv : (s.updCapu u f).lv = s.lv := rfl
@[simp] theorem updCapu_seals : (s.updCapu u f).seals = s.seals := rfl
@[simp] theorem updCapu_modes : (s.updCapu u f).modes = s.modes := rfl
@[simp] theorem updCapu_sides : (s.updCapu u f).sides = s.sides := rfl
@[simp] theorem updCapu_learn : (s.updCapu u f).learn = s.learn := rfl
@[simp] theorem updCapu_dsx : (s.updCapu u f).dsx = s.dsx := rfl
@[simp] theorem updCapu_tw : (s.updCapu u f).tw = s.tw := rfl
@[simp] theorem updCapu_coreTest : (s.updCapu u f).coreTest = s.coreTest := rfl
@[simp] theorem updCapu_calm : (s.updCapu u f).calm = s.calm := rfl
@[simp] theorem updCapu_shown : (s.updCapu u f).shown = s.shown := rfl
@[simp] theorem updCapu_freeCtr : (s.updCapu u f).freeCtr = s.freeCtr := rfl
@[simp] theorem updCapu_pending : (s.updCapu u f).pending = s.pending := rfl
end updCapu

section updCh
variable (i : Fin 96) (f : PolCh → PolCh)
@[simp] theorem updCh_mod : (s.updCh i f).mod = s.mod := rfl
@[simp] theorem updCh_tick : (s.updCh i f).tick = s.tick := rfl
@[simp] theorem updCh_spill : (s.updCh i f).spill = s.spill := rfl
@[simp] theorem updCh_fc : (s.updCh i f).fc = s.fc := rfl
@[simp] theorem updCh_cvs : (s.updCh i f).cvs = s.cvs := rfl
@[simp] theorem updCh_img : (s.updCh i f).img = s.img := rfl
@[simp] theorem updCh_model : (s.updCh i f).model = s.model := rfl
@[simp] theorem updCh_hi : (s.updCh i f).hi = s.hi := rfl
@[simp] theorem updCh_buses : (s.updCh i f).buses = s.buses := rfl
@[simp] theorem updCh_pwr : (s.updCh i f).pwr = s.pwr := rfl
@[simp] theorem updCh_page : (s.updCh i f).page = s.page := rfl
@[simp] theorem updCh_ports : (s.updCh i f).ports = s.ports := rfl
@[simp] theorem updCh_sup : (s.updCh i f).sup = s.sup := rfl
@[simp] theorem updCh_cars : (s.updCh i f).cars = s.cars := rfl
@[simp] theorem updCh_axes : (s.updCh i f).axes = s.axes := rfl
@[simp] theorem updCh_lanes : (s.updCh i f).lanes = s.lanes := rfl
@[simp] theorem updCh_capus : (s.updCh i f).capus = s.capus := rfl
@[simp] theorem updCh_injStat : (s.updCh i f).injStat = s.injStat := rfl
@[simp] theorem updCh_pol : (s.updCh i f).pol = { s.pol with ch := s.pol.ch.upd i f } := rfl
@[simp] theorem updCh_conns : (s.updCh i f).conns = s.conns := rfl
@[simp] theorem updCh_lv : (s.updCh i f).lv = s.lv := rfl
@[simp] theorem updCh_seals : (s.updCh i f).seals = s.seals := rfl
@[simp] theorem updCh_modes : (s.updCh i f).modes = s.modes := rfl
@[simp] theorem updCh_sides : (s.updCh i f).sides = s.sides := rfl
@[simp] theorem updCh_learn : (s.updCh i f).learn = s.learn := rfl
@[simp] theorem updCh_dsx : (s.updCh i f).dsx = s.dsx := rfl
@[simp] theorem updCh_tw : (s.updCh i f).tw = s.tw := rfl
@[simp] theorem updCh_coreTest : (s.updCh i f).coreTest = s.coreTest := rfl
@[simp] theorem updCh_calm : (s.updCh i f).calm = s.calm := rfl
@[simp] theorem updCh_shown : (s.updCh i f).shown = s.shown := rfl
@[simp] theorem updCh_freeCtr : (s.updCh i f).freeCtr = s.freeCtr := rfl
@[simp] theorem updCh_pending : (s.updCh i f).pending = s.pending := rfl
end updCh

section updPol
variable (p : Fin 12) (f : Polder → Polder)
@[simp] theorem updPol_mod : (s.updPol p f).mod = s.mod := rfl
@[simp] theorem updPol_tick : (s.updPol p f).tick = s.tick := rfl
@[simp] theorem updPol_spill : (s.updPol p f).spill = s.spill := rfl
@[simp] theorem updPol_fc : (s.updPol p f).fc = s.fc := rfl
@[simp] theorem updPol_cvs : (s.updPol p f).cvs = s.cvs := rfl
@[simp] theorem updPol_img : (s.updPol p f).img = s.img := rfl
@[simp] theorem updPol_model : (s.updPol p f).model = s.model := rfl
@[simp] theorem updPol_hi : (s.updPol p f).hi = s.hi := rfl
@[simp] theorem updPol_buses : (s.updPol p f).buses = s.buses := rfl
@[simp] theorem updPol_pwr : (s.updPol p f).pwr = s.pwr := rfl
@[simp] theorem updPol_page : (s.updPol p f).page = s.page := rfl
@[simp] theorem updPol_ports : (s.updPol p f).ports = s.ports := rfl
@[simp] theorem updPol_sup : (s.updPol p f).sup = s.sup := rfl
@[simp] theorem updPol_cars : (s.updPol p f).cars = s.cars := rfl
@[simp] theorem updPol_axes : (s.updPol p f).axes = s.axes := rfl
@[simp] theorem updPol_lanes : (s.updPol p f).lanes = s.lanes := rfl
@[simp] theorem updPol_capus : (s.updPol p f).capus = s.capus := rfl
@[simp] theorem updPol_injStat : (s.updPol p f).injStat = s.injStat := rfl
@[simp] theorem updPol_pol : (s.updPol p f).pol = { s.pol with pol := s.pol.pol.upd p f } := rfl
@[simp] theorem updPol_conns : (s.updPol p f).conns = s.conns := rfl
@[simp] theorem updPol_lv : (s.updPol p f).lv = s.lv := rfl
@[simp] theorem updPol_seals : (s.updPol p f).seals = s.seals := rfl
@[simp] theorem updPol_modes : (s.updPol p f).modes = s.modes := rfl
@[simp] theorem updPol_sides : (s.updPol p f).sides = s.sides := rfl
@[simp] theorem updPol_learn : (s.updPol p f).learn = s.learn := rfl
@[simp] theorem updPol_dsx : (s.updPol p f).dsx = s.dsx := rfl
@[simp] theorem updPol_tw : (s.updPol p f).tw = s.tw := rfl
@[simp] theorem updPol_coreTest : (s.updPol p f).coreTest = s.coreTest := rfl
@[simp] theorem updPol_calm : (s.updPol p f).calm = s.calm := rfl
@[simp] theorem updPol_shown : (s.updPol p f).shown = s.shown := rfl
@[simp] theorem updPol_freeCtr : (s.updPol p f).freeCtr = s.freeCtr := rfl
@[simp] theorem updPol_pending : (s.updPol p f).pending = s.pending := rfl
end updPol

section updConn
variable (i : Nat) (f : Conn → Conn)
@[simp] theorem updConn_mod : (s.updConn i f).mod = s.mod := rfl
@[simp] theorem updConn_tick : (s.updConn i f).tick = s.tick := rfl
@[simp] theorem updConn_spill : (s.updConn i f).spill = s.spill := rfl
@[simp] theorem updConn_fc : (s.updConn i f).fc = s.fc := rfl
@[simp] theorem updConn_cvs : (s.updConn i f).cvs = s.cvs := rfl
@[simp] theorem updConn_img : (s.updConn i f).img = s.img := rfl
@[simp] theorem updConn_model : (s.updConn i f).model = s.model := rfl
@[simp] theorem updConn_hi : (s.updConn i f).hi = s.hi := rfl
@[simp] theorem updConn_buses : (s.updConn i f).buses = s.buses := rfl
@[simp] theorem updConn_pwr : (s.updConn i f).pwr = s.pwr := rfl
@[simp] theorem updConn_page : (s.updConn i f).page = s.page := rfl
@[simp] theorem updConn_ports : (s.updConn i f).ports = s.ports := rfl
@[simp] theorem updConn_sup : (s.updConn i f).sup = s.sup := rfl
@[simp] theorem updConn_cars : (s.updConn i f).cars = s.cars := rfl
@[simp] theorem updConn_axes : (s.updConn i f).axes = s.axes := rfl
@[simp] theorem updConn_lanes : (s.updConn i f).lanes = s.lanes := rfl
@[simp] theorem updConn_capus : (s.updConn i f).capus = s.capus := rfl
@[simp] theorem updConn_injStat : (s.updConn i f).injStat = s.injStat := rfl
@[simp] theorem updConn_pol : (s.updConn i f).pol = s.pol := rfl
@[simp] theorem updConn_conns : (s.updConn i f).conns = s.conns.modify i f := rfl
@[simp] theorem updConn_lv : (s.updConn i f).lv = s.lv := rfl
@[simp] theorem updConn_seals : (s.updConn i f).seals = s.seals := rfl
@[simp] theorem updConn_modes : (s.updConn i f).modes = s.modes := rfl
@[simp] theorem updConn_sides : (s.updConn i f).sides = s.sides := rfl
@[simp] theorem updConn_learn : (s.updConn i f).learn = s.learn := rfl
@[simp] theorem updConn_dsx : (s.updConn i f).dsx = s.dsx := rfl
@[simp] theorem updConn_tw : (s.updConn i f).tw = s.tw := rfl
@[simp] theorem updConn_coreTest : (s.updConn i f).coreTest = s.coreTest := rfl
@[simp] theorem updConn_calm : (s.updConn i f).calm = s.calm := rfl
@[simp] theorem updConn_shown : (s.updConn i f).shown = s.shown := rfl
@[simp] theorem updConn_freeCtr : (s.updConn i f).freeCtr = s.freeCtr := rfl
@[simp] theorem updConn_pending : (s.updConn i f).pending = s.pending := rfl
end updConn

section updLv
variable (c : Fin 16) (f : Lv → Lv)
@[simp] theorem updLv_mod : (s.updLv c f).mod = s.mod := rfl
@[simp] theorem updLv_tick : (s.updLv c f).tick = s.tick := rfl
@[simp] theorem updLv_spill : (s.updLv c f).spill = s.spill := rfl
@[simp] theorem updLv_fc : (s.updLv c f).fc = s.fc := rfl
@[simp] theorem updLv_cvs : (s.updLv c f).cvs = s.cvs := rfl
@[simp] theorem updLv_img : (s.updLv c f).img = s.img := rfl
@[simp] theorem updLv_model : (s.updLv c f).model = s.model := rfl
@[simp] theorem updLv_hi : (s.updLv c f).hi = s.hi := rfl
@[simp] theorem updLv_buses : (s.updLv c f).buses = s.buses := rfl
@[simp] theorem updLv_pwr : (s.updLv c f).pwr = s.pwr := rfl
@[simp] theorem updLv_page : (s.updLv c f).page = s.page := rfl
@[simp] theorem updLv_ports : (s.updLv c f).ports = s.ports := rfl
@[simp] theorem updLv_sup : (s.updLv c f).sup = s.sup := rfl
@[simp] theorem updLv_cars : (s.updLv c f).cars = s.cars := rfl
@[simp] theorem updLv_axes : (s.updLv c f).axes = s.axes := rfl
@[simp] theorem updLv_lanes : (s.updLv c f).lanes = s.lanes := rfl
@[simp] theorem updLv_capus : (s.updLv c f).capus = s.capus := rfl
@[simp] theorem updLv_injStat : (s.updLv c f).injStat = s.injStat := rfl
@[simp] theorem updLv_pol : (s.updLv c f).pol = s.pol := rfl
@[simp] theorem updLv_conns : (s.updLv c f).conns = s.conns := rfl
@[simp] theorem updLv_lv : (s.updLv c f).lv = s.lv.upd c f := rfl
@[simp] theorem updLv_seals : (s.updLv c f).seals = s.seals := rfl
@[simp] theorem updLv_modes : (s.updLv c f).modes = s.modes := rfl
@[simp] theorem updLv_sides : (s.updLv c f).sides = s.sides := rfl
@[simp] theorem updLv_learn : (s.updLv c f).learn = s.learn := rfl
@[simp] theorem updLv_dsx : (s.updLv c f).dsx = s.dsx := rfl
@[simp] theorem updLv_tw : (s.updLv c f).tw = s.tw := rfl
@[simp] theorem updLv_coreTest : (s.updLv c f).coreTest = s.coreTest := rfl
@[simp] theorem updLv_calm : (s.updLv c f).calm = s.calm := rfl
@[simp] theorem updLv_shown : (s.updLv c f).shown = s.shown := rfl
@[simp] theorem updLv_freeCtr : (s.updLv c f).freeCtr = s.freeCtr := rfl
@[simp] theorem updLv_pending : (s.updLv c f).pending = s.pending := rfl
end updLv

section updMode
variable (c : Fin 16) (f : Mode → Mode)
@[simp] theorem updMode_mod : (s.updMode c f).mod = s.mod := rfl
@[simp] theorem updMode_tick : (s.updMode c f).tick = s.tick := rfl
@[simp] theorem updMode_spill : (s.updMode c f).spill = s.spill := rfl
@[simp] theorem updMode_fc : (s.updMode c f).fc = s.fc := rfl
@[simp] theorem updMode_cvs : (s.updMode c f).cvs = s.cvs := rfl
@[simp] theorem updMode_img : (s.updMode c f).img = s.img := rfl
@[simp] theorem updMode_model : (s.updMode c f).model = s.model := rfl
@[simp] theorem updMode_hi : (s.updMode c f).hi = s.hi := rfl
@[simp] theorem updMode_buses : (s.updMode c f).buses = s.buses := rfl
@[simp] theorem updMode_pwr : (s.updMode c f).pwr = s.pwr := rfl
@[simp] theorem updMode_page : (s.updMode c f).page = s.page := rfl
@[simp] theorem updMode_ports : (s.updMode c f).ports = s.ports := rfl
@[simp] theorem updMode_sup : (s.updMode c f).sup = s.sup := rfl
@[simp] theorem updMode_cars : (s.updMode c f).cars = s.cars := rfl
@[simp] theorem updMode_axes : (s.updMode c f).axes = s.axes := rfl
@[simp] theorem updMode_lanes : (s.updMode c f).lanes = s.lanes := rfl
@[simp] theorem updMode_capus : (s.updMode c f).capus = s.capus := rfl
@[simp] theorem updMode_injStat : (s.updMode c f).injStat = s.injStat := rfl
@[simp] theorem updMode_pol : (s.updMode c f).pol = s.pol := rfl
@[simp] theorem updMode_conns : (s.updMode c f).conns = s.conns := rfl
@[simp] theorem updMode_lv : (s.updMode c f).lv = s.lv := rfl
@[simp] theorem updMode_seals : (s.updMode c f).seals = s.seals := rfl
@[simp] theorem updMode_modes : (s.updMode c f).modes = s.modes.upd c f := rfl
@[simp] theorem updMode_sides : (s.updMode c f).sides = s.sides := rfl
@[simp] theorem updMode_learn : (s.updMode c f).learn = s.learn := rfl
@[simp] theorem updMode_dsx : (s.updMode c f).dsx = s.dsx := rfl
@[simp] theorem updMode_tw : (s.updMode c f).tw = s.tw := rfl
@[simp] theorem updMode_coreTest : (s.updMode c f).coreTest = s.coreTest := rfl
@[simp] theorem updMode_calm : (s.updMode c f).calm = s.calm := rfl
@[simp] theorem updMode_shown : (s.updMode c f).shown = s.shown := rfl
@[simp] theorem updMode_freeCtr : (s.updMode c f).freeCtr = s.freeCtr := rfl
@[simp] theorem updMode_pending : (s.updMode c f).pending = s.pending := rfl
end updMode

section updSide
variable (d : Fin 32) (f : Side → Side)
@[simp] theorem updSide_mod : (s.updSide d f).mod = s.mod := rfl
@[simp] theorem updSide_tick : (s.updSide d f).tick = s.tick := rfl
@[simp] theorem updSide_spill : (s.updSide d f).spill = s.spill := rfl
@[simp] theorem updSide_fc : (s.updSide d f).fc = s.fc := rfl
@[simp] theorem updSide_cvs : (s.updSide d f).cvs = s.cvs := rfl
@[simp] theorem updSide_img : (s.updSide d f).img = s.img := rfl
@[simp] theorem updSide_model : (s.updSide d f).model = s.model := rfl
@[simp] theorem updSide_hi : (s.updSide d f).hi = s.hi := rfl
@[simp] theorem updSide_buses : (s.updSide d f).buses = s.buses := rfl
@[simp] theorem updSide_pwr : (s.updSide d f).pwr = s.pwr := rfl
@[simp] theorem updSide_page : (s.updSide d f).page = s.page := rfl
@[simp] theorem updSide_ports : (s.updSide d f).ports = s.ports := rfl
@[simp] theorem updSide_sup : (s.updSide d f).sup = s.sup := rfl
@[simp] theorem updSide_cars : (s.updSide d f).cars = s.cars := rfl
@[simp] theorem updSide_axes : (s.updSide d f).axes = s.axes := rfl
@[simp] theorem updSide_lanes : (s.updSide d f).lanes = s.lanes := rfl
@[simp] theorem updSide_capus : (s.updSide d f).capus = s.capus := rfl
@[simp] theorem updSide_injStat : (s.updSide d f).injStat = s.injStat := rfl
@[simp] theorem updSide_pol : (s.updSide d f).pol = s.pol := rfl
@[simp] theorem updSide_conns : (s.updSide d f).conns = s.conns := rfl
@[simp] theorem updSide_lv : (s.updSide d f).lv = s.lv := rfl
@[simp] theorem updSide_seals : (s.updSide d f).seals = s.seals := rfl
@[simp] theorem updSide_modes : (s.updSide d f).modes = s.modes := rfl
@[simp] theorem updSide_sides : (s.updSide d f).sides = s.sides.upd d f := rfl
@[simp] theorem updSide_learn : (s.updSide d f).learn = s.learn := rfl
@[simp] theorem updSide_dsx : (s.updSide d f).dsx = s.dsx := rfl
@[simp] theorem updSide_tw : (s.updSide d f).tw = s.tw := rfl
@[simp] theorem updSide_coreTest : (s.updSide d f).coreTest = s.coreTest := rfl
@[simp] theorem updSide_calm : (s.updSide d f).calm = s.calm := rfl
@[simp] theorem updSide_shown : (s.updSide d f).shown = s.shown := rfl
@[simp] theorem updSide_freeCtr : (s.updSide d f).freeCtr = s.freeCtr := rfl
@[simp] theorem updSide_pending : (s.updSide d f).pending = s.pending := rfl
end updSide

section updBus
variable (n : Fin 12) (f : Bus → Bus)
@[simp] theorem updBus_mod : (s.updBus n f).mod = s.mod := rfl
@[simp] theorem updBus_tick : (s.updBus n f).tick = s.tick := rfl
@[simp] theorem updBus_spill : (s.updBus n f).spill = s.spill := rfl
@[simp] theorem updBus_fc : (s.updBus n f).fc = s.fc := rfl
@[simp] theorem updBus_cvs : (s.updBus n f).cvs = s.cvs := rfl
@[simp] theorem updBus_img : (s.updBus n f).img = s.img := rfl
@[simp] theorem updBus_model : (s.updBus n f).model = s.model := rfl
@[simp] theorem updBus_hi : (s.updBus n f).hi = s.hi := rfl
@[simp] theorem updBus_buses : (s.updBus n f).buses = s.buses.upd n f := rfl
@[simp] theorem updBus_pwr : (s.updBus n f).pwr = s.pwr := rfl
@[simp] theorem updBus_page : (s.updBus n f).page = s.page := rfl
@[simp] theorem updBus_ports : (s.updBus n f).ports = s.ports := rfl
@[simp] theorem updBus_sup : (s.updBus n f).sup = s.sup := rfl
@[simp] theorem updBus_cars : (s.updBus n f).cars = s.cars := rfl
@[simp] theorem updBus_axes : (s.updBus n f).axes = s.axes := rfl
@[simp] theorem updBus_lanes : (s.updBus n f).lanes = s.lanes := rfl
@[simp] theorem updBus_capus : (s.updBus n f).capus = s.capus := rfl
@[simp] theorem updBus_injStat : (s.updBus n f).injStat = s.injStat := rfl
@[simp] theorem updBus_pol : (s.updBus n f).pol = s.pol := rfl
@[simp] theorem updBus_conns : (s.updBus n f).conns = s.conns := rfl
@[simp] theorem updBus_lv : (s.updBus n f).lv = s.lv := rfl
@[simp] theorem updBus_seals : (s.updBus n f).seals = s.seals := rfl
@[simp] theorem updBus_modes : (s.updBus n f).modes = s.modes := rfl
@[simp] theorem updBus_sides : (s.updBus n f).sides = s.sides := rfl
@[simp] theorem updBus_learn : (s.updBus n f).learn = s.learn := rfl
@[simp] theorem updBus_dsx : (s.updBus n f).dsx = s.dsx := rfl
@[simp] theorem updBus_tw : (s.updBus n f).tw = s.tw := rfl
@[simp] theorem updBus_coreTest : (s.updBus n f).coreTest = s.coreTest := rfl
@[simp] theorem updBus_calm : (s.updBus n f).calm = s.calm := rfl
@[simp] theorem updBus_shown : (s.updBus n f).shown = s.shown := rfl
@[simp] theorem updBus_freeCtr : (s.updBus n f).freeCtr = s.freeCtr := rfl
@[simp] theorem updBus_pending : (s.updBus n f).pending = s.pending := rfl
end updBus

section updSup
variable (g : Fin 6) (f : Supply → Supply)
@[simp] theorem updSup_mod : (s.updSup g f).mod = s.mod := rfl
@[simp] theorem updSup_tick : (s.updSup g f).tick = s.tick := rfl
@[simp] theorem updSup_spill : (s.updSup g f).spill = s.spill := rfl
@[simp] theorem updSup_fc : (s.updSup g f).fc = s.fc := rfl
@[simp] theorem updSup_cvs : (s.updSup g f).cvs = s.cvs := rfl
@[simp] theorem updSup_img : (s.updSup g f).img = s.img := rfl
@[simp] theorem updSup_model : (s.updSup g f).model = s.model := rfl
@[simp] theorem updSup_hi : (s.updSup g f).hi = s.hi := rfl
@[simp] theorem updSup_buses : (s.updSup g f).buses = s.buses := rfl
@[simp] theorem updSup_pwr : (s.updSup g f).pwr = s.pwr := rfl
@[simp] theorem updSup_page : (s.updSup g f).page = s.page := rfl
@[simp] theorem updSup_ports : (s.updSup g f).ports = s.ports := rfl
@[simp] theorem updSup_sup : (s.updSup g f).sup = { s.sup with groups := s.sup.groups.upd g f } := rfl
@[simp] theorem updSup_cars : (s.updSup g f).cars = s.cars := rfl
@[simp] theorem updSup_axes : (s.updSup g f).axes = s.axes := rfl
@[simp] theorem updSup_lanes : (s.updSup g f).lanes = s.lanes := rfl
@[simp] theorem updSup_capus : (s.updSup g f).capus = s.capus := rfl
@[simp] theorem updSup_injStat : (s.updSup g f).injStat = s.injStat := rfl
@[simp] theorem updSup_pol : (s.updSup g f).pol = s.pol := rfl
@[simp] theorem updSup_conns : (s.updSup g f).conns = s.conns := rfl
@[simp] theorem updSup_lv : (s.updSup g f).lv = s.lv := rfl
@[simp] theorem updSup_seals : (s.updSup g f).seals = s.seals := rfl
@[simp] theorem updSup_modes : (s.updSup g f).modes = s.modes := rfl
@[simp] theorem updSup_sides : (s.updSup g f).sides = s.sides := rfl
@[simp] theorem updSup_learn : (s.updSup g f).learn = s.learn := rfl
@[simp] theorem updSup_dsx : (s.updSup g f).dsx = s.dsx := rfl
@[simp] theorem updSup_tw : (s.updSup g f).tw = s.tw := rfl
@[simp] theorem updSup_coreTest : (s.updSup g f).coreTest = s.coreTest := rfl
@[simp] theorem updSup_calm : (s.updSup g f).calm = s.calm := rfl
@[simp] theorem updSup_shown : (s.updSup g f).shown = s.shown := rfl
@[simp] theorem updSup_freeCtr : (s.updSup g f).freeCtr = s.freeCtr := rfl
@[simp] theorem updSup_pending : (s.updSup g f).pending = s.pending := rfl
end updSup

section updFc
variable (f : Fc → Fc)
@[simp] theorem updFc_mod : (s.updFc f).mod = s.mod := rfl
@[simp] theorem updFc_tick : (s.updFc f).tick = s.tick := rfl
@[simp] theorem updFc_spill : (s.updFc f).spill = s.spill := rfl
@[simp] theorem updFc_fc : (s.updFc f).fc = f s.fc := rfl
@[simp] theorem updFc_cvs : (s.updFc f).cvs = s.cvs := rfl
@[simp] theorem updFc_img : (s.updFc f).img = s.img := rfl
@[simp] theorem updFc_model : (s.updFc f).model = s.model := rfl
@[simp] theorem updFc_hi : (s.updFc f).hi = s.hi := rfl
@[simp] theorem updFc_buses : (s.updFc f).buses = s.buses := rfl
@[simp] theorem updFc_pwr : (s.updFc f).pwr = s.pwr := rfl
@[simp] theorem updFc_page : (s.updFc f).page = s.page := rfl
@[simp] theorem updFc_ports : (s.updFc f).ports = s.ports := rfl
@[simp] theorem updFc_sup : (s.updFc f).sup = s.sup := rfl
@[simp] theorem updFc_cars : (s.updFc f).cars = s.cars := rfl
@[simp] theorem updFc_axes : (s.updFc f).axes = s.axes := rfl
@[simp] theorem updFc_lanes : (s.updFc f).lanes = s.lanes := rfl
@[simp] theorem updFc_capus : (s.updFc f).capus = s.capus := rfl
@[simp] theorem updFc_injStat : (s.updFc f).injStat = s.injStat := rfl
@[simp] theorem updFc_pol : (s.updFc f).pol = s.pol := rfl
@[simp] theorem updFc_conns : (s.updFc f).conns = s.conns := rfl
@[simp] theorem updFc_lv : (s.updFc f).lv = s.lv := rfl
@[simp] theorem updFc_seals : (s.updFc f).seals = s.seals := rfl
@[simp] theorem updFc_modes : (s.updFc f).modes = s.modes := rfl
@[simp] theorem updFc_sides : (s.updFc f).sides = s.sides := rfl
@[simp] theorem updFc_learn : (s.updFc f).learn = s.learn := rfl
@[simp] theorem updFc_dsx : (s.updFc f).dsx = s.dsx := rfl
@[simp] theorem updFc_tw : (s.updFc f).tw = s.tw := rfl
@[simp] theorem updFc_coreTest : (s.updFc f).coreTest = s.coreTest := rfl
@[simp] theorem updFc_calm : (s.updFc f).calm = s.calm := rfl
@[simp] theorem updFc_shown : (s.updFc f).shown = s.shown := rfl
@[simp] theorem updFc_freeCtr : (s.updFc f).freeCtr = s.freeCtr := rfl
@[simp] theorem updFc_pending : (s.updFc f).pending = s.pending := rfl
end updFc

section updHi
variable (f : Hi → Hi)
@[simp] theorem updHi_mod : (s.updHi f).mod = s.mod := rfl
@[simp] theorem updHi_tick : (s.updHi f).tick = s.tick := rfl
@[simp] theorem updHi_spill : (s.updHi f).spill = s.spill := rfl
@[simp] theorem updHi_fc : (s.updHi f).fc = s.fc := rfl
@[simp] theorem updHi_cvs : (s.updHi f).cvs = s.cvs := rfl
@[simp] theorem updHi_img : (s.updHi f).img = s.img := rfl
@[simp] theorem updHi_model : (s.updHi f).model = s.model := rfl
@[simp] theorem updHi_hi : (s.updHi f).hi = f s.hi := rfl
@[simp] theorem updHi_buses : (s.updHi f).buses = s.buses := rfl
@[simp] theorem updHi_pwr : (s.updHi f).pwr = s.pwr := rfl
@[simp] theorem updHi_page : (s.updHi f).page = s.page := rfl
@[simp] theorem updHi_ports : (s.updHi f).ports = s.ports := rfl
@[simp] theorem updHi_sup : (s.updHi f).sup = s.sup := rfl
@[simp] theorem updHi_cars : (s.updHi f).cars = s.cars := rfl
@[simp] theorem updHi_axes : (s.updHi f).axes = s.axes := rfl
@[simp] theorem updHi_lanes : (s.updHi f).lanes = s.lanes := rfl
@[simp] theorem updHi_capus : (s.updHi f).capus = s.capus := rfl
@[simp] theorem updHi_injStat : (s.updHi f).injStat = s.injStat := rfl
@[simp] theorem updHi_pol : (s.updHi f).pol = s.pol := rfl
@[simp] theorem updHi_conns : (s.updHi f).conns = s.conns := rfl
@[simp] theorem updHi_lv : (s.updHi f).lv = s.lv := rfl
@[simp] theorem updHi_seals : (s.updHi f).seals = s.seals := rfl
@[simp] theorem updHi_modes : (s.updHi f).modes = s.modes := rfl
@[simp] theorem updHi_sides : (s.updHi f).sides = s.sides := rfl
@[simp] theorem updHi_learn : (s.updHi f).learn = s.learn := rfl
@[simp] theorem updHi_dsx : (s.updHi f).dsx = s.dsx := rfl
@[simp] theorem updHi_tw : (s.updHi f).tw = s.tw := rfl
@[simp] theorem updHi_coreTest : (s.updHi f).coreTest = s.coreTest := rfl
@[simp] theorem updHi_calm : (s.updHi f).calm = s.calm := rfl
@[simp] theorem updHi_shown : (s.updHi f).shown = s.shown := rfl
@[simp] theorem updHi_freeCtr : (s.updHi f).freeCtr = s.freeCtr := rfl
@[simp] theorem updHi_pending : (s.updHi f).pending = s.pending := rfl
end updHi

section updImg
variable (f : Img → Img)
@[simp] theorem updImg_mod : (s.updImg f).mod = s.mod := rfl
@[simp] theorem updImg_tick : (s.updImg f).tick = s.tick := rfl
@[simp] theorem updImg_spill : (s.updImg f).spill = s.spill := rfl
@[simp] theorem updImg_fc : (s.updImg f).fc = s.fc := rfl
@[simp] theorem updImg_cvs : (s.updImg f).cvs = s.cvs := rfl
@[simp] theorem updImg_img : (s.updImg f).img = f s.img := rfl
@[simp] theorem updImg_model : (s.updImg f).model = s.model := rfl
@[simp] theorem updImg_hi : (s.updImg f).hi = s.hi := rfl
@[simp] theorem updImg_buses : (s.updImg f).buses = s.buses := rfl
@[simp] theorem updImg_pwr : (s.updImg f).pwr = s.pwr := rfl
@[simp] theorem updImg_page : (s.updImg f).page = s.page := rfl
@[simp] theorem updImg_ports : (s.updImg f).ports = s.ports := rfl
@[simp] theorem updImg_sup : (s.updImg f).sup = s.sup := rfl
@[simp] theorem updImg_cars : (s.updImg f).cars = s.cars := rfl
@[simp] theorem updImg_axes : (s.updImg f).axes = s.axes := rfl
@[simp] theorem updImg_lanes : (s.updImg f).lanes = s.lanes := rfl
@[simp] theorem updImg_capus : (s.updImg f).capus = s.capus := rfl
@[simp] theorem updImg_injStat : (s.updImg f).injStat = s.injStat := rfl
@[simp] theorem updImg_pol : (s.updImg f).pol = s.pol := rfl
@[simp] theorem updImg_conns : (s.updImg f).conns = s.conns := rfl
@[simp] theorem updImg_lv : (s.updImg f).lv = s.lv := rfl
@[simp] theorem updImg_seals : (s.updImg f).seals = s.seals := rfl
@[simp] theorem updImg_modes : (s.updImg f).modes = s.modes := rfl
@[simp] theorem updImg_sides : (s.updImg f).sides = s.sides := rfl
@[simp] theorem updImg_learn : (s.updImg f).learn = s.learn := rfl
@[simp] theorem updImg_dsx : (s.updImg f).dsx = s.dsx := rfl
@[simp] theorem updImg_tw : (s.updImg f).tw = s.tw := rfl
@[simp] theorem updImg_coreTest : (s.updImg f).coreTest = s.coreTest := rfl
@[simp] theorem updImg_calm : (s.updImg f).calm = s.calm := rfl
@[simp] theorem updImg_shown : (s.updImg f).shown = s.shown := rfl
@[simp] theorem updImg_freeCtr : (s.updImg f).freeCtr = s.freeCtr := rfl
@[simp] theorem updImg_pending : (s.updImg f).pending = s.pending := rfl
end updImg

section updPwr
variable (f : Pwr → Pwr)
@[simp] theorem updPwr_mod : (s.updPwr f).mod = s.mod := rfl
@[simp] theorem updPwr_tick : (s.updPwr f).tick = s.tick := rfl
@[simp] theorem updPwr_spill : (s.updPwr f).spill = s.spill := rfl
@[simp] theorem updPwr_fc : (s.updPwr f).fc = s.fc := rfl
@[simp] theorem updPwr_cvs : (s.updPwr f).cvs = s.cvs := rfl
@[simp] theorem updPwr_img : (s.updPwr f).img = s.img := rfl
@[simp] theorem updPwr_model : (s.updPwr f).model = s.model := rfl
@[simp] theorem updPwr_hi : (s.updPwr f).hi = s.hi := rfl
@[simp] theorem updPwr_buses : (s.updPwr f).buses = s.buses := rfl
@[simp] theorem updPwr_pwr : (s.updPwr f).pwr = f s.pwr := rfl
@[simp] theorem updPwr_page : (s.updPwr f).page = s.page := rfl
@[simp] theorem updPwr_ports : (s.updPwr f).ports = s.ports := rfl
@[simp] theorem updPwr_sup : (s.updPwr f).sup = s.sup := rfl
@[simp] theorem updPwr_cars : (s.updPwr f).cars = s.cars := rfl
@[simp] theorem updPwr_axes : (s.updPwr f).axes = s.axes := rfl
@[simp] theorem updPwr_lanes : (s.updPwr f).lanes = s.lanes := rfl
@[simp] theorem updPwr_capus : (s.updPwr f).capus = s.capus := rfl
@[simp] theorem updPwr_injStat : (s.updPwr f).injStat = s.injStat := rfl
@[simp] theorem updPwr_pol : (s.updPwr f).pol = s.pol := rfl
@[simp] theorem updPwr_conns : (s.updPwr f).conns = s.conns := rfl
@[simp] theorem updPwr_lv : (s.updPwr f).lv = s.lv := rfl
@[simp] theorem updPwr_seals : (s.updPwr f).seals = s.seals := rfl
@[simp] theorem updPwr_modes : (s.updPwr f).modes = s.modes := rfl
@[simp] theorem updPwr_sides : (s.updPwr f).sides = s.sides := rfl
@[simp] theorem updPwr_learn : (s.updPwr f).learn = s.learn := rfl
@[simp] theorem updPwr_dsx : (s.updPwr f).dsx = s.dsx := rfl
@[simp] theorem updPwr_tw : (s.updPwr f).tw = s.tw := rfl
@[simp] theorem updPwr_coreTest : (s.updPwr f).coreTest = s.coreTest := rfl
@[simp] theorem updPwr_calm : (s.updPwr f).calm = s.calm := rfl
@[simp] theorem updPwr_shown : (s.updPwr f).shown = s.shown := rfl
@[simp] theorem updPwr_freeCtr : (s.updPwr f).freeCtr = s.freeCtr := rfl
@[simp] theorem updPwr_pending : (s.updPwr f).pending = s.pending := rfl
end updPwr

section updDsx
variable (f : Dsx → Dsx)
@[simp] theorem updDsx_mod : (s.updDsx f).mod = s.mod := rfl
@[simp] theorem updDsx_tick : (s.updDsx f).tick = s.tick := rfl
@[simp] theorem updDsx_spill : (s.updDsx f).spill = s.spill := rfl
@[simp] theorem updDsx_fc : (s.updDsx f).fc = s.fc := rfl
@[simp] theorem updDsx_cvs : (s.updDsx f).cvs = s.cvs := rfl
@[simp] theorem updDsx_img : (s.updDsx f).img = s.img := rfl
@[simp] theorem updDsx_model : (s.updDsx f).model = s.model := rfl
@[simp] theorem updDsx_hi : (s.updDsx f).hi = s.hi := rfl
@[simp] theorem updDsx_buses : (s.updDsx f).buses = s.buses := rfl
@[simp] theorem updDsx_pwr : (s.updDsx f).pwr = s.pwr := rfl
@[simp] theorem updDsx_page : (s.updDsx f).page = s.page := rfl
@[simp] theorem updDsx_ports : (s.updDsx f).ports = s.ports := rfl
@[simp] theorem updDsx_sup : (s.updDsx f).sup = s.sup := rfl
@[simp] theorem updDsx_cars : (s.updDsx f).cars = s.cars := rfl
@[simp] theorem updDsx_axes : (s.updDsx f).axes = s.axes := rfl
@[simp] theorem updDsx_lanes : (s.updDsx f).lanes = s.lanes := rfl
@[simp] theorem updDsx_capus : (s.updDsx f).capus = s.capus := rfl
@[simp] theorem updDsx_injStat : (s.updDsx f).injStat = s.injStat := rfl
@[simp] theorem updDsx_pol : (s.updDsx f).pol = s.pol := rfl
@[simp] theorem updDsx_conns : (s.updDsx f).conns = s.conns := rfl
@[simp] theorem updDsx_lv : (s.updDsx f).lv = s.lv := rfl
@[simp] theorem updDsx_seals : (s.updDsx f).seals = s.seals := rfl
@[simp] theorem updDsx_modes : (s.updDsx f).modes = s.modes := rfl
@[simp] theorem updDsx_sides : (s.updDsx f).sides = s.sides := rfl
@[simp] theorem updDsx_learn : (s.updDsx f).learn = s.learn := rfl
@[simp] theorem updDsx_dsx : (s.updDsx f).dsx = f s.dsx := rfl
@[simp] theorem updDsx_tw : (s.updDsx f).tw = s.tw := rfl
@[simp] theorem updDsx_coreTest : (s.updDsx f).coreTest = s.coreTest := rfl
@[simp] theorem updDsx_calm : (s.updDsx f).calm = s.calm := rfl
@[simp] theorem updDsx_shown : (s.updDsx f).shown = s.shown := rfl
@[simp] theorem updDsx_freeCtr : (s.updDsx f).freeCtr = s.freeCtr := rfl
@[simp] theorem updDsx_pending : (s.updDsx f).pending = s.pending := rfl
end updDsx

section updTw
variable (f : Tw → Tw)
@[simp] theorem updTw_mod : (s.updTw f).mod = s.mod := rfl
@[simp] theorem updTw_tick : (s.updTw f).tick = s.tick := rfl
@[simp] theorem updTw_spill : (s.updTw f).spill = s.spill := rfl
@[simp] theorem updTw_fc : (s.updTw f).fc = s.fc := rfl
@[simp] theorem updTw_cvs : (s.updTw f).cvs = s.cvs := rfl
@[simp] theorem updTw_img : (s.updTw f).img = s.img := rfl
@[simp] theorem updTw_model : (s.updTw f).model = s.model := rfl
@[simp] theorem updTw_hi : (s.updTw f).hi = s.hi := rfl
@[simp] theorem updTw_buses : (s.updTw f).buses = s.buses := rfl
@[simp] theorem updTw_pwr : (s.updTw f).pwr = s.pwr := rfl
@[simp] theorem updTw_page : (s.updTw f).page = s.page := rfl
@[simp] theorem updTw_ports : (s.updTw f).ports = s.ports := rfl
@[simp] theorem updTw_sup : (s.updTw f).sup = s.sup := rfl
@[simp] theorem updTw_cars : (s.updTw f).cars = s.cars := rfl
@[simp] theorem updTw_axes : (s.updTw f).axes = s.axes := rfl
@[simp] theorem updTw_lanes : (s.updTw f).lanes = s.lanes := rfl
@[simp] theorem updTw_capus : (s.updTw f).capus = s.capus := rfl
@[simp] theorem updTw_injStat : (s.updTw f).injStat = s.injStat := rfl
@[simp] theorem updTw_pol : (s.updTw f).pol = s.pol := rfl
@[simp] theorem updTw_conns : (s.updTw f).conns = s.conns := rfl
@[simp] theorem updTw_lv : (s.updTw f).lv = s.lv := rfl
@[simp] theorem updTw_seals : (s.updTw f).seals = s.seals := rfl
@[simp] theorem updTw_modes : (s.updTw f).modes = s.modes := rfl
@[simp] theorem updTw_sides : (s.updTw f).sides = s.sides := rfl
@[simp] theorem updTw_learn : (s.updTw f).learn = s.learn := rfl
@[simp] theorem updTw_dsx : (s.updTw f).dsx = s.dsx := rfl
@[simp] theorem updTw_tw : (s.updTw f).tw = f s.tw := rfl
@[simp] theorem updTw_coreTest : (s.updTw f).coreTest = s.coreTest := rfl
@[simp] theorem updTw_calm : (s.updTw f).calm = s.calm := rfl
@[simp] theorem updTw_shown : (s.updTw f).shown = s.shown := rfl
@[simp] theorem updTw_freeCtr : (s.updTw f).freeCtr = s.freeCtr := rfl
@[simp] theorem updTw_pending : (s.updTw f).pending = s.pending := rfl
end updTw

section updCv
variable (n : Fin 16) (f : Cv → Cv)
@[simp] theorem updCv_mod : (s.updCv n f).mod = s.mod := rfl
@[simp] theorem updCv_tick : (s.updCv n f).tick = s.tick := rfl
@[simp] theorem updCv_spill : (s.updCv n f).spill = s.spill := rfl
@[simp] theorem updCv_fc : (s.updCv n f).fc = s.fc := rfl
@[simp] theorem updCv_cvs : (s.updCv n f).cvs = s.cvs.upd n f := rfl
@[simp] theorem updCv_img : (s.updCv n f).img = s.img := rfl
@[simp] theorem updCv_model : (s.updCv n f).model = s.model := rfl
@[simp] theorem updCv_hi : (s.updCv n f).hi = s.hi := rfl
@[simp] theorem updCv_buses : (s.updCv n f).buses = s.buses := rfl
@[simp] theorem updCv_pwr : (s.updCv n f).pwr = s.pwr := rfl
@[simp] theorem updCv_page : (s.updCv n f).page = s.page := rfl
@[simp] theorem updCv_ports : (s.updCv n f).ports = s.ports := rfl
@[simp] theorem updCv_sup : (s.updCv n f).sup = s.sup := rfl
@[simp] theorem updCv_cars : (s.updCv n f).cars = s.cars := rfl
@[simp] theorem updCv_axes : (s.updCv n f).axes = s.axes := rfl
@[simp] theorem updCv_lanes : (s.updCv n f).lanes = s.lanes := rfl
@[simp] theorem updCv_capus : (s.updCv n f).capus = s.capus := rfl
@[simp] theorem updCv_injStat : (s.updCv n f).injStat = s.injStat := rfl
@[simp] theorem updCv_pol : (s.updCv n f).pol = s.pol := rfl
@[simp] theorem updCv_conns : (s.updCv n f).conns = s.conns := rfl
@[simp] theorem updCv_lv : (s.updCv n f).lv = s.lv := rfl
@[simp] theorem updCv_seals : (s.updCv n f).seals = s.seals := rfl
@[simp] theorem updCv_modes : (s.updCv n f).modes = s.modes := rfl
@[simp] theorem updCv_sides : (s.updCv n f).sides = s.sides := rfl
@[simp] theorem updCv_learn : (s.updCv n f).learn = s.learn := rfl
@[simp] theorem updCv_dsx : (s.updCv n f).dsx = s.dsx := rfl
@[simp] theorem updCv_tw : (s.updCv n f).tw = s.tw := rfl
@[simp] theorem updCv_coreTest : (s.updCv n f).coreTest = s.coreTest := rfl
@[simp] theorem updCv_calm : (s.updCv n f).calm = s.calm := rfl
@[simp] theorem updCv_shown : (s.updCv n f).shown = s.shown := rfl
@[simp] theorem updCv_freeCtr : (s.updCv n f).freeCtr = s.freeCtr := rfl
@[simp] theorem updCv_pending : (s.updCv n f).pending = s.pending := rfl
end updCv

section take
@[simp] theorem take_fst : s.take.1 = Config.free s.freeCtr := rfl
@[simp] theorem take_mod : s.take.2.mod = s.mod := rfl
@[simp] theorem take_tick : s.take.2.tick = s.tick := rfl
@[simp] theorem take_spill : s.take.2.spill = s.spill := rfl
@[simp] theorem take_fc : s.take.2.fc = s.fc := rfl
@[simp] theorem take_cvs : s.take.2.cvs = s.cvs := rfl
@[simp] theorem take_img : s.take.2.img = s.img := rfl
@[simp] theorem take_model : s.take.2.model = s.model := rfl
@[simp] theorem take_hi : s.take.2.hi = s.hi := rfl
@[simp] theorem take_buses : s.take.2.buses = s.buses := rfl
@[simp] theorem take_pwr : s.take.2.pwr = s.pwr := rfl
@[simp] theorem take_page : s.take.2.page = s.page := rfl
@[simp] theorem take_ports : s.take.2.ports = s.ports := rfl
@[simp] theorem take_sup : s.take.2.sup = s.sup := rfl
@[simp] theorem take_cars : s.take.2.cars = s.cars := rfl
@[simp] theorem take_axes : s.take.2.axes = s.axes := rfl
@[simp] theorem take_lanes : s.take.2.lanes = s.lanes := rfl
@[simp] theorem take_capus : s.take.2.capus = s.capus := rfl
@[simp] theorem take_injStat : s.take.2.injStat = s.injStat := rfl
@[simp] theorem take_pol : s.take.2.pol = s.pol := rfl
@[simp] theorem take_conns : s.take.2.conns = s.conns := rfl
@[simp] theorem take_lv : s.take.2.lv = s.lv := rfl
@[simp] theorem take_seals : s.take.2.seals = s.seals := rfl
@[simp] theorem take_modes : s.take.2.modes = s.modes := rfl
@[simp] theorem take_sides : s.take.2.sides = s.sides := rfl
@[simp] theorem take_learn : s.take.2.learn = s.learn := rfl
@[simp] theorem take_dsx : s.take.2.dsx = s.dsx := rfl
@[simp] theorem take_tw : s.take.2.tw = s.tw := rfl
@[simp] theorem take_coreTest : s.take.2.coreTest = s.coreTest := rfl
@[simp] theorem take_calm : s.take.2.calm = s.calm := rfl
@[simp] theorem take_shown : s.take.2.shown = s.shown := rfl
@[simp] theorem take_freeCtr : s.take.2.freeCtr = s.freeCtr + 1 := rfl
@[simp] theorem take_pending : s.take.2.pending = s.pending := rfl
end take

/-- What `each` keeps: a value that every single act leaves alone. -/
theorem each_keeps {α β : Type} (g : State → β) (f : State → α → State) (h : ∀ s a, g (f s a) = g s) (l : List α) :
    g (s.each l f) = g s := by
  unfold each
  induction l generalizing s with
  | nil => rfl
  | cons a l ih => simp [List.foldl_cons, ih, h]

/-- What `each` establishes: a property that every single act keeps. -/
theorem each_inv {α : Type} (P : State → Prop) (f : State → α → State) (h : ∀ s a, P s → P (f s a)) (l : List α) (hs : P s) :
    P (s.each l f) := by
  unfold each
  induction l generalizing s with
  | nil => exact hs
  | cons a l ih => exact ih _ (h _ _ hs)

@[simp] theorem each_nil {α : Type} (f : State → α → State) : s.each [] f = s := rfl
@[simp] theorem each_cons {α : Type} (f : State → α → State) (a : α) (l : List α) : s.each (a :: l) f = (f s a).each l f := rfl

end Sys2Proof.Machine.State
end

