-- ==== Sys2Proof/Laws/Folds.lean ====
section
/-! SUPPORT. Folds that change one unit after another: the state they leave, and each unit of it. -/

namespace Sys2Proof.Machine

/-- A fold of updates over different units changes each of them once and no other. -/
theorem foldl_upd_get {n : Nat} {α : Type} (f : Fin n → α → α) (l : List (Fin n)) (t : Tab n α) (i : Fin n) (h : l.Nodup) :
    (l.foldl (fun t c => t.upd c (f c)) t).get i = if i ∈ l then f i (t.get i) else t.get i := by
  induction l generalizing t with
  | nil => simp
  | cons c l ih =>
    obtain ⟨hc, hl⟩ := List.nodup_cons.mp h
    rw [List.foldl_cons, ih _ hl]
    by_cases e : i = c
    · subst e
      simp [hc]
    · simp [e, Ne.symm e]

theorem idx_nodup (n : Nat) : (idx n).Nodup := by
  simpa [idx] using List.nodup_finRange n

namespace State

variable (s : State)

theorem each_updLv (l : List (Fin 16)) (f : Fin 16 → Lv → Lv) :
    s.each l (fun s c => s.updLv c (f c)) = { s with lv := l.foldl (fun t c => t.upd c (f c)) s.lv } := by
  unfold each
  induction l generalizing s with
  | nil => rfl
  | cons c l ih => rw [List.foldl_cons, ih]; rfl

theorem each_updLv_get (l : List (Fin 16)) (f : Fin 16 → Lv → Lv) (h : l.Nodup) (i : Fin 16) :
    (s.each l (fun s c => s.updLv c (f c))).lv.get i = if i ∈ l then f i (s.lv.get i) else s.lv.get i := by
  rw [each_updLv]
  exact foldl_upd_get f l s.lv i h

theorem each_updCar (l : List (Fin 16)) (f : Fin 16 → CarPos → CarPos) :
    s.each l (fun s c => s.updCar c (f c)) = { s with cars := l.foldl (fun t c => t.upd c (f c)) s.cars } := by
  unfold each
  induction l generalizing s with
  | nil => rfl
  | cons c l ih => rw [List.foldl_cons, ih]; rfl

theorem each_updCar_get (l : List (Fin 16)) (f : Fin 16 → CarPos → CarPos) (h : l.Nodup) (i : Fin 16) :
    (s.each l (fun s c => s.updCar c (f c))).cars.get i = if i ∈ l then f i (s.cars.get i) else s.cars.get i := by
  rw [each_updCar]
  exact foldl_upd_get f l s.cars i h

theorem each_updMode (l : List (Fin 16)) (f : Fin 16 → Mode → Mode) :
    s.each l (fun s c => s.updMode c (f c)) = { s with modes := l.foldl (fun t c => t.upd c (f c)) s.modes } := by
  unfold each
  induction l generalizing s with
  | nil => rfl
  | cons c l ih => rw [List.foldl_cons, ih]; rfl

theorem each_updMode_get (l : List (Fin 16)) (f : Fin 16 → Mode → Mode) (h : l.Nodup) (i : Fin 16) :
    (s.each l (fun s c => s.updMode c (f c))).modes.get i = if i ∈ l then f i (s.modes.get i) else s.modes.get i := by
  rw [each_updMode]
  exact foldl_upd_get f l s.modes i h

theorem each_updSide (l : List (Fin 32)) (f : Fin 32 → Side → Side) :
    s.each l (fun s c => s.updSide c (f c)) = { s with sides := l.foldl (fun t c => t.upd c (f c)) s.sides } := by
  unfold each
  induction l generalizing s with
  | nil => rfl
  | cons c l ih => rw [List.foldl_cons, ih]; rfl

theorem each_updSide_get (l : List (Fin 32)) (f : Fin 32 → Side → Side) (h : l.Nodup) (i : Fin 32) :
    (s.each l (fun s c => s.updSide c (f c))).sides.get i = if i ∈ l then f i (s.sides.get i) else s.sides.get i := by
  rw [each_updSide]
  exact foldl_upd_get f l s.sides i h

theorem each_updPort (l : List (Fin 48)) (f : Fin 48 → Port → Port) :
    s.each l (fun s c => s.updPort c (f c)) = { s with ports := l.foldl (fun t c => t.upd c (f c)) s.ports } := by
  unfold each
  induction l generalizing s with
  | nil => rfl
  | cons c l ih => rw [List.foldl_cons, ih]; rfl

theorem each_updPort_get (l : List (Fin 48)) (f : Fin 48 → Port → Port) (h : l.Nodup) (i : Fin 48) :
    (s.each l (fun s c => s.updPort c (f c))).ports.get i = if i ∈ l then f i (s.ports.get i) else s.ports.get i := by
  rw [each_updPort]
  exact foldl_upd_get f l s.ports i h

theorem each_updBus (l : List (Fin 12)) (f : Fin 12 → Bus → Bus) :
    s.each l (fun s c => s.updBus c (f c)) = { s with buses := l.foldl (fun t c => t.upd c (f c)) s.buses } := by
  unfold each
  induction l generalizing s with
  | nil => rfl
  | cons c l ih => rw [List.foldl_cons, ih]; rfl

theorem each_updBus_get (l : List (Fin 12)) (f : Fin 12 → Bus → Bus) (h : l.Nodup) (i : Fin 12) :
    (s.each l (fun s c => s.updBus c (f c))).buses.get i = if i ∈ l then f i (s.buses.get i) else s.buses.get i := by
  rw [each_updBus]
  exact foldl_upd_get f l s.buses i h

theorem each_updLane (l : List (Fin 48)) (f : Fin 48 → Lane → Lane) :
    s.each l (fun s c => s.updLane c (f c)) = { s with lanes := l.foldl (fun t c => t.upd c (f c)) s.lanes } := by
  unfold each
  induction l generalizing s with
  | nil => rfl
  | cons c l ih => rw [List.foldl_cons, ih]; rfl

theorem each_updLane_get (l : List (Fin 48)) (f : Fin 48 → Lane → Lane) (h : l.Nodup) (i : Fin 48) :
    (s.each l (fun s c => s.updLane c (f c))).lanes.get i = if i ∈ l then f i (s.lanes.get i) else s.lanes.get i := by
  rw [each_updLane]
  exact foldl_upd_get f l s.lanes i h

theorem each_updAxis (l : List (Fin 48)) (f : Fin 48 → Axis → Axis) :
    s.each l (fun s c => s.updAxis c (f c)) = { s with axes := l.foldl (fun t c => t.upd c (f c)) s.axes } := by
  unfold each
  induction l generalizing s with
  | nil => rfl
  | cons c l ih => rw [List.foldl_cons, ih]; rfl

theorem each_updAxis_get (l : List (Fin 48)) (f : Fin 48 → Axis → Axis) (h : l.Nodup) (i : Fin 48) :
    (s.each l (fun s c => s.updAxis c (f c))).axes.get i = if i ∈ l then f i (s.axes.get i) else s.axes.get i := by
  rw [each_updAxis]
  exact foldl_upd_get f l s.axes i h

end State

end Sys2Proof.Machine
end

