-- ==== Sys2Proof/Laws/Scope.lean ====
section
/-! SUPPORT. Which parts of the state each shared operation can change: an operation answers the state it was given but for the
fields named. -/

namespace Sys2Proof.Machine.State

variable (s : State)

theorem drainEvt_scope : s.drainEvt = { s with hi := s.drainEvt.hi } := by
  unfold drainEvt; split <;> rfl

theorem putEvent_scope (g : List (List Byte)) : s.putEvent g = { s with hi := (s.putEvent g).hi } := by
  unfold putEvent; split
  · rfl
  · rw [drainEvt_scope]

/-- An event changes the host interface's books and takes one free value. -/
theorem event_scope (ty car : Nat) (data : List Byte) :
    s.event ty car data = { s with hi := (s.event ty car data).hi, freeCtr := s.freeCtr + 1 } := by
  unfold event take; dsimp only; rw [putEvent_scope]

theorem event4_scope (ty car d0 d1 d2 : Nat) (v : Int) :
    s.event4 ty car d0 d1 d2 v = { s with hi := (s.event4 ty car d0 d1 d2 v).hi, freeCtr := s.freeCtr + 1 } := by
  unfold event4; rw [event_scope]

theorem positionEvent_scope (c : Fin 16) (kind : Nat) (v : Int) :
    s.positionEvent c kind v = { s with hi := (s.positionEvent c kind v).hi, freeCtr := s.freeCtr + 1 } := by
  unfold positionEvent; rw [event_scope]

theorem learnEvent_scope (c : Fin 16) (kind src reason : Nat) (v : Int) :
    s.learnEvent c kind src reason v = { s with hi := (s.learnEvent c kind src reason v).hi, freeCtr := s.freeCtr + 1 } := by
  unfold learnEvent; rw [event4_scope]

theorem faultEvent_scope (r : FaultRec) : s.faultEvent r = { s with hi := (s.faultEvent r).hi, freeCtr := s.freeCtr + 1 } := by
  unfold faultEvent; dsimp only; rw [event_scope]

theorem complete_scope (c : Cpl) : s.complete c = { s with hi := (s.complete c).hi } := by
  unfold complete; split <;> rfl

theorem answer_scope (e : CmdEntry) (st : CplStatus) (code : Nat) (result : BitVec 32) :
    s.answer e st code result = { s with hi := (s.answer e st code result).hi } := by
  unfold answer; rw [complete_scope]

theorem finish_scope (e : CmdEntry) (st : CplStatus) (code : Nat) (result : BitVec 32) :
    s.finish e st code result = { s with hi := (s.finish e st code result).hi } := by
  unfold finish; split
  · rfl
  · dsimp only
    split
    · rfl
    · rw [answer_scope]

theorem finishOp_scope (op : Byte) (car : Nat) (st : CplStatus) (code : Nat) (result : BitVec 32) :
    s.finishOp op car st code result = { s with hi := (s.finishOp op car st code result).hi } := by
  unfold finishOp; split
  · rw [finish_scope]
  · rfl

/-- A proposal changes the image unit's list, the check-value channel 12 and, with its event, the host interface. -/
theorem addProposal_scope (kind car side count : Nat) (payload : List Byte) :
    s.addProposal kind car side count payload = { s with
      img := (s.addProposal kind car side count payload).img
      cvs := (s.addProposal kind car side count payload).cvs
      hi := (s.addProposal kind car side count payload).hi
      freeCtr := s.freeCtr + 1 } := by
  unfold addProposal; dsimp only; rw [event_scope]; rfl

theorem addProposal_nextProp (kind car side count : Nat) (payload : List Byte) :
    (s.addProposal kind car side count payload).img.nextProp = s.img.nextProp + 1 := by
  unfold addProposal; dsimp only; rw [event_scope]; rfl

/-- A fault message changes the collector; one of class F the boot state and the host interface too, one with BRST a check-value
channel or the host interface. -/
theorem report_scope (m : FaultMsg) :
    s.report m = { s with fc := (s.report m).fc, hi := (s.report m).hi, cvs := (s.report m).cvs, pwr := (s.report m).pwr } := by
  have hb (t : State) (n : Nat) : t.brst n = { t with hi := (t.brst n).hi, cvs := (t.brst n).cvs } := by
    unfold brst; split
    · rfl
    · split
      · rfl
      · split <;> rfl
  have hh (t : State) : t.haltBoot m = { t with pwr := (t.haltBoot m).pwr, hi := (t.haltBoot m).hi } := by
    unfold haltBoot; split <;> rfl
  have ha (t : State) : t.onArrival m =
      { t with fc := (t.onArrival m).fc, hi := (t.onArrival m).hi, cvs := (t.onArrival m).cvs, pwr := (t.onArrival m).pwr } := by
    unfold onArrival; dsimp only
    split <;> split <;> split <;> (try split) <;> (try rw [hh]) <;> (try rw [hb]) <;> rfl
  unfold report
  split
  · rfl
  · split
    · rfl
    · split
      · rfl
      · rw [ha]; rfl

theorem raise_scope (src kind cls : Nat) (ctx : BitVec 32) (detail : Nat) :
    s.raise src kind cls ctx detail = { s with
      fc := (s.raise src kind cls ctx detail).fc
      hi := (s.raise src kind cls ctx detail).hi
      cvs := (s.raise src kind cls ctx detail).cvs
      pwr := (s.raise src kind cls ctx detail).pwr } := by
  unfold raise; rw [report_scope]

/-- A class U finding of a car changes the collector alone. -/
theorem finding_scope (c : Fin 16) (kind : Nat) (ctx : BitVec 32) (detail : Nat) :
    s.finding c kind ctx detail = { s with
      fc := (s.finding c kind ctx detail).fc
      hi := (s.finding c kind ctx detail).hi
      cvs := (s.finding c kind ctx detail).cvs
      pwr := (s.finding c kind ctx detail).pwr } := by
  unfold finding; rw [raise_scope]

theorem endInjection_scope (k : Fin 48) (code : Nat) (st : CplStatus) (result : BitVec 32) :
    s.endInjection k code st result = { s with
      lanes := (s.endInjection k code st result).lanes
      capus := (s.endInjection k code st result).capus
      injStat := (s.endInjection k code st result).injStat
      hi := (s.endInjection k code st result).hi } := by
  unfold endInjection; split
  · rfl
  · dsimp only
    rw [finish_scope]
    split <;> rfl

theorem abortInjection_scope (k : Fin 48) (code : Nat) :
    s.abortInjection k code = { s with
      lanes := (s.abortInjection k code).lanes
      capus := (s.abortInjection k code).capus
      injStat := (s.abortInjection k code).injStat
      hi := (s.abortInjection k code).hi } := by
  unfold abortInjection; rw [endInjection_scope]

end Sys2Proof.Machine.State
end

