-- ==== Sys2Proof/Laws/Commands.lean ====
section
/-! SUPPORT. What a command of the CMD ring does once it may start (14 R467): with no check failing its effect, otherwise the refusal
of the first check that fails. -/

namespace Sys2Proof.Machine.State

variable {s n : State} {op : Nat} {e : CmdEntry} {own : Bool}

@[simp] theorem takeEntry_mod (e : CmdEntry) : (s.takeEntry e).mod = s.mod := rfl
@[simp] theorem takeEntry_model (e : CmdEntry) : (s.takeEntry e).model = s.model := rfl

/-- What taking an entry changes: the entries that wait and, for its data, the tags in use. -/
theorem takeEntry_scope (e : CmdEntry) :
    s.takeEntry e = { s with hi := { s.hi with waiting := s.hi.waiting.drop 1, tags := (s.takeEntry e).hi.tags } } := rfl

theorem Starts.state_ok (h : s.Starts n op e own) : (n.mod == .standby && !(standbyOps ++ injectOps).contains op) = false := by
  have hm : n.mod = s.mod := by rw [h.taken]; rfl
  rw [hm]
  by_cases hs : s.mod = .standby
  · rw [List.contains_iff_mem.mpr (h.state hs)]
    simp
  · simp [hs]

theorem command_act (h : s.Starts n op e own) {checks : State → List (Bool × Nat)} {act : State → State} {no : Nat → State → State}
    (hc : firstBad (checks n) = none) : s.command op e own checks act no = act n := by
  have hst := h.state_ok
  obtain ⟨h1, h2, _, h4⟩ := h
  subst h4
  unfold command
  simp only [h1, firstBad, h2, hst, Bool.not_true, hc]
  simp

theorem command_refused (h : s.Starts n op e own) {checks : State → List (Bool × Nat)} {act : State → State} {no : Nat → State → State} {code : Nat}
    (hc : firstBad (checks n) = some code) : s.command op e own checks act no = (no code n).answer e .refused code := by
  have hst := h.state_ok
  obtain ⟨h1, h2, _, h4⟩ := h
  subst h4
  unfold command
  simp only [h1, firstBad, h2, hst, Bool.not_true, hc]
  simp

/-- A command whose fields fail PARAM is refused before every other check. -/
theorem command_param (h1 : s.canStart op e = true) (h2 : paramOk e own = false)
    (h4 : n = s.takeEntry e) {checks : State → List (Bool × Nat)} {act : State → State} {no : Nat → State → State} :
    s.command op e own checks act no = (no 0x81 n).answer e .refused 0x81 := by
  subst h4
  unfold command
  simp only [h1, firstBad, h2, Bool.not_true, Bool.not_false]
  simp

variable {m : Model} {c : Fin 16}

theorem carCommand_act (h : s.StartsFor n op e own m c) {checks : State → Model → Fin 16 → List (Bool × Nat)}
    {act : State → Model → Fin 16 → State} {no : Nat → State → State} (hc : firstBad (checks n m c) = none) :
    s.carCommand op e own checks act no = act n m c := by
  have hm : n.mod = .active := by rw [h.starts.taken]; exact h.active
  unfold carCommand
  rw [h.model, h.car]
  dsimp only
  rw [command_act h.starts]
  simp [firstBad, hm, h.present, hc]

theorem carCommand_refused (h : s.StartsFor n op e own m c) {checks : State → Model → Fin 16 → List (Bool × Nat)}
    {act : State → Model → Fin 16 → State} {no : Nat → State → State} {code : Nat} (hc : firstBad (checks n m c) = some code) :
    s.carCommand op e own checks act no = (no code n).answer e .refused code := by
  have hm : n.mod = .active := by rw [h.starts.taken]; exact h.active
  unfold carCommand
  rw [h.model, h.car]
  dsimp only
  rw [command_refused h.starts]
  simp [firstBad, hm, h.present, hc]

end Sys2Proof.Machine.State
end

