-- ==== Sys2Proof/Laws/Crypto.lean ====
section
/-! SUPPORT. The lengths of what the cryptographic functions give: a digest of 32 bytes, a block and a CMAC of 16, keys of the length
asked for. -/

namespace Sys2Proof.Machine

@[simp] theorem leBytes_length (n x : Nat) : (leBytes n x).length = n := by
  induction n generalizing x with
  | zero => rfl
  | succ n ih => simp [leBytes, ih]

@[simp] theorem beBytes_length (n x : Nat) : (beBytes n x).length = n := by simp [beBytes]

@[simp] theorem sha256_length (m : List Byte) : (sha256 m).length = 32 := by
  unfold sha256
  simp

@[simp] theorem hmac_length (key msg : List Byte) : (hmac key msg).length = 32 := by
  unfold hmac
  simp

theorem hkdfBlocks_length (prk info : List Byte) (n i : Nat) (last : List Byte) : (hkdfBlocks prk info n i last).length = 32 * n := by
  induction n generalizing i last with
  | zero => rfl
  | succ n ih => simp [hkdfBlocks, ih]; omega

@[simp] theorem hkdfExpand_length (prk info : List Byte) (n : Nat) : (hkdfExpand prk info n).length = n := by
  unfold hkdfExpand
  rw [List.length_take, hkdfBlocks_length]
  omega

@[simp] theorem xorBytes_length (a b : List Byte) : (xorBytes a b).length = min a.length b.length := by simp [xorBytes]

theorem nextKey_length {k : List Byte} (rc : Byte) (h : k.length = 16) : (nextKey k rc).length = 16 := by
  simp [nextKey, h]

@[simp] theorem shiftRows_length (s : List Byte) : (shiftRows s).length = 16 := by simp [shiftRows]

@[simp] theorem mixColumn_length (c : List Byte) : (mixColumn c).length = 4 := by simp [mixColumn]

theorem aesRounds_length (rcs k s : List Byte) (hk : k.length = 16) (h : rcs = [] → s.length = 16) : (aesRounds rcs k s).length = 16 := by
  induction rcs generalizing k s with
  | nil => exact h rfl
  | cons rc rcs ih =>
    refine ih _ _ (nextKey_length rc hk) fun _ => ?_
    rw [xorBytes_length, nextKey_length rc hk]
    split <;> simp [pieces]

theorem aes128_length {key : List Byte} (block : List Byte) (h : key.length = 16) : (aes128 key block).length = 16 :=
  aesRounds_length _ _ _ h (by simp)

/-- A CMAC under a key of 16 bytes has 16 bytes. -/
theorem cmac_length {key : List Byte} (msg : List Byte) (h : key.length = 16) : (cmac key msg).length = 16 := by
  unfold cmac
  simp only [List.foldl_append, List.foldl_cons, List.foldl_nil]
  exact aes128_length _ h

theorem tag4_length {key : List Byte} (pre : Byte) (ident : Nat) (msg : List Byte) (h : key.length = 16) : (tag4 key pre ident msg).length = 4 := by
  simp [tag4, cmac_length _ h]

theorem tagF_length {key : List Byte} (pre : Byte) (ident : Nat) (msg : List Byte) (h : key.length = 16) : (tagF key pre ident msg).length = 4 := by
  simp [tagF, cmac_length _ h]

/-- The key of the interlink has 16 bytes where the model names the peer's module. -/
theorem yilzKey_length {s : State} {m : Model} {i : Nat} {r : NodeRec} (hi : m.wit? s.peerSlot = some i) (hr : m.nodes[i]? = some r) :
    (s.yilzKey m).length = 16 := by
  simp [State.yilzKey, hi, hr]

theorem linkTag_length {s : State} {m : Model} (x : List Byte) (h : (s.yilzKey m).length = 16) : (s.linkTag m x).length = 4 := by
  simp [State.linkTag, cmac_length _ h]

end Sys2Proof.Machine
end

