-- ==== Sys2Proof/Laws/Keeps.lean ====
section
/-! SUPPORT. How a fold over units keeps the tick counters, the last heartbeat, the queue and the building model. -/

set_option linter.unusedSimpArgs false
set_option linter.unusedTactic false
set_option linter.unreachableTactic false
set_option linter.unnecessarySeqFocus false

namespace Sys2Proof.Machine.State

variable {α : Type} (s : State) (l : List α) (f : State → α → State)

theorem each_tick (h : ∀ s a, (f s a).tick = s.tick) : (s.each l f).tick = s.tick := each_keeps s (·.tick) f h l
theorem each_lastHb (h : ∀ s a, (f s a).tw.lastHb = s.tw.lastHb) : (s.each l f).tw.lastHb = s.tw.lastHb :=
  each_keeps s (·.tw.lastHb) f h l
theorem each_pending (h : ∀ s a, (f s a).pending = s.pending) : (s.each l f).pending = s.pending :=
  each_keeps s (·.pending) f h l
theorem each_model (h : ∀ s a, (f s a).model = s.model) : (s.each l f).model = s.model := each_keeps s (·.model) f h l

/-- All four at once. -/
theorem each_keeps4 (h : ∀ s a, (f s a).tick = s.tick ∧ (f s a).tw.lastHb = s.tw.lastHb ∧ (f s a).pending = s.pending ∧
      (f s a).model = s.model) :
    (s.each l f).tick = s.tick ∧ (s.each l f).tw.lastHb = s.tw.lastHb ∧ (s.each l f).pending = s.pending ∧
      (s.each l f).model = s.model :=
  ⟨each_tick s l f fun s a => (h s a).1, each_lastHb s l f fun s a => (h s a).2.1, each_pending s l f fun s a => (h s a).2.2.1,
    each_model s l f fun s a => (h s a).2.2.2⟩

/-- The four one after the other. -/
theorem kept_trans {s t u : State} (b : u.tick = t.tick ∧ u.tw.lastHb = t.tw.lastHb ∧ u.pending = t.pending ∧ u.model = t.model)
    (a : t.tick = s.tick ∧ t.tw.lastHb = s.tw.lastHb ∧ t.pending = s.pending ∧ t.model = s.model) :
    u.tick = s.tick ∧ u.tw.lastHb = s.tw.lastHb ∧ u.pending = s.pending ∧ u.model = s.model :=
  ⟨b.1.trans a.1, b.2.1.trans a.2.1, b.2.2.1.trans a.2.2.1, b.2.2.2.trans a.2.2.2⟩

/-- What a restart and a loss of power may change of the four: the timebase at its start, no heartbeat heard, no model in force. -/
structure Loose (s t : State) : Prop where
  tick : t.tick = s.tick ∨ t.tick = State.reset.tick
  lastHb : t.tw.lastHb = s.tw.lastHb ∨ t.tw.lastHb = none
  pending : t.pending = s.pending
  model : t.model = s.model ∨ t.model = none

variable {s}

theorem Loose.of_keeps {t : State} (h : t.tick = s.tick ∧ t.tw.lastHb = s.tw.lastHb ∧ t.pending = s.pending ∧ t.model = s.model) :
    Loose s t := ⟨.inl h.1, .inl h.2.1, h.2.2.1, .inl h.2.2.2⟩

theorem Loose.refl (s : State) : Loose s s := ⟨.inl rfl, .inl rfl, rfl, .inl rfl⟩

theorem Loose.trans {t u : State} (a : Loose s t) (b : Loose t u) : Loose s u :=
  ⟨b.tick.elim (fun h => a.tick.imp (h.trans ·) (h.trans ·)) .inr, b.lastHb.elim (fun h => a.lastHb.imp (h.trans ·) (h.trans ·)) .inr,
    b.pending.trans a.pending, b.model.elim (fun h => a.model.imp (h.trans ·) (h.trans ·)) .inr⟩

end Sys2Proof.Machine.State
end

