-- ==== Sys2Proof/Laws/KeepsOps.lean ====
section
/-! SUPPORT. What the operations of Ops.lean, Ports.lean, Position.lean, Profiles.lean, Control.lean, SpecialRuns.lean leave alone: the tick counters, the last heartbeat, the queue
and the building model in force. -/

namespace Sys2Proof.Machine

open State

@[simp] theorem State.drainEvt_keeps (s : State) :
    (State.drainEvt s).tick = s.tick ∧ (State.drainEvt s).tw.lastHb = s.tw.lastHb ∧ (State.drainEvt s).pending = s.pending ∧ (State.drainEvt s).model = s.model := by
  unfold State.drainEvt; (repeat' split) <;> simp [↓each_tick, ↓each_lastHb, ↓each_pending, ↓each_model]

@[simp] theorem State.putEvent_keeps (s : State) (g : List (List Byte)) :
    (State.putEvent s g).tick = s.tick ∧ (State.putEvent s g).tw.lastHb = s.tw.lastHb ∧ (State.putEvent s g).pending = s.pending ∧ (State.putEvent s g).model = s.model := by
  unfold State.putEvent; (repeat' split) <;> simp [↓each_tick, ↓each_lastHb, ↓each_pending, ↓each_model]

@[simp] theorem State.event_keeps (s : State) (type car : Nat) (data : List Byte) :
    (State.event s type car data).tick = s.tick ∧ (State.event s type car data).tw.lastHb = s.tw.lastHb ∧ (State.event s type car data).pending = s.pending ∧ (State.event s type car data).model = s.model := by
  refine ⟨?_, ?_, ?_, ?_⟩ <;> simp [State.event, ↓each_tick, ↓each_lastHb, ↓each_pending, ↓each_model]

@[simp] theorem State.event4_keeps (s : State) (type car : Nat) (d0 d1 d2 : Nat) (v : Int) :
    (State.event4 s type car d0 d1 d2 v).tick = s.tick ∧ (State.event4 s type car d0 d1 d2 v).tw.lastHb = s.tw.lastHb ∧ (State.event4 s type car d0 d1 d2 v).pending = s.pending ∧ (State.event4 s type car d0 d1 d2 v).model = s.model := by
  refine ⟨?_, ?_, ?_, ?_⟩ <;> simp [State.event4, ↓each_tick, ↓each_lastHb, ↓each_pending, ↓each_model]

@[simp] theorem State.positionEvent_keeps (s : State) (c : Fin 16) (kind : Nat) (v : Int) :
    (State.positionEvent s c kind v).tick = s.tick ∧ (State.positionEvent s c kind v).tw.lastHb = s.tw.lastHb ∧ (State.positionEvent s c kind v).pending = s.pending ∧ (State.positionEvent s c kind v).model = s.model := by
  refine ⟨?_, ?_, ?_, ?_⟩ <;> simp [State.positionEvent, ↓each_tick, ↓each_lastHb, ↓each_pending, ↓each_model]

@[simp] theorem State.drainTel_keeps (s : State) :
    (State.drainTel s).tick = s.tick ∧ (State.drainTel s).tw.lastHb = s.tw.lastHb ∧ (State.drainTel s).pending = s.pending ∧ (State.drainTel s).model = s.model := by
  unfold State.drainTel; (repeat' split) <;> simp [↓each_tick, ↓each_lastHb, ↓each_pending, ↓each_model]

@[simp] theorem State.putTel_keeps (s : State) (type car : Nat) (t1 : BitVec 32) (stamp : BitVec 32) (body : List Byte) :
    (State.putTel s type car t1 stamp body).tick = s.tick ∧ (State.putTel s type car t1 stamp body).tw.lastHb = s.tw.lastHb ∧ (State.putTel s type car t1 stamp body).pending = s.pending ∧ (State.putTel s type car t1 stamp body).model = s.model := by
  unfold State.putTel; dsimp only; (repeat' split) <;> simp [↓each_tick, ↓each_lastHb, ↓each_pending, ↓each_model]

@[simp] theorem State.drainLog_keeps (s : State) :
    (State.drainLog s).tick = s.tick ∧ (State.drainLog s).tw.lastHb = s.tw.lastHb ∧ (State.drainLog s).pending = s.pending ∧ (State.drainLog s).model = s.model := by
  unfold State.drainLog; (repeat' split) <;> simp [↓each_tick, ↓each_lastHb, ↓each_pending, ↓each_model]

@[simp] theorem State.putLog_keeps (s : State) (msg : List Byte) (first : Bool) :
    (State.putLog s msg first).tick = s.tick ∧ (State.putLog s msg first).tw.lastHb = s.tw.lastHb ∧ (State.putLog s msg first).pending = s.pending ∧ (State.putLog s msg first).model = s.model := by
  unfold State.putLog; dsimp only; (repeat' split) <;> simp [↓each_tick, ↓each_lastHb, ↓each_pending, ↓each_model]

@[simp] theorem State.complete_keeps (s : State) (c : Cpl) :
    (State.complete s c).tick = s.tick ∧ (State.complete s c).tw.lastHb = s.tw.lastHb ∧ (State.complete s c).pending = s.pending ∧ (State.complete s c).model = s.model := by
  unfold State.complete; (repeat' split) <;> simp [↓each_tick, ↓each_lastHb, ↓each_pending, ↓each_model]

@[simp] theorem State.answer_keeps (s : State) (e : CmdEntry) (st : CplStatus) (code : Nat) (result : BitVec 32) :
    (State.answer s e st code result).tick = s.tick ∧ (State.answer s e st code result).tw.lastHb = s.tw.lastHb ∧ (State.answer s e st code result).pending = s.pending ∧ (State.answer s e st code result).model = s.model := by
  refine ⟨?_, ?_, ?_, ?_⟩ <;> simp [State.answer, ↓each_tick, ↓each_lastHb, ↓each_pending, ↓each_model]

@[simp] theorem State.startRunning_keeps (s : State) (e : CmdEntry) :
    (State.startRunning s e).tick = s.tick ∧ (State.startRunning s e).tw.lastHb = s.tw.lastHb ∧ (State.startRunning s e).pending = s.pending ∧ (State.startRunning s e).model = s.model := by
  refine ⟨?_, ?_, ?_, ?_⟩ <;> simp [State.startRunning, ↓each_tick, ↓each_lastHb, ↓each_pending, ↓each_model]

@[simp] theorem State.finish_keeps (s : State) (e : CmdEntry) (st : CplStatus) (code : Nat) (result : BitVec 32) :
    (State.finish s e st code result).tick = s.tick ∧ (State.finish s e st code result).tw.lastHb = s.tw.lastHb ∧ (State.finish s e st code result).pending = s.pending ∧ (State.finish s e st code result).model = s.model := by
  unfold State.finish; (repeat' split) <;> simp [↓each_tick, ↓each_lastHb, ↓each_pending, ↓each_model]

@[simp] theorem State.finishOp_keeps (s : State) (op : Byte) (car : Nat) (st : CplStatus) (code : Nat) (result : BitVec 32) :
    (State.finishOp s op car st code result).tick = s.tick ∧ (State.finishOp s op car st code result).tw.lastHb = s.tw.lastHb ∧ (State.finishOp s op car st code result).pending = s.pending ∧ (State.finishOp s op car st code result).model = s.model := by
  unfold State.finishOp; (repeat' split) <;> simp [↓each_tick, ↓each_lastHb, ↓each_pending, ↓each_model]

@[simp] theorem State.stopRings_keeps (s : State) :
    (State.stopRings s).tick = s.tick ∧ (State.stopRings s).tw.lastHb = s.tw.lastHb ∧ (State.stopRings s).pending = s.pending ∧ (State.stopRings s).model = s.model := by
  refine ⟨?_, ?_, ?_, ?_⟩ <;> simp [State.stopRings, ↓each_tick, ↓each_lastHb, ↓each_pending, ↓each_model]

@[simp] theorem State.resetHi_keeps (s : State) :
    (State.resetHi s).tick = s.tick ∧ (State.resetHi s).tw.lastHb = s.tw.lastHb ∧ (State.resetHi s).pending = s.pending ∧ (State.resetHi s).model = s.model := by
  refine ⟨?_, ?_, ?_, ?_⟩ <;> simp [State.resetHi, ↓each_tick, ↓each_lastHb, ↓each_pending, ↓each_model]

@[simp] theorem State.addProposal_keeps (s : State) (kind car side count : Nat) (payload : List Byte) :
    (State.addProposal s kind car side count payload).tick = s.tick ∧ (State.addProposal s kind car side count payload).tw.lastHb = s.tw.lastHb ∧ (State.addProposal s kind car side count payload).pending = s.pending ∧ (State.addProposal s kind car side count payload).model = s.model := by
  refine ⟨?_, ?_, ?_, ?_⟩ <;> simp [State.addProposal, ↓each_tick, ↓each_lastHb, ↓each_pending, ↓each_model]

@[simp] theorem State.faultEvent_keeps (s : State) (r : FaultRec) :
    (State.faultEvent s r).tick = s.tick ∧ (State.faultEvent s r).tw.lastHb = s.tw.lastHb ∧ (State.faultEvent s r).pending = s.pending ∧ (State.faultEvent s r).model = s.model := by
  refine ⟨?_, ?_, ?_, ?_⟩ <;> simp [State.faultEvent, ↓each_tick, ↓each_lastHb, ↓each_pending, ↓each_model]

@[simp] theorem State.markRetired_keeps (s : State) (u : TestUnit) (src : BitVec 10) (kind : Byte) (cls : BitVec 2) (ctx : BitVec 32) :
    (State.markRetired s u src kind cls ctx).tick = s.tick ∧ (State.markRetired s u src kind cls ctx).tw.lastHb = s.tw.lastHb ∧ (State.markRetired s u src kind cls ctx).pending = s.pending ∧ (State.markRetired s u src kind cls ctx).model = s.model := by
  unfold State.markRetired; (repeat' split) <;> simp [↓each_tick, ↓each_lastHb, ↓each_pending, ↓each_model]

@[simp] theorem State.brst_keeps (s : State) (src : Nat) :
    (State.brst s src).tick = s.tick ∧ (State.brst s src).tw.lastHb = s.tw.lastHb ∧ (State.brst s src).pending = s.pending ∧ (State.brst s src).model = s.model := by
  unfold State.brst; (repeat' split) <;> simp [↓each_tick, ↓each_lastHb, ↓each_pending, ↓each_model]

theorem State.powerLost_loose (s : State) : State.Loose s (State.powerLost s) := ⟨.inr rfl, .inr rfl, rfl, .inr rfl⟩

theorem State.reboot_loose (s : State) : State.Loose s (State.reboot s) := ⟨.inl rfl, .inr rfl, rfl, .inr rfl⟩

@[simp] theorem State.haltBoot_keeps (s : State) (m : FaultMsg) :
    (State.haltBoot s m).tick = s.tick ∧ (State.haltBoot s m).tw.lastHb = s.tw.lastHb ∧ (State.haltBoot s m).pending = s.pending ∧ (State.haltBoot s m).model = s.model := by
  unfold State.haltBoot; (repeat' split) <;> first | (simp [↓each_tick, ↓each_lastHb, ↓each_pending, ↓each_model]; done) | (refine each_keeps4 _ _ _ fun s a => ?_; dsimp only; (repeat' split) <;> simp [↓each_tick, ↓each_lastHb, ↓each_pending, ↓each_model]) | (refine each_keeps4 _ _ _ fun s a => ?_; (repeat' split) <;> simp [↓each_tick, ↓each_lastHb, ↓each_pending, ↓each_model])

@[simp] theorem State.onArrival_keeps (s : State) (m : FaultMsg) :
    (State.onArrival s m).tick = s.tick ∧ (State.onArrival s m).tw.lastHb = s.tw.lastHb ∧ (State.onArrival s m).pending = s.pending ∧ (State.onArrival s m).model = s.model := by
  unfold State.onArrival; dsimp only; (repeat' split) <;> simp [↓each_tick, ↓each_lastHb, ↓each_pending, ↓each_model]

theorem State.failSlot_loose (s : State) : State.Loose s (State.failSlot s) := ⟨.inl rfl, .inr rfl, rfl, .inr rfl⟩

theorem State.settleBoot_loose (s : State) : State.Loose s (State.settleBoot s) := by
  unfold State.settleBoot
  split
  · exact State.failSlot_loose s
  · exact .refl s

@[simp] theorem State.report_keeps (s : State) (m : FaultMsg) :
    (State.report s m).tick = s.tick ∧ (State.report s m).tw.lastHb = s.tw.lastHb ∧ (State.report s m).pending = s.pending ∧ (State.report s m).model = s.model := by
  unfold State.report; (repeat' split) <;> simp [↓each_tick, ↓each_lastHb, ↓each_pending, ↓each_model]

@[simp] theorem State.raise_keeps (s : State) (src kind cls : Nat) (ctx : BitVec 32) (detail : Nat) :
    (State.raise s src kind cls ctx detail).tick = s.tick ∧ (State.raise s src kind cls ctx detail).tw.lastHb = s.tw.lastHb ∧ (State.raise s src kind cls ctx detail).pending = s.pending ∧ (State.raise s src kind cls ctx detail).model = s.model := by
  refine ⟨?_, ?_, ?_, ?_⟩ <;> simp [State.raise, ↓each_tick, ↓each_lastHb, ↓each_pending, ↓each_model]

@[simp] theorem State.raisePrev_keeps (s : State) (src kind cls : Nat) (ctx : BitVec 32) (detail : Nat) :
    (State.raisePrev s src kind cls ctx detail).tick = s.tick ∧ (State.raisePrev s src kind cls ctx detail).tw.lastHb = s.tw.lastHb ∧ (State.raisePrev s src kind cls ctx detail).pending = s.pending ∧ (State.raisePrev s src kind cls ctx detail).model = s.model := by
  refine ⟨?_, ?_, ?_, ?_⟩ <;> simp [State.raisePrev, ↓each_tick, ↓each_lastHb, ↓each_pending, ↓each_model]

@[simp] theorem State.finding_keeps (s : State) (c : Fin 16) (kind : Nat) (ctx : BitVec 32) (detail : Nat) :
    (State.finding s c kind ctx detail).tick = s.tick ∧ (State.finding s c kind ctx detail).tw.lastHb = s.tw.lastHb ∧ (State.finding s c kind ctx detail).pending = s.pending ∧ (State.finding s c kind ctx detail).model = s.model := by
  refine ⟨?_, ?_, ?_, ?_⟩ <;> simp [State.finding, ↓each_tick, ↓each_lastHb, ↓each_pending, ↓each_model]

@[simp] theorem State.abortRaw_keeps (s : State) (before after : List TxFrame) :
    (State.abortRaw s before after).tick = s.tick ∧ (State.abortRaw s before after).tw.lastHb = s.tw.lastHb ∧ (State.abortRaw s before after).pending = s.pending ∧ (State.abortRaw s before after).model = s.model := by
  refine each_keeps4 _ _ _ fun s a => ?_
  split
  · simp
  · simp

@[simp] theorem State.queue_keeps (s : State) (n : Fin 12) (f : TxFrame) :
    (State.queue s n f).tick = s.tick ∧ (State.queue s n f).tw.lastHb = s.tw.lastHb ∧ (State.queue s n f).pending = s.pending ∧ (State.queue s n f).model = s.model := by
  unfold State.queue; (repeat' split) <;> simp [↓each_tick, ↓each_lastHb, ↓each_pending, ↓each_model]

@[simp] theorem State.dropTx_keeps (s : State) (n : Fin 12) (count : Bool) :
    (State.dropTx s n count).tick = s.tick ∧ (State.dropTx s n count).tw.lastHb = s.tw.lastHb ∧ (State.dropTx s n count).pending = s.pending ∧ (State.dropTx s n count).model = s.model := by
  refine ⟨?_, ?_, ?_, ?_⟩ <;> simp [State.dropTx, ↓each_tick, ↓each_lastHb, ↓each_pending, ↓each_model]

@[simp] theorem State.askSf1_keeps (s : State) (c : Fin 16) :
    (State.askSf1 s c).tick = s.tick ∧ (State.askSf1 s c).tw.lastHb = s.tw.lastHb ∧ (State.askSf1 s c).pending = s.pending ∧ (State.askSf1 s c).model = s.model := by
  refine ⟨?_, ?_, ?_, ?_⟩ <;> simp [State.askSf1, ↓each_tick, ↓each_lastHb, ↓each_pending, ↓each_model]

@[simp] theorem State.serviceHold_keeps (s : State) (c : Fin 16) (cause : Nat) :
    (State.serviceHold s c cause).tick = s.tick ∧ (State.serviceHold s c cause).tw.lastHb = s.tw.lastHb ∧ (State.serviceHold s c cause).pending = s.pending ∧ (State.serviceHold s c cause).model = s.model := by
  refine ⟨?_, ?_, ?_, ?_⟩ <;> simp [State.serviceHold, ↓each_tick, ↓each_lastHb, ↓each_pending, ↓each_model]

@[simp] theorem State.countSpill_keeps (s : State) (u : Fin 12) (l : Fin 3) :
    (State.countSpill s u l).tick = s.tick ∧ (State.countSpill s u l).tw.lastHb = s.tw.lastHb ∧ (State.countSpill s u l).pending = s.pending ∧ (State.countSpill s u l).model = s.model := by
  refine ⟨?_, ?_, ?_, ?_⟩ <;> simp [State.countSpill, ↓each_tick, ↓each_lastHb, ↓each_pending, ↓each_model]

@[simp] theorem State.useCv_keeps (s : State) (n : Fin 16) (ok : Bool) :
    (State.useCv s n ok).tick = s.tick ∧ (State.useCv s n ok).tw.lastHb = s.tw.lastHb ∧ (State.useCv s n ok).pending = s.pending ∧ (State.useCv s n ok).model = s.model := by
  unfold State.useCv; (repeat' split) <;> simp [↓each_tick, ↓each_lastHb, ↓each_pending, ↓each_model]

@[simp] theorem State.countSample_keeps (s : State) (n : Fin 48) (kind : EdgeKind) (ts : BitVec 32) :
    (State.countSample s n kind ts).tick = s.tick ∧ (State.countSample s n kind ts).tw.lastHb = s.tw.lastHb ∧ (State.countSample s n kind ts).pending = s.pending ∧ (State.countSample s n kind ts).model = s.model := by
  unfold State.countSample; (repeat' split) <;> simp [↓each_tick, ↓each_lastHb, ↓each_pending, ↓each_model]

@[simp] theorem State.portEdge_keeps (s : State) (n : Fin 48) (lv : BitVec 2) (held : Nat) (ts : BitVec 32) :
    (State.portEdge s n lv held ts).tick = s.tick ∧ (State.portEdge s n lv held ts).tw.lastHb = s.tw.lastHb ∧ (State.portEdge s n lv held ts).pending = s.pending ∧ (State.portEdge s n lv held ts).model = s.model := by
  unfold State.portEdge; dsimp only; (repeat' split) <;> simp [↓each_tick, ↓each_lastHb, ↓each_pending, ↓each_model]

@[simp] theorem State.indexEvent_keeps (s : State) (n : Fin 48) (lv : Bool) (held : Nat) (ts : BitVec 32) :
    (State.indexEvent s n lv held ts).tick = s.tick ∧ (State.indexEvent s n lv held ts).tw.lastHb = s.tw.lastHb ∧ (State.indexEvent s n lv held ts).pending = s.pending ∧ (State.indexEvent s n lv held ts).model = s.model := by
  unfold State.indexEvent; dsimp only; (repeat' split) <;> simp [↓each_tick, ↓each_lastHb, ↓each_pending, ↓each_model]

@[simp] theorem State.ssiFrame_keeps (s : State) (n : Fin 48) (fr : SsiBits) :
    (State.ssiFrame s n fr).tick = s.tick ∧ (State.ssiFrame s n fr).tw.lastHb = s.tw.lastHb ∧ (State.ssiFrame s n fr).pending = s.pending ∧ (State.ssiFrame s n fr).model = s.model := by
  unfold State.ssiFrame; dsimp only; (repeat' split) <;> simp [↓each_tick, ↓each_lastHb, ↓each_pending, ↓each_model]

@[simp] theorem State.ssiFrameLate_keeps (s : State) (n : Fin 48) (started : Bool) :
    (State.ssiFrameLate s n started).tick = s.tick ∧ (State.ssiFrameLate s n started).tw.lastHb = s.tw.lastHb ∧ (State.ssiFrameLate s n started).pending = s.pending ∧ (State.ssiFrameLate s n started).model = s.model := by
  unfold State.ssiFrameLate; dsimp only; (repeat' split) <;> simp [↓each_tick, ↓each_lastHb, ↓each_pending, ↓each_model]

@[simp] theorem State.portLineFault_keeps (s : State) (n : Fin 48) (pair : Fin 3) (present : Bool) :
    (State.portLineFault s n pair present).tick = s.tick ∧ (State.portLineFault s n pair present).tw.lastHb = s.tw.lastHb ∧ (State.portLineFault s n pair present).pending = s.pending ∧ (State.portLineFault s n pair present).model = s.model := by
  unfold State.portLineFault; dsimp only; (repeat' split) <;> simp [↓each_tick, ↓each_lastHb, ↓each_pending, ↓each_model]

@[simp] theorem State.portStandstill_keeps (s : State) (n : Fin 48) :
    (State.portStandstill s n).tick = s.tick ∧ (State.portStandstill s n).tw.lastHb = s.tw.lastHb ∧ (State.portStandstill s n).pending = s.pending ∧ (State.portStandstill s n).model = s.model := by
  unfold State.portStandstill; dsimp only; (repeat' split) <;> simp [↓each_tick, ↓each_lastHb, ↓each_pending, ↓each_model]

@[simp] theorem State.groupOff_keeps (s : State) (g : Fin 6) :
    (State.groupOff s g).tick = s.tick ∧ (State.groupOff s g).tw.lastHb = s.tw.lastHb ∧ (State.groupOff s g).pending = s.pending ∧ (State.groupOff s g).model = s.model := by
  refine ⟨?_, ?_, ?_, ?_⟩ <;> simp [State.groupOff, ↓each_tick, ↓each_lastHb, ↓each_pending, ↓each_model]

@[simp] theorem State.joinChain_keeps (s : State) (i : ChainItem) :
    (State.joinChain s i).tick = s.tick ∧ (State.joinChain s i).tw.lastHb = s.tw.lastHb ∧ (State.joinChain s i).pending = s.pending ∧ (State.joinChain s i).model = s.model := by
  unfold State.joinChain; (repeat' split) <;> simp [↓each_tick, ↓each_lastHb, ↓each_pending, ↓each_model]

@[simp] theorem State.supplyOvercurrent_keeps (s : State) (g : Fin 6) :
    (State.supplyOvercurrent s g).tick = s.tick ∧ (State.supplyOvercurrent s g).tw.lastHb = s.tw.lastHb ∧ (State.supplyOvercurrent s g).pending = s.pending ∧ (State.supplyOvercurrent s g).model = s.model := by
  unfold State.supplyOvercurrent; (repeat' split) <;> simp [↓each_tick, ↓each_lastHb, ↓each_pending, ↓each_model]

@[simp] theorem State.supplySettled_keeps (s : State) (g : Fin 6) :
    (State.supplySettled s g).tick = s.tick ∧ (State.supplySettled s g).tw.lastHb = s.tw.lastHb ∧ (State.supplySettled s g).pending = s.pending ∧ (State.supplySettled s g).model = s.model := by
  refine ⟨?_, ?_, ?_, ?_⟩ <;> simp [State.supplySettled, ↓each_tick, ↓each_lastHb, ↓each_pending, ↓each_model]

@[simp] theorem State.supplyChainStart_keeps (s : State) :
    (State.supplyChainStart s).tick = s.tick ∧ (State.supplyChainStart s).tw.lastHb = s.tw.lastHb ∧ (State.supplyChainStart s).pending = s.pending ∧ (State.supplyChainStart s).model = s.model := by
  unfold State.supplyChainStart; (repeat' split) <;> simp [↓each_tick, ↓each_lastHb, ↓each_pending, ↓each_model]

@[simp] theorem State.latchPort_keeps (s : State) (n : Fin 48) :
    (State.latchPort s n).tick = s.tick ∧ (State.latchPort s n).tw.lastHb = s.tw.lastHb ∧ (State.latchPort s n).pending = s.pending ∧ (State.latchPort s n).model = s.model := by
  refine ⟨?_, ?_, ?_, ?_⟩ <;> simp [State.latchPort, ↓each_tick, ↓each_lastHb, ↓each_pending, ↓each_model]

@[simp] theorem State.commitPort_keeps (s : State) (n : Fin 48) :
    (State.commitPort s n).tick = s.tick ∧ (State.commitPort s n).tw.lastHb = s.tw.lastHb ∧ (State.commitPort s n).pending = s.pending ∧ (State.commitPort s n).model = s.model := by
  refine ⟨?_, ?_, ?_, ?_⟩ <;> simp [State.commitPort, ↓each_tick, ↓each_lastHb, ↓each_pending, ↓each_model]

@[simp] theorem State.loadPort_keeps (s : State) (n : Fin 48) (r : PortRec) :
    (State.loadPort s n r).tick = s.tick ∧ (State.loadPort s n r).tw.lastHb = s.tw.lastHb ∧ (State.loadPort s n r).pending = s.pending ∧ (State.loadPort s n r).model = s.model := by
  refine ⟨?_, ?_, ?_, ?_⟩ <;> simp [State.loadPort, ↓each_tick, ↓each_lastHb, ↓each_pending, ↓each_model]

@[simp] theorem State.loadGroup_keeps (s : State) (m : Model) (g : Fin 6) :
    (State.loadGroup s m g).tick = s.tick ∧ (State.loadGroup s m g).tw.lastHb = s.tw.lastHb ∧ (State.loadGroup s m g).pending = s.pending ∧ (State.loadGroup s m g).model = s.model := by
  unfold State.loadGroup; dsimp only; (repeat' split) <;> simp [↓each_tick, ↓each_lastHb, ↓each_pending, ↓each_model]

@[simp] theorem State.portTestStart_keeps (s : State) (n : Fin 48) :
    (State.portTestStart s n).tick = s.tick ∧ (State.portTestStart s n).tw.lastHb = s.tw.lastHb ∧ (State.portTestStart s n).pending = s.pending ∧ (State.portTestStart s n).model = s.model := by
  refine ⟨?_, ?_, ?_, ?_⟩ <;> simp [State.portTestStart, ↓each_tick, ↓each_lastHb, ↓each_pending, ↓each_model]

@[simp] theorem State.portTestEnd_keeps (s : State) (n : Fin 48) :
    (State.portTestEnd s n).tick = s.tick ∧ (State.portTestEnd s n).tw.lastHb = s.tw.lastHb ∧ (State.portTestEnd s n).pending = s.pending ∧ (State.portTestEnd s n).model = s.model := by
  refine ⟨?_, ?_, ?_, ?_⟩ <;> simp [State.portTestEnd, ↓each_tick, ↓each_lastHb, ↓each_pending, ↓each_model]

@[simp] theorem State.tickSupplies_keeps (s : State) :
    (State.tickSupplies s).tick = s.tick ∧ (State.tickSupplies s).tw.lastHb = s.tw.lastHb ∧ (State.tickSupplies s).pending = s.pending ∧ (State.tickSupplies s).model = s.model := by
  unfold State.tickSupplies; (repeat' split) <;> first | (simp [↓each_tick, ↓each_lastHb, ↓each_pending, ↓each_model]; done) | (refine each_keeps4 _ _ _ fun s a => ?_; dsimp only; (repeat' split) <;> simp [↓each_tick, ↓each_lastHb, ↓each_pending, ↓each_model]) | (refine each_keeps4 _ _ _ fun s a => ?_; (repeat' split) <;> simp [↓each_tick, ↓each_lastHb, ↓each_pending, ↓each_model])

@[simp] theorem State.measureSupplies_keeps (s : State) :
    (State.measureSupplies s).tick = s.tick ∧ (State.measureSupplies s).tw.lastHb = s.tw.lastHb ∧ (State.measureSupplies s).pending = s.pending ∧ (State.measureSupplies s).model = s.model := by
  unfold State.measureSupplies; dsimp only; (repeat' split) <;> simp_all [↓each_tick, ↓each_lastHb, ↓each_pending, ↓each_model]

@[simp] theorem State.setHealth_keeps (s : State) (c : Fin 16) (h : Health) :
    (State.setHealth s c h).tick = s.tick ∧ (State.setHealth s c h).tw.lastHb = s.tw.lastHb ∧ (State.setHealth s c h).pending = s.pending ∧ (State.setHealth s c h).model = s.model := by
  unfold State.setHealth; dsimp only; (repeat' split) <;> simp [↓each_tick, ↓each_lastHb, ↓each_pending, ↓each_model]

@[simp] theorem State.indexSuspect_keeps (s : State) (c : Fin 16) (delta : Int) :
    (State.indexSuspect s c delta).tick = s.tick ∧ (State.indexSuspect s c delta).tw.lastHb = s.tw.lastHb ∧ (State.indexSuspect s c delta).pending = s.pending ∧ (State.indexSuspect s c delta).model = s.model := by
  unfold State.indexSuspect; dsimp only; (repeat' split) <;> simp [↓each_tick, ↓each_lastHb, ↓each_pending, ↓each_model]

@[simp] theorem State.indexResult_keeps (s : State) (m : Model) (c : Fin 16) (h : HoistRec) (n : Fin 48) :
    (State.indexResult s m c h n).tick = s.tick ∧ (State.indexResult s m c h n).tw.lastHb = s.tw.lastHb ∧ (State.indexResult s m c h n).pending = s.pending ∧ (State.indexResult s m c h n).model = s.model := by
  unfold State.indexResult; dsimp only; (repeat' split) <;> simp [↓each_tick, ↓each_lastHb, ↓each_pending, ↓each_model]

@[simp] theorem State.armWindow_keeps (s : State) (n : Fin 48) (exp : BitVec 32) (win : BitVec 24) :
    (State.armWindow s n exp win).tick = s.tick ∧ (State.armWindow s n exp win).tw.lastHb = s.tw.lastHb ∧ (State.armWindow s n exp win).pending = s.pending ∧ (State.armWindow s n exp win).model = s.model := by
  refine ⟨?_, ?_, ?_, ?_⟩ <;> simp [State.armWindow, ↓each_tick, ↓each_lastHb, ↓each_pending, ↓each_model]

theorem State.armNext_keeps (s : State) (m : Model) (c : Fin 16) (n : Fin 48) (up : Bool) (at_ two : Int) (ls : List Nat) :
    (State.armNext s m c n up at_ two ls).tick = s.tick ∧ (State.armNext s m c n up at_ two ls).tw.lastHb = s.tw.lastHb ∧ (State.armNext s m c n up at_ two ls).pending = s.pending ∧ (State.armNext s m c n up at_ two ls).model = s.model := by
  induction ls generalizing s with
  | nil => simp [State.armNext]
  | cons l ls ih =>
    have h := ih (s.updCar c fun cp => { cp with evSkipped := cp.evSkipped + 1, nextIdx := some l })
    unfold State.armNext
    dsimp only
    refine ⟨?_, ?_, ?_, ?_⟩ <;> (repeat' split) <;> simp [ih]

@[simp] theorem State.armIndex_keeps (s : State) (m : Model) (c : Fin 16) :
    (State.armIndex s m c).tick = s.tick ∧ (State.armIndex s m c).tw.lastHb = s.tw.lastHb ∧ (State.armIndex s m c).pending = s.pending ∧ (State.armIndex s m c).model = s.model := by
  unfold State.armIndex
  dsimp only
  split
  · simp
  · split
    · simp
    · exact State.armNext_keeps ..

@[simp] theorem State.readopt_keeps (s : State) (c : Fin 16) (h : HoistRec) (still : Bool) (a : Option Int) :
    (State.readopt s c h still a).tick = s.tick ∧ (State.readopt s c h still a).tw.lastHb = s.tw.lastHb ∧ (State.readopt s c h still a).pending = s.pending ∧ (State.readopt s c h still a).model = s.model := by
  unfold State.readopt; dsimp only; (repeat' split) <;> simp [↓each_tick, ↓each_lastHb, ↓each_pending, ↓each_model]

@[simp] theorem State.startReference_keeps (s : State) (m : Model) (c : Fin 16) (a : Option Int) (dm : Int) (hasAbs dz1 : Bool) :
    (State.startReference s m c a dm hasAbs dz1).tick = s.tick ∧ (State.startReference s m c a dm hasAbs dz1).tw.lastHb = s.tw.lastHb ∧ (State.startReference s m c a dm hasAbs dz1).pending = s.pending ∧ (State.startReference s m c a dm hasAbs dz1).model = s.model := by
  unfold State.startReference; dsimp only; (repeat' split) <;> simp [↓each_tick, ↓each_lastHb, ↓each_pending, ↓each_model]

@[simp] theorem State.slipLimits_keeps (s : State) (c : Fin 16) (h : HoistRec) :
    (State.slipLimits s c h).tick = s.tick ∧ (State.slipLimits s c h).tw.lastHb = s.tw.lastHb ∧ (State.slipLimits s c h).pending = s.pending ∧ (State.slipLimits s c h).model = s.model := by
  unfold State.slipLimits; dsimp only; (repeat' split) <;> simp [↓each_tick, ↓each_lastHb, ↓each_pending, ↓each_model]

@[simp] theorem State.dropFusion_keeps (s : State) (m : Model) (c : Fin 16) :
    (State.dropFusion s m c).tick = s.tick ∧ (State.dropFusion s m c).tw.lastHb = s.tw.lastHb ∧ (State.dropFusion s m c).pending = s.pending ∧ (State.dropFusion s m c).model = s.model := by
  unfold State.dropFusion; dsimp only; (repeat' split) <;> simp [↓each_tick, ↓each_lastHb, ↓each_pending, ↓each_model]

@[simp] theorem State.fuseIndex_keeps (s : State) (m : Model) (c : Fin 16) (h : HoistRec) :
    (State.fuseIndex s m c h).tick = s.tick ∧ (State.fuseIndex s m c h).tw.lastHb = s.tw.lastHb ∧ (State.fuseIndex s m c h).pending = s.pending ∧ (State.fuseIndex s m c h).model = s.model := by
  unfold State.fuseIndex; dsimp only; (repeat' split) <;> simp [↓each_tick, ↓each_lastHb, ↓each_pending, ↓each_model]

@[simp] theorem State.fuseLanding_keeps (s : State) (m : Model) (c : Fin 16) :
    (State.fuseLanding s m c).tick = s.tick ∧ (State.fuseLanding s m c).tw.lastHb = s.tw.lastHb ∧ (State.fuseLanding s m c).pending = s.pending ∧ (State.fuseLanding s m c).model = s.model := by
  refine ⟨?_, ?_, ?_, ?_⟩ <;> simp [State.fuseLanding, ↓each_tick, ↓each_lastHb, ↓each_pending, ↓each_model]

@[simp] theorem State.fuseHealth_keeps (s : State) (c : Fin 16) (hasAbs dz1 : Bool) :
    (State.fuseHealth s c hasAbs dz1).tick = s.tick ∧ (State.fuseHealth s c hasAbs dz1).tw.lastHb = s.tw.lastHb ∧ (State.fuseHealth s c hasAbs dz1).pending = s.pending ∧ (State.fuseHealth s c hasAbs dz1).model = s.model := by
  unfold State.fuseHealth; dsimp only; (repeat' split) <;> simp [↓each_tick, ↓each_lastHb, ↓each_pending, ↓each_model]

@[simp] theorem State.fuse_keeps (s : State) (m : Model) (c : Fin 16) :
    (State.fuse s m c).tick = s.tick ∧ (State.fuse s m c).tw.lastHb = s.tw.lastHb ∧ (State.fuse s m c).pending = s.pending ∧ (State.fuse s m c).model = s.model := by
  unfold State.fuse; (repeat' split) <;> first | (simp [↓each_tick, ↓each_lastHb, ↓each_pending, ↓each_model]; done) | (refine each_keeps4 _ _ _ fun s a => ?_; dsimp only; (repeat' split) <;> simp [↓each_tick, ↓each_lastHb, ↓each_pending, ↓each_model]) | (refine each_keeps4 _ _ _ fun s a => ?_; (repeat' split) <;> simp [↓each_tick, ↓each_lastHb, ↓each_pending, ↓each_model])

@[simp] theorem State.fusionDropHealth_keeps (s : State) (c : Fin 16) :
    (State.fusionDropHealth s c).tick = s.tick ∧ (State.fusionDropHealth s c).tw.lastHb = s.tw.lastHb ∧ (State.fusionDropHealth s c).pending = s.pending ∧ (State.fusionDropHealth s c).model = s.model := by
  unfold State.fusionDropHealth; dsimp only; (repeat' split) <;> simp [↓each_tick, ↓each_lastHb, ↓each_pending, ↓each_model]

@[simp] theorem State.tsContradiction_keeps (s : State) (c : Fin 16) :
    (State.tsContradiction s c).tick = s.tick ∧ (State.tsContradiction s c).tw.lastHb = s.tw.lastHb ∧ (State.tsContradiction s c).pending = s.pending ∧ (State.tsContradiction s c).model = s.model := by
  unfold State.tsContradiction; dsimp only; (repeat' split) <;> simp [↓each_tick, ↓each_lastHb, ↓each_pending, ↓each_model]

@[simp] theorem State.failAbs_keeps (s : State) (c : Fin 16) :
    (State.failAbs s c).tick = s.tick ∧ (State.failAbs s c).tw.lastHb = s.tw.lastHb ∧ (State.failAbs s c).pending = s.pending ∧ (State.failAbs s c).model = s.model := by
  refine ⟨?_, ?_, ?_, ?_⟩ <;> simp [State.failAbs, ↓each_tick, ↓each_lastHb, ↓each_pending, ↓each_model]

@[simp] theorem State.absSourceFail_keeps (s : State) (c : Fin 16) :
    (State.absSourceFail s c).tick = s.tick ∧ (State.absSourceFail s c).tw.lastHb = s.tw.lastHb ∧ (State.absSourceFail s c).pending = s.pending ∧ (State.absSourceFail s c).model = s.model := by
  unfold State.absSourceFail; dsimp only; (repeat' split) <;> simp [↓each_tick, ↓each_lastHb, ↓each_pending, ↓each_model]

@[simp] theorem State.runStartPos_keeps (s : State) (c : Fin 16) :
    (State.runStartPos s c).tick = s.tick ∧ (State.runStartPos s c).tw.lastHb = s.tw.lastHb ∧ (State.runStartPos s c).pending = s.pending ∧ (State.runStartPos s c).model = s.model := by
  refine ⟨?_, ?_, ?_, ?_⟩ <;> simp [State.runStartPos, ↓each_tick, ↓each_lastHb, ↓each_pending, ↓each_model]

@[simp] theorem State.hoistStart_keeps (s : State) (m : Model) (c : Fin 16) (r : NewRun) :
    (State.hoistStart s m c r).tick = s.tick ∧ (State.hoistStart s m c r).tw.lastHb = s.tw.lastHb ∧ (State.hoistStart s m c r).pending = s.pending ∧ (State.hoistStart s m c r).model = s.model := by
  unfold State.hoistStart; dsimp only; (repeat' split) <;> simp [↓each_tick, ↓each_lastHb, ↓each_pending, ↓each_model]

@[simp] theorem State.dropLifted_keeps (s : State) (c : Fin 16) (a : Axis) :
    (State.dropLifted s c a).tick = s.tick ∧ (State.dropLifted s c a).tw.lastHb = s.tw.lastHb ∧ (State.dropLifted s c a).pending = s.pending ∧ (State.dropLifted s c a).model = s.model := by
  unfold State.dropLifted; (repeat' split) <;> simp [↓each_tick, ↓each_lastHb, ↓each_pending, ↓each_model]

@[simp] theorem State.hoistRequests_keeps (s : State) (m : Model) (c : Fin 16) :
    (State.hoistRequests s m c).tick = s.tick ∧ (State.hoistRequests s m c).tw.lastHb = s.tw.lastHb ∧ (State.hoistRequests s m c).pending = s.pending ∧ (State.hoistRequests s m c).model = s.model := by
  unfold State.hoistRequests; dsimp only; (repeat' split) <;> simp [↓each_tick, ↓each_lastHb, ↓each_pending, ↓each_model]

@[simp] theorem State.startSteps_keeps (s : State) (m : Model) (c : Fin 16) :
    (State.startSteps s m c).tick = s.tick ∧ (State.startSteps s m c).tw.lastHb = s.tw.lastHb ∧ (State.startSteps s m c).pending = s.pending ∧ (State.startSteps s m c).model = s.model := by
  unfold State.startSteps; dsimp only; (repeat' split) <;> simp [↓each_tick, ↓each_lastHb, ↓each_pending, ↓each_model]

@[simp] theorem State.latchGain_keeps (s : State) (m : Model) (k : Fin 48) :
    (State.latchGain s m k).tick = s.tick ∧ (State.latchGain s m k).tw.lastHb = s.tw.lastHb ∧ (State.latchGain s m k).pending = s.pending ∧ (State.latchGain s m k).model = s.model := by
  refine ⟨?_, ?_, ?_, ?_⟩ <;> simp [State.latchGain, ↓each_tick, ↓each_lastHb, ↓each_pending, ↓each_model]

@[simp] theorem State.doorRequests_keeps (s : State) (m : Model) (d : Fin 32) :
    (State.doorRequests s m d).tick = s.tick ∧ (State.doorRequests s m d).tw.lastHb = s.tw.lastHb ∧ (State.doorRequests s m d).pending = s.pending ∧ (State.doorRequests s m d).model = s.model := by
  unfold State.doorRequests; dsimp only; (repeat' split) <;> simp [↓each_tick, ↓each_lastHb, ↓each_pending, ↓each_model]

@[simp] theorem State.installRun_keeps (s : State) (m : Model) (c : Fin 16) :
    (State.installRun s m c).tick = s.tick ∧ (State.installRun s m c).tw.lastHb = s.tw.lastHb ∧ (State.installRun s m c).pending = s.pending ∧ (State.installRun s m c).model = s.model := by
  unfold State.installRun; dsimp only; (repeat' split) <;> simp [↓each_tick, ↓each_lastHb, ↓each_pending, ↓each_model]

@[simp] theorem State.pgLane_keeps (s : State) (m : Model) (k : Fin 48) :
    (State.pgLane s m k).tick = s.tick ∧ (State.pgLane s m k).tw.lastHb = s.tw.lastHb ∧ (State.pgLane s m k).pending = s.pending ∧ (State.pgLane s m k).model = s.model := by
  unfold State.pgLane; dsimp only; (repeat' split) <;> simp [↓each_tick, ↓each_lastHb, ↓each_pending, ↓each_model]

@[simp] theorem State.brakeLiftWait_keeps (s : State) (c : Fin 16) :
    (State.brakeLiftWait s c).tick = s.tick ∧ (State.brakeLiftWait s c).tw.lastHb = s.tw.lastHb ∧ (State.brakeLiftWait s c).pending = s.pending ∧ (State.brakeLiftWait s c).model = s.model := by
  unfold State.brakeLiftWait; dsimp only; (repeat' split) <;> simp [↓each_tick, ↓each_lastHb, ↓each_pending, ↓each_model]

@[simp] theorem State.planEnd_keeps (s : State) (c : Fin 16) :
    (State.planEnd s c).tick = s.tick ∧ (State.planEnd s c).tw.lastHb = s.tw.lastHb ∧ (State.planEnd s c).pending = s.pending ∧ (State.planEnd s c).model = s.model := by
  unfold State.planEnd; dsimp only; (repeat' split) <;> simp [↓each_tick, ↓each_lastHb, ↓each_pending, ↓each_model]

@[simp] theorem State.putEnergy_keeps (s : State) (m : Model) (c : Fin 16) :
    (State.putEnergy s m c).tick = s.tick ∧ (State.putEnergy s m c).tw.lastHb = s.tw.lastHb ∧ (State.putEnergy s m c).pending = s.pending ∧ (State.putEnergy s m c).model = s.model := by
  refine ⟨?_, ?_, ?_, ?_⟩ <;> simp [State.putEnergy, ↓each_tick, ↓each_lastHb, ↓each_pending, ↓each_model]

@[simp] theorem State.endRunCmd_keeps (s : State) (c : Fin 16) (landed : Bool) :
    (State.endRunCmd s c landed).tick = s.tick ∧ (State.endRunCmd s c landed).tw.lastHb = s.tw.lastHb ∧ (State.endRunCmd s c landed).pending = s.pending ∧ (State.endRunCmd s c landed).model = s.model := by
  unfold State.endRunCmd; (repeat' split) <;> simp [↓each_tick, ↓each_lastHb, ↓each_pending, ↓each_model]

@[simp] theorem State.brakeDropWait_keeps (s : State) (c : Fin 16) :
    (State.brakeDropWait s c).tick = s.tick ∧ (State.brakeDropWait s c).tw.lastHb = s.tw.lastHb ∧ (State.brakeDropWait s c).pending = s.pending ∧ (State.brakeDropWait s c).model = s.model := by
  unfold State.brakeDropWait; dsimp only; (repeat' split) <;> simp [↓each_tick, ↓each_lastHb, ↓each_pending, ↓each_model]

@[simp] theorem State.startFailure_keeps (s : State) (c : Fin 16) :
    (State.startFailure s c).tick = s.tick ∧ (State.startFailure s c).tw.lastHb = s.tw.lastHb ∧ (State.startFailure s c).pending = s.pending ∧ (State.startFailure s c).model = s.model := by
  unfold State.startFailure; dsimp only; (repeat' split) <;> simp [↓each_tick, ↓each_lastHb, ↓each_pending, ↓each_model]

@[simp] theorem State.endInjection_keeps (s : State) (k : Fin 48) (code : Nat) (st : CplStatus) (result : BitVec 32) :
    (State.endInjection s k code st result).tick = s.tick ∧ (State.endInjection s k code st result).tw.lastHb = s.tw.lastHb ∧ (State.endInjection s k code st result).pending = s.pending ∧ (State.endInjection s k code st result).model = s.model := by
  unfold State.endInjection; (repeat' split) <;> simp [↓each_tick, ↓each_lastHb, ↓each_pending, ↓each_model]

@[simp] theorem State.abortInjection_keeps (s : State) (k : Fin 48) (code : Nat) :
    (State.abortInjection s k code).tick = s.tick ∧ (State.abortInjection s k code).tw.lastHb = s.tw.lastHb ∧ (State.abortInjection s k code).pending = s.pending ∧ (State.abortInjection s k code).model = s.model := by
  refine ⟨?_, ?_, ?_, ?_⟩ <;> simp [State.abortInjection, ↓each_tick, ↓each_lastHb, ↓each_pending, ↓each_model]

@[simp] theorem State.fireLane_keeps (s : State) (trig : Nat) (k : Fin 48) :
    (State.fireLane s trig k).tick = s.tick ∧ (State.fireLane s trig k).tw.lastHb = s.tw.lastHb ∧ (State.fireLane s trig k).pending = s.pending ∧ (State.fireLane s trig k).model = s.model := by
  unfold State.fireLane; (repeat' split) <;> simp [↓each_tick, ↓each_lastHb, ↓each_pending, ↓each_model]

@[simp] theorem State.fireSf1_keeps (s : State) (c : Fin 16) :
    (State.fireSf1 s c).tick = s.tick ∧ (State.fireSf1 s c).tw.lastHb = s.tw.lastHb ∧ (State.fireSf1 s c).pending = s.pending ∧ (State.fireSf1 s c).model = s.model := by
  unfold State.fireSf1; (repeat' split) <;> simp [↓each_tick, ↓each_lastHb, ↓each_pending, ↓each_model]

@[simp] theorem State.fireCompare_keeps (s : State) (n : Fin 48) :
    (State.fireCompare s n).tick = s.tick ∧ (State.fireCompare s n).tw.lastHb = s.tw.lastHb ∧ (State.fireCompare s n).pending = s.pending ∧ (State.fireCompare s n).model = s.model := by
  unfold State.fireCompare; (repeat' split) <;> simp [↓each_tick, ↓each_lastHb, ↓each_pending, ↓each_model]

@[simp] theorem State.sampleLane_keeps (s : State) (k : Fin 48) (ff : Int) (pm vm : Int) :
    (State.sampleLane s k ff pm vm).tick = s.tick ∧ (State.sampleLane s k ff pm vm).tw.lastHb = s.tw.lastHb ∧ (State.sampleLane s k ff pm vm).pending = s.pending ∧ (State.sampleLane s k ff pm vm).model = s.model := by
  unfold State.sampleLane; (repeat' split) <;> simp [↓each_tick, ↓each_lastHb, ↓each_pending, ↓each_model]

@[simp] theorem State.recordIdentify_keeps (s : State) (k : Fin 48) (vm cur : Int) :
    (State.recordIdentify s k vm cur).tick = s.tick ∧ (State.recordIdentify s k vm cur).tw.lastHb = s.tw.lastHb ∧ (State.recordIdentify s k vm cur).pending = s.pending ∧ (State.recordIdentify s k vm cur).model = s.model := by
  unfold State.recordIdentify; (repeat' split) <;> simp [↓each_tick, ↓each_lastHb, ↓each_pending, ↓each_model]

@[simp] theorem State.injectNow_keeps (s : State) (k : Fin 48) :
    ((State.injectNow s k).1).tick = s.tick ∧ ((State.injectNow s k).1).tw.lastHb = s.tw.lastHb ∧ ((State.injectNow s k).1).pending = s.pending ∧ ((State.injectNow s k).1).model = s.model := by
  unfold State.injectNow; dsimp only; (repeat' split) <;> simp [↓each_tick, ↓each_lastHb, ↓each_pending, ↓each_model]

@[simp] theorem State.noteFe_keeps (s : State) (k : Fin 48) (g : GainRec) :
    (State.noteFe s k g).tick = s.tick ∧ (State.noteFe s k g).tw.lastHb = s.tw.lastHb ∧ (State.noteFe s k g).pending = s.pending ∧ (State.noteFe s k g).model = s.model := by
  unfold State.noteFe; dsimp only; (repeat' split) <;> simp [↓each_tick, ↓each_lastHb, ↓each_pending, ↓each_model]

@[simp] theorem State.hoistLane_keeps (s : State) (m : Model) (k : Fin 48) :
    (State.hoistLane s m k).tick = s.tick ∧ (State.hoistLane s m k).tw.lastHb = s.tw.lastHb ∧ (State.hoistLane s m k).pending = s.pending ∧ (State.hoistLane s m k).model = s.model := by
  unfold State.hoistLane; dsimp only; (repeat' split) <;> simp [↓each_tick, ↓each_lastHb, ↓each_pending, ↓each_model]

@[simp] theorem State.doorLane_keeps (s : State) (m : Model) (k : Fin 48) :
    (State.doorLane s m k).tick = s.tick ∧ (State.doorLane s m k).tw.lastHb = s.tw.lastHb ∧ (State.doorLane s m k).pending = s.pending ∧ (State.doorLane s m k).model = s.model := by
  unfold State.doorLane; dsimp only; (repeat' split) <;> simp [↓each_tick, ↓each_lastHb, ↓each_pending, ↓each_model]

@[simp] theorem State.ceLane_keeps (s : State) (m : Model) (k : Fin 48) :
    (State.ceLane s m k).tick = s.tick ∧ (State.ceLane s m k).tw.lastHb = s.tw.lastHb ∧ (State.ceLane s m k).pending = s.pending ∧ (State.ceLane s m k).model = s.model := by
  unfold State.ceLane; (repeat' split) <;> simp [↓each_tick, ↓each_lastHb, ↓each_pending, ↓each_model]

@[simp] theorem State.dropLane_keeps (s : State) (k : Fin 48) :
    (State.dropLane s k).tick = s.tick ∧ (State.dropLane s k).tw.lastHb = s.tw.lastHb ∧ (State.dropLane s k).pending = s.pending ∧ (State.dropLane s k).model = s.model := by
  unfold State.dropLane; (repeat' split) <;> simp [↓each_tick, ↓each_lastHb, ↓each_pending, ↓each_model]

@[simp] theorem State.watchInjection_keeps (s : State) (m : Model) (k : Fin 48) :
    (State.watchInjection s m k).tick = s.tick ∧ (State.watchInjection s m k).tw.lastHb = s.tw.lastHb ∧ (State.watchInjection s m k).pending = s.pending ∧ (State.watchInjection s m k).model = s.model := by
  unfold State.watchInjection; dsimp only; (repeat' split) <;> simp [↓each_tick, ↓each_lastHb, ↓each_pending, ↓each_model]

@[simp] theorem State.injectionStart_keeps (s : State) (k : Fin 48) :
    (State.injectionStart s k).tick = s.tick ∧ (State.injectionStart s k).tw.lastHb = s.tw.lastHb ∧ (State.injectionStart s k).pending = s.pending ∧ (State.injectionStart s k).model = s.model := by
  unfold State.injectionStart; (repeat' split) <;> simp [↓each_tick, ↓each_lastHb, ↓each_pending, ↓each_model]

@[simp] theorem State.injectionComplete_keeps (s : State) (k : Fin 48) :
    (State.injectionComplete s k).tick = s.tick ∧ (State.injectionComplete s k).tw.lastHb = s.tw.lastHb ∧ (State.injectionComplete s k).pending = s.pending ∧ (State.injectionComplete s k).model = s.model := by
  unfold State.injectionComplete; (repeat' split) <;> simp [↓each_tick, ↓each_lastHb, ↓each_pending, ↓each_model]

@[simp] theorem State.injectionWaitTimeout_keeps (s : State) (k : Fin 48) :
    (State.injectionWaitTimeout s k).tick = s.tick ∧ (State.injectionWaitTimeout s k).tw.lastHb = s.tw.lastHb ∧ (State.injectionWaitTimeout s k).pending = s.pending ∧ (State.injectionWaitTimeout s k).model = s.model := by
  unfold State.injectionWaitTimeout; (repeat' split) <;> simp [↓each_tick, ↓each_lastHb, ↓each_pending, ↓each_model]

@[simp] theorem State.learnEvent_keeps (s : State) (c : Fin 16) (kind src reason : Nat) (v : Int) :
    (State.learnEvent s c kind src reason v).tick = s.tick ∧ (State.learnEvent s c kind src reason v).tw.lastHb = s.tw.lastHb ∧ (State.learnEvent s c kind src reason v).pending = s.pending ∧ (State.learnEvent s c kind src reason v).model = s.model := by
  refine ⟨?_, ?_, ?_, ?_⟩ <;> simp [State.learnEvent, ↓each_tick, ↓each_lastHb, ↓each_pending, ↓each_model]

@[simp] theorem State.identifyFit_keeps (s : State) (k : Fin 48) :
    (State.identifyFit s k).tick = s.tick ∧ (State.identifyFit s k).tw.lastHb = s.tw.lastHb ∧ (State.identifyFit s k).pending = s.pending ∧ (State.identifyFit s k).model = s.model := by
  unfold State.identifyFit; (repeat' split) <;> simp [↓each_tick, ↓each_lastHb, ↓each_pending, ↓each_model]

@[simp] theorem State.commitCapu_keeps (s : State) (u : Fin 4) :
    (State.commitCapu s u).tick = s.tick ∧ (State.commitCapu s u).tw.lastHb = s.tw.lastHb ∧ (State.commitCapu s u).pending = s.pending ∧ (State.commitCapu s u).model = s.model := by
  refine ⟨?_, ?_, ?_, ?_⟩ <;> simp [State.commitCapu, ↓each_tick, ↓each_lastHb, ↓each_pending, ↓each_model]

@[simp] theorem State.capuCtrlWrite_keeps (s : State) (u : Fin 4) (v : BitVec 32) :
    (State.capuCtrlWrite s u v).tick = s.tick ∧ (State.capuCtrlWrite s u v).tw.lastHb = s.tw.lastHb ∧ (State.capuCtrlWrite s u v).pending = s.pending ∧ (State.capuCtrlWrite s u v).model = s.model := by
  unfold State.capuCtrlWrite; (repeat' split) <;> simp [↓each_tick, ↓each_lastHb, ↓each_pending, ↓each_model]

@[simp] theorem State.capuTrigger_keeps (s : State) (u : Fin 4) :
    (State.capuTrigger s u).tick = s.tick ∧ (State.capuTrigger s u).tw.lastHb = s.tw.lastHb ∧ (State.capuTrigger s u).pending = s.pending ∧ (State.capuTrigger s u).model = s.model := by
  refine ⟨?_, ?_, ?_, ?_⟩ <;> simp [State.capuTrigger, ↓each_tick, ↓each_lastHb, ↓each_pending, ↓each_model]

@[simp] theorem State.putCap_keeps (s : State) (b : List Byte) :
    ((State.putCap s b).1).tick = s.tick ∧ ((State.putCap s b).1).tw.lastHb = s.tw.lastHb ∧ ((State.putCap s b).1).pending = s.pending ∧ ((State.putCap s b).1).model = s.model := by
  unfold State.putCap; (repeat' split) <;> simp [↓each_tick, ↓each_lastHb, ↓each_pending, ↓each_model]

@[simp] theorem State.capuBlockDeliver_keeps (s : State) (u : Fin 4) :
    (State.capuBlockDeliver s u).tick = s.tick ∧ (State.capuBlockDeliver s u).tw.lastHb = s.tw.lastHb ∧ (State.capuBlockDeliver s u).pending = s.pending ∧ (State.capuBlockDeliver s u).model = s.model := by
  unfold State.capuBlockDeliver; dsimp only; (repeat' split) <;> simp [↓each_tick, ↓each_lastHb, ↓each_pending, ↓each_model]

@[simp] theorem State.sampleEdge_keeps (s : State) (n : Fin 48) :
    (State.sampleEdge s n).tick = s.tick ∧ (State.sampleEdge s n).tw.lastHb = s.tw.lastHb ∧ (State.sampleEdge s n).pending = s.pending ∧ (State.sampleEdge s n).model = s.model := by
  unfold State.sampleEdge; (repeat' split) <;> simp [↓each_tick, ↓each_lastHb, ↓each_pending, ↓each_model]

@[simp] theorem State.startInject_keeps (s : State) (e : CmdEntry) (identify : Bool) :
    (State.startInject s e identify).tick = s.tick ∧ (State.startInject s e identify).tw.lastHb = s.tw.lastHb ∧ (State.startInject s e identify).pending = s.pending ∧ (State.startInject s e identify).model = s.model := by
  unfold State.startInject; dsimp only; (repeat' split) <;> simp [↓each_tick, ↓each_lastHb, ↓each_pending, ↓each_model]

@[simp] theorem State.takeEdge_keeps (s : State) (n : Fin 48) (lv : BitVec 2) (held : Nat) (ts : BitVec 32) :
    (State.takeEdge s n lv held ts).tick = s.tick ∧ (State.takeEdge s n lv held ts).tw.lastHb = s.tw.lastHb ∧ (State.takeEdge s n lv held ts).pending = s.pending ∧ (State.takeEdge s n lv held ts).model = s.model := by
  unfold State.takeEdge; dsimp only; (repeat' split) <;> simp [↓each_tick, ↓each_lastHb, ↓each_pending, ↓each_model]

@[simp] theorem State.updSpec_keeps (s : State) (c : Fin 16) (f : SpecRun → SpecRun) :
    (State.updSpec s c f).tick = s.tick ∧ (State.updSpec s c f).tw.lastHb = s.tw.lastHb ∧ (State.updSpec s c f).pending = s.pending ∧ (State.updSpec s c f).model = s.model := by
  refine ⟨?_, ?_, ?_, ?_⟩ <;> simp [State.updSpec, ↓each_tick, ↓each_lastHb, ↓each_pending, ↓each_model]

@[simp] theorem State.handRun_keeps (s : State) (c : Fin 16) (r : NewRun) :
    (State.handRun s c r).tick = s.tick ∧ (State.handRun s c r).tw.lastHb = s.tw.lastHb ∧ (State.handRun s c r).pending = s.pending ∧ (State.handRun s c r).model = s.model := by
  refine ⟨?_, ?_, ?_, ?_⟩ <;> simp [State.handRun, ↓each_tick, ↓each_lastHb, ↓each_pending, ↓each_model]

@[simp] theorem State.orderStop_keeps (s : State) (c : Fin 16) :
    (State.orderStop s c).tick = s.tick ∧ (State.orderStop s c).tw.lastHb = s.tw.lastHb ∧ (State.orderStop s c).pending = s.pending ∧ (State.orderStop s c).model = s.model := by
  refine ⟨?_, ?_, ?_, ?_⟩ <;> simp [State.orderStop, ↓each_tick, ↓each_lastHb, ↓each_pending, ↓each_model]

@[simp] theorem State.handTarget_keeps (s : State) (c : Fin 16) (x : Int) (cap : Option Int) :
    (State.handTarget s c x cap).tick = s.tick ∧ (State.handTarget s c x cap).tw.lastHb = s.tw.lastHb ∧ (State.handTarget s c x cap).pending = s.pending ∧ (State.handTarget s c x cap).model = s.model := by
  refine ⟨?_, ?_, ?_, ?_⟩ <;> simp [State.handTarget, ↓each_tick, ↓each_lastHb, ↓each_pending, ↓each_model]

@[simp] theorem State.lowerCap_keeps (s : State) (c : Fin 16) (v : Int) :
    (State.lowerCap s c v).tick = s.tick ∧ (State.lowerCap s c v).tw.lastHb = s.tw.lastHb ∧ (State.lowerCap s c v).pending = s.pending ∧ (State.lowerCap s c v).model = s.model := by
  refine ⟨?_, ?_, ?_, ?_⟩ <;> simp [State.lowerCap, ↓each_tick, ↓each_lastHb, ↓each_pending, ↓each_model]

@[simp] theorem State.legRun_keeps (s : State) (m : Model) (c : Fin 16) (up : Bool) (k : RunKind) :
    (State.legRun s m c up k).tick = s.tick ∧ (State.legRun s m c up k).tw.lastHb = s.tw.lastHb ∧ (State.legRun s m c up k).pending = s.pending ∧ (State.legRun s m c up k).model = s.model := by
  refine ⟨?_, ?_, ?_, ?_⟩ <;> simp [State.legRun, ↓each_tick, ↓each_lastHb, ↓each_pending, ↓each_model]

@[simp] theorem State.armEdge_keeps (s : State) (m : Model) (c : Fin 16) (l : Nat) (up : Bool) :
    (State.armEdge s m c l up).tick = s.tick ∧ (State.armEdge s m c l up).tw.lastHb = s.tw.lastHb ∧ (State.armEdge s m c l up).pending = s.pending ∧ (State.armEdge s m c l up).model = s.model := by
  unfold State.armEdge; dsimp only; (repeat' split) <;> simp [↓each_tick, ↓each_lastHb, ↓each_pending, ↓each_model]

@[simp] theorem State.pastZone_keeps (s : State) (m : Model) (c : Fin 16) :
    ((State.pastZone s m c).1).tick = s.tick ∧ ((State.pastZone s m c).1).tw.lastHb = s.tw.lastHb ∧ ((State.pastZone s m c).1).pending = s.pending ∧ ((State.pastZone s m c).1).model = s.model := by
  unfold State.pastZone; dsimp only; (repeat' split) <;> simp [↓each_tick, ↓each_lastHb, ↓each_pending, ↓each_model]

@[simp] theorem State.suspectStop_keeps (s : State) (m : Model) (c : Fin 16) :
    (State.suspectStop s m c).tick = s.tick ∧ (State.suspectStop s m c).tw.lastHb = s.tw.lastHb ∧ (State.suspectStop s m c).pending = s.pending ∧ (State.suspectStop s m c).model = s.model := by
  unfold State.suspectStop; dsimp only; (repeat' split) <;> simp [↓each_tick, ↓each_lastHb, ↓each_pending, ↓each_model]

@[simp] theorem State.suspectStep_keeps (s : State) (m : Model) (c : Fin 16) :
    (State.suspectStep s m c).tick = s.tick ∧ (State.suspectStep s m c).tw.lastHb = s.tw.lastHb ∧ (State.suspectStep s m c).pending = s.pending ∧ (State.suspectStep s m c).model = s.model := by
  unfold State.suspectStep; dsimp only; (repeat' split) <;> simp [↓each_tick, ↓each_lastHb, ↓each_pending, ↓each_model]

@[simp] theorem State.startCorrection_keeps (s : State) (m : Model) (c : Fin 16) (l : Nat) :
    (State.startCorrection s m c l).tick = s.tick ∧ (State.startCorrection s m c l).tw.lastHb = s.tw.lastHb ∧ (State.startCorrection s m c l).pending = s.pending ∧ (State.startCorrection s m c l).model = s.model := by
  refine ⟨?_, ?_, ?_, ?_⟩ <;> simp [State.startCorrection, ↓each_tick, ↓each_lastHb, ↓each_pending, ↓each_model]

@[simp] theorem State.correctionStep_keeps (s : State) (m : Model) (c : Fin 16) :
    (State.correctionStep s m c).tick = s.tick ∧ (State.correctionStep s m c).tw.lastHb = s.tw.lastHb ∧ (State.correctionStep s m c).pending = s.pending ∧ (State.correctionStep s m c).model = s.model := by
  unfold State.correctionStep; dsimp only; (repeat' split) <;> simp [↓each_tick, ↓each_lastHb, ↓each_pending, ↓each_model]

@[simp] theorem State.correctionRun_keeps (s : State) (c : Fin 16) :
    (State.correctionRun s c).tick = s.tick ∧ (State.correctionRun s c).tw.lastHb = s.tw.lastHb ∧ (State.correctionRun s c).pending = s.pending ∧ (State.correctionRun s c).model = s.model := by
  unfold State.correctionRun; dsimp only; (repeat' split) <;> simp [↓each_tick, ↓each_lastHb, ↓each_pending, ↓each_model]

@[simp] theorem State.correctionRunEnd_keeps (s : State) (c : Fin 16) :
    (State.correctionRunEnd s c).tick = s.tick ∧ (State.correctionRunEnd s c).tw.lastHb = s.tw.lastHb ∧ (State.correctionRunEnd s c).pending = s.pending ∧ (State.correctionRunEnd s c).model = s.model := by
  unfold State.correctionRunEnd; dsimp only; (repeat' split) <;> simp [↓each_tick, ↓each_lastHb, ↓each_pending, ↓each_model]

@[simp] theorem State.assumePos_keeps (s : State) (c : Fin 16) (p : Int) :
    (State.assumePos s c p).tick = s.tick ∧ (State.assumePos s c p).tw.lastHb = s.tw.lastHb ∧ (State.assumePos s c p).pending = s.pending ∧ (State.assumePos s c p).model = s.model := by
  refine ⟨?_, ?_, ?_, ?_⟩ <;> simp [State.assumePos, ↓each_tick, ↓each_lastHb, ↓each_pending, ↓each_model]

@[simp] theorem State.homingRun_keeps (s : State) (c : Fin 16) :
    (State.homingRun s c).tick = s.tick ∧ (State.homingRun s c).tw.lastHb = s.tw.lastHb ∧ (State.homingRun s c).pending = s.pending ∧ (State.homingRun s c).model = s.model := by
  unfold State.homingRun; dsimp only; (repeat' split) <;> simp [↓each_tick, ↓each_lastHb, ↓each_pending, ↓each_model]

@[simp] theorem State.homingFail_keeps (s : State) (c : Fin 16) :
    (State.homingFail s c).tick = s.tick ∧ (State.homingFail s c).tw.lastHb = s.tw.lastHb ∧ (State.homingFail s c).pending = s.pending ∧ (State.homingFail s c).model = s.model := by
  refine ⟨?_, ?_, ?_, ?_⟩ <;> simp [State.homingFail, ↓each_tick, ↓each_lastHb, ↓each_pending, ↓each_model]

@[simp] theorem State.homingStep_keeps (s : State) (m : Model) (c : Fin 16) :
    (State.homingStep s m c).tick = s.tick ∧ (State.homingStep s m c).tw.lastHb = s.tw.lastHb ∧ (State.homingStep s m c).pending = s.pending ∧ (State.homingStep s m c).model = s.model := by
  unfold State.homingStep; dsimp only; (repeat' split) <;> simp [↓each_tick, ↓each_lastHb, ↓each_pending, ↓each_model]

@[simp] theorem State.countRelevel_keeps (s : State) (m : Model) (c : Fin 16) :
    (State.countRelevel s m c).tick = s.tick ∧ (State.countRelevel s m c).tw.lastHb = s.tw.lastHb ∧ (State.countRelevel s m c).pending = s.pending ∧ (State.countRelevel s m c).model = s.model := by
  refine ⟨?_, ?_, ?_, ?_⟩ <;> simp [State.countRelevel, ↓each_tick, ↓each_lastHb, ↓each_pending, ↓each_model]

@[simp] theorem State.relevelStart_keeps (s : State) (c : Fin 16) :
    (State.relevelStart s c).tick = s.tick ∧ (State.relevelStart s c).tw.lastHb = s.tw.lastHb ∧ (State.relevelStart s c).pending = s.pending ∧ (State.relevelStart s c).model = s.model := by
  unfold State.relevelStart; dsimp only; (repeat' split) <;> simp [↓each_tick, ↓each_lastHb, ↓each_pending, ↓each_model]

@[simp] theorem State.relevelStep_keeps (s : State) (m : Model) (c : Fin 16) :
    (State.relevelStep s m c).tick = s.tick ∧ (State.relevelStep s m c).tw.lastHb = s.tw.lastHb ∧ (State.relevelStep s m c).pending = s.pending ∧ (State.relevelStep s m c).model = s.model := by
  unfold State.relevelStep; dsimp only; (repeat' split) <;> simp [↓each_tick, ↓each_lastHb, ↓each_pending, ↓each_model]

@[simp] theorem State.relevelTimeout_keeps (s : State) (c : Fin 16) :
    (State.relevelTimeout s c).tick = s.tick ∧ (State.relevelTimeout s c).tw.lastHb = s.tw.lastHb ∧ (State.relevelTimeout s c).pending = s.pending ∧ (State.relevelTimeout s c).model = s.model := by
  unfold State.relevelTimeout; dsimp only; (repeat' split) <;> simp [↓each_tick, ↓each_lastHb, ↓each_pending, ↓each_model]

@[simp] theorem State.startLearn_keeps (s : State) (m : Model) (c : Fin 16) :
    (State.startLearn s m c).tick = s.tick ∧ (State.startLearn s m c).tw.lastHb = s.tw.lastHb ∧ (State.startLearn s m c).pending = s.pending ∧ (State.startLearn s m c).model = s.model := by
  refine ⟨?_, ?_, ?_, ?_⟩ <;> simp [State.startLearn, ↓each_tick, ↓each_lastHb, ↓each_pending, ↓each_model]

@[simp] theorem State.learnAbort_keeps (s : State) (c : Fin 16) (reason : Nat) (st : CplStatus) :
    (State.learnAbort s c reason st).tick = s.tick ∧ (State.learnAbort s c reason st).tw.lastHb = s.tw.lastHb ∧ (State.learnAbort s c reason st).pending = s.pending ∧ (State.learnAbort s c reason st).model = s.model := by
  refine ⟨?_, ?_, ?_, ?_⟩ <;> simp [State.learnAbort, ↓each_tick, ↓each_lastHb, ↓each_pending, ↓each_model]

@[simp] theorem State.learnNext_keeps (s : State) (m : Model) (c : Fin 16) :
    (State.learnNext s m c).tick = s.tick ∧ (State.learnNext s m c).tw.lastHb = s.tw.lastHb ∧ (State.learnNext s m c).pending = s.pending ∧ (State.learnNext s m c).model = s.model := by
  unfold State.learnNext; dsimp only; (repeat' split) <;> simp [↓each_tick, ↓each_lastHb, ↓each_pending, ↓each_model]

@[simp] theorem State.learnCapture_keeps (s : State) (m : Model) (c : Fin 16) :
    (State.learnCapture s m c).tick = s.tick ∧ (State.learnCapture s m c).tw.lastHb = s.tw.lastHb ∧ (State.learnCapture s m c).pending = s.pending ∧ (State.learnCapture s m c).model = s.model := by
  unfold State.learnCapture; dsimp only; (repeat' split) <;> simp [↓each_tick, ↓each_lastHb, ↓each_pending, ↓each_model]

@[simp] theorem State.learnOut_keeps (s : State) (m : Model) (c : Fin 16) :
    (State.learnOut s m c).tick = s.tick ∧ (State.learnOut s m c).tw.lastHb = s.tw.lastHb ∧ (State.learnOut s m c).pending = s.pending ∧ (State.learnOut s m c).model = s.model := by
  unfold State.learnOut; dsimp only; (repeat' split) <;> simp [↓each_tick, ↓each_lastHb, ↓each_pending, ↓each_model]

@[simp] theorem State.learnBack_keeps (s : State) (m : Model) (c : Fin 16) :
    (State.learnBack s m c).tick = s.tick ∧ (State.learnBack s m c).tw.lastHb = s.tw.lastHb ∧ (State.learnBack s m c).pending = s.pending ∧ (State.learnBack s m c).model = s.model := by
  unfold State.learnBack; dsimp only; (repeat' split) <;> simp [↓each_tick, ↓each_lastHb, ↓each_pending, ↓each_model]

@[simp] theorem State.learnStep_keeps (s : State) (m : Model) (c : Fin 16) :
    (State.learnStep s m c).tick = s.tick ∧ (State.learnStep s m c).tw.lastHb = s.tw.lastHb ∧ (State.learnStep s m c).pending = s.pending ∧ (State.learnStep s m c).model = s.model := by
  refine ⟨?_, ?_, ?_, ?_⟩ <;>
  · unfold State.learnStep
    dsimp only
    split
    · simp
    · split
      · simp
      · split <;> simp

@[simp] theorem State.learnShaftDone_keeps (s : State) (c : Fin 16) :
    (State.learnShaftDone s c).tick = s.tick ∧ (State.learnShaftDone s c).tw.lastHb = s.tw.lastHb ∧ (State.learnShaftDone s c).pending = s.pending ∧ (State.learnShaftDone s c).model = s.model := by
  unfold State.learnShaftDone; dsimp only; (repeat' split) <;> simp [↓each_tick, ↓each_lastHb, ↓each_pending, ↓each_model]

@[simp] theorem State.noteLevel_keeps (s : State) (m : Model) (c : Fin 16) :
    (State.noteLevel s m c).tick = s.tick ∧ (State.noteLevel s m c).tw.lastHb = s.tw.lastHb ∧ (State.noteLevel s m c).pending = s.pending ∧ (State.noteLevel s m c).model = s.model := by
  unfold State.noteLevel; dsimp only; (repeat' split) <;> simp [↓each_tick, ↓each_lastHb, ↓each_pending, ↓each_model]

@[simp] theorem State.noteTakeOut_keeps (s : State) (m : Model) (c : Fin 16) :
    (State.noteTakeOut s m c).tick = s.tick ∧ (State.noteTakeOut s m c).tw.lastHb = s.tw.lastHb ∧ (State.noteTakeOut s m c).pending = s.pending ∧ (State.noteTakeOut s m c).model = s.model := by
  unfold State.noteTakeOut; (repeat' split) <;> simp [↓each_tick, ↓each_lastHb, ↓each_pending, ↓each_model]

@[simp] theorem State.specStep_keeps (s : State) (m : Model) (c : Fin 16) :
    (State.specStep s m c).tick = s.tick ∧ (State.specStep s m c).tw.lastHb = s.tw.lastHb ∧ (State.specStep s m c).pending = s.pending ∧ (State.specStep s m c).model = s.model := by
  unfold State.specStep; dsimp only; (repeat' split) <;> simp [↓each_tick, ↓each_lastHb, ↓each_pending, ↓each_model]

@[simp] theorem State.endSpecial_keeps (s : State) (c : Fin 16) :
    (State.endSpecial s c).tick = s.tick ∧ (State.endSpecial s c).tw.lastHb = s.tw.lastHb ∧ (State.endSpecial s c).pending = s.pending ∧ (State.endSpecial s c).model = s.model := by
  unfold State.endSpecial; (repeat' split) <;> simp [↓each_tick, ↓each_lastHb, ↓each_pending, ↓each_model]

@[simp] theorem State.followingErrorStop_keeps (s : State) (c : Fin 16) :
    (State.followingErrorStop s c).tick = s.tick ∧ (State.followingErrorStop s c).tw.lastHb = s.tw.lastHb ∧ (State.followingErrorStop s c).pending = s.pending ∧ (State.followingErrorStop s c).model = s.model := by
  unfold State.followingErrorStop; dsimp only; (repeat' split) <;> simp [↓each_tick, ↓each_lastHb, ↓each_pending, ↓each_model]

end Sys2Proof.Machine
end

