-- ==== Sys2Proof/Laws/KeepsField.lean ====
section
/-! SUPPORT. What the operations of Buses.lean, Frames.lean, Polders.lean, Levee.lean, Doors.lean leave alone: the tick counters, the last heartbeat, the queue
and the building model in force. -/

namespace Sys2Proof.Machine

open State

@[simp] theorem State.startBus_keeps (s : State) (n : Fin 12) :
    (State.startBus s n).tick = s.tick ∧ (State.startBus s n).tw.lastHb = s.tw.lastHb ∧ (State.startBus s n).pending = s.pending ∧ (State.startBus s n).model = s.model := by
  unfold State.startBus; dsimp only; (repeat' split) <;> simp [↓each_tick, ↓each_lastHb, ↓each_pending, ↓each_model]

@[simp] theorem State.busOff_keeps (s : State) (n : Fin 12) :
    (State.busOff s n).tick = s.tick ∧ (State.busOff s n).tw.lastHb = s.tw.lastHb ∧ (State.busOff s n).pending = s.pending ∧ (State.busOff s n).model = s.model := by
  refine ⟨?_, ?_, ?_, ?_⟩ <;> simp [State.busOff, ↓each_tick, ↓each_lastHb, ↓each_pending, ↓each_model]

@[simp] theorem State.busEvent_keeps (s : State) (n : Fin 12) (kind : Nat) :
    (State.busEvent s n kind).tick = s.tick ∧ (State.busEvent s n kind).tw.lastHb = s.tw.lastHb ∧ (State.busEvent s n kind).pending = s.pending ∧ (State.busEvent s n kind).model = s.model := by
  refine ⟨?_, ?_, ?_, ?_⟩ <;> simp [State.busEvent, ↓each_tick, ↓each_lastHb, ↓each_pending, ↓each_model]

@[simp] theorem State.recoverBus_keeps (s : State) (n : Fin 12) :
    (State.recoverBus s n).tick = s.tick ∧ (State.recoverBus s n).tw.lastHb = s.tw.lastHb ∧ (State.recoverBus s n).pending = s.pending ∧ (State.recoverBus s n).model = s.model := by
  refine ⟨?_, ?_, ?_, ?_⟩ <;> simp [State.recoverBus, ↓each_tick, ↓each_lastHb, ↓each_pending, ↓each_model]

@[simp] theorem State.tickBus_keeps (s : State) (n : Fin 12) :
    (State.tickBus s n).tick = s.tick ∧ (State.tickBus s n).tw.lastHb = s.tw.lastHb ∧ (State.tickBus s n).pending = s.pending ∧ (State.tickBus s n).model = s.model := by
  unfold State.tickBus; dsimp only; (repeat' split) <;> simp [↓each_tick, ↓each_lastHb, ↓each_pending, ↓each_model]

@[simp] theorem State.tickSleep_keeps (s : State) (n : Fin 12) :
    (State.tickSleep s n).tick = s.tick ∧ (State.tickSleep s n).tw.lastHb = s.tw.lastHb ∧ (State.tickSleep s n).pending = s.pending ∧ (State.tickSleep s n).model = s.model := by
  refine ⟨?_, ?_, ?_, ?_⟩ <;> simp [State.tickSleep, ↓each_tick, ↓each_lastHb, ↓each_pending, ↓each_model]

@[simp] theorem State.applyBus_keeps (s : State) (old : Option BusRec) (n : Fin 12) :
    (State.applyBus s old n).tick = s.tick ∧ (State.applyBus s old n).tw.lastHb = s.tw.lastHb ∧ (State.applyBus s old n).pending = s.pending ∧ (State.applyBus s old n).model = s.model := by
  unfold State.applyBus; dsimp only; (repeat' split) <;> simp [↓each_tick, ↓each_lastHb, ↓each_pending, ↓each_model]

@[simp] theorem State.rawEvent_keeps (s : State) (fr : Frame) :
    (State.rawEvent s fr).tick = s.tick ∧ (State.rawEvent s fr).tw.lastHb = s.tw.lastHb ∧ (State.rawEvent s fr).pending = s.pending ∧ (State.rawEvent s fr).model = s.model := by
  refine ⟨?_, ?_, ?_, ?_⟩ <;> simp [State.rawEvent, ↓each_tick, ↓each_lastHb, ↓each_pending, ↓each_model]

@[simp] theorem State.unowned_keeps (s : State) (fr : Frame) :
    (State.unowned s fr).tick = s.tick ∧ (State.unowned s fr).tw.lastHb = s.tw.lastHb ∧ (State.unowned s fr).pending = s.pending ∧ (State.unowned s fr).model = s.model := by
  unfold State.unowned; (repeat' split) <;> simp [↓each_tick, ↓each_lastHb, ↓each_pending, ↓each_model]

theorem State.hear_keeps {s t : State} {fr : Frame} (h : s.hear fr = some t) :
    (t).tick = s.tick ∧ (t).tw.lastHb = s.tw.lastHb ∧ (t).pending = s.pending ∧ (t).model = s.model := by
  unfold State.hear at h
  dsimp only at h
  split at h
  · cases h
  · split at h <;> (cases h; simp)

@[simp] theorem State.busFrameUnowned_keeps (s : State) (fr : Frame) :
    (State.busFrameUnowned s fr).tick = s.tick ∧ (State.busFrameUnowned s fr).tw.lastHb = s.tw.lastHb ∧ (State.busFrameUnowned s fr).pending = s.pending ∧ (State.busFrameUnowned s fr).model = s.model := by
  unfold State.busFrameUnowned
  split
  · simp
  · split
    · simp
    · rename_i t h
      have hk := State.hear_keeps h
      split <;> simp [hk]

@[simp] theorem State.noteReq_keeps (s : State) (f : TxFrame) (sof : BitVec 32) :
    (State.noteReq s f sof).tick = s.tick ∧ (State.noteReq s f sof).tw.lastHb = s.tw.lastHb ∧ (State.noteReq s f sof).pending = s.pending ∧ (State.noteReq s f sof).model = s.model := by
  unfold State.noteReq; dsimp only; (repeat' split) <;> simp [↓each_tick, ↓each_lastHb, ↓each_pending, ↓each_model]

@[simp] theorem State.frameSent_keeps (s : State) (n : Fin 12) (sof : BitVec 32) (delay : Nat) :
    (State.frameSent s n sof delay).tick = s.tick ∧ (State.frameSent s n sof delay).tw.lastHb = s.tw.lastHb ∧ (State.frameSent s n sof delay).pending = s.pending ∧ (State.frameSent s n sof delay).model = s.model := by
  unfold State.frameSent; dsimp only; (repeat' split) <;> simp [↓each_tick, ↓each_lastHb, ↓each_pending, ↓each_model]

@[simp] theorem State.noack_keeps (s : State) (n : Fin 12) :
    (State.noack s n).tick = s.tick ∧ (State.noack s n).tw.lastHb = s.tw.lastHb ∧ (State.noack s n).pending = s.pending ∧ (State.noack s n).model = s.model := by
  unfold State.noack; (repeat' split) <;> simp [↓each_tick, ↓each_lastHb, ↓each_pending, ↓each_model]

@[simp] theorem State.collision_keeps (s : State) (n : Fin 12) :
    (State.collision s n).tick = s.tick ∧ (State.collision s n).tw.lastHb = s.tw.lastHb ∧ (State.collision s n).pending = s.pending ∧ (State.collision s n).model = s.model := by
  unfold State.collision; dsimp only; (repeat' split) <;> simp [↓each_tick, ↓each_lastHb, ↓each_pending, ↓each_model]

@[simp] theorem State.errorPassive_keeps (s : State) (n : Fin 12) (tec rec_ : Nat) :
    (State.errorPassive s n tec rec_).tick = s.tick ∧ (State.errorPassive s n tec rec_).tw.lastHb = s.tw.lastHb ∧ (State.errorPassive s n tec rec_).pending = s.pending ∧ (State.errorPassive s n tec rec_).model = s.model := by
  unfold State.errorPassive; dsimp only; (repeat' split) <;> simp [↓each_tick, ↓each_lastHb, ↓each_pending, ↓each_model]

@[simp] theorem State.busoff_keeps (s : State) (n : Fin 12) (tec rec_ : Nat) :
    (State.busoff s n tec rec_).tick = s.tick ∧ (State.busoff s n tec rec_).tw.lastHb = s.tw.lastHb ∧ (State.busoff s n tec rec_).pending = s.pending ∧ (State.busoff s n tec rec_).model = s.model := by
  unfold State.busoff; dsimp only; (repeat' split) <;> simp [↓each_tick, ↓each_lastHb, ↓each_pending, ↓each_model]

@[simp] theorem State.busRecovered_keeps (s : State) (n : Fin 12) :
    (State.busRecovered s n).tick = s.tick ∧ (State.busRecovered s n).tw.lastHb = s.tw.lastHb ∧ (State.busRecovered s n).pending = s.pending ∧ (State.busRecovered s n).model = s.model := by
  unfold State.busRecovered; dsimp only; (repeat' split) <;> simp [↓each_tick, ↓each_lastHb, ↓each_pending, ↓each_model]

@[simp] theorem State.rateAdopted_keeps (s : State) (n : Fin 12) :
    (State.rateAdopted s n).tick = s.tick ∧ (State.rateAdopted s n).tw.lastHb = s.tw.lastHb ∧ (State.rateAdopted s n).pending = s.pending ∧ (State.rateAdopted s n).model = s.model := by
  refine ⟨?_, ?_, ?_, ?_⟩ <;> simp [State.rateAdopted, ↓each_tick, ↓each_lastHb, ↓each_pending, ↓each_model]

@[simp] theorem State.rateCandidateDrop_keeps (s : State) (n : Fin 12) (why : RateDrop) :
    (State.rateCandidateDrop s n why).tick = s.tick ∧ (State.rateCandidateDrop s n why).tw.lastHb = s.tw.lastHb ∧ (State.rateCandidateDrop s n why).pending = s.pending ∧ (State.rateCandidateDrop s n why).model = s.model := by
  unfold State.rateCandidateDrop; dsimp only; (repeat' split) <;> simp [↓each_tick, ↓each_lastHb, ↓each_pending, ↓each_model]

@[simp] theorem State.busSleep_keeps (s : State) (n : Fin 12) :
    (State.busSleep s n).tick = s.tick ∧ (State.busSleep s n).tw.lastHb = s.tw.lastHb ∧ (State.busSleep s n).pending = s.pending ∧ (State.busSleep s n).model = s.model := by
  unfold State.busSleep; dsimp only; (repeat' split) <;> simp [↓each_tick, ↓each_lastHb, ↓each_pending, ↓each_model]

@[simp] theorem State.queueWake_keeps (s : State) (n : Fin 12) :
    (State.queueWake s n).tick = s.tick ∧ (State.queueWake s n).tw.lastHb = s.tw.lastHb ∧ (State.queueWake s n).pending = s.pending ∧ (State.queueWake s n).model = s.model := by
  refine ⟨?_, ?_, ?_, ?_⟩ <;> simp [State.queueWake, ↓each_tick, ↓each_lastHb, ↓each_pending, ↓each_model]

@[simp] theorem State.busWake_keeps (s : State) (n : Fin 12) (how : BusWake) :
    (State.busWake s n how).tick = s.tick ∧ (State.busWake s n how).tw.lastHb = s.tw.lastHb ∧ (State.busWake s n how).pending = s.pending ∧ (State.busWake s n how).model = s.model := by
  unfold State.busWake; dsimp only; (repeat' split) <;> simp [↓each_tick, ↓each_lastHb, ↓each_pending, ↓each_model]

@[simp] theorem State.kSleepWrite_keeps (s : State) (n : Fin 12) (v : BitVec 32) :
    (State.kSleepWrite s n v).tick = s.tick ∧ (State.kSleepWrite s n v).tw.lastHb = s.tw.lastHb ∧ (State.kSleepWrite s n v).pending = s.pending ∧ (State.kSleepWrite s n v).model = s.model := by
  unfold State.kSleepWrite; dsimp only; (repeat' split) <;> simp [↓each_tick, ↓each_lastHb, ↓each_pending, ↓each_model]

@[simp] theorem State.setClaim_keeps (s : State) (v : BitVec 32) :
    (State.setClaim s v).tick = s.tick ∧ (State.setClaim s v).tw.lastHb = s.tw.lastHb ∧ (State.setClaim s v).pending = s.pending ∧ (State.setClaim s v).model = s.model := by
  unfold State.setClaim; (repeat' split) <;> simp [↓each_tick, ↓each_lastHb, ↓each_pending, ↓each_model]

@[simp] theorem State.waitConns_keeps (s : State) :
    (State.waitConns s).tick = s.tick ∧ (State.waitConns s).tw.lastHb = s.tw.lastHb ∧ (State.waitConns s).pending = s.pending ∧ (State.waitConns s).model = s.model := by
  refine ⟨?_, ?_, ?_, ?_⟩ <;> simp [State.waitConns, ↓each_tick, ↓each_lastHb, ↓each_pending, ↓each_model]

@[simp] theorem State.startConns_keeps (s : State) :
    (State.startConns s).tick = s.tick ∧ (State.startConns s).tw.lastHb = s.tw.lastHb ∧ (State.startConns s).pending = s.pending ∧ (State.startConns s).model = s.model := by
  refine ⟨?_, ?_, ?_, ?_⟩ <;> simp [State.startConns, ↓each_tick, ↓each_lastHb, ↓each_pending, ↓each_model]

@[simp] theorem State.send_keeps (s : State) (n : Fin 12) (ident : Nat) (data : List Byte) (cyclic : Bool) (dest : Nat) :
    (State.send s n ident data cyclic dest).tick = s.tick ∧ (State.send s n ident data cyclic dest).tw.lastHb = s.tw.lastHb ∧ (State.send s n ident data cyclic dest).pending = s.pending ∧ (State.send s n ident data cyclic dest).model = s.model := by
  refine ⟨?_, ?_, ?_, ?_⟩ <;> simp [State.send, ↓each_tick, ↓each_lastHb, ↓each_pending, ↓each_model]

@[simp] theorem State.sendSafety_keeps (s : State) (m : Model) (i ftype : Nat) (payload : List Byte) (cyclic : Bool) :
    (State.sendSafety s m i ftype payload cyclic).tick = s.tick ∧ (State.sendSafety s m i ftype payload cyclic).tw.lastHb = s.tw.lastHb ∧ (State.sendSafety s m i ftype payload cyclic).pending = s.pending ∧ (State.sendSafety s m i ftype payload cyclic).model = s.model := by
  unfold State.sendSafety; (repeat' split) <;> simp [↓each_tick, ↓each_lastHb, ↓each_pending, ↓each_model]

@[simp] theorem State.sendSync_keeps (s : State) (m : Model) (c : Fin 16) :
    (State.sendSync s m c).tick = s.tick ∧ (State.sendSync s m c).tw.lastHb = s.tw.lastHb ∧ (State.sendSync s m c).pending = s.pending ∧ (State.sendSync s m c).model = s.model := by
  unfold State.sendSync
  exact each_keeps4 _ _ _ fun s i => by simp

@[simp] theorem State.countCv_keeps (s : State) (n : Fin 12) (r : Except Rej Conn) :
    (State.countCv s n r).tick = s.tick ∧ (State.countCv s n r).tw.lastHb = s.tw.lastHb ∧ (State.countCv s n r).pending = s.pending ∧ (State.countCv s n r).model = s.model := by
  unfold State.countCv
  (repeat' split) <;> simp

theorem State.onPrivileged_keeps (s : State) (fr : Frame) (cls : Nat) (p : NodeRec → Bool) (f : State → Model → Nat → NodeRec → Conn → State)
    (hf : ∀ s m i r c, (f s m i r c).tick = s.tick ∧ (f s m i r c).tw.lastHb = s.tw.lastHb ∧ (f s m i r c).pending = s.pending ∧ (f s m i r c).model = s.model) :
    (State.onPrivileged s fr cls p f).tick = s.tick ∧ (State.onPrivileged s fr cls p f).tw.lastHb = s.tw.lastHb ∧ (State.onPrivileged s fr cls p f).pending = s.pending ∧ (State.onPrivileged s fr cls p f).model = s.model := by
  unfold State.onPrivileged
  split
  · rename_i t m h _
    have hk := State.hear_keeps h
    dsimp only
    (repeat' split) <;> simp [hk, hf]
  · rename_i t h _
    have hk := State.hear_keeps h
    split <;> simp [hk]
  · simp

@[simp] theorem State.onReport_keeps (s : State) (fr : Frame) (k : NodeClass) (g : BitVec 32 → List Byte → NodeData → NodeData) :
    (State.onReport s fr k g).tick = s.tick ∧ (State.onReport s fr k g).tw.lastHb = s.tw.lastHb ∧ (State.onReport s fr k g).pending = s.pending ∧ (State.onReport s fr k g).model = s.model := by
  unfold State.onReport; refine State.onPrivileged_keeps _ _ _ _ _ fun s m i r c => ?_; dsimp only; (repeat' split) <;> simp [↓each_tick, ↓each_lastHb, ↓each_pending, ↓each_model]

@[simp] theorem State.hdvRep_keeps (s : State) (fr : Frame) :
    (State.hdvRep s fr).tick = s.tick ∧ (State.hdvRep s fr).tw.lastHb = s.tw.lastHb ∧ (State.hdvRep s fr).pending = s.pending ∧ (State.hdvRep s fr).model = s.model := by
  refine ⟨?_, ?_, ?_, ?_⟩ <;> simp [State.hdvRep, ↓each_tick, ↓each_lastHb, ↓each_pending, ↓each_model]

@[simp] theorem State.ctnRep_keeps (s : State) (fr : Frame) :
    (State.ctnRep s fr).tick = s.tick ∧ (State.ctnRep s fr).tw.lastHb = s.tw.lastHb ∧ (State.ctnRep s fr).pending = s.pending ∧ (State.ctnRep s fr).model = s.model := by
  refine ⟨?_, ?_, ?_, ?_⟩ <;> simp [State.ctnRep, ↓each_tick, ↓each_lastHb, ↓each_pending, ↓each_model]

@[simp] theorem State.ptnRep_keeps (s : State) (fr : Frame) :
    (State.ptnRep s fr).tick = s.tick ∧ (State.ptnRep s fr).tw.lastHb = s.tw.lastHb ∧ (State.ptnRep s fr).pending = s.pending ∧ (State.ptnRep s fr).model = s.model := by
  refine ⟨?_, ?_, ?_, ?_⟩ <;> simp [State.ptnRep, ↓each_tick, ↓each_lastHb, ↓each_pending, ↓each_model]

@[simp] theorem State.join_keeps (s : State) (fr : Frame) :
    (State.join s fr).tick = s.tick ∧ (State.join s fr).tw.lastHb = s.tw.lastHb ∧ (State.join s fr).pending = s.pending ∧ (State.join s fr).model = s.model := by
  unfold State.join; refine State.onPrivileged_keeps _ _ _ _ _ fun s m i r c => ?_; dsimp only; (repeat' split) <;> simp [↓each_tick, ↓each_lastHb, ↓each_pending, ↓each_model]

@[simp] theorem State.answerJoins_keeps (s : State) (m : Model) (c : Fin 16) :
    (State.answerJoins s m c).tick = s.tick ∧ (State.answerJoins s m c).tw.lastHb = s.tw.lastHb ∧ (State.answerJoins s m c).pending = s.pending ∧ (State.answerJoins s m c).model = s.model := by
  unfold State.answerJoins; (repeat' split) <;> first | (simp [↓each_tick, ↓each_lastHb, ↓each_pending, ↓each_model]; done) | (refine each_keeps4 _ _ _ fun s a => ?_; dsimp only; (repeat' split) <;> simp [↓each_tick, ↓each_lastHb, ↓each_pending, ↓each_model]) | (refine each_keeps4 _ _ _ fun s a => ?_; (repeat' split) <;> simp [↓each_tick, ↓each_lastHb, ↓each_pending, ↓each_model])

@[simp] theorem State.loseConn_keeps (s : State) (i : Nat) (r : NodeRec) :
    (State.loseConn s i r).tick = s.tick ∧ (State.loseConn s i r).tw.lastHb = s.tw.lastHb ∧ (State.loseConn s i r).pending = s.pending ∧ (State.loseConn s i r).model = s.model := by
  unfold State.loseConn; (repeat' split) <;> simp [↓each_tick, ↓each_lastHb, ↓each_pending, ↓each_model]

@[simp] theorem State.ageConns_keeps (s : State) :
    (State.ageConns s).tick = s.tick ∧ (State.ageConns s).tw.lastHb = s.tw.lastHb ∧ (State.ageConns s).pending = s.pending ∧ (State.ageConns s).model = s.model := by
  refine ⟨?_, ?_, ?_, ?_⟩ <;> simp [State.ageConns, ↓each_tick, ↓each_lastHb, ↓each_pending, ↓each_model]

@[simp] theorem State.sendSpeedRef_keeps (s : State) (m : Model) (c : Fin 16) :
    (State.sendSpeedRef s m c).tick = s.tick ∧ (State.sendSpeedRef s m c).tw.lastHb = s.tw.lastHb ∧ (State.sendSpeedRef s m c).pending = s.pending ∧ (State.sendSpeedRef s m c).model = s.model := by
  unfold State.sendSpeedRef; (repeat' split) <;> simp [↓each_tick, ↓each_lastHb, ↓each_pending, ↓each_model]

@[simp] theorem State.hdvFeedback_keeps (s : State) (fr : Frame) :
    (State.hdvFeedback s fr).tick = s.tick ∧ (State.hdvFeedback s fr).tw.lastHb = s.tw.lastHb ∧ (State.hdvFeedback s fr).pending = s.pending ∧ (State.hdvFeedback s fr).model = s.model := by
  unfold State.hdvFeedback; refine State.onPrivileged_keeps _ _ _ _ _ fun s m i r c => ?_; dsimp only; (repeat' split) <;> simp [↓each_tick, ↓each_lastHb, ↓each_pending, ↓each_model]

@[simp] theorem State.fieldEvent_keeps (s : State) (kind x : Nat) :
    (State.fieldEvent s kind x).tick = s.tick ∧ (State.fieldEvent s kind x).tw.lastHb = s.tw.lastHb ∧ (State.fieldEvent s kind x).pending = s.pending ∧ (State.fieldEvent s kind x).model = s.model := by
  refine ⟨?_, ?_, ?_, ?_⟩ <;> simp [State.fieldEvent, ↓each_tick, ↓each_lastHb, ↓each_pending, ↓each_model]

@[simp] theorem State.inputFilterAccept_keeps (s : State) (i : Fin 96) (samples : List Nat) :
    (State.inputFilterAccept s i samples).tick = s.tick ∧ (State.inputFilterAccept s i samples).tw.lastHb = s.tw.lastHb ∧ (State.inputFilterAccept s i samples).pending = s.pending ∧ (State.inputFilterAccept s i samples).model = s.model := by
  unfold State.inputFilterAccept; dsimp only; (repeat' split) <;> simp [↓each_tick, ↓each_lastHb, ↓each_pending, ↓each_model]

@[simp] theorem State.inputGuard_keeps (s : State) (i : Fin 96) :
    (State.inputGuard s i).tick = s.tick ∧ (State.inputGuard s i).tw.lastHb = s.tw.lastHb ∧ (State.inputGuard s i).pending = s.pending ∧ (State.inputGuard s i).model = s.model := by
  unfold State.inputGuard; (repeat' split) <;> simp [↓each_tick, ↓each_lastHb, ↓each_pending, ↓each_model]

@[simp] theorem State.lpLow_keeps (s : State) (p : Fin 12) :
    (State.lpLow s p).tick = s.tick ∧ (State.lpLow s p).tw.lastHb = s.tw.lastHb ∧ (State.lpLow s p).pending = s.pending ∧ (State.lpLow s p).model = s.model := by
  unfold State.lpLow; (repeat' split) <;> simp [↓each_tick, ↓each_lastHb, ↓each_pending, ↓each_model]

@[simp] theorem State.lpRestored_keeps (s : State) (p : Fin 12) :
    (State.lpRestored s p).tick = s.tick ∧ (State.lpRestored s p).tw.lastHb = s.tw.lastHb ∧ (State.lpRestored s p).pending = s.pending ∧ (State.lpRestored s p).model = s.model := by
  unfold State.lpRestored; (repeat' split) <;> simp [↓each_tick, ↓each_lastHb, ↓each_pending, ↓each_model]

@[simp] theorem State.polFault_keeps (s : State) (i : Fin 96) (kind detail : Nat) :
    (State.polFault s i kind detail).tick = s.tick ∧ (State.polFault s i kind detail).tw.lastHb = s.tw.lastHb ∧ (State.polFault s i kind detail).pending = s.pending ∧ (State.polFault s i kind detail).model = s.model := by
  refine ⟨?_, ?_, ?_, ?_⟩ <;> simp [State.polFault, ↓each_tick, ↓each_lastHb, ↓each_pending, ↓each_model]

@[simp] theorem State.couplerFault_keeps (s : State) (i : Fin 96) :
    (State.couplerFault s i).tick = s.tick ∧ (State.couplerFault s i).tw.lastHb = s.tw.lastHb ∧ (State.couplerFault s i).pending = s.pending ∧ (State.couplerFault s i).model = s.model := by
  unfold State.couplerFault; (repeat' split) <;> simp [↓each_tick, ↓each_lastHb, ↓each_pending, ↓each_model]

@[simp] theorem State.fieldWatchdog_keeps (s : State) (i : Fin 96) :
    (State.fieldWatchdog s i).tick = s.tick ∧ (State.fieldWatchdog s i).tw.lastHb = s.tw.lastHb ∧ (State.fieldWatchdog s i).pending = s.pending ∧ (State.fieldWatchdog s i).model = s.model := by
  unfold State.fieldWatchdog; dsimp only; (repeat' split) <;> simp [↓each_tick, ↓each_lastHb, ↓each_pending, ↓each_model]

@[simp] theorem State.switchOff_keeps (s : State) (i : Fin 96) :
    (State.switchOff s i).tick = s.tick ∧ (State.switchOff s i).tw.lastHb = s.tw.lastHb ∧ (State.switchOff s i).pending = s.pending ∧ (State.switchOff s i).model = s.model := by
  refine ⟨?_, ?_, ?_, ?_⟩ <;> simp [State.switchOff, ↓each_tick, ↓each_lastHb, ↓each_pending, ↓each_model]

@[simp] theorem State.readbackFault_keeps (s : State) (i : Fin 96) (detail : OvldDetail) :
    (State.readbackFault s i detail).tick = s.tick ∧ (State.readbackFault s i detail).tw.lastHb = s.tw.lastHb ∧ (State.readbackFault s i detail).pending = s.pending ∧ (State.readbackFault s i detail).model = s.model := by
  unfold State.readbackFault; dsimp only; (repeat' split) <;> simp [↓each_tick, ↓each_lastHb, ↓each_pending, ↓each_model]

@[simp] theorem State.scheduleUnit_keeps (s : State) (u : List (Fin 96)) :
    (State.scheduleUnit s u).tick = s.tick ∧ (State.scheduleUnit s u).tw.lastHb = s.tw.lastHb ∧ (State.scheduleUnit s u).pending = s.pending ∧ (State.scheduleUnit s u).model = s.model := by
  unfold State.scheduleUnit
  dsimp only
  split
  · exact ⟨each_tick _ _ _ fun _ _ => by simp, each_lastHb _ _ _ fun _ _ => by simp, each_pending _ _ _ fun _ _ => by simp,
        each_model _ _ _ fun _ _ => by simp⟩
  · have h (s : State) := each_keeps4 s u (fun s i => s.updCh i fun c => { c with defer := true, deferrals := c.deferrals + 1 }) fun _ _ => by simp
    split
    · have g := each_keeps4 s (touched u) (fun s p => s.updPol p fun x => { x with deferred := x.deferred + 1 }) fun _ _ => by simp
      exact ⟨(h _).1.trans g.1, (h _).2.1.trans g.2.1, (h _).2.2.1.trans g.2.2.1, (h _).2.2.2.trans g.2.2.2⟩
    · exact h s

@[simp] theorem State.endPulse_keeps (s : State) (i : Fin 96) :
    (State.endPulse s i).tick = s.tick ∧ (State.endPulse s i).tw.lastHb = s.tw.lastHb ∧ (State.endPulse s i).pending = s.pending ∧ (State.endPulse s i).model = s.model := by
  unfold State.endPulse; dsimp only; (repeat' split) <;> simp [↓each_tick, ↓each_lastHb, ↓each_pending, ↓each_model]

@[simp] theorem State.beginPulse_keeps (s : State) (i : Fin 96) (test : Bool) :
    (State.beginPulse s i test).tick = s.tick ∧ (State.beginPulse s i test).tw.lastHb = s.tw.lastHb ∧ (State.beginPulse s i test).pending = s.pending ∧ (State.beginPulse s i test).model = s.model := by
  refine ⟨?_, ?_, ?_, ?_⟩ <;> simp [State.beginPulse, ↓each_tick, ↓each_lastHb, ↓each_pending, ↓each_model]

@[simp] theorem State.refreshOne_keeps (s : State) (tp : Option (Fin 96)) (i : Fin 96) :
    (State.refreshOne s tp i).tick = s.tick ∧ (State.refreshOne s tp i).tw.lastHb = s.tw.lastHb ∧ (State.refreshOne s tp i).pending = s.pending ∧ (State.refreshOne s tp i).model = s.model := by
  unfold State.refreshOne; dsimp only; (repeat' split) <;> simp [↓each_tick, ↓each_lastHb, ↓each_pending, ↓each_model]

@[simp] theorem State.refresh_keeps (s : State) (held : Fin 96 → Bool) :
    (State.refresh s held).tick = s.tick ∧ (State.refresh s held).tw.lastHb = s.tw.lastHb ∧ (State.refresh s held).pending = s.pending ∧ (State.refresh s held).model = s.model := by
  refine ⟨?_, ?_, ?_, ?_⟩ <;> simp [State.refresh, ↓each_tick, ↓each_lastHb, ↓each_pending, ↓each_model]

@[simp] theorem State.leveeMissSafeState_keeps (s : State) (lc : Fin 2) :
    (State.leveeMissSafeState s lc).tick = s.tick ∧ (State.leveeMissSafeState s lc).tw.lastHb = s.tw.lastHb ∧ (State.leveeMissSafeState s lc).pending = s.pending ∧ (State.leveeMissSafeState s lc).model = s.model := by
  unfold State.leveeMissSafeState
  split
  · refine each_keeps4 _ _ _ fun s a => ?_
    dsimp only
    split <;> simp
  · simp

@[simp] theorem State.latchCh_keeps (s : State) (i : Fin 96) :
    (State.latchCh s i).tick = s.tick ∧ (State.latchCh s i).tw.lastHb = s.tw.lastHb ∧ (State.latchCh s i).pending = s.pending ∧ (State.latchCh s i).model = s.model := by
  refine ⟨?_, ?_, ?_, ?_⟩ <;> simp [State.latchCh, ↓each_tick, ↓each_lastHb, ↓each_pending, ↓each_model]

@[simp] theorem State.latchPolders_keeps (s : State) :
    (State.latchPolders s).tick = s.tick ∧ (State.latchPolders s).tw.lastHb = s.tw.lastHb ∧ (State.latchPolders s).pending = s.pending ∧ (State.latchPolders s).model = s.model := by
  refine ⟨?_, ?_, ?_, ?_⟩ <;> simp [State.latchPolders, ↓each_tick, ↓each_lastHb, ↓each_pending, ↓each_model]

@[simp] theorem State.measurePolders_keeps (s : State) :
    (State.measurePolders s).tick = s.tick ∧ (State.measurePolders s).tw.lastHb = s.tw.lastHb ∧ (State.measurePolders s).pending = s.pending ∧ (State.measurePolders s).model = s.model := by
  unfold State.measurePolders; (repeat' split) <;> simp [↓each_tick, ↓each_lastHb, ↓each_pending, ↓each_model]

@[simp] theorem State.leveeEvent_keeps (s : State) (c : Fin 16) (kind d1 : Nat) (v : Int) :
    (State.leveeEvent s c kind d1 v).tick = s.tick ∧ (State.leveeEvent s c kind d1 v).tw.lastHb = s.tw.lastHb ∧ (State.leveeEvent s c kind d1 v).pending = s.pending ∧ (State.leveeEvent s c kind d1 v).model = s.model := by
  refine ⟨?_, ?_, ?_, ?_⟩ <;> simp [State.leveeEvent, ↓each_tick, ↓each_lastHb, ↓each_pending, ↓each_model]

@[simp] theorem State.reportCause_keeps (s : State) (c : Fin 16) (code : Nat) :
    (State.reportCause s c code).tick = s.tick ∧ (State.reportCause s c code).tw.lastHb = s.tw.lastHb ∧ (State.reportCause s c code).pending = s.pending ∧ (State.reportCause s c code).model = s.model := by
  unfold State.reportCause; (repeat' split) <;> simp [↓each_tick, ↓each_lastHb, ↓each_pending, ↓each_model]

@[simp] theorem State.decide__keeps (s : State) (m : Model) (c : Fin 16) (present : List Nat) :
    (State.decide_ s m c present).tick = s.tick ∧ (State.decide_ s m c present).tw.lastHb = s.tw.lastHb ∧ (State.decide_ s m c present).pending = s.pending ∧ (State.decide_ s m c present).model = s.model := by
  unfold State.decide_; dsimp only; (repeat' split) <;> simp [↓each_tick, ↓each_lastHb, ↓each_pending, ↓each_model]

@[simp] theorem State.dropOutputs_keeps (s : State) (c : Fin 16) :
    (State.dropOutputs s c).tick = s.tick ∧ (State.dropOutputs s c).tw.lastHb = s.tw.lastHb ∧ (State.dropOutputs s c).pending = s.pending ∧ (State.dropOutputs s c).model = s.model := by
  unfold State.dropOutputs
  refine each_keeps4 _ _ _ fun s a => ?_
  dsimp only
  split <;> simp

@[simp] theorem State.serveRequests_keeps (s : State) (m : Model) (c : Fin 16) (x : LvSrc) :
    (State.serveRequests s m c x).tick = s.tick ∧ (State.serveRequests s m c x).tw.lastHb = s.tw.lastHb ∧ (State.serveRequests s m c x).pending = s.pending ∧ (State.serveRequests s m c x).model = s.model := by
  refine ⟨?_, ?_, ?_, ?_⟩ <;> simp [State.serveRequests, ↓each_tick, ↓each_lastHb, ↓each_pending, ↓each_model]

@[simp] theorem State.btStart_keeps (s : State) (c : Fin 16) (torque : Int) (e : Option CmdEntry) :
    (State.btStart s c torque e).tick = s.tick ∧ (State.btStart s c torque e).tw.lastHb = s.tw.lastHb ∧ (State.btStart s c torque e).pending = s.pending ∧ (State.btStart s c torque e).model = s.model := by
  refine ⟨?_, ?_, ?_, ?_⟩ <;> simp [State.btStart, ↓each_tick, ↓each_lastHb, ↓each_pending, ↓each_model]

@[simp] theorem State.btFail_keeps (s : State) (m : Model) (c : Fin 16) :
    (State.btFail s m c).tick = s.tick ∧ (State.btFail s m c).tw.lastHb = s.tw.lastHb ∧ (State.btFail s m c).pending = s.pending ∧ (State.btFail s m c).model = s.model := by
  unfold State.btFail; dsimp only; (repeat' split) <;> simp [↓each_tick, ↓each_lastHb, ↓each_pending, ↓each_model]

@[simp] theorem State.btAbort_keeps (s : State) (m : Model) (c : Fin 16) :
    (State.btAbort s m c).tick = s.tick ∧ (State.btAbort s m c).tw.lastHb = s.tw.lastHb ∧ (State.btAbort s m c).pending = s.pending ∧ (State.btAbort s m c).model = s.model := by
  unfold State.btAbort; dsimp only; (repeat' split) <;> simp [↓each_tick, ↓each_lastHb, ↓each_pending, ↓each_model]

@[simp] theorem State.btStep_keeps (s : State) (m : Model) (c : Fin 16) (x : LvSrc) :
    (State.btStep s m c x).tick = s.tick ∧ (State.btStep s m c x).tw.lastHb = s.tw.lastHb ∧ (State.btStep s m c x).pending = s.pending ∧ (State.btStep s m c x).model = s.model := by
  unfold State.btStep; dsimp only; (repeat' split) <;> simp [↓each_tick, ↓each_lastHb, ↓each_pending, ↓each_model]

@[simp] theorem State.brakeTestPhaseEnd_keeps (s : State) (c : Fin 16) :
    (State.brakeTestPhaseEnd s c).tick = s.tick ∧ (State.brakeTestPhaseEnd s c).tw.lastHb = s.tw.lastHb ∧ (State.brakeTestPhaseEnd s c).pending = s.pending ∧ (State.brakeTestPhaseEnd s c).model = s.model := by
  unfold State.brakeTestPhaseEnd; dsimp only; (repeat' split) <;> simp [↓each_tick, ↓each_lastHb, ↓each_pending, ↓each_model]

@[simp] theorem State.btAuto_keeps (s : State) (m : Model) (c : Fin 16) :
    (State.btAuto s m c).tick = s.tick ∧ (State.btAuto s m c).tw.lastHb = s.tw.lastHb ∧ (State.btAuto s m c).pending = s.pending ∧ (State.btAuto s m c).model = s.model := by
  unfold State.btAuto; dsimp only; (repeat' split) <;> simp [↓each_tick, ↓each_lastHb, ↓each_pending, ↓each_model]

@[simp] theorem State.brakeTestAuto_keeps (s : State) (c : Fin 16) :
    (State.brakeTestAuto s c).tick = s.tick ∧ (State.brakeTestAuto s c).tw.lastHb = s.tw.lastHb ∧ (State.brakeTestAuto s c).pending = s.pending ∧ (State.brakeTestAuto s c).model = s.model := by
  unfold State.brakeTestAuto; dsimp only; (repeat' split) <;> simp [↓each_tick, ↓each_lastHb, ↓each_pending, ↓each_model]

@[simp] theorem State.brakeTestRetry_keeps (s : State) (c : Fin 16) :
    (State.brakeTestRetry s c).tick = s.tick ∧ (State.brakeTestRetry s c).tw.lastHb = s.tw.lastHb ∧ (State.brakeTestRetry s c).pending = s.pending ∧ (State.brakeTestRetry s c).model = s.model := by
  unfold State.brakeTestRetry; (repeat' split) <;> simp [↓each_tick, ↓each_lastHb, ↓each_pending, ↓each_model]

@[simp] theorem State.brakeTestOverdue_keeps (s : State) (c : Fin 16) :
    (State.brakeTestOverdue s c).tick = s.tick ∧ (State.brakeTestOverdue s c).tw.lastHb = s.tw.lastHb ∧ (State.brakeTestOverdue s c).pending = s.pending ∧ (State.brakeTestOverdue s c).model = s.model := by
  unfold State.brakeTestOverdue; dsimp only; (repeat' split) <;> simp [↓each_tick, ↓each_lastHb, ↓each_pending, ↓each_model]

@[simp] theorem State.startTestFailed_keeps (s : State) (c : Fin 16) :
    (State.startTestFailed s c).tick = s.tick ∧ (State.startTestFailed s c).tw.lastHb = s.tw.lastHb ∧ (State.startTestFailed s c).pending = s.pending ∧ (State.startTestFailed s c).model = s.model := by
  unfold State.startTestFailed; dsimp only; (repeat' split) <;> simp [↓each_tick, ↓each_lastHb, ↓each_pending, ↓each_model]

@[simp] theorem State.startCoreTest_keeps (s : State) (lc : Fin 2) :
    (State.startCoreTest s lc).tick = s.tick ∧ (State.startCoreTest s lc).tw.lastHb = s.tw.lastHb ∧ (State.startCoreTest s lc).pending = s.pending ∧ (State.startCoreTest s lc).model = s.model := by
  refine ⟨?_, ?_, ?_, ?_⟩ <;> simp [State.startCoreTest, ↓each_tick, ↓each_lastHb, ↓each_pending, ↓each_model]

@[simp] theorem State.startTests_keeps (s : State) (c : Fin 16) :
    (State.startTests s c).tick = s.tick ∧ (State.startTests s c).tw.lastHb = s.tw.lastHb ∧ (State.startTests s c).pending = s.pending ∧ (State.startTests s c).model = s.model := by
  refine ⟨?_, ?_, ?_, ?_⟩ <;> simp [State.startTests, ↓each_tick, ↓each_lastHb, ↓each_pending, ↓each_model]

@[simp] theorem State.evaluate_keeps (s : State) (m : Model) (missed : Bool) (c : Fin 16) :
    (State.evaluate s m missed c).tick = s.tick ∧ (State.evaluate s m missed c).tw.lastHb = s.tw.lastHb ∧ (State.evaluate s m missed c).pending = s.pending ∧ (State.evaluate s m missed c).model = s.model := by
  unfold State.evaluate; dsimp only; (repeat' split) <;> simp [↓each_tick, ↓each_lastHb, ↓each_pending, ↓each_model]

@[simp] theorem State.sendTorqueOff_keeps (s : State) (m : Model) (c : Fin 16) :
    (State.sendTorqueOff s m c).tick = s.tick ∧ (State.sendTorqueOff s m c).tw.lastHb = s.tw.lastHb ∧ (State.sendTorqueOff s m c).pending = s.pending ∧ (State.sendTorqueOff s m c).model = s.model := by
  unfold State.sendTorqueOff; (repeat' split) <;> simp [↓each_tick, ↓each_lastHb, ↓each_pending, ↓each_model]

@[simp] theorem State.lvFrames_keeps (s : State) (m : Model) (c : Fin 16) :
    (State.lvFrames s m c).tick = s.tick ∧ (State.lvFrames s m c).tw.lastHb = s.tw.lastHb ∧ (State.lvFrames s m c).pending = s.pending ∧ (State.lvFrames s m c).model = s.model := by
  unfold State.lvFrames; dsimp only; (repeat' split) <;> simp [↓each_tick, ↓each_lastHb, ↓each_pending, ↓each_model]

@[simp] theorem State.leveeCore_keeps (s : State) (m : Model) (lc : Fin 2) :
    (State.leveeCore s m lc).tick = s.tick ∧ (State.leveeCore s m lc).tw.lastHb = s.tw.lastHb ∧ (State.leveeCore s m lc).pending = s.pending ∧ (State.leveeCore s m lc).model = s.model := by
  unfold State.leveeCore; (repeat' split) <;> simp [↓each_tick, ↓each_lastHb, ↓each_pending, ↓each_model]

@[simp] theorem State.raiseCause_keeps (s : State) (m : Model) (c : Fin 16) (code : Nat) :
    (State.raiseCause s m c code).tick = s.tick ∧ (State.raiseCause s m c code).tw.lastHb = s.tw.lastHb ∧ (State.raiseCause s m c code).pending = s.pending ∧ (State.raiseCause s m c code).model = s.model := by
  unfold State.raiseCause; dsimp only; (repeat' split) <;> simp [↓each_tick, ↓each_lastHb, ↓each_pending, ↓each_model]

@[simp] theorem State.xchkFail_keeps (s : State) (c : Fin 16) :
    (State.xchkFail s c).tick = s.tick ∧ (State.xchkFail s c).tw.lastHb = s.tw.lastHb ∧ (State.xchkFail s c).pending = s.pending ∧ (State.xchkFail s c).model = s.model := by
  unfold State.xchkFail; (repeat' split) <;> simp [↓each_tick, ↓each_lastHb, ↓each_pending, ↓each_model]

@[simp] theorem State.overspeed_keeps (s : State) (c : Fin 16) :
    (State.overspeed s c).tick = s.tick ∧ (State.overspeed s c).tw.lastHb = s.tw.lastHb ∧ (State.overspeed s c).pending = s.pending ∧ (State.overspeed s c).model = s.model := by
  unfold State.overspeed; (repeat' split) <;> simp [↓each_tick, ↓each_lastHb, ↓each_pending, ↓each_model]

@[simp] theorem State.contactorFbTimeout_keeps (s : State) (c : Fin 16) :
    (State.contactorFbTimeout s c).tick = s.tick ∧ (State.contactorFbTimeout s c).tw.lastHb = s.tw.lastHb ∧ (State.contactorFbTimeout s c).pending = s.pending ∧ (State.contactorFbTimeout s c).model = s.model := by
  unfold State.contactorFbTimeout; dsimp only; (repeat' split) <;> simp [↓each_tick, ↓each_lastHb, ↓each_pending, ↓each_model]

@[simp] theorem State.brakeFbTimeout_keeps (s : State) (c : Fin 16) (circuit : Fin 2) :
    (State.brakeFbTimeout s c circuit).tick = s.tick ∧ (State.brakeFbTimeout s c circuit).tw.lastHb = s.tw.lastHb ∧ (State.brakeFbTimeout s c circuit).pending = s.pending ∧ (State.brakeFbTimeout s c circuit).model = s.model := by
  unfold State.brakeFbTimeout; dsimp only; (repeat' split) <;> simp [↓each_tick, ↓each_lastHb, ↓each_pending, ↓each_model]

@[simp] theorem State.discrepancy_keeps (s : State) (c : Fin 16) (src : DualSource) :
    (State.discrepancy s c src).tick = s.tick ∧ (State.discrepancy s c src).tw.lastHb = s.tw.lastHb ∧ (State.discrepancy s c src).pending = s.pending ∧ (State.discrepancy s c src).model = s.model := by
  unfold State.discrepancy; (repeat' split) <;> simp [↓each_tick, ↓each_lastHb, ↓each_pending, ↓each_model]

@[simp] theorem State.stoMissing_keeps (s : State) (c : Fin 16) :
    (State.stoMissing s c).tick = s.tick ∧ (State.stoMissing s c).tw.lastHb = s.tw.lastHb ∧ (State.stoMissing s c).pending = s.pending ∧ (State.stoMissing s c).model = s.model := by
  unfold State.stoMissing; dsimp only; (repeat' split) <;> simp [↓each_tick, ↓each_lastHb, ↓each_pending, ↓each_model]

@[simp] theorem State.safetyReset_keeps (s : State) (c : Fin 16) :
    (State.safetyReset s c).tick = s.tick ∧ (State.safetyReset s c).tw.lastHb = s.tw.lastHb ∧ (State.safetyReset s c).pending = s.pending ∧ (State.safetyReset s c).model = s.model := by
  unfold State.safetyReset; dsimp only; (repeat' split) <;> simp [↓each_tick, ↓each_lastHb, ↓each_pending, ↓each_model]

@[simp] theorem State.retireReset_keeps (s : State) (c : Fin 16) :
    (State.retireReset s c).tick = s.tick ∧ (State.retireReset s c).tw.lastHb = s.tw.lastHb ∧ (State.retireReset s c).pending = s.pending ∧ (State.retireReset s c).model = s.model := by
  refine ⟨?_, ?_, ?_, ?_⟩ <;> simp [State.retireReset, ↓each_tick, ↓each_lastHb, ↓each_pending, ↓each_model]

@[simp] theorem State.resetStuck_keeps (s : State) (c : Fin 16) :
    (State.resetStuck s c).tick = s.tick ∧ (State.resetStuck s c).tw.lastHb = s.tw.lastHb ∧ (State.resetStuck s c).pending = s.pending ∧ (State.resetStuck s c).model = s.model := by
  unfold State.resetStuck; dsimp only; (repeat' split) <;> simp [↓each_tick, ↓each_lastHb, ↓each_pending, ↓each_model]

@[simp] theorem State.doorEvent_keeps (s : State) (d : Fin 32) (kind : Nat) (v : Int) :
    (State.doorEvent s d kind v).tick = s.tick ∧ (State.doorEvent s d kind v).tw.lastHb = s.tw.lastHb ∧ (State.doorEvent s d kind v).pending = s.pending ∧ (State.doorEvent s d kind v).model = s.model := by
  refine ⟨?_, ?_, ?_, ?_⟩ <;> simp [State.doorEvent, ↓each_tick, ↓each_lastHb, ↓each_pending, ↓each_model]

@[simp] theorem State.doorFinding_keeps (s : State) (d : Fin 32) :
    (State.doorFinding s d).tick = s.tick ∧ (State.doorFinding s d).tw.lastHb = s.tw.lastHb ∧ (State.doorFinding s d).pending = s.pending ∧ (State.doorFinding s d).model = s.model := by
  refine ⟨?_, ?_, ?_, ?_⟩ <;> simp [State.doorFinding, ↓each_tick, ↓each_lastHb, ↓each_pending, ↓each_model]

@[simp] theorem State.setSide_keeps (s : State) (m : Model) (d : Fin 32) (n : DoorState) :
    (State.setSide s m d n).tick = s.tick ∧ (State.setSide s m d n).tw.lastHb = s.tw.lastHb ∧ (State.setSide s m d n).pending = s.pending ∧ (State.setSide s m d n).model = s.model := by
  unfold State.setSide; dsimp only; (repeat' split) <;> simp [↓each_tick, ↓each_lastHb, ↓each_pending, ↓each_model]

@[simp] theorem State.doorRun_keeps (s : State) (d : Fin 32) (x : Int) (k : RunKind) :
    (State.doorRun s d x k).tick = s.tick ∧ (State.doorRun s d x k).tw.lastHb = s.tw.lastHb ∧ (State.doorRun s d x k).pending = s.pending ∧ (State.doorRun s d x k).model = s.model := by
  refine ⟨?_, ?_, ?_, ?_⟩ <;> simp [State.doorRun, ↓each_tick, ↓each_lastHb, ↓each_pending, ↓each_model]

@[simp] theorem State.doorHaltReq_keeps (s : State) (d : Fin 32) :
    (State.doorHaltReq s d).tick = s.tick ∧ (State.doorHaltReq s d).tw.lastHb = s.tw.lastHb ∧ (State.doorHaltReq s d).pending = s.pending ∧ (State.doorHaltReq s d).model = s.model := by
  refine ⟨?_, ?_, ?_, ?_⟩ <;> simp [State.doorHaltReq, ↓each_tick, ↓each_lastHb, ↓each_pending, ↓each_model]

@[simp] theorem State.doorStopReq_keeps (s : State) (d : Fin 32) :
    (State.doorStopReq s d).tick = s.tick ∧ (State.doorStopReq s d).tw.lastHb = s.tw.lastHb ∧ (State.doorStopReq s d).pending = s.pending ∧ (State.doorStopReq s d).model = s.model := by
  refine ⟨?_, ?_, ?_, ?_⟩ <;> simp [State.doorStopReq, ↓each_tick, ↓each_lastHb, ↓each_pending, ↓each_model]

@[simp] theorem State.doorPlace_keeps (s : State) (d : Fin 32) (x : Int) :
    (State.doorPlace s d x).tick = s.tick ∧ (State.doorPlace s d x).tw.lastHb = s.tw.lastHb ∧ (State.doorPlace s d x).pending = s.pending ∧ (State.doorPlace s d x).model = s.model := by
  refine ⟨?_, ?_, ?_, ?_⟩ <;> simp [State.doorPlace, ↓each_tick, ↓each_lastHb, ↓each_pending, ↓each_model]

@[simp] theorem State.unrefSide_keeps (s : State) (m : Model) (d : Fin 32) :
    (State.unrefSide s m d).tick = s.tick ∧ (State.unrefSide s m d).tw.lastHb = s.tw.lastHb ∧ (State.unrefSide s m d).pending = s.pending ∧ (State.unrefSide s m d).model = s.model := by
  unfold State.unrefSide; dsimp only; (repeat' split) <;> simp [↓each_tick, ↓each_lastHb, ↓each_pending, ↓each_model]

@[simp] theorem State.faultSide_keeps (s : State) (m : Model) (d : Fin 32) :
    (State.faultSide s m d).tick = s.tick ∧ (State.faultSide s m d).tw.lastHb = s.tw.lastHb ∧ (State.faultSide s m d).pending = s.pending ∧ (State.faultSide s m d).model = s.model := by
  unfold State.faultSide; dsimp only; (repeat' split) <;> simp [↓each_tick, ↓each_lastHb, ↓each_pending, ↓each_model]

@[simp] theorem State.takeReply_keeps (s : State) (m : Model) (d : Fin 32) (bs : List Byte) (sof : BitVec 32) :
    (State.takeReply s m d bs sof).tick = s.tick ∧ (State.takeReply s m d bs sof).tw.lastHb = s.tw.lastHb ∧ (State.takeReply s m d bs sof).pending = s.pending ∧ (State.takeReply s m d bs sof).model = s.model := by
  refine ⟨?_, ?_, ?_, ?_⟩ <;> simp [State.takeReply, ↓each_tick, ↓each_lastHb, ↓each_pending, ↓each_model]

@[simp] theorem State.donReply_keeps (s : State) (fr : Frame) :
    (State.donReply s fr).tick = s.tick ∧ (State.donReply s fr).tw.lastHb = s.tw.lastHb ∧ (State.donReply s fr).pending = s.pending ∧ (State.donReply s fr).model = s.model := by
  unfold State.donReply; refine State.onPrivileged_keeps _ _ _ _ _ fun s m i r c => ?_; dsimp only; (repeat' split) <;> simp [↓each_tick, ↓each_lastHb, ↓each_pending, ↓each_model]

@[simp] theorem State.startObstTimer_keeps (s : State) (d : Fin 32) :
    (State.startObstTimer s d).tick = s.tick ∧ (State.startObstTimer s d).tw.lastHb = s.tw.lastHb ∧ (State.startObstTimer s d).pending = s.pending ∧ (State.startObstTimer s d).model = s.model := by
  refine ⟨?_, ?_, ?_, ?_⟩ <;> simp [State.startObstTimer, ↓each_tick, ↓each_lastHb, ↓each_pending, ↓each_model]

@[simp] theorem State.reverseSide_keeps (s : State) (m : Model) (d : Fin 32) (cause : Nat) :
    (State.reverseSide s m d cause).tick = s.tick ∧ (State.reverseSide s m d cause).tw.lastHb = s.tw.lastHb ∧ (State.reverseSide s m d cause).pending = s.pending ∧ (State.reverseSide s m d cause).model = s.model := by
  unfold State.reverseSide; dsimp only; (repeat' split) <;> simp [↓each_tick, ↓each_lastHb, ↓each_pending, ↓each_model]

@[simp] theorem State.countClosing_keeps (s : State) (m : Model) (d : Fin 32) :
    (State.countClosing s m d).tick = s.tick ∧ (State.countClosing s m d).tw.lastHb = s.tw.lastHb ∧ (State.countClosing s m d).pending = s.pending ∧ (State.countClosing s m d).model = s.model := by
  refine ⟨?_, ?_, ?_, ?_⟩ <;> simp [State.countClosing, ↓each_tick, ↓each_lastHb, ↓each_pending, ↓each_model]

@[simp] theorem State.guardClosing_keeps (s : State) (m : Model) (d : Fin 32) :
    (State.guardClosing s m d).tick = s.tick ∧ (State.guardClosing s m d).tw.lastHb = s.tw.lastHb ∧ (State.guardClosing s m d).pending = s.pending ∧ (State.guardClosing s m d).model = s.model := by
  unfold State.guardClosing; dsimp only; (repeat' split) <;> simp [↓each_tick, ↓each_lastHb, ↓each_pending, ↓each_model]

@[simp] theorem State.guardRequested_keeps (s : State) (m : Model) (d : Fin 32) (nudging : Bool) :
    (State.guardRequested s m d nudging).tick = s.tick ∧ (State.guardRequested s m d nudging).tw.lastHb = s.tw.lastHb ∧ (State.guardRequested s m d nudging).pending = s.pending ∧ (State.guardRequested s m d nudging).model = s.model := by
  unfold State.guardRequested; dsimp only; (repeat' split) <;> simp [↓each_tick, ↓each_lastHb, ↓each_pending, ↓each_model]

@[simp] theorem State.guardHoming_keeps (s : State) (m : Model) (d : Fin 32) :
    (State.guardHoming s m d).tick = s.tick ∧ (State.guardHoming s m d).tw.lastHb = s.tw.lastHb ∧ (State.guardHoming s m d).pending = s.pending ∧ (State.guardHoming s m d).model = s.model := by
  unfold State.guardHoming; dsimp only; (repeat' split) <;> simp [↓each_tick, ↓each_lastHb, ↓each_pending, ↓each_model]

@[simp] theorem State.guardOpening_keeps (s : State) (m : Model) (d : Fin 32) :
    (State.guardOpening s m d).tick = s.tick ∧ (State.guardOpening s m d).tw.lastHb = s.tw.lastHb ∧ (State.guardOpening s m d).pending = s.pending ∧ (State.guardOpening s m d).model = s.model := by
  unfold State.guardOpening; dsimp only; (repeat' split) <;> simp [↓each_tick, ↓each_lastHb, ↓each_pending, ↓each_model]

@[simp] theorem State.guardRef_keeps (s : State) (d : Fin 32) :
    ((State.guardRef s d).1).tick = s.tick ∧ ((State.guardRef s d).1).tw.lastHb = s.tw.lastHb ∧ ((State.guardRef s d).1).pending = s.pending ∧ ((State.guardRef s d).1).model = s.model := by
  unfold State.guardRef; dsimp only; (repeat' split) <;> simp [↓each_tick, ↓each_lastHb, ↓each_pending, ↓each_model]

@[simp] theorem State.guardInputs_keeps (s : State) (m : Model) (d : Fin 32) :
    (State.guardInputs s m d).tick = s.tick ∧ (State.guardInputs s m d).tw.lastHb = s.tw.lastHb ∧ (State.guardInputs s m d).pending = s.pending ∧ (State.guardInputs s m d).model = s.model := by
  refine ⟨?_, ?_, ?_, ?_⟩ <;> simp [State.guardInputs, ↓each_tick, ↓each_lastHb, ↓each_pending, ↓each_model]

@[simp] theorem State.guardChecks_keeps (s : State) (m : Model) (d : Fin 32) :
    (State.guardChecks s m d).tick = s.tick ∧ (State.guardChecks s m d).tw.lastHb = s.tw.lastHb ∧ (State.guardChecks s m d).pending = s.pending ∧ (State.guardChecks s m d).model = s.model := by
  unfold State.guardChecks
  dsimp only
  have h : ∀ t : State, ((if (t.guardRef d).2 then (t.guardRef d).1.unrefSide m d else (t.guardRef d).1)).tick = t.tick ∧ ((if (t.guardRef d).2 then (t.guardRef d).1.unrefSide m d else (t.guardRef d).1)).tw.lastHb = t.tw.lastHb ∧ ((if (t.guardRef d).2 then (t.guardRef d).1.unrefSide m d else (t.guardRef d).1)).pending = t.pending ∧ ((if (t.guardRef d).2 then (t.guardRef d).1.unrefSide m d else (t.guardRef d).1)).model = t.model := fun t => by
    split <;> simp
  rcases (s.sides.get d).reqRev with _ | r <;> (repeat' split) <;> simp_all

@[simp] theorem State.guardSide_keeps (s : State) (m : Model) (d : Fin 32) :
    (State.guardSide s m d).tick = s.tick ∧ (State.guardSide s m d).tw.lastHb = s.tw.lastHb ∧ (State.guardSide s m d).pending = s.pending ∧ (State.guardSide s m d).model = s.model := by
  unfold State.guardSide; dsimp only; (repeat' split) <;> simp [↓each_tick, ↓each_lastHb, ↓each_pending, ↓each_model]

@[simp] theorem State.homeSide_keeps (s : State) (m : Model) (d : Fin 32) :
    (State.homeSide s m d).tick = s.tick ∧ (State.homeSide s m d).tw.lastHb = s.tw.lastHb ∧ (State.homeSide s m d).pending = s.pending ∧ (State.homeSide s m d).model = s.model := by
  refine ⟨?_, ?_, ?_, ?_⟩ <;> simp [State.homeSide, ↓each_tick, ↓each_lastHb, ↓each_pending, ↓each_model]

@[simp] theorem State.openSide_keeps (s : State) (m : Model) (d : Fin 32) (k : RunKind) :
    (State.openSide s m d k).tick = s.tick ∧ (State.openSide s m d k).tw.lastHb = s.tw.lastHb ∧ (State.openSide s m d k).pending = s.pending ∧ (State.openSide s m d k).model = s.model := by
  refine ⟨?_, ?_, ?_, ?_⟩ <;> simp [State.openSide, ↓each_tick, ↓each_lastHb, ↓each_pending, ↓each_model]

@[simp] theorem State.closeSide_keeps (s : State) (m : Model) (d : Fin 32) :
    (State.closeSide s m d).tick = s.tick ∧ (State.closeSide s m d).tw.lastHb = s.tw.lastHb ∧ (State.closeSide s m d).pending = s.pending ∧ (State.closeSide s m d).model = s.model := by
  unfold State.closeSide; dsimp only; (repeat' split) <;> simp [↓each_tick, ↓each_lastHb, ↓each_pending, ↓each_model]

@[simp] theorem State.sampleForce_keeps (s : State) (m : Model) (d : Fin 32) :
    (State.sampleForce s m d).tick = s.tick ∧ (State.sampleForce s m d).tw.lastHb = s.tw.lastHb ∧ (State.sampleForce s m d).pending = s.pending ∧ (State.sampleForce s m d).model = s.model := by
  unfold State.sampleForce; dsimp only; (repeat' split) <;> simp [↓each_tick, ↓each_lastHb, ↓each_pending, ↓each_model]

@[simp] theorem State.learnClose_keeps (s : State) (d : Fin 32) :
    (State.learnClose s d).tick = s.tick ∧ (State.learnClose s d).tw.lastHb = s.tw.lastHb ∧ (State.learnClose s d).pending = s.pending ∧ (State.learnClose s d).model = s.model := by
  unfold State.learnClose; dsimp only; (repeat' split) <;> simp [↓each_tick, ↓each_lastHb, ↓each_pending, ↓each_model]

@[simp] theorem State.endLearnDoors_keeps (s : State) (c : Fin 16) (st : CplStatus) :
    (State.endLearnDoors s c st).tick = s.tick ∧ (State.endLearnDoors s c st).tw.lastHb = s.tw.lastHb ∧ (State.endLearnDoors s c st).pending = s.pending ∧ (State.endLearnDoors s c st).model = s.model := by
  unfold State.endLearnDoors; (repeat' split) <;> simp [↓each_tick, ↓each_lastHb, ↓each_pending, ↓each_model]

@[simp] theorem State.doorLearnDone_keeps (s : State) (c : Fin 16) :
    (State.doorLearnDone s c).tick = s.tick ∧ (State.doorLearnDone s c).tw.lastHb = s.tw.lastHb ∧ (State.doorLearnDone s c).pending = s.pending ∧ (State.doorLearnDone s c).model = s.model := by
  unfold State.doorLearnDone; dsimp only; (repeat' split) <;> simp [↓each_tick, ↓each_lastHb, ↓each_pending, ↓each_model]

@[simp] theorem State.reachOpen_keeps (s : State) (m : Model) (d : Fin 32) :
    (State.reachOpen s m d).tick = s.tick ∧ (State.reachOpen s m d).tw.lastHb = s.tw.lastHb ∧ (State.reachOpen s m d).pending = s.pending ∧ (State.reachOpen s m d).model = s.model := by
  unfold State.reachOpen; dsimp only; (repeat' split) <;> simp [↓each_tick, ↓each_lastHb, ↓each_pending, ↓each_model]

@[simp] theorem State.leaveStop_keeps (s : State) (d : Fin 32) :
    (State.leaveStop s d).tick = s.tick ∧ (State.leaveStop s d).tw.lastHb = s.tw.lastHb ∧ (State.leaveStop s d).pending = s.pending ∧ (State.leaveStop s d).model = s.model := by
  refine ⟨?_, ?_, ?_, ?_⟩ <;> simp [State.leaveStop, ↓each_tick, ↓each_lastHb, ↓each_pending, ↓each_model]

@[simp] theorem State.doorTick_keeps (s : State) (d : Fin 32) :
    (State.doorTick s d).tick = s.tick ∧ (State.doorTick s d).tw.lastHb = s.tw.lastHb ∧ (State.doorTick s d).pending = s.pending ∧ (State.doorTick s d).model = s.model := by
  unfold State.doorTick; dsimp only; (repeat' split) <;> simp [↓each_tick, ↓each_lastHb, ↓each_pending, ↓each_model]

@[simp] theorem State.doorMachine_keeps (s : State) (m : Model) (d : Fin 32) :
    (State.doorMachine s m d).tick = s.tick ∧ (State.doorMachine s m d).tw.lastHb = s.tw.lastHb ∧ (State.doorMachine s m d).pending = s.pending ∧ (State.doorMachine s m d).model = s.model := by
  unfold State.doorMachine; dsimp only; (repeat' split) <;> simp [↓each_tick, ↓each_lastHb, ↓each_pending, ↓each_model]

@[simp] theorem State.doorSide_keeps (s : State) (m : Model) (d : Fin 32) :
    (State.doorSide s m d).tick = s.tick ∧ (State.doorSide s m d).tw.lastHb = s.tw.lastHb ∧ (State.doorSide s m d).pending = s.pending ∧ (State.doorSide s m d).model = s.model := by
  unfold State.doorSide
  dsimp only
  refine ⟨?_, ?_, ?_, ?_⟩ <;> ((repeat' split) <;> simp)

@[simp] theorem State.doorReopen_keeps (s : State) (d : Fin 32) :
    (State.doorReopen s d).tick = s.tick ∧ (State.doorReopen s d).tw.lastHb = s.tw.lastHb ∧ (State.doorReopen s d).pending = s.pending ∧ (State.doorReopen s d).model = s.model := by
  unfold State.doorReopen; dsimp only; (repeat' split) <;> simp [↓each_tick, ↓each_lastHb, ↓each_pending, ↓each_model]

@[simp] theorem State.lockTimeout_keeps (s : State) (d : Fin 32) :
    (State.lockTimeout s d).tick = s.tick ∧ (State.lockTimeout s d).tw.lastHb = s.tw.lastHb ∧ (State.lockTimeout s d).pending = s.pending ∧ (State.lockTimeout s d).model = s.model := by
  unfold State.lockTimeout; dsimp only; (repeat' split) <;> simp [↓each_tick, ↓each_lastHb, ↓each_pending, ↓each_model]

@[simp] theorem State.homingCloseFailure_keeps (s : State) (d : Fin 32) :
    (State.homingCloseFailure s d).tick = s.tick ∧ (State.homingCloseFailure s d).tw.lastHb = s.tw.lastHb ∧ (State.homingCloseFailure s d).pending = s.pending ∧ (State.homingCloseFailure s d).model = s.model := by
  unfold State.homingCloseFailure; dsimp only; (repeat' split) <;> simp [↓each_tick, ↓each_lastHb, ↓each_pending, ↓each_model]

@[simp] theorem State.setCurrent_keeps (s : State) (m : Model) (d : Fin 32) :
    (State.setCurrent s m d).tick = s.tick ∧ (State.setCurrent s m d).tw.lastHb = s.tw.lastHb ∧ (State.setCurrent s m d).pending = s.pending ∧ (State.setCurrent s m d).model = s.model := by
  refine ⟨?_, ?_, ?_, ?_⟩ <;> simp [State.setCurrent, ↓each_tick, ↓each_lastHb, ↓each_pending, ↓each_model]

@[simp] theorem State.numberPacket_keeps (s : State) (m : Model) (c : Fin 16) (seq : BitVec 16) :
    (State.numberPacket s m c seq).tick = s.tick ∧ (State.numberPacket s m c seq).tw.lastHb = s.tw.lastHb ∧ (State.numberPacket s m c seq).pending = s.pending ∧ (State.numberPacket s m c seq).model = s.model := by
  unfold State.numberPacket; (repeat' split) <;> first | (simp [↓each_tick, ↓each_lastHb, ↓each_pending, ↓each_model]; done) | (refine each_keeps4 _ _ _ fun s a => ?_; dsimp only; (repeat' split) <;> simp [↓each_tick, ↓each_lastHb, ↓each_pending, ↓each_model]) | (refine each_keeps4 _ _ _ fun s a => ?_; (repeat' split) <;> simp [↓each_tick, ↓each_lastHb, ↓each_pending, ↓each_model])

@[simp] theorem State.noteSent_keeps (s : State) (d : Fin 32) :
    (State.noteSent s d).tick = s.tick ∧ (State.noteSent s d).tw.lastHb = s.tw.lastHb ∧ (State.noteSent s d).pending = s.pending ∧ (State.noteSent s d).model = s.model := by
  refine ⟨?_, ?_, ?_, ?_⟩ <;> simp [State.noteSent, ↓each_tick, ↓each_lastHb, ↓each_pending, ↓each_model]

@[simp] theorem State.stepPacket_keeps (s : State) (m : Model) (c : Fin 16) :
    (State.stepPacket s m c).tick = s.tick ∧ (State.stepPacket s m c).tw.lastHb = s.tw.lastHb ∧ (State.stepPacket s m c).pending = s.pending ∧ (State.stepPacket s m c).model = s.model := by
  unfold State.stepPacket
  dsimp only
  refine kept_trans (t := if s.drives || s.mod = .standby then s.numberPacket m c (BitVec.ofNat 16 s.t1Now.toNat) else s) ?_
    (by split <;> simp)
  generalize (if s.drives || s.mod = .standby then s.numberPacket m c (BitVec.ofNat 16 s.t1Now.toNat) else s) = t
  (repeat' split) <;> simp [↓each_tick, ↓each_lastHb, ↓each_pending, ↓each_model]

@[simp] theorem State.ageSides_keeps (s : State) :
    (State.ageSides s).tick = s.tick ∧ (State.ageSides s).tw.lastHb = s.tw.lastHb ∧ (State.ageSides s).pending = s.pending ∧ (State.ageSides s).model = s.model := by
  refine ⟨?_, ?_, ?_, ?_⟩ <;> simp [State.ageSides, ↓each_tick, ↓each_lastHb, ↓each_pending, ↓each_model]

@[simp] theorem State.holdDoors_keeps (s : State) :
    (State.holdDoors s).tick = s.tick ∧ (State.holdDoors s).tw.lastHb = s.tw.lastHb ∧ (State.holdDoors s).pending = s.pending ∧ (State.holdDoors s).model = s.model := by
  unfold State.holdDoors; (repeat' split) <;> first | (simp [↓each_tick, ↓each_lastHb, ↓each_pending, ↓each_model]; done) | (refine each_keeps4 _ _ _ fun s a => ?_; dsimp only; (repeat' split) <;> simp [↓each_tick, ↓each_lastHb, ↓each_pending, ↓each_model]) | (refine each_keeps4 _ _ _ fun s a => ?_; (repeat' split) <;> simp [↓each_tick, ↓each_lastHb, ↓each_pending, ↓each_model])

@[simp] theorem State.takeoverDoors_keeps (s : State) :
    (State.takeoverDoors s).tick = s.tick ∧ (State.takeoverDoors s).tw.lastHb = s.tw.lastHb ∧ (State.takeoverDoors s).pending = s.pending ∧ (State.takeoverDoors s).model = s.model := by
  unfold State.takeoverDoors; (repeat' split) <;> first | (simp [↓each_tick, ↓each_lastHb, ↓each_pending, ↓each_model]; done) | (refine each_keeps4 _ _ _ fun s a => ?_; dsimp only; (repeat' split) <;> simp [↓each_tick, ↓each_lastHb, ↓each_pending, ↓each_model]) | (refine each_keeps4 _ _ _ fun s a => ?_; (repeat' split) <;> simp [↓each_tick, ↓each_lastHb, ↓each_pending, ↓each_model])

@[simp] theorem State.connectionWatchdog_keeps (s : State) (i : Nat) :
    (State.connectionWatchdog s i).tick = s.tick ∧ (State.connectionWatchdog s i).tw.lastHb = s.tw.lastHb ∧ (State.connectionWatchdog s i).pending = s.pending ∧ (State.connectionWatchdog s i).model = s.model := by
  unfold State.connectionWatchdog; dsimp only; (repeat' split) <;> simp [↓each_tick, ↓each_lastHb, ↓each_pending, ↓each_model]

end Sys2Proof.Machine
end

