-- ==== Sys2Proof/Laws/KeepsGroup.lean ====
section
/-! SUPPORT. What the operations of Calls.lean, Solver.lean, Modes.lean leave alone: the tick counters, the last heartbeat, the queue
and the building model in force. -/

namespace Sys2Proof.Machine

open State

@[simp] theorem State.callReport_keeps (s : State) (car : Nat) (data : List Byte) :
    (State.callReport s car data).tick = s.tick ∧ (State.callReport s car data).tw.lastHb = s.tw.lastHb ∧ (State.callReport s car data).pending = s.pending ∧ (State.callReport s car data).model = s.model := by
  unfold State.callReport; (repeat' split) <;> simp [↓each_tick, ↓each_lastHb, ↓each_pending, ↓each_model]

@[simp] theorem State.releaseEvents_keeps (s : State) :
    (State.releaseEvents s).tick = s.tick ∧ (State.releaseEvents s).tw.lastHb = s.tw.lastHb ∧ (State.releaseEvents s).pending = s.pending ∧ (State.releaseEvents s).model = s.model := by
  refine ⟨?_, ?_, ?_, ?_⟩ <;> simp [State.releaseEvents, ↓each_tick, ↓each_lastHb, ↓each_pending, ↓each_model]

@[simp] theorem State.callEvent_keeps (s : State) (kind st origin dest : Nat) (car : Option (Fin 16)) (code slot : Nat) (ref : BitVec 32) (src : Nat) :
    (State.callEvent s kind st origin dest car code slot ref src).tick = s.tick ∧ (State.callEvent s kind st origin dest car code slot ref src).tw.lastHb = s.tw.lastHb ∧ (State.callEvent s kind st origin dest car code slot ref src).pending = s.pending ∧ (State.callEvent s kind st origin dest car code slot ref src).model = s.model := by
  refine ⟨?_, ?_, ?_, ?_⟩ <;> simp [State.callEvent, ↓each_tick, ↓each_lastHb, ↓each_pending, ↓each_model]

@[simp] theorem State.callNote_keeps (s : State) (x : Call) (st code : Nat) :
    (State.callNote s x st code).tick = s.tick ∧ (State.callNote s x st code).tw.lastHb = s.tw.lastHb ∧ (State.callNote s x st code).pending = s.pending ∧ (State.callNote s x st code).model = s.model := by
  refine ⟨?_, ?_, ?_, ?_⟩ <;> simp [State.callNote, ↓each_tick, ↓each_lastHb, ↓each_pending, ↓each_model]

@[simp] theorem State.updCall_keeps (s : State) (slot : Nat) (f : Call → Call) :
    (State.updCall s slot f).tick = s.tick ∧ (State.updCall s slot f).tw.lastHb = s.tw.lastHb ∧ (State.updCall s slot f).pending = s.pending ∧ (State.updCall s slot f).model = s.model := by
  refine ⟨?_, ?_, ?_, ?_⟩ <;> simp [State.updCall, ↓each_tick, ↓each_lastHb, ↓each_pending, ↓each_model]

@[simp] theorem State.setCall_keeps (s : State) (x : Call) (st : CallState) (car : Option (Fin 16)) (code : Nat) :
    (State.setCall s x st car code).tick = s.tick ∧ (State.setCall s x st car code).tw.lastHb = s.tw.lastHb ∧ (State.setCall s x st car code).pending = s.pending ∧ (State.setCall s x st car code).model = s.model := by
  refine ⟨?_, ?_, ?_, ?_⟩ <;> simp [State.setCall, ↓each_tick, ↓each_lastHb, ↓each_pending, ↓each_model]

@[simp] theorem State.dropCall_keeps (s : State) (x : Call) (st : Nat) :
    (State.dropCall s x st).tick = s.tick ∧ (State.dropCall s x st).tw.lastHb = s.tw.lastHb ∧ (State.dropCall s x st).pending = s.pending ∧ (State.dropCall s x st).model = s.model := by
  refine ⟨?_, ?_, ?_, ?_⟩ <;> simp [State.dropCall, ↓each_tick, ↓each_lastHb, ↓each_pending, ↓each_model]

@[simp] theorem State.dropCarCall_keeps (s : State) (c : Fin 16) (x : CarCall) (st : Nat) :
    (State.dropCarCall s c x st).tick = s.tick ∧ (State.dropCarCall s c x st).tw.lastHb = s.tw.lastHb ∧ (State.dropCarCall s c x st).pending = s.pending ∧ (State.dropCarCall s c x st).model = s.model := by
  refine ⟨?_, ?_, ?_, ?_⟩ <;> simp [State.dropCarCall, ↓each_tick, ↓each_lastHb, ↓each_pending, ↓each_model]

@[simp] theorem State.refuseCall_keeps (s : State) (a : Asked) (code : Nat) :
    (State.refuseCall s a code).tick = s.tick ∧ (State.refuseCall s a code).tw.lastHb = s.tw.lastHb ∧ (State.refuseCall s a code).pending = s.pending ∧ (State.refuseCall s a code).model = s.model := by
  refine ⟨?_, ?_, ?_, ?_⟩ <;> simp [State.refuseCall, ↓each_tick, ↓each_lastHb, ↓each_pending, ↓each_model]

@[simp] theorem State.light_keeps (s : State) (x : Call) (c : Fin 16) :
    (State.light s x c).tick = s.tick ∧ (State.light s x c).tw.lastHb = s.tw.lastHb ∧ (State.light s x c).pending = s.pending ∧ (State.light s x c).model = s.model := by
  refine ⟨?_, ?_, ?_, ?_⟩ <;> simp [State.light, ↓each_tick, ↓each_lastHb, ↓each_pending, ↓each_model]

@[simp] theorem State.unlight_keeps (s : State) (x : Call) :
    (State.unlight s x).tick = s.tick ∧ (State.unlight s x).tw.lastHb = s.tw.lastHb ∧ (State.unlight s x).pending = s.pending ∧ (State.unlight s x).model = s.model := by
  unfold State.unlight; (repeat' split) <;> simp [↓each_tick, ↓each_lastHb, ↓each_pending, ↓each_model]

@[simp] theorem State.serveAtOnce_keeps (s : State) (m : Model) (x : Call) :
    (State.serveAtOnce s m x).tick = s.tick ∧ (State.serveAtOnce s m x).tw.lastHb = s.tw.lastHb ∧ (State.serveAtOnce s m x).pending = s.pending ∧ (State.serveAtOnce s m x).model = s.model := by
  unfold State.serveAtOnce; dsimp only; (repeat' split) <;> simp [↓each_tick, ↓each_lastHb, ↓each_pending, ↓each_model]

@[simp] theorem State.registerCall_keeps (s : State) (m : Model) (a : Asked) :
    ((State.registerCall s m a).1).tick = s.tick ∧ ((State.registerCall s m a).1).tw.lastHb = s.tw.lastHb ∧ ((State.registerCall s m a).1).pending = s.pending ∧ ((State.registerCall s m a).1).model = s.model := by
  unfold State.registerCall; dsimp only; (repeat' split) <;> simp [↓each_tick, ↓each_lastHb, ↓each_pending, ↓each_model]

@[simp] theorem State.m5Note_keeps (s : State) (c : Fin 16) (o : Option Nat) (st : Nat) :
    (State.m5Note s c o st).tick = s.tick ∧ (State.m5Note s c o st).tw.lastHb = s.tw.lastHb ∧ (State.m5Note s c o st).pending = s.pending ∧ (State.m5Note s c o st).model = s.model := by
  unfold State.m5Note; (repeat' split) <;> simp [↓each_tick, ↓each_lastHb, ↓each_pending, ↓each_model]

@[simp] theorem State.firemanCall_keeps (s : State) (c : Fin 16) (l : Nat) :
    (State.firemanCall s c l).tick = s.tick ∧ (State.firemanCall s c l).tw.lastHb = s.tw.lastHb ∧ (State.firemanCall s c l).pending = s.pending ∧ (State.firemanCall s c l).model = s.model := by
  unfold State.firemanCall; dsimp only; (repeat' split) <;> simp [↓each_tick, ↓each_lastHb, ↓each_pending, ↓each_model]

@[simp] theorem State.dropM5_keeps (s : State) (c : Fin 16) :
    (State.dropM5 s c).tick = s.tick ∧ (State.dropM5 s c).tw.lastHb = s.tw.lastHb ∧ (State.dropM5 s c).pending = s.pending ∧ (State.dropM5 s c).model = s.model := by
  refine ⟨?_, ?_, ?_, ?_⟩ <;> simp [State.dropM5, ↓each_tick, ↓each_lastHb, ↓each_pending, ↓each_model]

@[simp] theorem State.registerCarCall_keeps (s : State) (m : Model) (c : Fin 16) (l : Nat) (access : Bool) (ref : BitVec 32) (host : Bool) :
    ((State.registerCarCall s m c l access ref host).1).tick = s.tick ∧ ((State.registerCarCall s m c l access ref host).1).tw.lastHb = s.tw.lastHb ∧ ((State.registerCarCall s m c l access ref host).1).pending = s.pending ∧ ((State.registerCarCall s m c l access ref host).1).model = s.model := by
  unfold State.registerCarCall; (repeat' split) <;> simp [↓each_tick, ↓each_lastHb, ↓each_pending, ↓each_model]

@[simp] theorem State.cancelRef_keeps (s : State) (ref : BitVec 32) :
    ((State.cancelRef s ref).1).tick = s.tick ∧ ((State.cancelRef s ref).1).tw.lastHb = s.tw.lastHb ∧ ((State.cancelRef s ref).1).pending = s.pending ∧ ((State.cancelRef s ref).1).model = s.model := by
  unfold State.cancelRef; (repeat' split) <;> simp [↓each_tick, ↓each_lastHb, ↓each_pending, ↓each_model]

@[simp] theorem State.callRecord_keeps (s : State) (m : Model) (b : List Byte) :
    ((State.callRecord s m b).1).tick = s.tick ∧ ((State.callRecord s m b).1).tw.lastHb = s.tw.lastHb ∧ ((State.callRecord s m b).1).pending = s.pending ∧ ((State.callRecord s m b).1).model = s.model := by
  unfold State.callRecord; dsimp only; (repeat' split) <;> simp [↓each_tick, ↓each_lastHb, ↓each_pending, ↓each_model]

@[simp] theorem State.callAnswer_keeps (s : State) (b : List Byte) (st : CplStatus) (code : Nat) (result : BitVec 32) :
    (State.callAnswer s b st code result).tick = s.tick ∧ (State.callAnswer s b st code result).tw.lastHb = s.tw.lastHb ∧ (State.callAnswer s b st code result).pending = s.pending ∧ (State.callAnswer s b st code result).model = s.model := by
  refine ⟨?_, ?_, ?_, ?_⟩ <;> simp [State.callAnswer, ↓each_tick, ↓each_lastHb, ↓each_pending, ↓each_model]

@[simp] theorem State.callEntry_keeps (s : State) :
    (State.callEntry s).tick = s.tick ∧ (State.callEntry s).tw.lastHb = s.tw.lastHb ∧ (State.callEntry s).pending = s.pending ∧ (State.callEntry s).model = s.model := by
  unfold State.callEntry
  split
  · simp
  · dsimp only
    split
    · rename_i b rest _ _ m _
      split
      · simp
      · split
        · simp
        · have h := State.callRecord_keeps (s.updHi fun h => { h with calls := rest }) m b
          revert h
          generalize State.callRecord (s.updHi fun h => { h with calls := rest }) m b = q
          rcases q with ⟨t, x | x⟩ <;> intro h <;> simp at h <;> simp [h]
    · simp

theorem State.onFixture_keeps (s : State) (fr : Frame) (fn : Nat) (f : State → Model → Nat → NodeRec → Conn → State)
    (hf : ∀ s m i r c, (f s m i r c).tick = s.tick ∧ (f s m i r c).tw.lastHb = s.tw.lastHb ∧ (f s m i r c).pending = s.pending ∧ (f s m i r c).model = s.model) :
    (State.onFixture s fr fn f).tick = s.tick ∧ (State.onFixture s fr fn f).tw.lastHb = s.tw.lastHb ∧ (State.onFixture s fr fn f).pending = s.pending ∧ (State.onFixture s fr fn f).model = s.model := by
  unfold State.onFixture
  split
  · rename_i t m h _
    have hk := State.hear_keeps h
    (repeat' split) <;> simp [hk, hf]
  · rename_i t h _
    have hk := State.hear_keeps h
    split <;> simp [hk]
  · simp

@[simp] theorem State.sendAllocation_keeps (s : State) (m : Model) (i : Nat) (result car side : Nat) (seq : BitVec 16) (dest : Nat) (answer : Option (BitVec 32)) :
    (State.sendAllocation s m i result car side seq dest answer).tick = s.tick ∧ (State.sendAllocation s m i result car side seq dest answer).tw.lastHb = s.tw.lastHb ∧ (State.sendAllocation s m i result car side seq dest answer).pending = s.pending ∧ (State.sendAllocation s m i result car side seq dest answer).model = s.model := by
  unfold State.sendAllocation; (repeat' split) <;> simp [↓each_tick, ↓each_lastHb, ↓each_pending, ↓each_model]

@[simp] theorem State.hallCall_keeps (s : State) (fr : Frame) :
    (State.hallCall s fr).tick = s.tick ∧ (State.hallCall s fr).tw.lastHb = s.tw.lastHb ∧ (State.hallCall s fr).pending = s.pending ∧ (State.hallCall s fr).model = s.model := by
  unfold State.hallCall
  refine State.onFixture_keeps _ _ _ _ fun s m i r c => ?_
  split
  · simp
  · dsimp only
    split
    · simp
    · split <;> simp

@[simp] theorem State.destCall_keeps (s : State) (fr : Frame) :
    (State.destCall s fr).tick = s.tick ∧ (State.destCall s fr).tw.lastHb = s.tw.lastHb ∧ (State.destCall s fr).pending = s.pending ∧ (State.destCall s fr).model = s.model := by
  unfold State.destCall
  refine State.onFixture_keeps _ _ _ _ fun s m i r c => ?_
  split
  · simp
  · dsimp only
    split
    · simp
    · split <;> simp

theorem State.cancelM5_keeps {s t : State} {c : Fin 16} {l : Nat} (h : s.cancelM5 c l = some t) :
    (t).tick = s.tick ∧ (t).tw.lastHb = s.tw.lastHb ∧ (t).pending = s.pending ∧ (t).model = s.model := by
  unfold State.cancelM5 at h
  dsimp only at h
  split at h
  · cases h
    simp
  · split at h
    · cases h
      simp
    · cases h

@[simp] theorem State.carCall_keeps (s : State) (fr : Frame) :
    (State.carCall s fr).tick = s.tick ∧ (State.carCall s fr).tw.lastHb = s.tw.lastHb ∧ (State.carCall s fr).pending = s.pending ∧ (State.carCall s fr).model = s.model := by
  unfold State.carCall
  refine State.onPrivileged_keeps _ _ _ _ _ fun s m i r c => ?_
  dsimp only
  split
  · simp
  · split
    · split
      · simp
      · split
        · simp
        · split
          · simp
          · split
            · rcases hq : State.cancelM5 _ _ _ with _ | t
              · simp
              · have hk := State.cancelM5_keeps hq
                simpa using hk
            · split <;> simp
    · simp

@[simp] theorem State.sendLanding_keeps (s : State) (m : Model) (i : Nat) (r : NodeRec) (body : List Byte) :
    (State.sendLanding s m i r body).tick = s.tick ∧ (State.sendLanding s m i r body).tw.lastHb = s.tw.lastHb ∧ (State.sendLanding s m i r body).pending = s.pending ∧ (State.sendLanding s m i r body).model = s.model := by
  unfold State.sendLanding; (repeat' split) <;> simp [↓each_tick, ↓each_lastHb, ↓each_pending, ↓each_model]

@[simp] theorem State.sendCarCalls_keeps (s : State) (i : Nat) (c : Fin 16) (body : List Byte) :
    (State.sendCarCalls s i c body).tick = s.tick ∧ (State.sendCarCalls s i c body).tw.lastHb = s.tw.lastHb ∧ (State.sendCarCalls s i c body).pending = s.pending ∧ (State.sendCarCalls s i c body).model = s.model := by
  unfold State.sendCarCalls; (repeat' split) <;> simp [↓each_tick, ↓each_lastHb, ↓each_pending, ↓each_model]

@[simp] theorem State.publishNodes_keeps (s : State) (m : Model) (cc : Fin 4) (all : Bool) :
    (State.publishNodes s m cc all).tick = s.tick ∧ (State.publishNodes s m cc all).tw.lastHb = s.tw.lastHb ∧ (State.publishNodes s m cc all).pending = s.pending ∧ (State.publishNodes s m cc all).model = s.model := by
  unfold State.publishNodes; refine each_keeps4 _ _ _ fun s a => ?_; dsimp only; (repeat' split) <;> simp [↓each_tick, ↓each_lastHb, ↓each_pending, ↓each_model]

@[simp] theorem State.publishAllocations_keeps (s : State) (m : Model) (cc : Fin 4) :
    (State.publishAllocations s m cc).tick = s.tick ∧ (State.publishAllocations s m cc).tw.lastHb = s.tw.lastHb ∧ (State.publishAllocations s m cc).pending = s.pending ∧ (State.publishAllocations s m cc).model = s.model := by
  unfold State.publishAllocations; (repeat' split) <;> first | (simp [↓each_tick, ↓each_lastHb, ↓each_pending, ↓each_model]; done) | (refine each_keeps4 _ _ _ fun s a => ?_; dsimp only; (repeat' split) <;> simp [↓each_tick, ↓each_lastHb, ↓each_pending, ↓each_model]) | (refine each_keeps4 _ _ _ fun s a => ?_; (repeat' split) <;> simp [↓each_tick, ↓each_lastHb, ↓each_pending, ↓each_model])

@[simp] theorem State.publishCore_keeps (s : State) (m : Model) (cc : Fin 4) :
    (State.publishCore s m cc).tick = s.tick ∧ (State.publishCore s m cc).tw.lastHb = s.tw.lastHb ∧ (State.publishCore s m cc).pending = s.pending ∧ (State.publishCore s m cc).model = s.model := by
  unfold State.publishCore; dsimp only; (repeat' split) <;> simp [↓each_tick, ↓each_lastHb, ↓each_pending, ↓each_model]

@[simp] theorem State.dispatchEvent_keeps (s : State) (kind : Nat) :
    (State.dispatchEvent s kind).tick = s.tick ∧ (State.dispatchEvent s kind).tw.lastHb = s.tw.lastHb ∧ (State.dispatchEvent s kind).pending = s.pending ∧ (State.dispatchEvent s kind).model = s.model := by
  refine ⟨?_, ?_, ?_, ?_⟩ <;> simp [State.dispatchEvent, ↓each_tick, ↓each_lastHb, ↓each_pending, ↓each_model]

@[simp] theorem State.checkDigest_keeps (s : State) :
    (State.checkDigest s).tick = s.tick ∧ (State.checkDigest s).tw.lastHb = s.tw.lastHb ∧ (State.checkDigest s).pending = s.pending ∧ (State.checkDigest s).model = s.model := by
  unfold State.checkDigest; (repeat' split) <;> simp [↓each_tick, ↓each_lastHb, ↓each_pending, ↓each_model]

@[simp] theorem State.putTrace_keeps (s : State) (k : Nat) (t : BitVec 32) (bs : List Byte) :
    (State.putTrace s k t bs).tick = s.tick ∧ (State.putTrace s k t bs).tw.lastHb = s.tw.lastHb ∧ (State.putTrace s k t bs).pending = s.pending ∧ (State.putTrace s k t bs).model = s.model := by
  induction k generalizing s bs with
  | zero => simp [State.putTrace]
  | succ k ih =>
    unfold State.putTrace
    split
    · simp
    · simp [ih]

@[simp] theorem State.traceRun_keeps (s : State) (snap : Snap) (r : Option Result) :
    (State.traceRun s snap r).tick = s.tick ∧ (State.traceRun s snap r).tw.lastHb = s.tw.lastHb ∧ (State.traceRun s snap r).pending = s.pending ∧ (State.traceRun s snap r).model = s.model := by
  unfold State.traceRun
  split <;> simp

@[simp] theorem State.abandonRun_keeps (s : State) :
    (State.abandonRun s).tick = s.tick ∧ (State.abandonRun s).tw.lastHb = s.tw.lastHb ∧ (State.abandonRun s).pending = s.pending ∧ (State.abandonRun s).model = s.model := by
  unfold State.abandonRun; (repeat' split) <;> simp [↓each_tick, ↓each_lastHb, ↓each_pending, ↓each_model]

@[simp] theorem State.digestRun_keeps (s : State) (snap : Snap) (r : Result) :
    (State.digestRun s snap r).tick = s.tick ∧ (State.digestRun s snap r).tw.lastHb = s.tw.lastHb ∧ (State.digestRun s snap r).pending = s.pending ∧ (State.digestRun s snap r).model = s.model := by
  unfold State.digestRun; (repeat' split) <;> simp [↓each_tick, ↓each_lastHb, ↓each_pending, ↓each_model]

@[simp] theorem State.settleRun_keeps (s : State) (us : Nat) (r : Result) :
    (State.settleRun s us r).tick = s.tick ∧ (State.settleRun s us r).tw.lastHb = s.tw.lastHb ∧ (State.settleRun s us r).pending = s.pending ∧ (State.settleRun s us r).model = s.model := by
  unfold State.settleRun; (repeat' split) <;> simp [↓each_tick, ↓each_lastHb, ↓each_pending, ↓each_model]

@[simp] theorem State.solverRunComplete_keeps (s : State) (us : Nat) :
    (State.solverRunComplete s us).tick = s.tick ∧ (State.solverRunComplete s us).tw.lastHb = s.tw.lastHb ∧ (State.solverRunComplete s us).pending = s.pending ∧ (State.solverRunComplete s us).model = s.model := by
  unfold State.solverRunComplete
  split
  · split
    · simp
    · dsimp only
      simp
  · simp

@[simp] theorem State.nearestCarFallback_keeps (s : State) :
    (State.nearestCarFallback s).tick = s.tick ∧ (State.nearestCarFallback s).tw.lastHb = s.tw.lastHb ∧ (State.nearestCarFallback s).pending = s.pending ∧ (State.nearestCarFallback s).model = s.model := by
  unfold State.nearestCarFallback; (repeat' split) <;> simp [↓each_tick, ↓each_lastHb, ↓each_pending, ↓each_model]

@[simp] theorem State.reopenCall_keeps (s : State) (x : Call) :
    (State.reopenCall s x).tick = s.tick ∧ (State.reopenCall s x).tw.lastHb = s.tw.lastHb ∧ (State.reopenCall s x).pending = s.pending ∧ (State.reopenCall s x).model = s.model := by
  refine ⟨?_, ?_, ?_, ?_⟩ <;> simp [State.reopenCall, ↓each_tick, ↓each_lastHb, ↓each_pending, ↓each_model]

@[simp] theorem State.freezeCall_keeps (s : State) (x : Call) (c : Fin 16) :
    (State.freezeCall s x c).tick = s.tick ∧ (State.freezeCall s x c).tw.lastHb = s.tw.lastHb ∧ (State.freezeCall s x c).pending = s.pending ∧ (State.freezeCall s x c).model = s.model := by
  unfold State.freezeCall; (repeat' split) <;> simp [↓each_tick, ↓each_lastHb, ↓each_pending, ↓each_model]

@[simp] theorem State.settleCall_keeps (s : State) (m : Model) (etas : List (Nat × Nat)) (fresh : Bool) (slot : Nat) :
    (State.settleCall s m etas fresh slot).tick = s.tick ∧ (State.settleCall s m etas fresh slot).tw.lastHb = s.tw.lastHb ∧ (State.settleCall s m etas fresh slot).pending = s.pending ∧ (State.settleCall s m etas fresh slot).model = s.model := by
  unfold State.settleCall; dsimp only; (repeat' split) <;> simp [↓each_tick, ↓each_lastHb, ↓each_pending, ↓each_model]

@[simp] theorem State.cancelNone_keeps (s : State) (c : Fin 16) :
    (State.cancelNone s c).tick = s.tick ∧ (State.cancelNone s c).tw.lastHb = s.tw.lastHb ∧ (State.cancelNone s c).pending = s.pending ∧ (State.cancelNone s c).model = s.model := by
  unfold State.cancelNone; (repeat' split) <;> simp [↓each_tick, ↓each_lastHb, ↓each_pending, ↓each_model]

@[simp] theorem State.summarize_keeps (s : State) :
    (State.summarize s).tick = s.tick ∧ (State.summarize s).tw.lastHb = s.tw.lastHb ∧ (State.summarize s).pending = s.pending ∧ (State.summarize s).model = s.model := by
  refine ⟨?_, ?_, ?_, ?_⟩ <;> simp [State.summarize, ↓each_tick, ↓each_lastHb, ↓each_pending, ↓each_model]

@[simp] theorem State.takeForce_keeps (s : State) (m : Model) :
    (State.takeForce s m).tick = s.tick ∧ (State.takeForce s m).tw.lastHb = s.tw.lastHb ∧ (State.takeForce s m).pending = s.pending ∧ (State.takeForce s m).model = s.model := by
  unfold State.takeForce; dsimp only; (repeat' split) <;> simp [↓each_tick, ↓each_lastHb, ↓each_pending, ↓each_model]

@[simp] theorem State.takeSnap_keeps (s : State) (m : Model) :
    (State.takeSnap s m).tick = s.tick ∧ (State.takeSnap s m).tw.lastHb = s.tw.lastHb ∧ (State.takeSnap s m).pending = s.pending ∧ (State.takeSnap s m).model = s.model := by
  refine ⟨?_, ?_, ?_, ?_⟩ <;> simp [State.takeSnap, ↓each_tick, ↓each_lastHb, ↓each_pending, ↓each_model]

@[simp] theorem State.serveCall_keeps (s : State) (c : Fin 16) (l side : Nat) (stop : Option Stop) (x : Call) :
    (State.serveCall s c l side stop x).tick = s.tick ∧ (State.serveCall s c l side stop x).tw.lastHb = s.tw.lastHb ∧ (State.serveCall s c l side stop x).pending = s.pending ∧ (State.serveCall s c l side stop x).model = s.model := by
  unfold State.serveCall; dsimp only; (repeat' split) <;> simp [↓each_tick, ↓each_lastHb, ↓each_pending, ↓each_model]

@[simp] theorem State.stopServed_keeps (s : State) (d : Fin 32) :
    (State.stopServed s d).tick = s.tick ∧ (State.stopServed s d).tw.lastHb = s.tw.lastHb ∧ (State.stopServed s d).pending = s.pending ∧ (State.stopServed s d).model = s.model := by
  unfold State.stopServed; dsimp only; (repeat' split) <;> simp [↓each_tick, ↓each_lastHb, ↓each_pending, ↓each_model]

@[simp] theorem State.freezeCommitted_keeps (s : State) (m : Model) (c : Fin 16) :
    (State.freezeCommitted s m c).tick = s.tick ∧ (State.freezeCommitted s m c).tw.lastHb = s.tw.lastHb ∧ (State.freezeCommitted s m c).pending = s.pending ∧ (State.freezeCommitted s m c).model = s.model := by
  unfold State.freezeCommitted; dsimp only; (repeat' split) <;> simp [↓each_tick, ↓each_lastHb, ↓each_pending, ↓each_model]

@[simp] theorem State.cancelUnserved_keeps (s : State) (m : Model) :
    (State.cancelUnserved s m).tick = s.tick ∧ (State.cancelUnserved s m).tw.lastHb = s.tw.lastHb ∧ (State.cancelUnserved s m).pending = s.pending ∧ (State.cancelUnserved s m).model = s.model := by
  refine ⟨?_, ?_, ?_, ?_⟩ <;> simp [State.cancelUnserved, ↓each_tick, ↓each_lastHb, ↓each_pending, ↓each_model]

@[simp] theorem State.takeRequests_keeps (s : State) (m : Model) (c : Fin 16) :
    (State.takeRequests s m c).tick = s.tick ∧ (State.takeRequests s m c).tw.lastHb = s.tw.lastHb ∧ (State.takeRequests s m c).pending = s.pending ∧ (State.takeRequests s m c).model = s.model := by
  refine ⟨?_, ?_, ?_, ?_⟩ <;> simp [State.takeRequests, ↓each_tick, ↓each_lastHb, ↓each_pending, ↓each_model]

@[simp] theorem State.modeEvent_keeps (s : State) (c : Fin 16) (old new src : Nat) :
    (State.modeEvent s c old new src).tick = s.tick ∧ (State.modeEvent s c old new src).tw.lastHb = s.tw.lastHb ∧ (State.modeEvent s c old new src).pending = s.pending ∧ (State.modeEvent s c old new src).model = s.model := by
  refine ⟨?_, ?_, ?_, ?_⟩ <;> simp [State.modeEvent, ↓each_tick, ↓each_lastHb, ↓each_pending, ↓each_model]

@[simp] theorem State.withdrawRun_keeps (s : State) (c : Fin 16) :
    (State.withdrawRun s c).tick = s.tick ∧ (State.withdrawRun s c).tw.lastHb = s.tw.lastHb ∧ (State.withdrawRun s c).pending = s.pending ∧ (State.withdrawRun s c).model = s.model := by
  unfold State.withdrawRun; (repeat' split) <;> simp [↓each_tick, ↓each_lastHb, ↓each_pending, ↓each_model]

@[simp] theorem State.runTo_keeps (s : State) (m : Model) (c : Fin 16) (l : Nat) :
    (State.runTo s m c l).tick = s.tick ∧ (State.runTo s m c l).tw.lastHb = s.tw.lastHb ∧ (State.runTo s m c l).pending = s.pending ∧ (State.runTo s m c l).model = s.model := by
  unfold State.runTo; (repeat' split) <;> simp [↓each_tick, ↓each_lastHb, ↓each_pending, ↓each_model]

@[simp] theorem State.quickStop_keeps (s : State) (m : Model) (c : Fin 16) (home : Option Nat) :
    (State.quickStop s m c home).tick = s.tick ∧ (State.quickStop s m c home).tw.lastHb = s.tw.lastHb ∧ (State.quickStop s m c home).pending = s.pending ∧ (State.quickStop s m c home).model = s.model := by
  unfold State.quickStop; dsimp only; (repeat' split) <;> simp [↓each_tick, ↓each_lastHb, ↓each_pending, ↓each_model]

@[simp] theorem State.lowerModeCap_keeps (s : State) (m : Model) (c : Fin 16) :
    (State.lowerModeCap s m c).tick = s.tick ∧ (State.lowerModeCap s m c).tw.lastHb = s.tw.lastHb ∧ (State.lowerModeCap s m c).pending = s.pending ∧ (State.lowerModeCap s m c).model = s.model := by
  unfold State.lowerModeCap; dsimp only; (repeat' split) <;> simp [↓each_tick, ↓each_lastHb, ↓each_pending, ↓each_model]

@[simp] theorem State.leaveMode_keeps (s : State) (c : Fin 16) (old new : Nat) :
    (State.leaveMode s c old new).tick = s.tick ∧ (State.leaveMode s c old new).tw.lastHb = s.tw.lastHb ∧ (State.leaveMode s c old new).pending = s.pending ∧ (State.leaveMode s c old new).model = s.model := by
  unfold State.leaveMode; dsimp only; (repeat' split) <;> simp [↓each_tick, ↓each_lastHb, ↓each_pending, ↓each_model]

@[simp] theorem State.stopDoors_keeps (s : State) (m : Model) (c : Fin 16) :
    (State.stopDoors s m c).tick = s.tick ∧ (State.stopDoors s m c).tw.lastHb = s.tw.lastHb ∧ (State.stopDoors s m c).pending = s.pending ∧ (State.stopDoors s m c).model = s.model := by
  unfold State.stopDoors; (repeat' split) <;> first | (simp [↓each_tick, ↓each_lastHb, ↓each_pending, ↓each_model]; done) | (refine each_keeps4 _ _ _ fun s a => ?_; dsimp only; (repeat' split) <;> simp [↓each_tick, ↓each_lastHb, ↓each_pending, ↓each_model]) | (refine each_keeps4 _ _ _ fun s a => ?_; (repeat' split) <;> simp [↓each_tick, ↓each_lastHb, ↓each_pending, ↓each_model])

@[simp] theorem State.entryAction_keeps (s : State) (m : Model) (c : Fin 16) (new : Nat) :
    (State.entryAction s m c new).tick = s.tick ∧ (State.entryAction s m c new).tw.lastHb = s.tw.lastHb ∧ (State.entryAction s m c new).pending = s.pending ∧ (State.entryAction s m c new).model = s.model := by
  unfold State.entryAction; dsimp only; (repeat' split) <;> simp [↓each_tick, ↓each_lastHb, ↓each_pending, ↓each_model]

@[simp] theorem State.enterMode_keeps (s : State) (m : Model) (c : Fin 16) (new : Nat) :
    (State.enterMode s m c new).tick = s.tick ∧ (State.enterMode s m c new).tw.lastHb = s.tw.lastHb ∧ (State.enterMode s m c new).pending = s.pending ∧ (State.enterMode s m c new).model = s.model := by
  unfold State.enterMode
  dsimp only
  simp

@[simp] theorem State.modeStep_keeps (s : State) (m : Model) (c : Fin 16) :
    (State.modeStep s m c).tick = s.tick ∧ (State.modeStep s m c).tw.lastHb = s.tw.lastHb ∧ (State.modeStep s m c).pending = s.pending ∧ (State.modeStep s m c).model = s.model := by
  unfold State.modeStep; dsimp only; (repeat' split) <;> simp [↓each_tick, ↓each_lastHb, ↓each_pending, ↓each_model]

@[simp] theorem State.subStep_keeps (s : State) (m : Model) (c : Fin 16) :
    (State.subStep s m c).tick = s.tick ∧ (State.subStep s m c).tw.lastHb = s.tw.lastHb ∧ (State.subStep s m c).pending = s.pending ∧ (State.subStep s m c).model = s.model := by
  unfold State.subStep; dsimp only; (repeat' split) <;> simp [↓each_tick, ↓each_lastHb, ↓each_pending, ↓each_model]

@[simp] theorem State.holdToRun_keeps (s : State) (m : Model) (c : Fin 16) :
    (State.holdToRun s m c).tick = s.tick ∧ (State.holdToRun s m c).tw.lastHb = s.tw.lastHb ∧ (State.holdToRun s m c).pending = s.pending ∧ (State.holdToRun s m c).model = s.model := by
  unfold State.holdToRun
  dsimp only
  refine kept_trans (t := (if (s.modes.get c).mode = 9 then (s.holdDir m c, s) else s.rescueDir).2) ?_ (by split <;> simp [State.rescueDir])
  generalize (if (s.modes.get c).mode = 9 then (s.holdDir m c, s) else s.rescueDir) = q
  rcases q with ⟨dir, t⟩
  dsimp only
  (repeat' split) <;> simp

@[simp] theorem State.evacStep_keeps (s : State) (m : Model) (c : Fin 16) :
    (State.evacStep s m c).tick = s.tick ∧ (State.evacStep s m c).tw.lastHb = s.tw.lastHb ∧ (State.evacStep s m c).pending = s.pending ∧ (State.evacStep s m c).model = s.model := by
  unfold State.evacStep; dsimp only; (repeat' split) <;> simp [↓each_tick, ↓each_lastHb, ↓each_pending, ↓each_model]

@[simp] theorem State.countAttend_keeps (s : State) (m : Model) (c : Fin 16) :
    (State.countAttend s m c).tick = s.tick ∧ (State.countAttend s m c).tw.lastHb = s.tw.lastHb ∧ (State.countAttend s m c).pending = s.pending ∧ (State.countAttend s m c).model = s.model := by
  refine ⟨?_, ?_, ?_, ?_⟩ <;> simp [State.countAttend, ↓each_tick, ↓each_lastHb, ↓each_pending, ↓each_model]

@[simp] theorem State.takeRoute_keeps (s : State) (m : Model) (c : Fin 16) :
    (State.takeRoute s m c).tick = s.tick ∧ (State.takeRoute s m c).tw.lastHb = s.tw.lastHb ∧ (State.takeRoute s m c).pending = s.pending ∧ (State.takeRoute s m c).model = s.model := by
  unfold State.takeRoute; dsimp only; (repeat' split) <;> simp [↓each_tick, ↓each_lastHb, ↓each_pending, ↓each_model]

@[simp] theorem State.targetPrep_keeps (s : State) (m : Model) (c : Fin 16) :
    (State.targetPrep s m c).tick = s.tick ∧ (State.targetPrep s m c).tw.lastHb = s.tw.lastHb ∧ (State.targetPrep s m c).pending = s.pending ∧ (State.targetPrep s m c).model = s.model := by
  unfold State.targetPrep; dsimp only; (repeat' split) <;> simp [↓each_tick, ↓each_lastHb, ↓each_pending, ↓each_model]

@[simp] theorem State.m5Calls_keeps (s : State) (m : Model) (c : Fin 16) :
    (State.m5Calls s m c).tick = s.tick ∧ (State.m5Calls s m c).tw.lastHb = s.tw.lastHb ∧ (State.m5Calls s m c).pending = s.pending ∧ (State.m5Calls s m c).model = s.model := by
  unfold State.m5Calls; dsimp only; (repeat' split) <;> simp [↓each_tick, ↓each_lastHb, ↓each_pending, ↓each_model]

@[simp] theorem State.targetStep_keeps (s : State) (m : Model) (c : Fin 16) :
    (State.targetStep s m c).tick = s.tick ∧ (State.targetStep s m c).tw.lastHb = s.tw.lastHb ∧ (State.targetStep s m c).pending = s.pending ∧ (State.targetStep s m c).model = s.model := by
  unfold State.targetStep; dsimp only; (repeat' split) <;> simp [↓each_tick, ↓each_lastHb, ↓each_pending, ↓each_model]

@[simp] theorem State.doorDemand_keeps (s : State) (m : Model) (d : Fin 32) :
    (State.doorDemand s m d).tick = s.tick ∧ (State.doorDemand s m d).tw.lastHb = s.tw.lastHb ∧ (State.doorDemand s m d).pending = s.pending ∧ (State.doorDemand s m d).model = s.model := by
  unfold State.doorDemand; dsimp only; (repeat' split) <;> simp [↓each_tick, ↓each_lastHb, ↓each_pending, ↓each_model]

@[simp] theorem State.servePickup_keeps (s : State) (c : Fin 16) (side : Nat) :
    (State.servePickup s c side).tick = s.tick ∧ (State.servePickup s c side).tw.lastHb = s.tw.lastHb ∧ (State.servePickup s c side).pending = s.pending ∧ (State.servePickup s c side).model = s.model := by
  unfold State.servePickup; dsimp only; (repeat' split) <;> simp [↓each_tick, ↓each_lastHb, ↓each_pending, ↓each_model]

@[simp] theorem State.doorJob_keeps (s : State) (m : Model) (d : Fin 32) :
    (State.doorJob s m d).tick = s.tick ∧ (State.doorJob s m d).tw.lastHb = s.tw.lastHb ∧ (State.doorJob s m d).pending = s.pending ∧ (State.doorJob s m d).model = s.model := by
  unfold State.doorJob; dsimp only; (repeat' split) <;> simp [↓each_tick, ↓each_lastHb, ↓each_pending, ↓each_model]

@[simp] theorem State.dwellExpiry_keeps (s : State) (c : Fin 16) :
    (State.dwellExpiry s c).tick = s.tick ∧ (State.dwellExpiry s c).tw.lastHb = s.tw.lastHb ∧ (State.dwellExpiry s c).pending = s.pending ∧ (State.dwellExpiry s c).model = s.model := by
  unfold State.dwellExpiry
  split
  · simp
  · split
    · simp
    · refine each_keeps4 _ _ _ fun s d => ?_
      dsimp only
      split <;> simp

@[simp] theorem State.endSetModes_keeps (s : State) (c : Fin 16) :
    (State.endSetModes s c).tick = s.tick ∧ (State.endSetModes s c).tw.lastHb = s.tw.lastHb ∧ (State.endSetModes s c).pending = s.pending ∧ (State.endSetModes s c).model = s.model := by
  unfold State.endSetModes; (repeat' split) <;> first | (simp [↓each_tick, ↓each_lastHb, ↓each_pending, ↓each_model]; done) | (refine each_keeps4 _ _ _ fun s a => ?_; dsimp only; (repeat' split) <;> simp [↓each_tick, ↓each_lastHb, ↓each_pending, ↓each_model]) | (refine each_keeps4 _ _ _ fun s a => ?_; (repeat' split) <;> simp [↓each_tick, ↓each_lastHb, ↓each_pending, ↓each_model])

@[simp] theorem State.endDoorCmds_keeps (s : State) (m : Model) (c : Fin 16) :
    (State.endDoorCmds s m c).tick = s.tick ∧ (State.endDoorCmds s m c).tw.lastHb = s.tw.lastHb ∧ (State.endDoorCmds s m c).pending = s.pending ∧ (State.endDoorCmds s m c).model = s.model := by
  unfold State.endDoorCmds; (repeat' split) <;> first | (simp [↓each_tick, ↓each_lastHb, ↓each_pending, ↓each_model]; done) | (refine each_keeps4 _ _ _ fun s a => ?_; dsimp only; (repeat' split) <;> simp [↓each_tick, ↓each_lastHb, ↓each_pending, ↓each_model]) | (refine each_keeps4 _ _ _ fun s a => ?_; (repeat' split) <;> simp [↓each_tick, ↓each_lastHb, ↓each_pending, ↓each_model])

@[simp] theorem State.endEmptyRun_keeps (s : State) (c : Fin 16) :
    (State.endEmptyRun s c).tick = s.tick ∧ (State.endEmptyRun s c).tw.lastHb = s.tw.lastHb ∧ (State.endEmptyRun s c).pending = s.pending ∧ (State.endEmptyRun s c).model = s.model := by
  unfold State.endEmptyRun; (repeat' split) <;> simp [↓each_tick, ↓each_lastHb, ↓each_pending, ↓each_model]

@[simp] theorem State.refreshMode_keeps (s : State) (c : Fin 16) :
    (State.refreshMode s c).tick = s.tick ∧ (State.refreshMode s c).tw.lastHb = s.tw.lastHb ∧ (State.refreshMode s c).pending = s.pending ∧ (State.refreshMode s c).model = s.model := by
  refine ⟨?_, ?_, ?_, ?_⟩ <;> simp [State.refreshMode, ↓each_tick, ↓each_lastHb, ↓each_pending, ↓each_model]

@[simp] theorem State.carJob_keeps (s : State) (m : Model) (c : Fin 16) :
    (State.carJob s m c).tick = s.tick ∧ (State.carJob s m c).tw.lastHb = s.tw.lastHb ∧ (State.carJob s m c).pending = s.pending ∧ (State.carJob s m c).model = s.model := by
  unfold State.carJob; dsimp only; (repeat' split) <;> simp [↓each_tick, ↓each_lastHb, ↓each_pending, ↓each_model]

end Sys2Proof.Machine
end

