-- ==== Sys2Proof/Laws/KeepsHost.lean ====
section
/-! SUPPORT. What the operations of Parse.lean, Checks.lean, Image.lean, Operands.lean, Host.lean, Faults.lean, Power.lean, Commands.lean, Flags.lean, Registers.lean, Timebase.lean leave alone: the tick counters, the last heartbeat, the queue
and the building model in force. -/

namespace Sys2Proof.Machine

open State

@[simp] theorem State.imageEvent_keeps (s : State) (code : Nat) (seq : BitVec 32) (applyT2 : BitVec 32) (digest : List Byte) :
    (State.imageEvent s code seq applyT2 digest).tick = s.tick ∧ (State.imageEvent s code seq applyT2 digest).tw.lastHb = s.tw.lastHb ∧ (State.imageEvent s code seq applyT2 digest).pending = s.pending ∧ (State.imageEvent s code seq applyT2 digest).model = s.model := by
  refine ⟨?_, ?_, ?_, ?_⟩ <;> simp [State.imageEvent, ↓each_tick, ↓each_lastHb, ↓each_pending, ↓each_model]

@[simp] theorem State.finishLoad_keeps (s : State) (st : CplStatus) (code : Nat) (result : BitVec 32) :
    (State.finishLoad s st code result).tick = s.tick ∧ (State.finishLoad s st code result).tw.lastHb = s.tw.lastHb ∧ (State.finishLoad s st code result).pending = s.pending ∧ (State.finishLoad s st code result).model = s.model := by
  unfold State.finishLoad; (repeat' split) <;> simp [↓each_tick, ↓each_lastHb, ↓each_pending, ↓each_model]

@[simp] theorem State.oweAnswer_keeps (s : State) (code : Nat) (digest : List Byte) :
    (State.oweAnswer s code digest).tick = s.tick ∧ (State.oweAnswer s code digest).tw.lastHb = s.tw.lastHb ∧ (State.oweAnswer s code digest).pending = s.pending ∧ (State.oweAnswer s code digest).model = s.model := by
  refine ⟨?_, ?_, ?_, ?_⟩ <;> simp [State.oweAnswer, ↓each_tick, ↓each_lastHb, ↓each_pending, ↓each_model]

@[simp] theorem State.rejectImage_keeps (s : State) (code : Nat) :
    (State.rejectImage s code).tick = s.tick ∧ (State.rejectImage s code).tw.lastHb = s.tw.lastHb ∧ (State.rejectImage s code).pending = s.pending ∧ (State.rejectImage s code).model = s.model := by
  unfold State.rejectImage; dsimp only; (repeat' split) <;> simp [↓each_tick, ↓each_lastHb, ↓each_pending, ↓each_model]

@[simp] theorem State.makePending_keeps (s : State) (bs : List Byte) (from_ : ImgOrigin) (k : Fin 4) :
    (State.makePending s bs from_ k).tick = s.tick ∧ (State.makePending s bs from_ k).tw.lastHb = s.tw.lastHb ∧ (State.makePending s bs from_ k).pending = s.pending ∧ (State.makePending s bs from_ k).model = s.model := by
  unfold State.makePending; dsimp only; (repeat' split) <;> simp [↓each_tick, ↓each_lastHb, ↓each_pending, ↓each_model]

@[simp] theorem State.imageVerified_keeps (s : State) (flashOk : Bool) :
    (State.imageVerified s flashOk).tick = s.tick ∧ (State.imageVerified s flashOk).tw.lastHb = s.tw.lastHb ∧ (State.imageVerified s flashOk).pending = s.pending ∧ (State.imageVerified s flashOk).model = s.model := by
  unfold State.imageVerified; dsimp only; (repeat' split) <;> simp [↓each_tick, ↓each_lastHb, ↓each_pending, ↓each_model]

@[simp] theorem State.chooseA_keeps (s : State) (p : PendingImg) (tell : Bool) :
    (State.chooseA s p tell).tick = s.tick ∧ (State.chooseA s p tell).tw.lastHb = s.tw.lastHb ∧ (State.chooseA s p tell).pending = s.pending ∧ (State.chooseA s p tell).model = s.model := by
  unfold State.chooseA; (repeat' split) <;> simp [↓each_tick, ↓each_lastHb, ↓each_pending, ↓each_model]

@[simp] theorem State.learnA_keeps (s : State) (a seq : BitVec 32) :
    (State.learnA s a seq).tick = s.tick ∧ (State.learnA s a seq).tw.lastHb = s.tw.lastHb ∧ (State.learnA s a seq).pending = s.pending ∧ (State.learnA s a seq).model = s.model := by
  refine ⟨?_, ?_, ?_, ?_⟩ <;> simp [State.learnA, ↓each_tick, ↓each_lastHb, ↓each_pending, ↓each_model]

@[simp] theorem State.peerVerifyResult_keeps (s : State) (code : BitVec 8) (digest : List Byte) :
    (State.peerVerifyResult s code digest).tick = s.tick ∧ (State.peerVerifyResult s code digest).tw.lastHb = s.tw.lastHb ∧ (State.peerVerifyResult s code digest).pending = s.pending ∧ (State.peerVerifyResult s code digest).model = s.model := by
  unfold State.peerVerifyResult; (repeat' split) <;> simp [↓each_tick, ↓each_lastHb, ↓each_pending, ↓each_model]

@[simp] theorem State.pendingAlone_keeps (s : State) :
    (State.pendingAlone s).tick = s.tick ∧ (State.pendingAlone s).tw.lastHb = s.tw.lastHb ∧ (State.pendingAlone s).pending = s.pending ∧ (State.pendingAlone s).model = s.model := by
  unfold State.pendingAlone; (repeat' split) <;> simp [↓each_tick, ↓each_lastHb, ↓each_pending, ↓each_model]

@[simp] theorem State.startCar_keeps (s : State) (c : Fin 16) :
    (State.startCar s c).tick = s.tick ∧ (State.startCar s c).tw.lastHb = s.tw.lastHb ∧ (State.startCar s c).pending = s.pending ∧ (State.startCar s c).model = s.model := by
  unfold State.startCar; dsimp only; (repeat' split) <;> simp [↓each_tick, ↓each_lastHb, ↓each_pending, ↓each_model]

@[simp] theorem State.applyPort_keeps (s : State) (old : Option Model) (m : Model) (n : Fin 48) :
    (State.applyPort s old m n).tick = s.tick ∧ (State.applyPort s old m n).tw.lastHb = s.tw.lastHb ∧ (State.applyPort s old m n).pending = s.pending ∧ (State.applyPort s old m n).model = s.model := by
  unfold State.applyPort; dsimp only; (repeat' split) <;> simp [↓each_tick, ↓each_lastHb, ↓each_pending, ↓each_model]

@[simp] theorem State.loadUnits_keeps (s : State) (old : Option Model) (m : Model) :
    (State.loadUnits s old m).tick = s.tick ∧ (State.loadUnits s old m).tw.lastHb = s.tw.lastHb ∧ (State.loadUnits s old m).pending = s.pending ∧ (State.loadUnits s old m).model = s.model := by
  unfold State.loadUnits
  exact kept_trans (each_keeps4 _ _ _ fun s a => by simp) (kept_trans (each_keeps4 _ _ _ fun s a => by simp)
    (each_keeps4 _ _ _ fun s a => by simp))

@[simp] theorem State.enterCar_keeps (s : State) (old : Option Model) (m : Model) (c : Fin 16) :
    (State.enterCar s old m c).tick = s.tick ∧ (State.enterCar s old m c).tw.lastHb = s.tw.lastHb ∧ (State.enterCar s old m c).pending = s.pending ∧ (State.enterCar s old m c).model = s.model := by
  unfold State.enterCar; (repeat' split) <;> simp [↓each_tick, ↓each_lastHb, ↓each_pending, ↓each_model]

@[simp] theorem State.freeCar_keeps (s : State) (m : Model) (c : Fin 16) :
    (State.freeCar s m c).tick = s.tick ∧ (State.freeCar s m c).tw.lastHb = s.tw.lastHb ∧ (State.freeCar s m c).pending = s.pending ∧ (State.freeCar s m c).model = s.model := by
  refine ⟨?_, ?_, ?_, ?_⟩ <;> simp [State.freeCar, ↓each_tick, ↓each_lastHb, ↓each_pending, ↓each_model]

@[simp] theorem State.freeSide_keeps (s : State) (d : Fin 32) :
    (State.freeSide s d).tick = s.tick ∧ (State.freeSide s d).tw.lastHb = s.tw.lastHb ∧ (State.freeSide s d).pending = s.pending ∧ (State.freeSide s d).model = s.model := by simp [State.freeSide]

theorem State.startCars_keeps (s : State) (p : Bool) (l : List (Fin 16)) :
    (if p then s.each l State.startCar else s).tick = s.tick ∧ (if p then s.each l State.startCar else s).tw.lastHb = s.tw.lastHb ∧ (if p then s.each l State.startCar else s).pending = s.pending ∧ (if p then s.each l State.startCar else s).model = s.model := by
  split
  · exact each_keeps4 _ _ _ fun s a => by simp
  · simp

theorem State.installModel_keeps (s : State) (m : Model) (cars : BitVec 16) :
    (State.installModel s m cars).tick = s.tick ∧ (State.installModel s m cars).tw.lastHb = s.tw.lastHb ∧
      (State.installModel s m cars).pending = s.pending ∧ (State.installModel s m cars).model = some m := by
  have a (s : State) (old : Option Model) := each_keeps4 s (idx 16) (fun s c => s.enterCar old m c) fun s c => by simp
  have b (s : State) := each_keeps4 s (idx 16) (fun s c => s.freeCar m c) fun s c => by simp
  have c (s : State) := each_keeps4 s (idx 32) State.freeSide fun s c => by simp
  have e (s : State) (l : List (Fin 32)) := each_keeps4 s l (fun s d => s.updSide d fun _ => Side.zero) fun s d => by simp
  unfold State.installModel
  dsimp only
  simp only [State.startCars_keeps]
  simp [a, b, c, e]

theorem State.applyImage_keeps (s : State) (p : PendingImg) :
    (State.applyImage s p).tick = s.tick ∧ (State.applyImage s p).tw.lastHb = s.tw.lastHb ∧
      (State.applyImage s p).pending = s.pending ∧ (State.applyImage s p).model = some p.model := by
  unfold State.applyImage
  dsimp only
  have a := each_keeps4 s (idx 48) (fun s k => s.abortInjection k 0x23) fun s k => by simp
  simp [State.installModel_keeps, a]

theorem State.imageT2_keeps (s : State) :
    (State.imageT2 s).tick = s.tick ∧ (State.imageT2 s).tw.lastHb = s.tw.lastHb ∧ (State.imageT2 s).pending = s.pending := by
  unfold State.imageT2
  dsimp only
  split
  · simp
  · split
    · simp
    · split
      · split
        · simp [State.applyImage_keeps]
        · simp
      · simp

@[simp] theorem State.imageNotQuiet_keeps (s : State) :
    (State.imageNotQuiet s).tick = s.tick ∧ (State.imageNotQuiet s).tw.lastHb = s.tw.lastHb ∧ (State.imageNotQuiet s).pending = s.pending ∧ (State.imageNotQuiet s).model = s.model := by
  unfold State.imageNotQuiet; (repeat' split) <;> simp [↓each_tick, ↓each_lastHb, ↓each_pending, ↓each_model]

@[simp] theorem State.sealLost_keeps (s : State) :
    (State.sealLost s).tick = s.tick ∧ (State.sealLost s).tw.lastHb = s.tw.lastHb ∧ (State.sealLost s).pending = s.pending ∧ (State.sealLost s).model = s.model := by
  unfold State.sealLost; (repeat' split) <;> simp [↓each_tick, ↓each_lastHb, ↓each_pending, ↓each_model]

theorem State.loadBest_keeps (s : State) :
    (State.loadBest s).tick = s.tick ∧ (State.loadBest s).tw.lastHb = s.tw.lastHb ∧ (State.loadBest s).pending = s.pending := by
  unfold State.loadBest
  dsimp only
  split
  · simp [↓each_tick, ↓each_lastHb, ↓each_pending, ↓each_model]
  · simp [↓each_tick, ↓each_lastHb, ↓each_pending, ↓each_model, State.installModel_keeps]

@[simp] theorem State.sendVec_keeps (s : State) (v : Fin 16) :
    (State.sendVec s v).tick = s.tick ∧ (State.sendVec s v).tw.lastHb = s.tw.lastHb ∧ (State.sendVec s v).pending = s.pending ∧ (State.sendVec s v).model = s.model := by
  refine ⟨?_, ?_, ?_, ?_⟩ <;> simp [State.sendVec, ↓each_tick, ↓each_lastHb, ↓each_pending, ↓each_model]

@[simp] theorem State.askVec_keeps (s : State) (v : Fin 16) (now : Bool) :
    (State.askVec s v now).tick = s.tick ∧ (State.askVec s v now).tw.lastHb = s.tw.lastHb ∧ (State.askVec s v now).pending = s.pending ∧ (State.askVec s v now).model = s.model := by
  unfold State.askVec; (repeat' split) <;> simp [↓each_tick, ↓each_lastHb, ↓each_pending, ↓each_model]

@[simp] theorem State.irqModerationEnd_keeps (s : State) (v : Fin 16) :
    (State.irqModerationEnd s v).tick = s.tick ∧ (State.irqModerationEnd s v).tw.lastHb = s.tw.lastHb ∧ (State.irqModerationEnd s v).pending = s.pending ∧ (State.irqModerationEnd s v).model = s.model := by
  unfold State.irqModerationEnd; dsimp only; (repeat' split) <;> simp [↓each_tick, ↓each_lastHb, ↓each_pending, ↓each_model]

@[simp] theorem State.askVectors_keeps (s : State) (old new : List Byte) :
    (State.askVectors s old new).tick = s.tick ∧ (State.askVectors s old new).tw.lastHb = s.tw.lastHb ∧ (State.askVectors s old new).pending = s.pending ∧ (State.askVectors s old new).model = s.model := by
  have last (s : State) (p : Bool) (k : Fin 16) : (if p then s.askVec k false else s).tick = s.tick ∧ (if p then s.askVec k false else s).tw.lastHb = s.tw.lastHb ∧ (if p then s.askVec k false else s).pending = s.pending ∧ (if p then s.askVec k false else s).model = s.model := by split <;> simp
  unfold State.askVectors
  dsimp only
  exact kept_trans (last _ _ _) (each_keeps4 _ _ _ fun s r => by split <;> simp)

@[simp] theorem State.statusBlockWrite_keeps (s : State) :
    (State.statusBlockWrite s).tick = s.tick ∧ (State.statusBlockWrite s).tw.lastHb = s.tw.lastHb ∧ (State.statusBlockWrite s).pending = s.pending ∧ (State.statusBlockWrite s).model = s.model := by
  unfold State.statusBlockWrite
  split
  · simp
  · dsimp only
    split <;> simp

@[simp] theorem State.ignoreDoorbell_keeps (s : State) (lost : Bool) :
    (State.ignoreDoorbell s lost).tick = s.tick ∧ (State.ignoreDoorbell s lost).tw.lastHb = s.tw.lastHb ∧ (State.ignoreDoorbell s lost).pending = s.pending ∧ (State.ignoreDoorbell s lost).model = s.model := by
  refine ⟨?_, ?_, ?_, ?_⟩ <;> simp [State.ignoreDoorbell, ↓each_tick, ↓each_lastHb, ↓each_pending, ↓each_model]

theorem State.doorbell_keeps (s : State) (v : BitVec 32) (n : Nat) (ok : Nat → Bool) (act : State → Nat → State)
    (h : ∀ s i, (act s i).tick = s.tick ∧ (act s i).tw.lastHb = s.tw.lastHb ∧ (act s i).pending = s.pending ∧ (act s i).model = s.model) :
    (State.doorbell s v n ok act).tick = s.tick ∧ (State.doorbell s v n ok act).tw.lastHb = s.tw.lastHb ∧ (State.doorbell s v n ok act).pending = s.pending ∧ (State.doorbell s v n ok act).model = s.model := by
  unfold State.doorbell
  dsimp only
  (repeat' split) <;> simp [h]

@[simp] theorem State.tailDoorbell_keeps (s : State) (r : Fin 6) (v : BitVec 32) :
    (State.tailDoorbell s r v).tick = s.tick ∧ (State.tailDoorbell s r v).tw.lastHb = s.tw.lastHb ∧ (State.tailDoorbell s r v).pending = s.pending ∧ (State.tailDoorbell s r v).model = s.model := by
  unfold State.tailDoorbell; exact State.doorbell_keeps _ _ _ _ _ fun s i => by (repeat' split) <;> simp

@[simp] theorem State.headDoorbell_keeps (s : State) (r : Fin 6) (v : BitVec 32) :
    (State.headDoorbell s r v).tick = s.tick ∧ (State.headDoorbell s r v).tw.lastHb = s.tw.lastHb ∧ (State.headDoorbell s r v).pending = s.pending ∧ (State.headDoorbell s r v).model = s.model := by
  unfold State.headDoorbell; exact State.doorbell_keeps _ _ _ _ _ fun s i => by (repeat' split) <;> simp

@[simp] theorem State.evtDoorbell_keeps (s : State) (v : BitVec 32) :
    (State.evtDoorbell s v).tick = s.tick ∧ (State.evtDoorbell s v).tw.lastHb = s.tw.lastHb ∧ (State.evtDoorbell s v).pending = s.pending ∧ (State.evtDoorbell s v).model = s.model := by
  unfold State.evtDoorbell; dsimp only; (repeat' split) <;> simp [↓each_tick, ↓each_lastHb, ↓each_pending, ↓each_model]

@[simp] theorem State.cplDoorbell_keeps (s : State) (v : BitVec 32) :
    (State.cplDoorbell s v).tick = s.tick ∧ (State.cplDoorbell s v).tw.lastHb = s.tw.lastHb ∧ (State.cplDoorbell s v).pending = s.pending ∧ (State.cplDoorbell s v).model = s.model := by
  unfold State.cplDoorbell; exact State.doorbell_keeps _ _ _ _ _ fun s i => by (repeat' split) <;> simp

@[simp] theorem State.hiEnable_keeps (s : State) (v : BitVec 32) :
    (State.hiEnable s v).tick = s.tick ∧ (State.hiEnable s v).tw.lastHb = s.tw.lastHb ∧ (State.hiEnable s v).pending = s.pending ∧ (State.hiEnable s v).model = s.model := by
  unfold State.hiEnable; dsimp only; (repeat' split) <;> simp [↓each_tick, ↓each_lastHb, ↓each_pending, ↓each_model]

@[simp] theorem State.hiDisable_keeps (s : State) (v : BitVec 32) :
    (State.hiDisable s v).tick = s.tick ∧ (State.hiDisable s v).tw.lastHb = s.tw.lastHb ∧ (State.hiDisable s v).pending = s.pending ∧ (State.hiDisable s v).model = s.model := by
  unfold State.hiDisable; (repeat' split) <;> simp [↓each_tick, ↓each_lastHb, ↓each_pending, ↓each_model]

@[simp] theorem State.fetched_keeps (s : State) (r : Fin 6) (c : TagClass) :
    (State.fetched s r c).tick = s.tick ∧ (State.fetched s r c).tw.lastHb = s.tw.lastHb ∧ (State.fetched s r c).pending = s.pending ∧ (State.fetched s r c).model = s.model := by
  refine ⟨?_, ?_, ?_, ?_⟩ <;> simp [State.fetched, ↓each_tick, ↓each_lastHb, ↓each_pending, ↓each_model]

@[simp] theorem State.cmdFetch_keeps (s : State) (bytes : List Byte) :
    (State.cmdFetch s bytes).tick = s.tick ∧ (State.cmdFetch s bytes).tw.lastHb = s.tw.lastHb ∧ (State.cmdFetch s bytes).pending = s.pending ∧ (State.cmdFetch s bytes).model = s.model := by
  unfold State.cmdFetch; dsimp only; (repeat' split) <;> simp [↓each_tick, ↓each_lastHb, ↓each_pending, ↓each_model]

@[simp] theorem State.callFetch_keeps (s : State) (bytes : List Byte) :
    (State.callFetch s bytes).tick = s.tick ∧ (State.callFetch s bytes).tw.lastHb = s.tw.lastHb ∧ (State.callFetch s bytes).pending = s.pending ∧ (State.callFetch s bytes).model = s.model := by
  unfold State.callFetch; (repeat' split) <;> simp [↓each_tick, ↓each_lastHb, ↓each_pending, ↓each_model]

@[simp] theorem State.endpointReset_keeps (s : State) (k : EndpointReset) :
    (State.endpointReset s k).tick = s.tick ∧ (State.endpointReset s k).tw.lastHb = s.tw.lastHb ∧ (State.endpointReset s k).pending = s.pending ∧ (State.endpointReset s k).model = s.model := by
  unfold State.endpointReset; (repeat' split) <;> simp [↓each_tick, ↓each_lastHb, ↓each_pending, ↓each_model]

@[simp] theorem State.unalignedAccess_keeps (s : State) :
    (State.unalignedAccess s).tick = s.tick ∧ (State.unalignedAccess s).tw.lastHb = s.tw.lastHb ∧ (State.unalignedAccess s).pending = s.pending ∧ (State.unalignedAccess s).model = s.model := by
  unfold State.unalignedAccess; (repeat' split) <;> simp [↓each_tick, ↓each_lastHb, ↓each_pending, ↓each_model]

@[simp] theorem State.accessDone_keeps (s : State) (c : TagClass) (r : AccessResult) :
    (State.accessDone s c r).tick = s.tick ∧ (State.accessDone s c r).tw.lastHb = s.tw.lastHb ∧ (State.accessDone s c r).pending = s.pending ∧ (State.accessDone s c r).model = s.model := by
  unfold State.accessDone; dsimp only; (repeat' split) <;> simp [↓each_tick, ↓each_lastHb, ↓each_pending, ↓each_model]

@[simp] theorem State.pciPower_keeps (s : State) (d3 : Bool) :
    (State.pciPower s d3).tick = s.tick ∧ (State.pciPower s d3).tw.lastHb = s.tw.lastHb ∧ (State.pciPower s d3).pending = s.pending ∧ (State.pciPower s d3).model = s.model := by
  unfold State.pciPower; (repeat' split) <;> simp [↓each_tick, ↓each_lastHb, ↓each_pending, ↓each_model]

@[simp] theorem State.takeEntry_keeps (s : State) (e : CmdEntry) :
    (State.takeEntry s e).tick = s.tick ∧ (State.takeEntry s e).tw.lastHb = s.tw.lastHb ∧ (State.takeEntry s e).pending = s.pending ∧ (State.takeEntry s e).model = s.model := by
  refine ⟨?_, ?_, ?_, ?_⟩ <;> simp [State.takeEntry, ↓each_tick, ↓each_lastHb, ↓each_pending, ↓each_model]

theorem State.command_keeps (s : State) (op : Nat) (e : CmdEntry) (own : Bool) (checks : State → List (Bool × Nat))
    (act : State → State) (no : Nat → State → State) (h : ∀ s, (act s).tick = s.tick ∧ (act s).tw.lastHb = s.tw.lastHb ∧ (act s).pending = s.pending ∧ (act s).model = s.model) (g : ∀ k s, (no k s).tick = s.tick ∧ (no k s).tw.lastHb = s.tw.lastHb ∧ (no k s).pending = s.pending ∧ (no k s).model = s.model) :
    (State.command s op e own checks act no).tick = s.tick ∧ (State.command s op e own checks act no).tw.lastHb = s.tw.lastHb ∧ (State.command s op e own checks act no).pending = s.pending ∧ (State.command s op e own checks act no).model = s.model := by
  unfold State.command
  dsimp only
  split
  · simp
  · split <;> simp [h, g]

theorem State.command_loose (s : State) (op : Nat) (e : CmdEntry) (own : Bool) (checks : State → List (Bool × Nat))
    (act : State → State) (h : ∀ s, State.Loose s (act s)) : State.Loose s (State.command s op e own checks act) := by
  unfold State.command
  dsimp only
  split
  · exact .refl s
  · split
    · exact .of_keeps (by simp)
    · exact (Loose.of_keeps (by simp)).trans (h _)

theorem State.carCommand_keeps (s : State) (op : Nat) (e : CmdEntry) (own : Bool)
    (checks : State → Model → Fin 16 → List (Bool × Nat)) (act : State → Model → Fin 16 → State) (no : Nat → State → State)
    (h : ∀ s m c, (act s m c).tick = s.tick ∧ (act s m c).tw.lastHb = s.tw.lastHb ∧ (act s m c).pending = s.pending ∧ (act s m c).model = s.model) (g : ∀ k s, (no k s).tick = s.tick ∧ (no k s).tw.lastHb = s.tw.lastHb ∧ (no k s).pending = s.pending ∧ (no k s).model = s.model) :
    (State.carCommand s op e own checks act no).tick = s.tick ∧ (State.carCommand s op e own checks act no).tw.lastHb = s.tw.lastHb ∧ (State.carCommand s op e own checks act no).pending = s.pending ∧ (State.carCommand s op e own checks act no).model = s.model := by
  unfold State.carCommand
  split
  · exact State.command_keeps _ _ _ _ _ _ _ (fun s => h s _ _) g
  · exact State.command_keeps _ _ _ _ _ _ _ (fun _ => by simp) g

@[simp] theorem State.abortCommands_keeps (s : State) :
    (State.abortCommands s).tick = s.tick ∧ (State.abortCommands s).tw.lastHb = s.tw.lastHb ∧ (State.abortCommands s).pending = s.pending ∧ (State.abortCommands s).model = s.model := by
  have a (s : State) (l : List Running) := each_keeps4 s l (fun s r => s.finish r.e .aborted 0x8D) fun s r => by simp
  have b (s : State) := each_keeps4 s (idx 16) (fun s c => s.updMode c fun m => { m with setCmds := [], runCmd := none, doorCmd := [] })
    fun s r => by simp
  unfold State.abortCommands
  dsimp only
  exact ⟨(b _).1.trans (a _ _).1, (b _).2.1.trans (a _ _).2.1, (b _).2.2.1.trans (a _ _).2.2.1, (b _).2.2.2.trans (a _ _).2.2.2⟩

@[simp] theorem State.sluiceCommit_keeps (s : State) :
    (State.sluiceCommit s).tick = s.tick ∧ (State.sluiceCommit s).tw.lastHb = s.tw.lastHb ∧ (State.sluiceCommit s).pending = s.pending ∧ (State.sluiceCommit s).model = s.model := by
  unfold State.sluiceCommit; (repeat' split) <;> simp [↓each_tick, ↓each_lastHb, ↓each_pending, ↓each_model]

@[simp] theorem State.takeSluice_keeps (s : State) :
    (State.takeSluice s).tick = s.tick ∧ (State.takeSluice s).tw.lastHb = s.tw.lastHb ∧ (State.takeSluice s).pending = s.pending ∧ (State.takeSluice s).model = s.model := by
  refine ⟨?_, ?_, ?_, ?_⟩ <;> simp [State.takeSluice, ↓each_tick, ↓each_lastHb, ↓each_pending, ↓each_model]

@[simp] theorem State.putPlog_keeps (s : State) (r : FaultRec) :
    (State.putPlog s r).tick = s.tick ∧ (State.putPlog s r).tw.lastHb = s.tw.lastHb ∧ (State.putPlog s r).pending = s.pending ∧ (State.putPlog s r).model = s.model := by
  unfold State.putPlog; dsimp only; (repeat' split) <;> simp [↓each_tick, ↓each_lastHb, ↓each_pending, ↓each_model]

@[simp] theorem State.holdBusCars_keeps (s : State) (n : Nat) :
    (State.holdBusCars s n).tick = s.tick ∧ (State.holdBusCars s n).tw.lastHb = s.tw.lastHb ∧ (State.holdBusCars s n).pending = s.pending ∧ (State.holdBusCars s n).model = s.model := by
  refine ⟨?_, ?_, ?_, ?_⟩ <;> simp [State.holdBusCars, ↓each_tick, ↓each_lastHb, ↓each_pending, ↓each_model]

@[simp] theorem State.retireEffects_keeps (s : State) (u : TestUnit) :
    (State.retireEffects s u).tick = s.tick ∧ (State.retireEffects s u).tw.lastHb = s.tw.lastHb ∧ (State.retireEffects s u).pending = s.pending ∧ (State.retireEffects s u).model = s.model := by
  unfold State.retireEffects; dsimp only; (repeat' split) <;> simp [↓each_tick, ↓each_lastHb, ↓each_pending, ↓each_model]

@[simp] theorem State.retire_keeps (s : State) (u : TestUnit) (src : BitVec 10) (kind : Byte) (cls : BitVec 2) (ctx : BitVec 32) :
    (State.retire s u src kind cls ctx).tick = s.tick ∧ (State.retire s u src kind cls ctx).tw.lastHb = s.tw.lastHb ∧ (State.retire s u src kind cls ctx).pending = s.pending ∧ (State.retire s u src kind cls ctx).model = s.model := by
  unfold State.retire; (repeat' split) <;> simp [↓each_tick, ↓each_lastHb, ↓each_pending, ↓each_model]

@[simp] theorem State.beginTest_keeps (s : State) (u : TestUnit) :
    (State.beginTest s u).tick = s.tick ∧ (State.beginTest s u).tw.lastHb = s.tw.lastHb ∧ (State.beginTest s u).pending = s.pending ∧ (State.beginTest s u).model = s.model := by
  unfold State.beginTest; (repeat' split) <;> simp [↓each_tick, ↓each_lastHb, ↓each_pending, ↓each_model]

@[simp] theorem State.scheduleTest_keeps (s : State) (u : TestUnit) (src : BitVec 10) (kind : Byte) (ctx : BitVec 32) (clear : Bool) :
    (State.scheduleTest s u src kind ctx clear).tick = s.tick ∧ (State.scheduleTest s u src kind ctx clear).tw.lastHb = s.tw.lastHb ∧ (State.scheduleTest s u src kind ctx clear).pending = s.pending ∧ (State.scheduleTest s u src kind ctx clear).model = s.model := by
  unfold State.scheduleTest; dsimp only; (repeat' split) <;> simp [↓each_tick, ↓each_lastHb, ↓each_pending, ↓each_model]

@[simp] theorem State.startPending_keeps (s : State) :
    (State.startPending s).tick = s.tick ∧ (State.startPending s).tw.lastHb = s.tw.lastHb ∧ (State.startPending s).pending = s.pending ∧ (State.startPending s).model = s.model := by
  refine ⟨?_, ?_, ?_, ?_⟩ <;> simp [State.startPending, ↓each_tick, ↓each_lastHb, ↓each_pending, ↓each_model]

@[simp] theorem State.ageTests_keeps (s : State) :
    (State.ageTests s).tick = s.tick ∧ (State.ageTests s).tw.lastHb = s.tw.lastHb ∧ (State.ageTests s).pending = s.pending ∧ (State.ageTests s).model = s.model := by
  refine ⟨?_, ?_, ?_, ?_⟩ <;> simp [State.ageTests, ↓each_tick, ↓each_lastHb, ↓each_pending, ↓each_model]

@[simp] theorem State.leaveTest_keeps (s : State) (u : TestUnit) :
    (State.leaveTest s u).tick = s.tick ∧ (State.leaveTest s u).tw.lastHb = s.tw.lastHb ∧ (State.leaveTest s u).pending = s.pending ∧ (State.leaveTest s u).model = s.model := by
  unfold State.leaveTest; dsimp only; (repeat' split) <;> simp [↓each_tick, ↓each_lastHb, ↓each_pending, ↓each_model]

@[simp] theorem State.endClear_keeps (s : State) (u : TestUnit) (failed : Bool) :
    (State.endClear s u failed).tick = s.tick ∧ (State.endClear s u failed).tw.lastHb = s.tw.lastHb ∧ (State.endClear s u failed).pending = s.pending ∧ (State.endClear s u failed).model = s.model := by
  unfold State.endClear; dsimp only; (repeat' split) <;> simp [↓each_tick, ↓each_lastHb, ↓each_pending, ↓each_model]

@[simp] theorem State.testPass_keeps (s : State) (t : TestRun) :
    (State.testPass s t).tick = s.tick ∧ (State.testPass s t).tw.lastHb = s.tw.lastHb ∧ (State.testPass s t).pending = s.pending ∧ (State.testPass s t).model = s.model := by
  unfold State.testPass; dsimp only; (repeat' split) <;> simp [↓each_tick, ↓each_lastHb, ↓each_pending, ↓each_model]

@[simp] theorem State.testFail_keeps (s : State) (t : TestRun) :
    (State.testFail s t).tick = s.tick ∧ (State.testFail s t).tw.lastHb = s.tw.lastHb ∧ (State.testFail s t).pending = s.pending ∧ (State.testFail s t).model = s.model := by
  refine ⟨?_, ?_, ?_, ?_⟩ <;> simp [State.testFail, ↓each_tick, ↓each_lastHb, ↓each_pending, ↓each_model]

@[simp] theorem State.testDone_keeps (s : State) (u : TestUnit) (r : TestResult) :
    (State.testDone s u r).tick = s.tick ∧ (State.testDone s u r).tw.lastHb = s.tw.lastHb ∧ (State.testDone s u r).pending = s.pending ∧ (State.testDone s u r).model = s.model := by
  unfold State.testDone; (repeat' split) <;> simp [↓each_tick, ↓each_lastHb, ↓each_pending, ↓each_model]

@[simp] theorem State.missEvaluation_keeps (s : State) (lc : Fin 2) (silent : Bool) :
    (State.missEvaluation s lc silent).tick = s.tick ∧ (State.missEvaluation s lc silent).tw.lastHb = s.tw.lastHb ∧ (State.missEvaluation s lc silent).pending = s.pending ∧ (State.missEvaluation s lc silent).model = s.model := by
  unfold State.missEvaluation; (repeat' split) <;> simp [↓each_tick, ↓each_lastHb, ↓each_pending, ↓each_model]

@[simp] theorem State.nmi_keeps (s : State) (m : FaultMsg) :
    (State.nmi s m).tick = s.tick ∧ (State.nmi s m).tw.lastHb = s.tw.lastHb ∧ (State.nmi s m).pending = s.pending ∧ (State.nmi s m).model = s.model := by
  unfold State.nmi; (repeat' split) <;> simp [↓each_tick, ↓each_lastHb, ↓each_pending, ↓each_model]

@[simp] theorem State.recordMsg_keeps (s : State) (m : FaultMsg) :
    (State.recordMsg s m).tick = s.tick ∧ (State.recordMsg s m).tw.lastHb = s.tw.lastHb ∧ (State.recordMsg s m).pending = s.pending ∧ (State.recordMsg s m).model = s.model := by
  unfold State.recordMsg; dsimp only; (repeat' split) <;> simp [↓each_tick, ↓each_lastHb, ↓each_pending, ↓each_model]

@[simp] theorem State.orderBatch_keeps (s : State) :
    (State.orderBatch s).tick = s.tick ∧ (State.orderBatch s).tw.lastHb = s.tw.lastHb ∧ (State.orderBatch s).pending = s.pending ∧ (State.orderBatch s).model = s.model := by
  refine ⟨?_, ?_, ?_, ?_⟩ <;> simp [State.orderBatch, ↓each_tick, ↓each_lastHb, ↓each_pending, ↓each_model]

@[simp] theorem State.flushMap_keeps (s : State) :
    (State.flushMap s).tick = s.tick ∧ (State.flushMap s).tw.lastHb = s.tw.lastHb ∧ (State.flushMap s).pending = s.pending ∧ (State.flushMap s).model = s.model := by
  unfold State.flushMap; (repeat' split) <;> simp [↓each_tick, ↓each_lastHb, ↓each_pending, ↓each_model]

theorem State.updCv_keeps4 (s : State) (k : Fin 16) (f : Cv → Cv) :
    (s.updCv k f).tick = s.tick ∧ (s.updCv k f).tw.lastHb = s.tw.lastHb ∧ (s.updCv k f).pending = s.pending ∧ (s.updCv k f).model = s.model := by simp

theorem State.faultReport_loose (s : State) (m : FaultMsg) : State.Loose s (State.faultReport s m) := by
  have h := (Loose.of_keeps (State.report_keeps s m)).trans (State.settleBoot_loose (s.report m))
  revert h
  unfold State.faultReport
  extract_lets n t
  intro h
  split
  · exact .refl s
  · split
    · exact h.trans (.of_keeps (State.missEvaluation_keeps ..))
    · split
      · exact h.trans (.of_keeps (State.missEvaluation_keeps ..))
      · split
        · split
          · exact h.trans (.of_keeps (State.updCv_keeps4 t _ _))
          · exact h
        · exact h

@[simp] theorem State.clearRetired_keeps (s : State) (e : CmdEntry) :
    (State.clearRetired s e).tick = s.tick ∧ (State.clearRetired s e).tw.lastHb = s.tw.lastHb ∧ (State.clearRetired s e).pending = s.pending ∧ (State.clearRetired s e).model = s.model := by
  unfold State.clearRetired; (try dsimp only); refine State.command_keeps _ _ _ _ _ _ _ (fun s => ?_) (fun k s => ?_) <;> (repeat' split) <;> simp [↓each_tick, ↓each_lastHb, ↓each_pending, ↓each_model]

@[simp] theorem State.moduleEvent_keeps (s : State) (old new : ModState) (cause : Nat) :
    (State.moduleEvent s old new cause).tick = s.tick ∧ (State.moduleEvent s old new cause).tw.lastHb = s.tw.lastHb ∧ (State.moduleEvent s old new cause).pending = s.pending ∧ (State.moduleEvent s old new cause).model = s.model := by
  refine ⟨?_, ?_, ?_, ?_⟩ <;> simp [State.moduleEvent, ↓each_tick, ↓each_lastHb, ↓each_pending, ↓each_model]

@[simp] theorem State.domainOff_keeps (s : State) (d : Fin 8) :
    (State.domainOff s d).tick = s.tick ∧ (State.domainOff s d).tw.lastHb = s.tw.lastHb ∧ (State.domainOff s d).pending = s.pending ∧ (State.domainOff s d).model = s.model := by
  have sf (s : State) (l : List (Fin 16)) := each_keeps4 s l askSf1 fun s c => by simp
  have gr (s : State) (l : List (Fin 6)) := each_keeps4 s l groupOff fun s c => by simp
  have bo (s : State) (l : List (Fin 12)) := each_keeps4 s l busOff fun s c => by simp
  have bu (s : State) (l : List (Fin 12)) := each_keeps4 s l (fun s n => s.updBus n fun b => { b with trxOn := false, onWait := false })
    fun s c => by simp
  unfold State.domainOff
  split
  · simp
  · dsimp only
    split
    · simp
    · simp [sf]
    · simp
    · simp [gr]
    · simp only [bu, bo]; simp
    · split <;> simp
    · simp

@[simp] theorem State.leaveActive_keeps (s : State) :
    (State.leaveActive s).tick = s.tick ∧ (State.leaveActive s).tw.lastHb = s.tw.lastHb ∧ (State.leaveActive s).pending = s.pending ∧ (State.leaveActive s).model = s.model := by
  refine ⟨?_, ?_, ?_, ?_⟩ <;> simp [State.leaveActive, ↓each_tick, ↓each_lastHb, ↓each_pending, ↓each_model]

@[simp] theorem State.changeState_keeps (s : State) (new : ModState) (cause : Nat) :
    (State.changeState s new cause).tick = s.tick ∧ (State.changeState s new cause).tw.lastHb = s.tw.lastHb ∧ (State.changeState s new cause).pending = s.pending ∧ (State.changeState s new cause).model = s.model := by
  unfold State.changeState; dsimp only; (repeat' split) <;> simp [↓each_tick, ↓each_lastHb, ↓each_pending, ↓each_model]

@[simp] theorem State.enterSafeHold_keeps (s : State) (cause : Nat) :
    (State.enterSafeHold s cause).tick = s.tick ∧ (State.enterSafeHold s cause).tw.lastHb = s.tw.lastHb ∧ (State.enterSafeHold s cause).pending = s.pending ∧ (State.enterSafeHold s cause).model = s.model := by
  unfold State.enterSafeHold; dsimp only; (repeat' split) <;> simp [↓each_tick, ↓each_lastHb, ↓each_pending, ↓each_model]

@[simp] theorem State.setVin_keeps (s : State) (mv : Nat) :
    (State.setVin s mv).tick = s.tick ∧ (State.setVin s mv).tw.lastHb = s.tw.lastHb ∧ (State.setVin s mv).pending = s.pending ∧ (State.setVin s mv).model = s.model := by
  refine ⟨?_, ?_, ?_, ?_⟩ <;> simp [State.setVin, ↓each_tick, ↓each_lastHb, ↓each_pending, ↓each_model]

theorem State.powerOn_loose (s : State) : State.Loose s (State.powerOn s) := by
  unfold State.powerOn
  split
  · exact .refl s
  · exact ⟨.inr rfl, .inr rfl, rfl, .inr rfl⟩

theorem State.powerFail_loose (s : State) (mv : Nat) : State.Loose s (State.powerFail s mv) := by
  unfold State.powerFail
  split
  · exact s.powerLost_loose
  · exact .refl s

@[simp] theorem State.vinFault_keeps (s : State) (mv : Nat) :
    (State.vinFault s mv).tick = s.tick ∧ (State.vinFault s mv).tw.lastHb = s.tw.lastHb ∧ (State.vinFault s mv).pending = s.pending ∧ (State.vinFault s mv).model = s.model := by
  unfold State.vinFault; dsimp only; (repeat' split) <;> simp [↓each_tick, ↓each_lastHb, ↓each_pending, ↓each_model]

@[simp] theorem State.vinRestored_keeps (s : State) (mv : Nat) :
    (State.vinRestored s mv).tick = s.tick ∧ (State.vinRestored s mv).tw.lastHb = s.tw.lastHb ∧ (State.vinRestored s mv).pending = s.pending ∧ (State.vinRestored s mv).model = s.model := by
  unfold State.vinRestored; (repeat' split) <;> simp [↓each_tick, ↓each_lastHb, ↓each_pending, ↓each_model]

@[simp] theorem State.railFault_keeps (s : State) (d : Fin 8) (rail : Fin 7) (mv : Nat) :
    (State.railFault s d rail mv).tick = s.tick ∧ (State.railFault s d rail mv).tw.lastHb = s.tw.lastHb ∧ (State.railFault s d rail mv).pending = s.pending ∧ (State.railFault s d rail mv).model = s.model := by
  unfold State.railFault; (repeat' split) <;> simp [↓each_tick, ↓each_lastHb, ↓each_pending, ↓each_model]

theorem State.railDomainOff_loose (s : State) (d : Fin 8) : State.Loose s (State.railDomainOff s d) := by
  unfold State.railDomainOff
  (repeat' split)
  · exact .refl s
  · exact s.powerLost_loose
  · exact .of_keeps (by simp)

@[simp] theorem State.domainUp_keeps (s : State) (d : Fin 8) :
    (State.domainUp s d).tick = s.tick ∧ (State.domainUp s d).tw.lastHb = s.tw.lastHb ∧ (State.domainUp s d).pending = s.pending ∧ (State.domainUp s d).model = s.model := by
  unfold State.domainUp
  split
  · exact kept_trans (each_keeps4 _ _ _ fun s g => by split <;> simp) (each_keeps4 _ _ _ fun s n => by simp)
  · exact each_keeps4 _ _ _ fun s n => by split <;> simp
  · simp

theorem State.domainSwitchOn_loose (s : State) (d : Fin 8) (w : Bool) : State.Loose s (State.domainSwitchOn s d w) := by
  unfold State.domainSwitchOn
  split
  · exact .refl s
  · dsimp only
    split
    · split
      · exact (Loose.of_keeps (by simp)).trans (State.failSlot_loose _)
      · exact .of_keeps (by simp)
    · split <;> exact .of_keeps (by simp)

theorem State.nrstinAssert_loose (s : State) : State.Loose s (State.nrstinAssert s) := by
  unfold State.nrstinAssert
  split
  · exact .refl s
  · dsimp only
    split
    · exact .of_keeps (by simp)
    · exact s.reboot_loose.trans (.of_keeps (by simp))

@[simp] theorem State.nrstinRelease_keeps (s : State) :
    (State.nrstinRelease s).tick = s.tick ∧ (State.nrstinRelease s).tw.lastHb = s.tw.lastHb ∧ (State.nrstinRelease s).pending = s.pending ∧ (State.nrstinRelease s).model = s.model := by
  unfold State.nrstinRelease; dsimp only; (repeat' split) <;> simp [↓each_tick, ↓each_lastHb, ↓each_pending, ↓each_model]

@[simp] theorem State.bothFailed_keeps (s : State) :
    (State.bothFailed s).tick = s.tick ∧ (State.bothFailed s).tw.lastHb = s.tw.lastHb ∧ (State.bothFailed s).pending = s.pending ∧ (State.bothFailed s).model = s.model := by
  refine ⟨?_, ?_, ?_, ?_⟩ <;> simp [State.bothFailed, ↓each_tick, ↓each_lastHb, ↓each_pending, ↓each_model]

@[simp] theorem State.trySlot_keeps (s : State) (k : Fin 2) :
    ((State.trySlot s k).1).tick = s.tick ∧ ((State.trySlot s k).1).tw.lastHb = s.tw.lastHb ∧ ((State.trySlot s k).1).pending = s.pending ∧ ((State.trySlot s k).1).model = s.model := by
  unfold State.trySlot; dsimp only; (repeat' split) <;> simp [↓each_tick, ↓each_lastHb, ↓each_pending, ↓each_model]

@[simp] theorem State.slotGo_keeps (n : Nat) (s : State) :
    (State.slotGo n s).tick = s.tick ∧ (State.slotGo n s).tw.lastHb = s.tw.lastHb ∧ (State.slotGo n s).pending = s.pending ∧ (State.slotGo n s).model = s.model := by
  induction n generalizing s with
  | zero => simp [State.slotGo]
  | succ n ih =>
    unfold State.slotGo
    split
    · simp
    · rename_i k _
      have h := State.trySlot_keeps s k
      revert h
      generalize s.trySlot k = q
      rcases q with ⟨t, b⟩
      intro h
      dsimp only at h ⊢
      split <;> simp [ih, h]

@[simp] theorem State.slotSelect_keeps (s : State) :
    (State.slotSelect s).tick = s.tick ∧ (State.slotSelect s).tw.lastHb = s.tw.lastHb ∧ (State.slotSelect s).pending = s.pending ∧ (State.slotSelect s).model = s.model := by
  unfold State.slotSelect
  dsimp only
  split <;> simp

@[simp] theorem State.commitTrial_keeps (s : State) :
    (State.commitTrial s).tick = s.tick ∧ (State.commitTrial s).tw.lastHb = s.tw.lastHb ∧ (State.commitTrial s).pending = s.pending ∧ (State.commitTrial s).model = s.model := by
  unfold State.commitTrial; (repeat' split) <;> simp [↓each_tick, ↓each_lastHb, ↓each_pending, ↓each_model]

theorem State.startupSelfTestsDone_loose (s : State) (p : Bool) : State.Loose s (State.startupSelfTestsDone s p) := by
  unfold State.startupSelfTestsDone
  (repeat' split)
  · exact .refl s
  · exact .of_keeps (by simp)
  · exact s.failSlot_loose

theorem State.modelLoad_keeps (s : State) :
    (State.modelLoad s).tick = s.tick ∧ (State.modelLoad s).tw.lastHb = s.tw.lastHb ∧ (State.modelLoad s).pending = s.pending := by
  unfold State.modelLoad
  dsimp only
  split
  · simp
  · split <;> simp [State.loadBest_keeps]

theorem State.bootWatchdog_loose (s : State) : State.Loose s (State.bootWatchdog s) := by
  unfold State.bootWatchdog
  (try dsimp only)
  (repeat' split)
  all_goals first
    | exact .refl s
    | exact s.reboot_loose
    | exact ⟨.inl rfl, .inr rfl, rfl, .inr rfl⟩
    | exact (Loose.of_keeps (State.finish_keeps ..)).trans ⟨.inl rfl, .inr rfl, rfl, .inr rfl⟩
    | exact .of_keeps (by simp)

@[simp] theorem State.setTemp_keeps (s : State) (x : Sensor) (t : Int) :
    (State.setTemp s x t).tick = s.tick ∧ (State.setTemp s x t).tw.lastHb = s.tw.lastHb ∧ (State.setTemp s x t).pending = s.pending ∧ (State.setTemp s x t).model = s.model := by
  refine ⟨?_, ?_, ?_, ?_⟩ <;> simp [State.setTemp, ↓each_tick, ↓each_lastHb, ↓each_pending, ↓each_model]

@[simp] theorem State.thermalWarn_keeps (s : State) (x : Sensor) (t : Int) :
    (State.thermalWarn s x t).tick = s.tick ∧ (State.thermalWarn s x t).tw.lastHb = s.tw.lastHb ∧ (State.thermalWarn s x t).pending = s.pending ∧ (State.thermalWarn s x t).model = s.model := by
  unfold State.thermalWarn; (repeat' split) <;> simp [↓each_tick, ↓each_lastHb, ↓each_pending, ↓each_model]

theorem State.derateOff_loose (s : State) : State.Loose s (State.derateOff s) := by
  unfold State.derateOff
  (try dsimp only)
  (repeat' split)
  all_goals first
    | exact .refl s
    | exact s.reboot_loose
    | exact ⟨.inl rfl, .inr rfl, rfl, .inr rfl⟩
    | exact (Loose.of_keeps (State.finish_keeps ..)).trans ⟨.inl rfl, .inr rfl, rfl, .inr rfl⟩
    | exact .of_keeps (by simp)

@[simp] theorem State.thermalTrip_keeps (s : State) (x : Sensor) (t : Int) :
    (State.thermalTrip s x t).tick = s.tick ∧ (State.thermalTrip s x t).tw.lastHb = s.tw.lastHb ∧ (State.thermalTrip s x t).pending = s.pending ∧ (State.thermalTrip s x t).model = s.model := by
  unfold State.thermalTrip; (repeat' split) <;> simp [↓each_tick, ↓each_lastHb, ↓each_pending, ↓each_model]

@[simp] theorem State.pwrParkWrite_keeps (s : State) (v : BitVec 32) :
    (State.pwrParkWrite s v).tick = s.tick ∧ (State.pwrParkWrite s v).tw.lastHb = s.tw.lastHb ∧ (State.pwrParkWrite s v).pending = s.pending ∧ (State.pwrParkWrite s v).model = s.model := by
  unfold State.pwrParkWrite; (repeat' split) <;> simp [↓each_tick, ↓each_lastHb, ↓each_pending, ↓each_model]

@[simp] theorem State.groupPark_keeps (s : State) (g : Fin 6) :
    (State.groupPark s g).tick = s.tick ∧ (State.groupPark s g).tw.lastHb = s.tw.lastHb ∧ (State.groupPark s g).pending = s.pending ∧ (State.groupPark s g).model = s.model := by
  unfold State.groupPark; (repeat' split) <;> first | (simp [↓each_tick, ↓each_lastHb, ↓each_pending, ↓each_model]; done) | (refine each_keeps4 _ _ _ fun s a => ?_; dsimp only; (repeat' split) <;> simp [↓each_tick, ↓each_lastHb, ↓each_pending, ↓each_model]) | (refine each_keeps4 _ _ _ fun s a => ?_; (repeat' split) <;> simp [↓each_tick, ↓each_lastHb, ↓each_pending, ↓each_model])

@[simp] theorem State.groupUnpark_keeps (s : State) (g : Fin 6) :
    (State.groupUnpark s g).tick = s.tick ∧ (State.groupUnpark s g).tw.lastHb = s.tw.lastHb ∧ (State.groupUnpark s g).pending = s.pending ∧ (State.groupUnpark s g).model = s.model := by
  unfold State.groupUnpark; dsimp only; (repeat' split) <;> simp [↓each_tick, ↓each_lastHb, ↓each_pending, ↓each_model]

@[simp] theorem State.recoveryStart_keeps (s : State) :
    (State.recoveryStart s).tick = s.tick ∧ (State.recoveryStart s).tw.lastHb = s.tw.lastHb ∧ (State.recoveryStart s).pending = s.pending ∧ (State.recoveryStart s).model = s.model := by
  unfold State.recoveryStart; (repeat' split) <;> simp [↓each_tick, ↓each_lastHb, ↓each_pending, ↓each_model]

@[simp] theorem State.recoveryChunk_keeps (s : State) (off : BitVec 24) :
    (State.recoveryChunk s off).tick = s.tick ∧ (State.recoveryChunk s off).tw.lastHb = s.tw.lastHb ∧ (State.recoveryChunk s off).pending = s.pending ∧ (State.recoveryChunk s off).model = s.model := by
  unfold State.recoveryChunk; (repeat' split) <;> simp [↓each_tick, ↓each_lastHb, ↓each_pending, ↓each_model]

@[simp] theorem State.recoveryCommit_keeps (s : State) :
    (State.recoveryCommit s).tick = s.tick ∧ (State.recoveryCommit s).tw.lastHb = s.tw.lastHb ∧ (State.recoveryCommit s).pending = s.pending ∧ (State.recoveryCommit s).model = s.model := by
  unfold State.recoveryCommit; (repeat' split) <;> simp [↓each_tick, ↓each_lastHb, ↓each_pending, ↓each_model]

theorem State.recoveryWriteDone_loose (s : State) (ok : Bool): State.Loose s (State.recoveryWriteDone s ok) := by
  unfold State.recoveryWriteDone
  (try dsimp only)
  (repeat' split)
  all_goals first
    | exact .refl s
    | exact s.reboot_loose
    | exact ⟨.inl rfl, .inr rfl, rfl, .inr rfl⟩
    | exact (Loose.of_keeps (State.finish_keeps ..)).trans ⟨.inl rfl, .inr rfl, rfl, .inr rfl⟩
    | exact .of_keeps (by simp)

@[simp] theorem State.update_keeps (s : State) (e : CmdEntry) (data : Option (List Byte)) :
    (State.update s e data).tick = s.tick ∧ (State.update s e data).tw.lastHb = s.tw.lastHb ∧ (State.update s e data).pending = s.pending ∧ (State.update s e data).model = s.model := by
  unfold State.update; (try dsimp only); refine State.command_keeps _ _ _ _ _ _ _ (fun s => ?_) (fun k s => ?_) <;> (repeat' split) <;> simp [↓each_tick, ↓each_lastHb, ↓each_pending, ↓each_model]

@[simp] theorem State.failUpdate_keeps (s : State) (code : Nat) :
    (State.failUpdate s code).tick = s.tick ∧ (State.failUpdate s code).tw.lastHb = s.tw.lastHb ∧ (State.failUpdate s code).pending = s.pending ∧ (State.failUpdate s code).model = s.model := by
  unfold State.failUpdate; (repeat' split) <;> simp [↓each_tick, ↓each_lastHb, ↓each_pending, ↓each_model]

@[simp] theorem State.updateImageChecked_keeps (s : State) :
    (State.updateImageChecked s).tick = s.tick ∧ (State.updateImageChecked s).tw.lastHb = s.tw.lastHb ∧ (State.updateImageChecked s).pending = s.pending ∧ (State.updateImageChecked s).model = s.model := by
  unfold State.updateImageChecked; (repeat' split) <;> simp [↓each_tick, ↓each_lastHb, ↓each_pending, ↓each_model]

@[simp] theorem State.updateT2_keeps (s : State) :
    (State.updateT2 s).tick = s.tick ∧ (State.updateT2 s).tw.lastHb = s.tw.lastHb ∧ (State.updateT2 s).pending = s.pending ∧ (State.updateT2 s).model = s.model := by
  unfold State.updateT2; (repeat' split) <;> simp [↓each_tick, ↓each_lastHb, ↓each_pending, ↓each_model]

@[simp] theorem State.updateNotQuiet_keeps (s : State) :
    (State.updateNotQuiet s).tick = s.tick ∧ (State.updateNotQuiet s).tw.lastHb = s.tw.lastHb ∧ (State.updateNotQuiet s).pending = s.pending ∧ (State.updateNotQuiet s).model = s.model := by
  unfold State.updateNotQuiet; (repeat' split) <;> simp [↓each_tick, ↓each_lastHb, ↓each_pending, ↓each_model]

theorem State.updateFlashDone_loose (s : State) (ok : Bool): State.Loose s (State.updateFlashDone s ok) := by
  unfold State.updateFlashDone
  (try dsimp only)
  (repeat' split)
  all_goals first
    | exact .refl s
    | exact s.reboot_loose
    | exact ⟨.inl rfl, .inr rfl, rfl, .inr rfl⟩
    | exact (Loose.of_keeps (State.finish_keeps ..)).trans ⟨.inl rfl, .inr rfl, rfl, .inr rfl⟩
    | exact .of_keeps (by simp)

theorem State.keyRelease_loose (s : State) (e : CmdEntry) : State.Loose s (State.keyRelease s e) :=
  State.command_loose _ _ _ _ _ _ fun s =>
    (Loose.of_keeps (t := (s.updImg fun i => { i with key := none, group := none, slots := Tab.all none }).answer e .done 0) (by simp)).trans
      (State.reboot_loose _)

theorem State.resetCmd_loose (s : State) (e : CmdEntry) : State.Loose s (State.resetCmd s e) :=
  State.command_loose _ _ _ _ _ _ State.reboot_loose

theorem State.crstReboot_loose (s : State) : State.Loose s (State.crstReboot s) := by
  unfold State.crstReboot
  (try dsimp only)
  (repeat' split)
  all_goals first
    | exact .refl s
    | exact s.reboot_loose
    | exact ⟨.inl rfl, .inr rfl, rfl, .inr rfl⟩
    | exact (Loose.of_keeps (State.finish_keeps ..)).trans ⟨.inl rfl, .inr rfl, rfl, .inr rfl⟩
    | exact .of_keeps (by simp)

@[simp] theorem State.tickPower_keeps (s : State) :
    (State.tickPower s).tick = s.tick ∧ (State.tickPower s).tw.lastHb = s.tw.lastHb ∧ (State.tickPower s).pending = s.pending ∧ (State.tickPower s).model = s.model := by
  refine ⟨?_, ?_, ?_, ?_⟩ <;> simp [State.tickPower, ↓each_tick, ↓each_lastHb, ↓each_pending, ↓each_model]

@[simp] theorem State.measurePower_keeps (s : State) :
    (State.measurePower s).tick = s.tick ∧ (State.measurePower s).tw.lastHb = s.tw.lastHb ∧ (State.measurePower s).pending = s.pending ∧ (State.measurePower s).model = s.model := by
  unfold State.measurePower; (repeat' split) <;> first | (simp [↓each_tick, ↓each_lastHb, ↓each_pending, ↓each_model]; done) | (refine each_keeps4 _ _ _ fun s a => ?_; dsimp only; (repeat' split) <;> simp [↓each_tick, ↓each_lastHb, ↓each_pending, ↓each_model]) | (refine each_keeps4 _ _ _ fun s a => ?_; (repeat' split) <;> simp [↓each_tick, ↓each_lastHb, ↓each_pending, ↓each_model])

@[simp] theorem State.nopCmd_keeps (s : State) (e : CmdEntry) :
    (State.nopCmd s e).tick = s.tick ∧ (State.nopCmd s e).tw.lastHb = s.tw.lastHb ∧ (State.nopCmd s e).pending = s.pending ∧ (State.nopCmd s e).model = s.model := by
  unfold State.nopCmd; (try dsimp only); refine State.command_keeps _ _ _ _ _ _ _ (fun s => ?_) (fun k s => ?_) <;> (repeat' split) <;> simp [↓each_tick, ↓each_lastHb, ↓each_pending, ↓each_model]

@[simp] theorem State.loadImage_keeps (s : State) (e : CmdEntry) (data : Option (List Byte)) :
    (State.loadImage s e data).tick = s.tick ∧ (State.loadImage s e data).tw.lastHb = s.tw.lastHb ∧ (State.loadImage s e data).pending = s.pending ∧ (State.loadImage s e data).model = s.model := by
  unfold State.loadImage; (try dsimp only); refine State.command_keeps _ _ _ _ _ _ _ (fun s => ?_) (fun k s => ?_) <;> (repeat' split) <;> simp [↓each_tick, ↓each_lastHb, ↓each_pending, ↓each_model]

@[simp] theorem State.cancelImage_keeps (s : State) (e : CmdEntry) :
    (State.cancelImage s e).tick = s.tick ∧ (State.cancelImage s e).tw.lastHb = s.tw.lastHb ∧ (State.cancelImage s e).pending = s.pending ∧ (State.cancelImage s e).model = s.model := by
  unfold State.cancelImage; (try dsimp only); refine State.command_keeps _ _ _ _ _ _ _ (fun s => ?_) (fun k s => ?_) <;> (repeat' split) <;> simp [↓each_tick, ↓each_lastHb, ↓each_pending, ↓each_model]

@[simp] theorem State.readProposal_keeps (s : State) (e : CmdEntry) :
    (State.readProposal s e).tick = s.tick ∧ (State.readProposal s e).tw.lastHb = s.tw.lastHb ∧ (State.readProposal s e).pending = s.pending ∧ (State.readProposal s e).model = s.model := by
  unfold State.readProposal; (try dsimp only); refine State.command_keeps _ _ _ _ _ _ _ (fun s => ?_) (fun k s => ?_) <;> (repeat' split) <;> simp [↓each_tick, ↓each_lastHb, ↓each_pending, ↓each_model]

@[simp] theorem State.countRefused_keeps (s : State) (e : CmdEntry) :
    (State.countRefused s e).tick = s.tick ∧ (State.countRefused s e).tw.lastHb = s.tw.lastHb ∧ (State.countRefused s e).pending = s.pending ∧ (State.countRefused s e).model = s.model := by
  unfold State.countRefused; (repeat' split) <;> simp [↓each_tick, ↓each_lastHb, ↓each_pending, ↓each_model]

@[simp] theorem State.setModeCmd_keeps (s : State) (e : CmdEntry) :
    (State.setModeCmd s e).tick = s.tick ∧ (State.setModeCmd s e).tw.lastHb = s.tw.lastHb ∧ (State.setModeCmd s e).pending = s.pending ∧ (State.setModeCmd s e).model = s.model := by
  unfold State.setModeCmd; (try dsimp only); refine State.carCommand_keeps _ _ _ _ _ _ _ (fun s m c => ?_) (fun k s => ?_) <;> (repeat' split) <;> simp [↓each_tick, ↓each_lastHb, ↓each_pending, ↓each_model]

@[simp] theorem State.clearModeCmd_keeps (s : State) (e : CmdEntry) :
    (State.clearModeCmd s e).tick = s.tick ∧ (State.clearModeCmd s e).tw.lastHb = s.tw.lastHb ∧ (State.clearModeCmd s e).pending = s.pending ∧ (State.clearModeCmd s e).model = s.model := by
  unfold State.clearModeCmd; (try dsimp only); refine State.carCommand_keeps _ _ _ _ _ _ _ (fun s m c => ?_) (fun k s => ?_) <;> (repeat' split) <;> simp [↓each_tick, ↓each_lastHb, ↓each_pending, ↓each_model]

@[simp] theorem State.clearDispatchHold_keeps (s : State) (e : CmdEntry) :
    (State.clearDispatchHold s e).tick = s.tick ∧ (State.clearDispatchHold s e).tw.lastHb = s.tw.lastHb ∧ (State.clearDispatchHold s e).pending = s.pending ∧ (State.clearDispatchHold s e).model = s.model := by
  unfold State.clearDispatchHold; (try dsimp only); refine State.carCommand_keeps _ _ _ _ _ _ _ (fun s m c => ?_) (fun k s => ?_) <;> (repeat' split) <;> simp [↓each_tick, ↓each_lastHb, ↓each_pending, ↓each_model]

@[simp] theorem State.runCmd_keeps (s : State) (e : CmdEntry) :
    (State.runCmd s e).tick = s.tick ∧ (State.runCmd s e).tw.lastHb = s.tw.lastHb ∧ (State.runCmd s e).pending = s.pending ∧ (State.runCmd s e).model = s.model := by
  unfold State.runCmd; (try dsimp only); refine State.carCommand_keeps _ _ _ _ _ _ _ (fun s m c => ?_) (fun k s => ?_) <;> (repeat' split) <;> simp [↓each_tick, ↓each_lastHb, ↓each_pending, ↓each_model]

@[simp] theorem State.doorCmd_keeps (s : State) (e : CmdEntry) :
    (State.doorCmd s e).tick = s.tick ∧ (State.doorCmd s e).tw.lastHb = s.tw.lastHb ∧ (State.doorCmd s e).pending = s.pending ∧ (State.doorCmd s e).model = s.model := by
  unfold State.doorCmd; (try dsimp only); refine State.carCommand_keeps _ _ _ _ _ _ _ (fun s m c => ?_) (fun k s => ?_) <;> (repeat' split) <;> simp [↓each_tick, ↓each_lastHb, ↓each_pending, ↓each_model]

@[simp] theorem State.doorReset_keeps (s : State) (e : CmdEntry) :
    (State.doorReset s e).tick = s.tick ∧ (State.doorReset s e).tw.lastHb = s.tw.lastHb ∧ (State.doorReset s e).pending = s.pending ∧ (State.doorReset s e).model = s.model := by
  unfold State.doorReset; (try dsimp only); refine State.carCommand_keeps _ _ _ _ _ _ _ (fun s m c => ?_) (fun k s => ?_) <;> (repeat' split) <;> simp [↓each_tick, ↓each_lastHb, ↓each_pending, ↓each_model]

@[simp] theorem State.learnShaft_keeps (s : State) (e : CmdEntry) :
    (State.learnShaft s e).tick = s.tick ∧ (State.learnShaft s e).tw.lastHb = s.tw.lastHb ∧ (State.learnShaft s e).pending = s.pending ∧ (State.learnShaft s e).model = s.model := by
  unfold State.learnShaft; (try dsimp only); refine State.carCommand_keeps _ _ _ _ _ _ _ (fun s m c => ?_) (fun k s => ?_) <;> (repeat' split) <;> simp [↓each_tick, ↓each_lastHb, ↓each_pending, ↓each_model]

@[simp] theorem State.learnDoors_keeps (s : State) (e : CmdEntry) :
    (State.learnDoors s e).tick = s.tick ∧ (State.learnDoors s e).tw.lastHb = s.tw.lastHb ∧ (State.learnDoors s e).pending = s.pending ∧ (State.learnDoors s e).model = s.model := by
  unfold State.learnDoors
  dsimp only
  refine State.carCommand_keeps _ _ _ _ _ _ _ (fun s m c => ?_) (fun k s => ?_)
  · have u (s : State) (l : List (Fin 32)) (x : List DoorLearn) := each_keeps4 s l (fun s d => s.updSide d fun y => { y with learn := x })
      fun s d => by simp
    simp [u]
  · simp

@[simp] theorem State.learnCancel_keeps (s : State) (e : CmdEntry) :
    (State.learnCancel s e).tick = s.tick ∧ (State.learnCancel s e).tw.lastHb = s.tw.lastHb ∧ (State.learnCancel s e).pending = s.pending ∧ (State.learnCancel s e).model = s.model := by
  unfold State.learnCancel; (try dsimp only); refine State.carCommand_keeps _ _ _ _ _ _ _ (fun s m c => ?_) (fun k s => ?_) <;> (repeat' split) <;> simp [↓each_tick, ↓each_lastHb, ↓each_pending, ↓each_model]

@[simp] theorem State.brakeTest_keeps (s : State) (e : CmdEntry) :
    (State.brakeTest s e).tick = s.tick ∧ (State.brakeTest s e).tw.lastHb = s.tw.lastHb ∧ (State.brakeTest s e).pending = s.pending ∧ (State.brakeTest s e).model = s.model := by
  unfold State.brakeTest; (try dsimp only); refine State.carCommand_keeps _ _ _ _ _ _ _ (fun s m c => ?_) (fun k s => ?_) <;> (repeat' split) <;> simp [↓each_tick, ↓each_lastHb, ↓each_pending, ↓each_model]

@[simp] theorem State.injectCmd_keeps (s : State) (e : CmdEntry) :
    (State.injectCmd s e).tick = s.tick ∧ (State.injectCmd s e).tw.lastHb = s.tw.lastHb ∧ (State.injectCmd s e).pending = s.pending ∧ (State.injectCmd s e).model = s.model := by
  unfold State.injectCmd; (try dsimp only); refine State.command_keeps _ _ _ _ _ _ _ (fun s => ?_) (fun k s => ?_) <;> (repeat' split) <;> simp [↓each_tick, ↓each_lastHb, ↓each_pending, ↓each_model]

@[simp] theorem State.identifyCmd_keeps (s : State) (e : CmdEntry) :
    (State.identifyCmd s e).tick = s.tick ∧ (State.identifyCmd s e).tw.lastHb = s.tw.lastHb ∧ (State.identifyCmd s e).pending = s.pending ∧ (State.identifyCmd s e).model = s.model := by
  unfold State.identifyCmd; (try dsimp only); refine State.command_keeps _ _ _ _ _ _ _ (fun s => ?_) (fun k s => ?_) <;> (repeat' split) <;> simp [↓each_tick, ↓each_lastHb, ↓each_pending, ↓each_model]

@[simp] theorem State.injectAbort_keeps (s : State) (e : CmdEntry) :
    (State.injectAbort s e).tick = s.tick ∧ (State.injectAbort s e).tw.lastHb = s.tw.lastHb ∧ (State.injectAbort s e).pending = s.pending ∧ (State.injectAbort s e).model = s.model := by
  unfold State.injectAbort; (try dsimp only); refine State.command_keeps _ _ _ _ _ _ _ (fun s => ?_) (fun k s => ?_) <;> (repeat' split) <;> simp [↓each_tick, ↓each_lastHb, ↓each_pending, ↓each_model]

@[simp] theorem State.rawSend_keeps (s : State) (e : CmdEntry) (data : Option (List Byte)) :
    (State.rawSend s e data).tick = s.tick ∧ (State.rawSend s e data).tw.lastHb = s.tw.lastHb ∧ (State.rawSend s e data).pending = s.pending ∧ (State.rawSend s e data).model = s.model := by
  unfold State.rawSend; (try dsimp only); refine State.command_keeps _ _ _ _ _ _ _ (fun s => ?_) (fun k s => ?_) <;> (repeat' split) <;> simp [↓each_tick, ↓each_lastHb, ↓each_pending, ↓each_model]

@[simp] theorem State.busRecover_keeps (s : State) (e : CmdEntry) :
    (State.busRecover s e).tick = s.tick ∧ (State.busRecover s e).tw.lastHb = s.tw.lastHb ∧ (State.busRecover s e).pending = s.pending ∧ (State.busRecover s e).model = s.model := by
  unfold State.busRecover; (try dsimp only); refine State.command_keeps _ _ _ _ _ _ _ (fun s => ?_) (fun k s => ?_) <;> (repeat' split) <;> simp [↓each_tick, ↓each_lastHb, ↓each_pending, ↓each_model]

@[simp] theorem State.refreshSide_keeps (s : State) (d : Fin 32) :
    (State.refreshSide s d).tick = s.tick ∧ (State.refreshSide s d).tw.lastHb = s.tw.lastHb ∧ (State.refreshSide s d).pending = s.pending ∧ (State.refreshSide s d).model = s.model := by
  refine ⟨?_, ?_, ?_, ?_⟩ <;> simp [State.refreshSide, ↓each_tick, ↓each_lastHb, ↓each_pending, ↓each_model]

@[simp] theorem State.mapPageSelect_keeps (s : State) (v : BitVec 32) :
    (State.mapPageSelect s v).tick = s.tick ∧ (State.mapPageSelect s v).tw.lastHb = s.tw.lastHb ∧ (State.mapPageSelect s v).pending = s.pending ∧ (State.mapPageSelect s v).model = s.model := by
  unfold State.mapPageSelect; (repeat' split) <;> simp [↓each_tick, ↓each_lastHb, ↓each_pending, ↓each_model]

@[simp] theorem State.writeHiCtrl_keeps (s : State) (v : BitVec 32) :
    (State.writeHiCtrl s v).tick = s.tick ∧ (State.writeHiCtrl s v).tw.lastHb = s.tw.lastHb ∧ (State.writeHiCtrl s v).pending = s.pending ∧ (State.writeHiCtrl s v).model = s.model := by
  unfold State.writeHiCtrl; (repeat' split) <;> simp [↓each_tick, ↓each_lastHb, ↓each_pending, ↓each_model]

@[simp] theorem State.writeHiRs_keeps (s : State) (f : Hi → Hi) :
    (State.writeHiRs s f).tick = s.tick ∧ (State.writeHiRs s f).tw.lastHb = s.tw.lastHb ∧ (State.writeHiRs s f).pending = s.pending ∧ (State.writeHiRs s f).model = s.model := by
  refine ⟨?_, ?_, ?_, ?_⟩ <;> simp [State.writeHiRs, ↓each_tick, ↓each_lastHb, ↓each_pending, ↓each_model]

@[simp] theorem State.writeRing_keeps (s : State) (r : Fin 6) (off : Nat) (v : BitVec 32) :
    (State.writeRing s r off v).tick = s.tick ∧ (State.writeRing s r off v).tw.lastHb = s.tw.lastHb ∧ (State.writeRing s r off v).pending = s.pending ∧ (State.writeRing s r off v).model = s.model := by
  unfold State.writeRing; (repeat' split) <;> simp [↓each_tick, ↓each_lastHb, ↓each_pending, ↓each_model]

@[simp] theorem State.writeHi_keeps (s : State) (off : Nat) (v : BitVec 32) :
    (State.writeHi s off v).tick = s.tick ∧ (State.writeHi s off v).tw.lastHb = s.tw.lastHb ∧ (State.writeHi s off v).pending = s.pending ∧ (State.writeHi s off v).model = s.model := by
  unfold State.writeHi; (repeat' split) <;> simp [↓each_tick, ↓each_lastHb, ↓each_pending, ↓each_model]

@[simp] theorem State.writeDsx_keeps (s : State) (off : Nat) (v : BitVec 32) :
    (State.writeDsx s off v).tick = s.tick ∧ (State.writeDsx s off v).tw.lastHb = s.tw.lastHb ∧ (State.writeDsx s off v).pending = s.pending ∧ (State.writeDsx s off v).model = s.model := by
  unfold State.writeDsx; (repeat' split) <;> simp [↓each_tick, ↓each_lastHb, ↓each_pending, ↓each_model]

@[simp] theorem State.writeCapu_keeps (s : State) (u : Fin 4) (off : Nat) (v : BitVec 32) :
    (State.writeCapu s u off v).tick = s.tick ∧ (State.writeCapu s u off v).tw.lastHb = s.tw.lastHb ∧ (State.writeCapu s u off v).pending = s.pending ∧ (State.writeCapu s u off v).model = s.model := by
  unfold State.writeCapu; (repeat' split) <;> simp [↓each_tick, ↓each_lastHb, ↓each_pending, ↓each_model]

@[simp] theorem State.writeCe_keeps (s : State) (off : Nat) (v : BitVec 32) :
    (State.writeCe s off v).tick = s.tick ∧ (State.writeCe s off v).tw.lastHb = s.tw.lastHb ∧ (State.writeCe s off v).pending = s.pending ∧ (State.writeCe s off v).model = s.model := by
  unfold State.writeCe; (repeat' split) <;> simp [↓each_tick, ↓each_lastHb, ↓each_pending, ↓each_model]

@[simp] theorem State.writePp_keeps (s : State) (off : Nat) (v : BitVec 32) :
    (State.writePp s off v).tick = s.tick ∧ (State.writePp s off v).tw.lastHb = s.tw.lastHb ∧ (State.writePp s off v).pending = s.pending ∧ (State.writePp s off v).model = s.model := by
  unfold State.writePp; (repeat' split) <;> simp [↓each_tick, ↓each_lastHb, ↓each_pending, ↓each_model]

@[simp] theorem State.writePol_keeps (s : State) (off : Nat) (v : BitVec 32) :
    (State.writePol s off v).tick = s.tick ∧ (State.writePol s off v).tw.lastHb = s.tw.lastHb ∧ (State.writePol s off v).pending = s.pending ∧ (State.writePol s off v).model = s.model := by
  unfold State.writePol; (repeat' split) <;> simp [↓each_tick, ↓each_lastHb, ↓each_pending, ↓each_model]

@[simp] theorem State.writeWake_keeps (s : State) (n : Fin 12) (f : Bus → Bus) :
    (State.writeWake s n f).tick = s.tick ∧ (State.writeWake s n f).tw.lastHb = s.tw.lastHb ∧ (State.writeWake s n f).pending = s.pending ∧ (State.writeWake s n f).model = s.model := by
  unfold State.writeWake; (repeat' split) <;> simp [↓each_tick, ↓each_lastHb, ↓each_pending, ↓each_model]

@[simp] theorem State.writeBus_keeps (s : State) (n : Fin 12) (off : Nat) (v : BitVec 32) :
    (State.writeBus s n off v).tick = s.tick ∧ (State.writeBus s n off v).tw.lastHb = s.tw.lastHb ∧ (State.writeBus s n off v).pending = s.pending ∧ (State.writeBus s n off v).model = s.model := by
  unfold State.writeBus; (repeat' split) <;> simp [↓each_tick, ↓each_lastHb, ↓each_pending, ↓each_model]

@[simp] theorem State.writeLv_keeps (s : State) (off : Nat) (v : BitVec 32) :
    (State.writeLv s off v).tick = s.tick ∧ (State.writeLv s off v).tw.lastHb = s.tw.lastHb ∧ (State.writeLv s off v).pending = s.pending ∧ (State.writeLv s off v).model = s.model := by
  unfold State.writeLv; (repeat' split) <;> simp [↓each_tick, ↓each_lastHb, ↓each_pending, ↓each_model]

@[simp] theorem State.writeSluice_keeps (s : State) (n : Nat) (v : BitVec 32) :
    (State.writeSluice s n v).tick = s.tick ∧ (State.writeSluice s n v).tw.lastHb = s.tw.lastHb ∧ (State.writeSluice s n v).pending = s.pending ∧ (State.writeSluice s n v).model = s.model := by
  refine ⟨?_, ?_, ?_, ?_⟩ <;> simp [State.writeSluice, ↓each_tick, ↓each_lastHb, ↓each_pending, ↓each_model]

@[simp] theorem State.writeFc_keeps (s : State) (off : Nat) (v : BitVec 32) :
    (State.writeFc s off v).tick = s.tick ∧ (State.writeFc s off v).tw.lastHb = s.tw.lastHb ∧ (State.writeFc s off v).pending = s.pending ∧ (State.writeFc s off v).model = s.model := by
  unfold State.writeFc; (repeat' split) <;> simp [↓each_tick, ↓each_lastHb, ↓each_pending, ↓each_model]

@[simp] theorem State.writeWindow_keeps (s : State) (off : Nat) (v : BitVec 32) :
    (State.writeWindow s off v).tick = s.tick ∧ (State.writeWindow s off v).tw.lastHb = s.tw.lastHb ∧ (State.writeWindow s off v).pending = s.pending ∧ (State.writeWindow s off v).model = s.model := by
  refine ⟨?_, ?_, ?_, ?_⟩ <;> simp [State.writeWindow, ↓each_tick, ↓each_lastHb, ↓each_pending, ↓each_model]

@[simp] theorem State.writeRecovery_keeps (s : State) (a : Nat) (v : BitVec 32) :
    (State.writeRecovery s a v).tick = s.tick ∧ (State.writeRecovery s a v).tw.lastHb = s.tw.lastHb ∧ (State.writeRecovery s a v).pending = s.pending ∧ (State.writeRecovery s a v).model = s.model := by
  unfold State.writeRecovery; (repeat' split) <;> simp [↓each_tick, ↓each_lastHb, ↓each_pending, ↓each_model]

@[simp] theorem State.writeBar0_keeps (s : State) (a : Nat) (v : BitVec 32) :
    (State.writeBar0 s a v).tick = s.tick ∧ (State.writeBar0 s a v).tw.lastHb = s.tw.lastHb ∧ (State.writeBar0 s a v).pending = s.pending ∧ (State.writeBar0 s a v).model = s.model := by
  unfold State.writeBar0; (repeat' split) <;> simp [↓each_tick, ↓each_lastHb, ↓each_pending, ↓each_model]

@[simp] theorem State.registerWrite_keeps (s : State) (addr : BitVec 16) (v : BitVec 32) :
    (State.registerWrite s addr v).tick = s.tick ∧ (State.registerWrite s addr v).tw.lastHb = s.tw.lastHb ∧ (State.registerWrite s addr v).pending = s.pending ∧ (State.registerWrite s addr v).model = s.model := by
  unfold State.registerWrite; dsimp only; (repeat' split) <;> simp [↓each_tick, ↓each_lastHb, ↓each_pending, ↓each_model]

@[simp] theorem State.mark_keeps (s : State) (j : Job) :
    (State.mark s j).tick = s.tick ∧ (State.mark s j).tw.lastHb = s.tw.lastHb ∧ (State.mark s j).pending = s.pending ∧ (State.mark s j).model = s.model := by
  refine ⟨?_, ?_, ?_, ?_⟩ <;> simp [State.mark, ↓each_tick, ↓each_lastHb, ↓each_pending, ↓each_model]

@[simp] theorem State.unmark_keeps (s : State) (j : Job) :
    (State.unmark s j).tick = s.tick ∧ (State.unmark s j).tw.lastHb = s.tw.lastHb ∧ (State.unmark s j).pending = s.pending ∧ (State.unmark s j).model = s.model := by
  refine ⟨?_, ?_, ?_, ?_⟩ <;> simp [State.unmark, ↓each_tick, ↓each_lastHb, ↓each_pending, ↓each_model]

@[simp] theorem State.countLane_keeps (s : State) (k : Fin 48) :
    (State.countLane s k).tick = s.tick ∧ (State.countLane s k).tw.lastHb = s.tw.lastHb ∧ (State.countLane s k).pending = s.pending ∧ (State.countLane s k).model = s.model := by
  refine ⟨?_, ?_, ?_, ?_⟩ <;> simp [State.countLane, ↓each_tick, ↓each_lastHb, ↓each_pending, ↓each_model]

@[simp] theorem State.bermAbandon_keeps (s : State) (j : Job) :
    (State.bermAbandon s j).tick = s.tick ∧ (State.bermAbandon s j).tw.lastHb = s.tw.lastHb ∧ (State.bermAbandon s j).pending = s.pending ∧ (State.bermAbandon s j).model = s.model := by
  unfold State.bermAbandon; (repeat' split) <;> simp [↓each_tick, ↓each_lastHb, ↓each_pending, ↓each_model]

@[simp] theorem State.laneStop_keeps (s : State) (k : Fin 48) :
    (State.laneStop s k).tick = s.tick ∧ (State.laneStop s k).tw.lastHb = s.tw.lastHb ∧ (State.laneStop s k).pending = s.pending ∧ (State.laneStop s k).model = s.model := by
  unfold State.laneStop; dsimp only; (repeat' split) <;> simp [↓each_tick, ↓each_lastHb, ↓each_pending, ↓each_model]

@[simp] theorem State.carCoreJobDrops_keeps (s : State) (cc : Fin 4) :
    (State.carCoreJobDrops s cc).tick = s.tick ∧ (State.carCoreJobDrops s cc).tw.lastHb = s.tw.lastHb ∧ (State.carCoreJobDrops s cc).pending = s.pending ∧ (State.carCoreJobDrops s cc).model = s.model := by
  unfold State.carCoreJobDrops; dsimp only; (repeat' split) <;> simp [↓each_tick, ↓each_lastHb, ↓each_pending, ↓each_model]

@[simp] theorem State.tickSyncFault_keeps (s : State) (offset : Int) :
    (State.tickSyncFault s offset).tick = s.tick ∧ (State.tickSyncFault s offset).tw.lastHb = s.tw.lastHb ∧ (State.tickSyncFault s offset).pending = s.pending ∧ (State.tickSyncFault s offset).model = s.model := by
  unfold State.tickSyncFault; (repeat' split) <;> simp [↓each_tick, ↓each_lastHb, ↓each_pending, ↓each_model]

end Sys2Proof.Machine
end

