-- ==== Sys2Proof/Laws/KeepsTwin.lean ====
section
/-! SUPPORT. What the operations of Replica.lean, Twin.lean, Boundary.lean leave alone: the tick counters, the last heartbeat, the queue
and the building model in force. -/

namespace Sys2Proof.Machine

open State

@[simp] theorem State.followPos_keeps (s : State) (m : Model) (r : Replica) (t : BitVec 32) (c : Fin 16) :
    (State.followPos s m r t c).tick = s.tick ∧ (State.followPos s m r t c).tw.lastHb = s.tw.lastHb ∧ (State.followPos s m r t c).pending = s.pending ∧ (State.followPos s m r t c).model = s.model := by
  unfold State.followPos; dsimp only; (repeat' split) <;> simp [↓each_tick, ↓each_lastHb, ↓each_pending, ↓each_model]

@[simp] theorem State.follow_keeps (s : State) (m : Model) (r : Replica) (t : BitVec 32) (snap : Bool) :
    (State.follow s m r t snap).tick = s.tick ∧ (State.follow s m r t snap).tw.lastHb = s.tw.lastHb ∧ (State.follow s m r t snap).pending = s.pending ∧ (State.follow s m r t snap).model = s.model := by
  refine ⟨?_, ?_, ?_, ?_⟩ <;> simp [State.follow, ↓each_tick, ↓each_lastHb, ↓each_pending, ↓each_model]

@[simp] theorem State.sendLink_keeps (s : State) (m : Model) (type : Nat) (seq fold : BitVec 32) (body : List Byte) :
    (State.sendLink s m type seq fold body).tick = s.tick ∧ (State.sendLink s m type seq fold body).tw.lastHb = s.tw.lastHb ∧ (State.sendLink s m type seq fold body).pending = s.pending ∧ (State.sendLink s m type seq fold body).model = s.model := by
  unfold State.sendLink; dsimp only; (repeat' split) <;> simp [↓each_tick, ↓each_lastHb, ↓each_pending, ↓each_model]

@[simp] theorem State.linkError_keeps (s : State) :
    (State.linkError s).tick = s.tick ∧ (State.linkError s).tw.lastHb = s.tw.lastHb ∧ (State.linkError s).pending = s.pending ∧ (State.linkError s).model = s.model := by
  refine ⟨?_, ?_, ?_, ?_⟩ <;> simp [State.linkError, ↓each_tick, ↓each_lastHb, ↓each_pending, ↓each_model]

theorem State.onLink_keeps (s : State) (bs : List Byte) (type lo hi : Nat) (fold : BitVec 32) (bad : State → State)
    (act : State → Model → State) (hb : ∀ s, (bad s).tick = s.tick ∧ (bad s).tw.lastHb = s.tw.lastHb ∧ (bad s).pending = s.pending ∧ (bad s).model = s.model) (ha : ∀ s m, (act s m).tick = s.tick ∧ (act s m).tw.lastHb = s.tw.lastHb ∧ (act s m).pending = s.pending ∧ (act s m).model = s.model) :
    (State.onLink s bs type lo hi fold bad act).tick = s.tick ∧ (State.onLink s bs type lo hi fold bad act).tw.lastHb = s.tw.lastHb ∧ (State.onLink s bs type lo hi fold bad act).pending = s.pending ∧ (State.onLink s bs type lo hi fold bad act).model = s.model := by
  unfold State.onLink
  dsimp only
  (repeat' split) <;> simp [ha, hb]

@[simp] theorem State.judgeGate_keeps (s : State) :
    (State.judgeGate s).tick = s.tick ∧ (State.judgeGate s).tw.lastHb = s.tw.lastHb ∧ (State.judgeGate s).pending = s.pending ∧ (State.judgeGate s).model = s.model := by
  unfold State.judgeGate; (repeat' split) <;> first | (simp [↓each_tick, ↓each_lastHb, ↓each_pending, ↓each_model]; done) | (refine each_keeps4 _ _ _ fun s a => ?_; dsimp only; (repeat' split) <;> simp [↓each_tick, ↓each_lastHb, ↓each_pending, ↓each_model]) | (refine each_keeps4 _ _ _ fun s a => ?_; (repeat' split) <;> simp [↓each_tick, ↓each_lastHb, ↓each_pending, ↓each_model])

@[simp] theorem State.openGate_keeps (s : State) :
    (State.openGate s).tick = s.tick ∧ (State.openGate s).tw.lastHb = s.tw.lastHb ∧ (State.openGate s).pending = s.pending ∧ (State.openGate s).model = s.model := by
  unfold State.openGate; (repeat' split) <;> simp [↓each_tick, ↓each_lastHb, ↓each_pending, ↓each_model]

@[simp] theorem State.release_keeps (s : State) (mute : Bool) :
    (State.release s mute).tick = s.tick ∧ (State.release s mute).tw.lastHb = s.tw.lastHb ∧ (State.release s mute).pending = s.pending ∧ (State.release s mute).model = s.model := by
  refine ⟨?_, ?_, ?_, ?_⟩ <;> simp [State.release, ↓each_tick, ↓each_lastHb, ↓each_pending, ↓each_model]

@[simp] theorem State.silence_keeps (s : State) :
    (State.silence s).tick = s.tick ∧ (State.silence s).tw.lastHb = s.tw.lastHb ∧ (State.silence s).pending = s.pending ∧ (State.silence s).model = s.model := by
  refine ⟨?_, ?_, ?_, ?_⟩ <;> simp [State.silence, ↓each_tick, ↓each_lastHb, ↓each_pending, ↓each_model]

@[simp] theorem State.sendWit_keeps (s : State) (m : Model) (i ftype : Nat) (claim : BitVec 32) (payload : List Byte) :
    (State.sendWit s m i ftype claim payload).tick = s.tick ∧ (State.sendWit s m i ftype claim payload).tw.lastHb = s.tw.lastHb ∧ (State.sendWit s m i ftype claim payload).pending = s.pending ∧ (State.sendWit s m i ftype claim payload).model = s.model := by
  unfold State.sendWit; (repeat' split) <;> first | (simp [↓each_tick, ↓each_lastHb, ↓each_pending, ↓each_model]; done) | (refine each_keeps4 _ _ _ fun s a => ?_; dsimp only; (repeat' split) <;> simp [↓each_tick, ↓each_lastHb, ↓each_pending, ↓each_model]) | (refine each_keeps4 _ _ _ fun s a => ?_; (repeat' split) <;> simp [↓each_tick, ↓each_lastHb, ↓each_pending, ↓each_model])

@[simp] theorem State.toWitness_keeps (s : State) (t : Nat) (p : List Byte) :
    (State.toWitness s t p).tick = s.tick ∧ (State.toWitness s t p).tw.lastHb = s.tw.lastHb ∧ (State.toWitness s t p).pending = s.pending ∧ (State.toWitness s t p).model = s.model := by
  unfold State.toWitness
  split
  · simp
  · rename_i m _
    cases m.wit? 0 <;> simp

@[simp] theorem State.sendReq_keeps (s : State) (kind : Nat) :
    (State.sendReq s kind).tick = s.tick ∧ (State.sendReq s kind).tw.lastHb = s.tw.lastHb ∧ (State.sendReq s kind).pending = s.pending ∧ (State.sendReq s kind).model = s.model := by
  refine ⟨?_, ?_, ?_, ?_⟩ <;> simp [State.sendReq, ↓each_tick, ↓each_lastHb, ↓each_pending, ↓each_model]

@[simp] theorem State.sendRel_keeps (s : State) :
    (State.sendRel s).tick = s.tick ∧ (State.sendRel s).tw.lastHb = s.tw.lastHb ∧ (State.sendRel s).pending = s.pending ∧ (State.sendRel s).model = s.model := by
  refine ⟨?_, ?_, ?_, ?_⟩ <;> simp [State.sendRel, ↓each_tick, ↓each_lastHb, ↓each_pending, ↓each_model]

theorem State.onWit_keeps (s : State) (fr : Frame) (addr ftype plen : Nat) (act : State → State) (ha : ∀ s, (act s).tick = s.tick ∧ (act s).tw.lastHb = s.tw.lastHb ∧ (act s).pending = s.pending ∧ (act s).model = s.model) :
    (State.onWit s fr addr ftype plen act).tick = s.tick ∧ (State.onWit s fr addr ftype plen act).tw.lastHb = s.tw.lastHb ∧ (State.onWit s fr addr ftype plen act).pending = s.pending ∧ (State.onWit s fr addr ftype plen act).model = s.model := by
  unfold State.onWit
  split
  · simp
  · split
    · rename_i t m h _
      have hk := State.hear_keeps h
      dsimp only
      (repeat' split) <;> simp [hk, ha]
    · rename_i t h _
      simp [State.hear_keeps h]
    · simp

@[simp] theorem State.unsync_keeps (s : State) :
    (State.unsync s).tick = s.tick ∧ (State.unsync s).tw.lastHb = s.tw.lastHb ∧ (State.unsync s).pending = s.pending ∧ (State.unsync s).model = s.model := by
  refine ⟨?_, ?_, ?_, ?_⟩ <;> simp [State.unsync, ↓each_tick, ↓each_lastHb, ↓each_pending, ↓each_model]

@[simp] theorem State.epochFail_keeps (s : State) (arrived : Bool) :
    (State.epochFail s arrived).tick = s.tick ∧ (State.epochFail s arrived).tw.lastHb = s.tw.lastHb ∧ (State.epochFail s arrived).pending = s.pending ∧ (State.epochFail s arrived).model = s.model := by
  unfold State.epochFail; dsimp only; (repeat' split) <;> simp [↓each_tick, ↓each_lastHb, ↓each_pending, ↓each_model]

@[simp] theorem State.applyEpoch_keeps (s : State) (m : Model) (bs : List Byte) :
    (State.applyEpoch s m bs).tick = s.tick ∧ (State.applyEpoch s m bs).tw.lastHb = s.tw.lastHb ∧ (State.applyEpoch s m bs).pending = s.pending ∧ (State.applyEpoch s m bs).model = s.model := by
  unfold State.applyEpoch; (repeat' split) <;> simp [↓each_tick, ↓each_lastHb, ↓each_pending, ↓each_model]

@[simp] theorem State.takeEpoch_keeps (s : State) (m : Model) :
    (State.takeEpoch s m).tick = s.tick ∧ (State.takeEpoch s m).tw.lastHb = s.tw.lastHb ∧ (State.takeEpoch s m).pending = s.pending ∧ (State.takeEpoch s m).model = s.model := by
  unfold State.takeEpoch; (repeat' split) <;> simp [↓each_tick, ↓each_lastHb, ↓each_pending, ↓each_model]

@[simp] theorem State.installRsi_keeps (s : State) (m : Model) :
    (State.installRsi s m).tick = s.tick ∧ (State.installRsi s m).tw.lastHb = s.tw.lastHb ∧ (State.installRsi s m).pending = s.pending ∧ (State.installRsi s m).model = s.model := by
  unfold State.installRsi
  dsimp only
  split
  · simp
  · refine kept_trans (each_keeps4 _ _ _ fun s a => ?_) (by simp)
    split <;> simp

@[simp] theorem State.standbyT1_keeps (s : State) (m : Model) :
    (State.standbyT1 s m).tick = s.tick ∧ (State.standbyT1 s m).tw.lastHb = s.tw.lastHb ∧ (State.standbyT1 s m).pending = s.pending ∧ (State.standbyT1 s m).model = s.model := by
  unfold State.standbyT1; dsimp only; (repeat' split) <;> simp [↓each_tick, ↓each_lastHb, ↓each_pending, ↓each_model]

@[simp] theorem State.epochRx_keeps (s : State) (bs : List Byte) :
    (State.epochRx s bs).tick = s.tick ∧ (State.epochRx s bs).tw.lastHb = s.tw.lastHb ∧ (State.epochRx s bs).pending = s.pending ∧ (State.epochRx s bs).model = s.model := by
  unfold State.epochRx; (try dsimp only); (repeat' split) <;> first | (simp; done) | (refine State.onLink_keeps _ _ _ _ _ _ _ _ (fun s => ?_) (fun s m => ?_) <;> (try dsimp only) <;> (repeat' split) <;> simp)

@[simp] theorem State.partFail_keeps (s : State) :
    (State.partFail s).tick = s.tick ∧ (State.partFail s).tw.lastHb = s.tw.lastHb ∧ (State.partFail s).pending = s.pending ∧ (State.partFail s).model = s.model := by
  unfold State.partFail; (repeat' split) <;> simp [↓each_tick, ↓each_lastHb, ↓each_pending, ↓each_model]

@[simp] theorem State.addPart_keeps (s : State) (t2 : BitVec 32) (off : Nat) (data : List Byte) :
    (State.addPart s t2 off data).tick = s.tick ∧ (State.addPart s t2 off data).tw.lastHb = s.tw.lastHb ∧ (State.addPart s t2 off data).pending = s.pending ∧ (State.addPart s t2 off data).model = s.model := by
  unfold State.addPart; dsimp only; (repeat' split) <;> simp [↓each_tick, ↓each_lastHb, ↓each_pending, ↓each_model]

@[simp] theorem State.takePart_keeps (s : State) (bs : List Byte) :
    (State.takePart s bs).tick = s.tick ∧ (State.takePart s bs).tw.lastHb = s.tw.lastHb ∧ (State.takePart s bs).pending = s.pending ∧ (State.takePart s bs).model = s.model := by
  unfold State.takePart; dsimp only; (repeat' split) <;> simp [↓each_tick, ↓each_lastHb, ↓each_pending, ↓each_model]

@[simp] theorem State.snapPartRx_keeps (s : State) (bs : List Byte) :
    (State.snapPartRx s bs).tick = s.tick ∧ (State.snapPartRx s bs).tw.lastHb = s.tw.lastHb ∧ (State.snapPartRx s bs).pending = s.pending ∧ (State.snapPartRx s bs).model = s.model := by
  unfold State.snapPartRx; (repeat' split) <;> first | (simp; done) | (refine State.onLink_keeps _ _ _ _ _ _ _ _ (fun s => ?_) (fun s m => ?_) <;> (try dsimp only) <;> (repeat' split) <;> simp)

@[simp] theorem State.sendEpoch_keeps (s : State) (m : Model) :
    (State.sendEpoch s m).tick = s.tick ∧ (State.sendEpoch s m).tw.lastHb = s.tw.lastHb ∧ (State.sendEpoch s m).pending = s.pending ∧ (State.sendEpoch s m).model = s.model := by
  unfold State.sendEpoch; dsimp only; (repeat' split) <;> simp [↓each_tick, ↓each_lastHb, ↓each_pending, ↓each_model]

@[simp] theorem State.takeRsi_keeps (s : State) :
    (State.takeRsi s).tick = s.tick ∧ (State.takeRsi s).tw.lastHb = s.tw.lastHb ∧ (State.takeRsi s).pending = s.pending ∧ (State.takeRsi s).model = s.model := by
  unfold State.takeRsi; (repeat' split) <;> simp [↓each_tick, ↓each_lastHb, ↓each_pending, ↓each_model]

@[simp] theorem State.sendPart_keeps (s : State) (m : Model) :
    (State.sendPart s m).tick = s.tick ∧ (State.sendPart s m).tw.lastHb = s.tw.lastHb ∧ (State.sendPart s m).pending = s.pending ∧ (State.sendPart s m).model = s.model := by
  unfold State.sendPart; (repeat' split) <;> simp [↓each_tick, ↓each_lastHb, ↓each_pending, ↓each_model]

@[simp] theorem State.sendOwed_keeps (s : State) (m : Model) :
    (State.sendOwed s m).tick = s.tick ∧ (State.sendOwed s m).tw.lastHb = s.tw.lastHb ∧ (State.sendOwed s m).pending = s.pending ∧ (State.sendOwed s m).model = s.model := by
  unfold State.sendOwed; (repeat' split) <;> simp [↓each_tick, ↓each_lastHb, ↓each_pending, ↓each_model]

@[simp] theorem State.sendImage_keeps (s : State) (m : Model) :
    (State.sendImage s m).tick = s.tick ∧ (State.sendImage s m).tw.lastHb = s.tw.lastHb ∧ (State.sendImage s m).pending = s.pending ∧ (State.sendImage s m).model = s.model := by
  unfold State.sendImage; dsimp only; (repeat' split) <;> simp [↓each_tick, ↓each_lastHb, ↓each_pending, ↓each_model]

@[simp] theorem State.imageLinkFrame_take_keeps (s : State) :
    (State.imageLinkFrame.take s).tick = s.tick ∧ (State.imageLinkFrame.take s).tw.lastHb = s.tw.lastHb ∧ (State.imageLinkFrame.take s).pending = s.pending ∧ (State.imageLinkFrame.take s).model = s.model := by
  unfold State.imageLinkFrame.take
  dsimp only
  split <;> simp

@[simp] theorem State.imageLinkFrame_keeps (s : State) (bs : List Byte) :
    (State.imageLinkFrame s bs).tick = s.tick ∧ (State.imageLinkFrame s bs).tw.lastHb = s.tw.lastHb ∧ (State.imageLinkFrame s bs).pending = s.pending ∧ (State.imageLinkFrame s bs).model = s.model := by
  unfold State.imageLinkFrame
  dsimp only
  split
  · simp
  · refine State.onLink_keeps _ _ _ _ _ _ _ _ (fun s => by simp) fun s m => ?_
    (repeat' split) <;> simp

@[simp] theorem State.sendHeartbeat_keeps (s : State) (m : Model) :
    (State.sendHeartbeat s m).tick = s.tick ∧ (State.sendHeartbeat s m).tw.lastHb = s.tw.lastHb ∧ (State.sendHeartbeat s m).pending = s.pending ∧ (State.sendHeartbeat s m).model = s.model := by
  unfold State.sendHeartbeat; (repeat' split) <;> simp [↓each_tick, ↓each_lastHb, ↓each_pending, ↓each_model]

@[simp] theorem State.standbyHb_keeps (s : State) (h : PeerHb) (counts : Bool) :
    (State.standbyHb s h counts).tick = s.tick ∧ (State.standbyHb s h counts).tw.lastHb = s.tw.lastHb ∧ (State.standbyHb s h counts).pending = s.pending ∧ (State.standbyHb s h counts).model = s.model := by
  unfold State.standbyHb; dsimp only; (repeat' split) <;> simp [↓each_tick, ↓each_lastHb, ↓each_pending, ↓each_model]

@[simp] theorem State.activeHb_keeps (s : State) (h : PeerHb) :
    (State.activeHb s h).tick = s.tick ∧ (State.activeHb s h).tw.lastHb = s.tw.lastHb ∧ (State.activeHb s h).pending = s.pending ∧ (State.activeHb s h).model = s.model := by
  unfold State.activeHb; dsimp only; (repeat' split) <;> simp [↓each_tick, ↓each_lastHb, ↓each_pending, ↓each_model]

@[simp] theorem State.heartbeatLost_keeps (s : State) :
    (State.heartbeatLost s).tick = s.tick ∧ (State.heartbeatLost s).tw.lastHb = s.tw.lastHb ∧ (State.heartbeatLost s).pending = s.pending ∧ (State.heartbeatLost s).model = s.model := by
  unfold State.heartbeatLost; dsimp only; (repeat' split) <;> simp [↓each_tick, ↓each_lastHb, ↓each_pending, ↓each_model]

@[simp] theorem State.yilzLaneLoss_keeps (s : State) (lane : Fin 2) :
    (State.yilzLaneLoss s lane).tick = s.tick ∧ (State.yilzLaneLoss s lane).tw.lastHb = s.tw.lastHb ∧ (State.yilzLaneLoss s lane).pending = s.pending ∧ (State.yilzLaneLoss s lane).model = s.model := by
  unfold State.yilzLaneLoss; dsimp only; (repeat' split) <;> simp [↓each_tick, ↓each_lastHb, ↓each_pending, ↓each_model]

@[simp] theorem State.yilzLaneSync_keeps (s : State) (lane : Fin 2) :
    (State.yilzLaneSync s lane).tick = s.tick ∧ (State.yilzLaneSync s lane).tw.lastHb = s.tw.lastHb ∧ (State.yilzLaneSync s lane).pending = s.pending ∧ (State.yilzLaneSync s lane).model = s.model := by
  unfold State.yilzLaneSync; (repeat' split) <;> simp [↓each_tick, ↓each_lastHb, ↓each_pending, ↓each_model]

@[simp] theorem State.claimWordSend_keeps (s : State) :
    (State.claimWordSend s).tick = s.tick ∧ (State.claimWordSend s).tw.lastHb = s.tw.lastHb ∧ (State.claimWordSend s).pending = s.pending ∧ (State.claimWordSend s).model = s.model := by
  unfold State.claimWordSend; (repeat' split) <;> simp [↓each_tick, ↓each_lastHb, ↓each_pending, ↓each_model]

@[simp] theorem State.claimWordRx_keeps (s : State) (w : BitVec 64) :
    (State.claimWordRx s w).tick = s.tick ∧ (State.claimWordRx s w).tw.lastHb = s.tw.lastHb ∧ (State.claimWordRx s w).pending = s.pending ∧ (State.claimWordRx s w).model = s.model := by
  unfold State.claimWordRx; dsimp only; (repeat' split) <;> simp [↓each_tick, ↓each_lastHb, ↓each_pending, ↓each_model]

@[simp] theorem State.claimWordTimeout_keeps (s : State) :
    (State.claimWordTimeout s).tick = s.tick ∧ (State.claimWordTimeout s).tw.lastHb = s.tw.lastHb ∧ (State.claimWordTimeout s).pending = s.pending ∧ (State.claimWordTimeout s).model = s.model := by
  unfold State.claimWordTimeout; dsimp only; (repeat' split) <;> simp [↓each_tick, ↓each_lastHb, ↓each_pending, ↓each_model]

@[simp] theorem State.roleNegotiation_keeps (s : State) :
    (State.roleNegotiation s).tick = s.tick ∧ (State.roleNegotiation s).tw.lastHb = s.tw.lastHb ∧ (State.roleNegotiation s).pending = s.pending ∧ (State.roleNegotiation s).model = s.model := by
  unfold State.roleNegotiation; dsimp only; (repeat' split) <;> simp [↓each_tick, ↓each_lastHb, ↓each_pending, ↓each_model]

@[simp] theorem State.takeWaiting_keeps (s : State) :
    (State.takeWaiting s).tick = s.tick ∧ (State.takeWaiting s).tw.lastHb = s.tw.lastHb ∧ (State.takeWaiting s).pending = s.pending ∧ (State.takeWaiting s).model = s.model := by
  unfold State.takeWaiting; (repeat' split) <;> simp [↓each_tick, ↓each_lastHb, ↓each_pending, ↓each_model]

@[simp] theorem State.leaseAns_keeps (s : State) (fr : Frame) :
    (State.leaseAns s fr).tick = s.tick ∧ (State.leaseAns s fr).tw.lastHb = s.tw.lastHb ∧ (State.leaseAns s fr).pending = s.pending ∧ (State.leaseAns s fr).model = s.model := by
  unfold State.leaseAns
  (try dsimp only)
  split
  · simp
  · refine State.onWit_keeps _ _ _ _ _ _ fun s => ?_
    (try dsimp only)
    (repeat' split) <;> simp

@[simp] theorem State.leaseExpiry_keeps (s : State) :
    (State.leaseExpiry s).tick = s.tick ∧ (State.leaseExpiry s).tw.lastHb = s.tw.lastHb ∧ (State.leaseExpiry s).pending = s.pending ∧ (State.leaseExpiry s).model = s.model := by
  unfold State.leaseExpiry; dsimp only; (repeat' split) <;> simp [↓each_tick, ↓each_lastHb, ↓each_pending, ↓each_model]

@[simp] theorem State.safeHoldRelease_keeps (s : State) :
    (State.safeHoldRelease s).tick = s.tick ∧ (State.safeHoldRelease s).tw.lastHb = s.tw.lastHb ∧ (State.safeHoldRelease s).pending = s.pending ∧ (State.safeHoldRelease s).model = s.model := by
  unfold State.safeHoldRelease; (repeat' split) <;> simp [↓each_tick, ↓each_lastHb, ↓each_pending, ↓each_model]

@[simp] theorem State.leasesGone_keeps (s : State) :
    (State.leasesGone s).tick = s.tick ∧ (State.leasesGone s).tw.lastHb = s.tw.lastHb ∧ (State.leasesGone s).pending = s.pending ∧ (State.leasesGone s).model = s.model := by
  refine ⟨?_, ?_, ?_, ?_⟩ <;> simp [State.leasesGone, ↓each_tick, ↓each_lastHb, ↓each_pending, ↓each_model]

@[simp] theorem State.yieldClaim_keeps (s : State) :
    (State.yieldClaim s).tick = s.tick ∧ (State.yieldClaim s).tw.lastHb = s.tw.lastHb ∧ (State.yieldClaim s).pending = s.pending ∧ (State.yieldClaim s).model = s.model := by
  refine ⟨?_, ?_, ?_, ?_⟩ <;> simp [State.yieldClaim, ↓each_tick, ↓each_lastHb, ↓each_pending, ↓each_model]

@[simp] theorem State.becomeActive_keeps (s : State) (cause : Nat) :
    (State.becomeActive s cause).tick = s.tick ∧ (State.becomeActive s cause).tw.lastHb = s.tw.lastHb ∧ (State.becomeActive s cause).pending = s.pending ∧ (State.becomeActive s cause).model = s.model := by
  unfold State.becomeActive; (repeat' split) <;> simp [↓each_tick, ↓each_lastHb, ↓each_pending, ↓each_model]

@[simp] theorem State.takeover_keeps (s : State) (m : Model) :
    (State.takeover s m).tick = s.tick ∧ (State.takeover s m).tw.lastHb = s.tw.lastHb ∧ (State.takeover s m).pending = s.pending ∧ (State.takeover s m).model = s.model := by
  unfold State.takeover; dsimp only; (repeat' split) <;> simp [↓each_tick, ↓each_lastHb, ↓each_pending, ↓each_model]

@[simp] theorem State.ageTwin_keeps (s : State) :
    (State.ageTwin s).tick = s.tick ∧ (State.ageTwin s).tw.lastHb = s.tw.lastHb ∧ (State.ageTwin s).pending = s.pending ∧ (State.ageTwin s).model = s.model := by
  refine ⟨?_, ?_, ?_, ?_⟩ <;> simp [State.ageTwin, ↓each_tick, ↓each_lastHb, ↓each_pending, ↓each_model]

@[simp] theorem State.twinChanges_keeps (s : State) (m : Model) :
    (State.twinChanges s m).tick = s.tick ∧ (State.twinChanges s m).tw.lastHb = s.tw.lastHb ∧ (State.twinChanges s m).pending = s.pending ∧ (State.twinChanges s m).model = s.model := by
  unfold State.twinChanges; (repeat' split) <;> simp [↓each_tick, ↓each_lastHb, ↓each_pending, ↓each_model]

@[simp] theorem State.leaseRequests_keeps (s : State) :
    (State.leaseRequests s).tick = s.tick ∧ (State.leaseRequests s).tw.lastHb = s.tw.lastHb ∧ (State.leaseRequests s).pending = s.pending ∧ (State.leaseRequests s).model = s.model := by
  unfold State.leaseRequests; dsimp only; (repeat' split) <;> simp [↓each_tick, ↓each_lastHb, ↓each_pending, ↓each_model]

@[simp] theorem State.startWitness_keeps (s : State) :
    (State.startWitness s).tick = s.tick ∧ (State.startWitness s).tw.lastHb = s.tw.lastHb ∧ (State.startWitness s).pending = s.pending ∧ (State.startWitness s).model = s.model := by
  refine ⟨?_, ?_, ?_, ?_⟩ <;> simp [State.startWitness, ↓each_tick, ↓each_lastHb, ↓each_pending, ↓each_model]

@[simp] theorem State.answerModule_keeps (s : State) (n : Nat) (k : BitVec 32) (p : List Byte) :
    (State.answerModule s n k p).tick = s.tick ∧ (State.answerModule s n k p).tw.lastHb = s.tw.lastHb ∧ (State.answerModule s n k p).pending = s.pending ∧ (State.answerModule s n k p).model = s.model := by
  unfold State.answerModule
  split
  · simp
  · rename_i m _
    cases m.wit? n <;> simp

@[simp] theorem State.witnessLeaseReq_keeps (s : State) (fr : Frame) :
    (State.witnessLeaseReq s fr).tick = s.tick ∧ (State.witnessLeaseReq s fr).tw.lastHb = s.tw.lastHb ∧ (State.witnessLeaseReq s fr).pending = s.pending ∧ (State.witnessLeaseReq s fr).model = s.model := by
  unfold State.witnessLeaseReq
  (try dsimp only)
  split
  · simp
  · refine State.onWit_keeps _ _ _ _ _ _ fun s => ?_
    (try dsimp only)
    (repeat' split) <;> simp

@[simp] theorem State.witnessLeaseRel_keeps (s : State) (fr : Frame) :
    (State.witnessLeaseRel s fr).tick = s.tick ∧ (State.witnessLeaseRel s fr).tw.lastHb = s.tw.lastHb ∧ (State.witnessLeaseRel s fr).pending = s.pending ∧ (State.witnessLeaseRel s fr).model = s.model := by
  unfold State.witnessLeaseRel
  dsimp only
  split
  · simp
  · refine State.onWit_keeps _ _ _ _ _ _ fun s => ?_
    refine ⟨by simp, ?_, by simp, by simp⟩
    simp only [State.updTw]
    split <;> rfl

@[simp] theorem State.witStatusSend_keeps (s : State) :
    (State.witStatusSend s).tick = s.tick ∧ (State.witStatusSend s).tw.lastHb = s.tw.lastHb ∧ (State.witStatusSend s).pending = s.pending ∧ (State.witStatusSend s).model = s.model := by
  unfold State.witStatusSend
  split
  · simp
  · split
    · simp
    · rename_i m _
      dsimp only
      refine each_keeps4 _ _ _ fun t a => ?_
      cases m.wit? a <;> simp

@[simp] theorem State.witStatusRx_keeps (s : State) (fr : Frame) :
    (State.witStatusRx s fr).tick = s.tick ∧ (State.witStatusRx s fr).tw.lastHb = s.tw.lastHb ∧ (State.witStatusRx s fr).pending = s.pending ∧ (State.witStatusRx s fr).model = s.model := by
  unfold State.witStatusRx; (repeat' split) <;> first | (simp; done) | (refine State.onWit_keeps _ _ _ _ _ _ fun s => ?_; (try dsimp only); (repeat' split) <;> simp)

theorem State.modelElim_keeps (o : Option Model) (s : State) (f : Model → State) (h : ∀ m, (f m).tick = s.tick ∧ (f m).tw.lastHb = s.tw.lastHb ∧ (f m).pending = s.pending ∧ (f m).model = s.model) :
    (o.elim s f).tick = s.tick ∧ (o.elim s f).tw.lastHb = s.tw.lastHb ∧ (o.elim s f).pending = s.pending ∧ (o.elim s f).model = s.model := by
  cases o <;> simp [h]

theorem State.takeFatal_loose (s : State) : State.Loose s (State.takeFatal s) := by
  have h : State.Loose s (s.updFc fun f => { f with arrived := [] }).settleBoot :=
    (Loose.of_keeps (by simp)).trans (State.settleBoot_loose _)
  revert h
  unfold State.takeFatal
  extract_lets a t
  intro h
  split
  · exact h.trans (.of_keeps (State.enterSafeHold_keeps t 3))
  · exact h

@[simp] theorem State.sealFault_keeps (s : State) :
    (State.sealFault s).tick = s.tick ∧ (State.sealFault s).tw.lastHb = s.tw.lastHb ∧ (State.sealFault s).pending = s.pending ∧ (State.sealFault s).model = s.model := by
  unfold State.sealFault; (repeat' split) <;> simp [↓each_tick, ↓each_lastHb, ↓each_pending, ↓each_model]

@[simp] theorem State.samplePorts_keeps (s : State) :
    (State.samplePorts s).tick = s.tick ∧ (State.samplePorts s).tw.lastHb = s.tw.lastHb ∧ (State.samplePorts s).pending = s.pending ∧ (State.samplePorts s).model = s.model := by
  unfold State.samplePorts; (repeat' split) <;> simp [↓each_tick, ↓each_lastHb, ↓each_pending, ↓each_model]

@[simp] theorem State.latches_keeps (s : State) :
    (State.latches s).tick = s.tick ∧ (State.latches s).tw.lastHb = s.tw.lastHb ∧ (State.latches s).pending = s.pending ∧ (State.latches s).model = s.model := by
  refine ⟨?_, ?_, ?_, ?_⟩ <;> simp [State.latches, ↓each_tick, ↓each_lastHb, ↓each_pending, ↓each_model]

@[simp] theorem State.fusion_keeps (s : State) (m : Model) (c : Fin 16) :
    (State.fusion s m c).tick = s.tick ∧ (State.fusion s m c).tw.lastHb = s.tw.lastHb ∧ (State.fusion s m c).pending = s.pending ∧ (State.fusion s m c).model = s.model := by
  unfold State.fusion; dsimp only; (repeat' split) <;> simp [↓each_tick, ↓each_lastHb, ↓each_pending, ↓each_model]

@[simp] theorem State.lane_keeps (s : State) (m : Model) (k : Fin 48) :
    (State.lane s m k).tick = s.tick ∧ (State.lane s m k).tw.lastHb = s.tw.lastHb ∧ (State.lane s m k).pending = s.pending ∧ (State.lane s m k).model = s.model := by
  unfold State.lane; dsimp only; (repeat' split) <;> simp [↓each_tick, ↓each_lastHb, ↓each_pending, ↓each_model]

@[simp] theorem State.guards_keeps (s : State) (m : Model) (c : Fin 16) :
    (State.guards s m c).tick = s.tick ∧ (State.guards s m c).tw.lastHb = s.tw.lastHb ∧ (State.guards s m c).pending = s.pending ∧ (State.guards s m c).model = s.model := by
  unfold State.guards; (repeat' split) <;> simp [↓each_tick, ↓each_lastHb, ↓each_pending, ↓each_model]

@[simp] theorem State.closeSlots_keeps (s : State) (m : Model) (c : Fin 16) (dropped : Bool) :
    (State.closeSlots s m c dropped).tick = s.tick ∧ (State.closeSlots s m c dropped).tw.lastHb = s.tw.lastHb ∧ (State.closeSlots s m c dropped).pending = s.pending ∧ (State.closeSlots s m c dropped).model = s.model := by
  unfold State.closeSlots; (repeat' split) <;> first | (simp [↓each_tick, ↓each_lastHb, ↓each_pending, ↓each_model]; done) | (refine each_keeps4 _ _ _ fun s a => ?_; dsimp only; (repeat' split) <;> simp [↓each_tick, ↓each_lastHb, ↓each_pending, ↓each_model]) | (refine each_keeps4 _ _ _ fun s a => ?_; (repeat' split) <;> simp [↓each_tick, ↓each_lastHb, ↓each_pending, ↓each_model])

@[simp] theorem State.frames_keeps (s : State) (m : Model) (c : Fin 16) :
    (State.frames s m c).tick = s.tick ∧ (State.frames s m c).tw.lastHb = s.tw.lastHb ∧ (State.frames s m c).pending = s.pending ∧ (State.frames s m c).model = s.model := by
  unfold State.frames; dsimp only; (repeat' split) <;> simp [↓each_tick, ↓each_lastHb, ↓each_pending, ↓each_model]

@[simp] theorem State.carWork_keeps (s : State) (m : Model) :
    (State.carWork s m).tick = s.tick ∧ (State.carWork s m).tw.lastHb = s.tw.lastHb ∧ (State.carWork s m).pending = s.pending ∧ (State.carWork s m).model = s.model := by
  unfold State.carWork; (repeat' split) <;> simp [↓each_tick, ↓each_lastHb, ↓each_pending, ↓each_model]

@[simp] theorem State.leveeWork_keeps (s : State) (m : Model) :
    (State.leveeWork s m).tick = s.tick ∧ (State.leveeWork s m).tw.lastHb = s.tw.lastHb ∧ (State.leveeWork s m).pending = s.pending ∧ (State.leveeWork s m).model = s.model := by
  unfold State.leveeWork; (repeat' split) <;> first | (simp [↓each_tick, ↓each_lastHb, ↓each_pending, ↓each_model]; done) | (refine each_keeps4 _ _ _ fun s a => ?_; dsimp only; (repeat' split) <;> simp [↓each_tick, ↓each_lastHb, ↓each_pending, ↓each_model]) | (refine each_keeps4 _ _ _ fun s a => ?_; (repeat' split) <;> simp [↓each_tick, ↓each_lastHb, ↓each_pending, ↓each_model])

@[simp] theorem State.refreshT0_keeps (s : State) :
    (State.refreshT0 s).tick = s.tick ∧ (State.refreshT0 s).tw.lastHb = s.tw.lastHb ∧ (State.refreshT0 s).pending = s.pending ∧ (State.refreshT0 s).model = s.model := by
  unfold State.refreshT0; (repeat' split) <;> simp [↓each_tick, ↓each_lastHb, ↓each_pending, ↓each_model]

@[simp] theorem State.tickHrdy_keeps (s : State) :
    (State.tickHrdy s).tick = s.tick ∧ (State.tickHrdy s).tw.lastHb = s.tw.lastHb ∧ (State.tickHrdy s).pending = s.pending ∧ (State.tickHrdy s).model = s.model := by
  refine ⟨?_, ?_, ?_, ?_⟩ <;> simp [State.tickHrdy, ↓each_tick, ↓each_lastHb, ↓each_pending, ↓each_model]

@[simp] theorem State.closeT0_keeps (s : State) :
    (State.closeT0 s).tick = s.tick ∧ (State.closeT0 s).tw.lastHb = s.tw.lastHb ∧ (State.closeT0 s).pending = s.pending ∧ (State.closeT0 s).model = s.model := by
  refine ⟨?_, ?_, ?_, ?_⟩ <;> simp [State.closeT0, ↓each_tick, ↓each_lastHb, ↓each_pending, ↓each_model]

@[simp] theorem State.twinT0_keeps (s : State) (m : Model) :
    (State.twinT0 s m).tick = s.tick ∧ (State.twinT0 s m).tw.lastHb = s.tw.lastHb ∧ (State.twinT0 s m).pending = s.pending ∧ (State.twinT0 s m).model = s.model := by
  unfold State.twinT0; dsimp only; (repeat' split) <;> simp [↓each_tick, ↓each_lastHb, ↓each_pending, ↓each_model]

@[simp] theorem State.modelT0_keeps (s : State) (m : Model) :
    (State.modelT0 s m).tick = s.tick ∧ (State.modelT0 s m).tw.lastHb = s.tw.lastHb ∧ (State.modelT0 s m).pending = s.pending ∧ (State.modelT0 s m).model = s.model := by
  refine ⟨?_, ?_, ?_, ?_⟩ <;> simp [State.modelT0, ↓each_tick, ↓each_lastHb, ↓each_pending, ↓each_model]

@[simp] theorem State.bootStart_keeps (s : State) :
    (State.bootStart s).tick = s.tick ∧ (State.bootStart s).tw.lastHb = s.tw.lastHb ∧ (State.bootStart s).pending = s.pending ∧ (State.bootStart s).model = s.model := by
  unfold State.bootStart; (repeat' split) <;> simp [↓each_tick, ↓each_lastHb, ↓each_pending, ↓each_model]

@[simp] theorem State.t0Begin_keeps (s : State) :
    (State.t0Begin s).tick = s.tick ∧ (State.t0Begin s).tw.lastHb = s.tw.lastHb ∧ (State.t0Begin s).pending = s.pending ∧ (State.t0Begin s).model = s.model := by
  have a (o : Option Model) (s : State) : (o.elim s s.twinChanges).tick = s.tick ∧ (o.elim s s.twinChanges).tw.lastHb = s.tw.lastHb ∧ (o.elim s s.twinChanges).pending = s.pending ∧ (o.elim s s.twinChanges).model = s.model := State.modelElim_keeps o s _ fun m => by simp
  have b (s : State) : (if s.mod = .off then s else s.tickPower).tick = s.tick ∧ (if s.mod = .off then s else s.tickPower).tw.lastHb = s.tw.lastHb ∧ (if s.mod = .off then s else s.tickPower).pending = s.pending ∧ (if s.mod = .off then s else s.tickPower).model = s.model := by split <;> simp
  unfold State.t0Begin
  dsimp only
  exact kept_trans (b _) (by simp [a])

@[simp] theorem State.publish_keeps (s : State) :
    (State.publish s).tick = s.tick ∧ (State.publish s).tw.lastHb = s.tw.lastHb ∧ (State.publish s).pending = s.pending ∧ (State.publish s).model = s.model := by
  refine ⟨?_, ?_, ?_, ?_⟩ <;> simp [State.publish, ↓each_tick, ↓each_lastHb, ↓each_pending, ↓each_model]

@[simp] theorem State.t0Phases_keeps (s : State) :
    (State.t0Phases s).tick = s.tick ∧ (State.t0Phases s).tw.lastHb = s.tw.lastHb ∧ (State.t0Phases s).pending = s.pending ∧ (State.t0Phases s).model = s.model := by
  have a (o : Option Model) (s : State) : (o.elim s s.modelT0).tick = s.tick ∧ (o.elim s s.modelT0).tw.lastHb = s.tw.lastHb ∧ (o.elim s s.modelT0).pending = s.pending ∧ (o.elim s s.modelT0).model = s.model := State.modelElim_keeps o s _ fun m => by simp
  unfold State.t0Phases
  dsimp only
  simp [a, ↓each_tick, ↓each_lastHb, ↓each_pending, ↓each_model]

@[simp] theorem State.readSeals_keeps (s : State) (r : BitVec 8) :
    (State.readSeals s r).tick = s.tick ∧ (State.readSeals s r).tw.lastHb = s.tw.lastHb ∧ (State.readSeals s r).pending = s.pending ∧ (State.readSeals s r).model = s.model := by
  unfold State.readSeals; dsimp only; (repeat' split) <;> simp [↓each_tick, ↓each_lastHb, ↓each_pending, ↓each_model]

@[simp] theorem State.telemetry_keeps (s : State) (m : Model) :
    (State.telemetry s m).tick = s.tick ∧ (State.telemetry s m).tw.lastHb = s.tw.lastHb ∧ (State.telemetry s m).pending = s.pending ∧ (State.telemetry s m).model = s.model := by
  unfold State.telemetry; dsimp only; (repeat' split) <;> simp [↓each_tick, ↓each_lastHb, ↓each_pending, ↓each_model]

@[simp] theorem State.followJob_keeps (s : State) (m : Model) (c : Fin 16) :
    (State.followJob s m c).tick = s.tick ∧ (State.followJob s m c).tw.lastHb = s.tw.lastHb ∧ (State.followJob s m c).pending = s.pending ∧ (State.followJob s m c).model = s.model := by
  refine ⟨?_, ?_, ?_, ?_⟩ <;> simp [State.followJob, ↓each_tick, ↓each_lastHb, ↓each_pending, ↓each_model]

@[simp] theorem State.coreT1_keeps (s : State) (m : Model) (cc : Fin 4) :
    (State.coreT1 s m cc).tick = s.tick ∧ (State.coreT1 s m cc).tw.lastHb = s.tw.lastHb ∧ (State.coreT1 s m cc).pending = s.pending ∧ (State.coreT1 s m cc).model = s.model := by
  unfold State.coreT1; dsimp only; (repeat' split) <;> simp [↓each_tick, ↓each_lastHb, ↓each_pending, ↓each_model]

@[simp] theorem State.modelT1_keeps (s : State) (m : Model) :
    (State.modelT1 s m).tick = s.tick ∧ (State.modelT1 s m).tw.lastHb = s.tw.lastHb ∧ (State.modelT1 s m).pending = s.pending ∧ (State.modelT1 s m).model = s.model := by
  refine ⟨?_, ?_, ?_, ?_⟩ <;> simp [State.modelT1, ↓each_tick, ↓each_lastHb, ↓each_pending, ↓each_model]

@[simp] theorem State.t1Jobs_keeps (s : State) (r : BitVec 8) :
    (State.t1Jobs s r).tick = s.tick ∧ (State.t1Jobs s r).tw.lastHb = s.tw.lastHb ∧ (State.t1Jobs s r).pending = s.pending ∧ (State.t1Jobs s r).model = s.model := by
  have a (o : Option Model) (s : State) : (o.elim s s.modelT1).tick = s.tick ∧ (o.elim s s.modelT1).tw.lastHb = s.tw.lastHb ∧ (o.elim s s.modelT1).pending = s.pending ∧ (o.elim s s.modelT1).model = s.model := State.modelElim_keeps o s _ fun m => by simp
  unfold State.t1Jobs
  dsimp only
  simp [a, ↓each_tick, ↓each_lastHb, ↓each_pending, ↓each_model]

@[simp] theorem State.coreTests_keeps (s : State) :
    (State.coreTests s).tick = s.tick ∧ (State.coreTests s).tw.lastHb = s.tw.lastHb ∧ (State.coreTests s).pending = s.pending ∧ (State.coreTests s).model = s.model := by
  refine ⟨?_, ?_, ?_, ?_⟩ <;> simp [State.coreTests, ↓each_tick, ↓each_lastHb, ↓each_pending, ↓each_model]

@[simp] theorem State.endBoot_keeps (s : State) :
    (State.endBoot s).tick = s.tick ∧ (State.endBoot s).tw.lastHb = s.tw.lastHb ∧ (State.endBoot s).pending = s.pending ∧ (State.endBoot s).model = s.model := by
  unfold State.endBoot; (repeat' split) <;> simp [↓each_tick, ↓each_lastHb, ↓each_pending, ↓each_model]

@[simp] theorem State.enterRole_keeps (s : State) (m : Model) :
    (State.enterRole s m).tick = s.tick ∧ (State.enterRole s m).tw.lastHb = s.tw.lastHb ∧ (State.enterRole s m).pending = s.pending ∧ (State.enterRole s m).model = s.model := by
  unfold State.enterRole; (repeat' split) <;> simp [↓each_tick, ↓each_lastHb, ↓each_pending, ↓each_model]

@[simp] theorem State.roleT2_keeps (s : State) :
    (State.roleT2 s).tick = s.tick ∧ (State.roleT2 s).tw.lastHb = s.tw.lastHb ∧ (State.roleT2 s).pending = s.pending ∧ (State.roleT2 s).model = s.model := by
  unfold State.roleT2; (repeat' split) <;> simp [↓each_tick, ↓each_lastHb, ↓each_pending, ↓each_model]

@[simp] theorem State.dispatchT2_keeps (s : State) (m : Model) :
    (State.dispatchT2 s m).tick = s.tick ∧ (State.dispatchT2 s m).tw.lastHb = s.tw.lastHb ∧ (State.dispatchT2 s m).pending = s.pending ∧ (State.dispatchT2 s m).model = s.model := by
  unfold State.dispatchT2; dsimp only; (repeat' split) <;> simp [↓each_tick, ↓each_lastHb, ↓each_pending, ↓each_model]

theorem State.t2Jobs_keeps (s : State) :
    (State.t2Jobs s).tick = s.tick ∧ (State.t2Jobs s).tw.lastHb = s.tw.lastHb ∧ (State.t2Jobs s).pending = s.pending := by
  have a (o : Option Model) (s : State) : (o.elim s s.dispatchT2).tick = s.tick ∧ (o.elim s s.dispatchT2).tw.lastHb = s.tw.lastHb ∧ (o.elim s s.dispatchT2).pending = s.pending ∧ (o.elim s s.dispatchT2).model = s.model := State.modelElim_keeps o s _ fun m => by simp
  unfold State.t2Jobs
  dsimp only
  simp [a, State.imageT2_keeps]

end Sys2Proof.Machine
end

