-- ==== Sys2Proof/Tests/Base.lean ====
section
/-! SUPPORT. Small states for the tests: a model of one car and states of the module around it. -/

namespace Sys2Proof.Machine

/-- A CMD entry with an opcode and a car, all other fields 0. -/
def cmdOf (op car : Byte) : CmdEntry :=
  { opcode := op, flags := 0, resv := 0, tag := 7, car := car, arg0 := 0, arg1 := 0, arg2 := 0, param := List.replicate 32 0, dataAddr := 0,
    dataLen := 0, crc := 0 }

/-- A model with car 0 present, CAN FD on every bus and nothing else. -/
def Model.one : Model := { readModel [] with carMask := 1, buses := Tab.all { (readModel []).buses.get 0 with fd := true } }

/-- A node of a class on bus K0, of car 0 on the front side. -/
def NodeRec.at0 (k : NodeClass) (addr : BitVec 16) : NodeRec :=
  { cls := k, bus := 0, car := 0, side := 0, addr := addr, safety := true, nodeId := 0x51, watchdog := 20, pubkey := [] }

/-- The mode policy of car 0: the host may set M0 to M8 and M11. -/
def PolicyRec.small : PolicyRec := ⟨0, true, false, false, false, 0x9FF, 600, 0, 0xFF, 0xFF, 6300, 1000, 1000⟩

/-- Car 0 with two landings 4 m apart, served by its front side, and the nodes 0 HDV, 1 CTN, 2 DON, 3 PTN and 4 a hall station on K4. -/
def Model.small : Model :=
  { Model.one with
    landings := [⟨0, 500, true, false, 0, 0⟩, ⟨40000, 500, true, false, 0, 0⟩]
    cars := [⟨0, false, true, 1000, 20000, 3, 0, 42000, -2000, 900, 0, 100, 0⟩]
    policies := [PolicyRec.small]
    nodes := [NodeRec.at0 .hdv 0, NodeRec.at0 .ctn 3, NodeRec.at0 .don 1, NodeRec.at0 .ptn 4,
      { NodeRec.at0 .lfn 0x0080 with bus := 4, car := 0xFF, side := 0xFF }] }

/-- The nodes of a pair alone: 0 the witness, 1 and 2 the modules of the slots. -/
def Model.pair : Model :=
  { Model.one with digest := [], nodes := [NodeRec.at0 .wit 0, NodeRec.at0 .wit 1, NodeRec.at0 .wit 2] }

/-- The same with a door-zone input on channel 0. -/
def Model.zoned : Model := { Model.small with polders := Model.small.polders.put 0 { Model.small.polders.get 0 with role := 1, car := 0 } }

/-- And with the lower terminal input on channel 1. -/
def Model.lower : Model := { Model.zoned with polders := Model.zoned.polders.put 1 { Model.small.polders.get 0 with role := 3, car := 0 } }

/-- A gain record for every lane. -/
def Model.geared : Model := { Model.small with gains := Tab.all { Model.small.gains.get 0 with kind := 1, feLimit := 100, corrMax := 100 } }

/-- Two outputs of car 0 on channels 94 and 95. -/
def Model.driven : Model :=
  let out (role : Nat) : PolRec := { Model.small.polders.get 0 with role := role, car := 0 }
  { Model.small with polders := (Model.small.polders.put 94 (out 0x40)).put 95 (out 0x42) }

/-- A snapshot of an empty group. -/
def Snap.empty : Snap := ⟨0, 0, 0, 0, [], Tab.all [], Tab.all State.noCar⟩

/-- Every channel of a bus kind enabled, with RAW on and the host's recovery. -/
def Model.withBuses (m : Model) : Model :=
  { m with buses := Tab.all { m.buses.get 0 with en := true, txq := true, raw := true, boff := 2 } }

/-- The module in a state, PD0 to PD7 on. -/
def State.inMod (m : ModState) : State := { State.reset with mod := m, pwr := { State.reset.pwr with pd0 := true, domOn := 0xFF, domOk := 0xFF } }

/-- The same with a model in force. -/
def State.withModel (s : State) (m : Model) : State := { s with model := some m }

/-- The module in service with car 0. -/
def State.serving : State := (State.inMod .active).withModel Model.one

/-- A connection in UP whose node has reported a car without load, its doors closed and locked. -/
def Conn.heard : Conn :=
  { Conn.zero with state := .up, key := List.replicate 16 0, data := { NodeData.zero with any := true, ctn := { CtnRep.zero with doors := 0x11, load := 0 }, ptn := 3 } }

/-- The module in service with car 0, its landings and its nodes. -/
def State.small : State :=
  { (State.inMod .active).withModel Model.small with conns := List.replicate 5 Conn.heard, buses := Tab.all { Bus.zero with state := .active } }

/-- Car 0 at rest in the zone of landing 0 with its door closed and locked. -/
def State.quiet : State :=
  (((State.small.withModel Model.zoned).updSide 0 fun d => { d with state := .closed, ref := true, locked := true }).updCh 0
    fun c => { c with active := true }).updLv 0 fun l => { l with lockedF := true, still := true }

/-- Car 0 in normal service and positioned. -/
def State.inService : State :=
  { State.small with modes := Tab.all { Mode.zero with mode := 0 }, cars := Tab.all { CarPos.zero with health := .valid, motorOk := true } }

/-- A heartbeat of a peer of the same firmware. -/
def PeerHb.own : PeerHb :=
  { state := 0, twState := 0, flags := 0, claim := 0, t0 := 0, t1 := 0, t2 := 0, rsi := Config.rsiVersion, epochSeq := 0, imgSeq := 0,
    imgDig := List.replicate 8 0 }

/-- A module of a pair with the link up: role 0 is slot 1, role 1 slot 2, role 2 the witness. -/
def State.paired (m : ModState) (role : Fin 4) : State :=
  { (State.inMod m).withModel Model.pair with
    seals := { Seal.zero with fixed := true, role := role }
    conns := List.replicate 3 Conn.heard
    buses := Tab.all { Bus.zero with state := .active }
    tw := { Tw.zero with lanes := 3, lastHb := some PeerHb.own } }

/-- The timebase runs and stands at a T0CNT. -/
def State.atT0 (s : State) (n : BitVec 32) : State := { s with tick := { Tick.zero with started := true, t0 := n } }

/-- nRSTIN is held low. -/
def State.holdReset (s : State) : State := { s with pwr := { s.pwr with nrstin := true } }

/-- The rings run. -/
def State.hosted (s : State) : State := { s with hi := { s.hi with en := true, hrdy := true } }

/-- A CMD entry has been fetched and waits for its start, in a module whose host interface runs. -/
def State.waiting (s : State) (e : CmdEntry) : State := { s with hi := { s.hi with en := true, hrdy := true, waiting := [e] } }

/-- A twin role with the link up on both lanes. -/
def State.linked (s : State) : State :=
  { s with seals := { s.seals with fixed := true, role := 0 }, tw := { s.tw with lanes := 3 } }

/-- TIMEBASE T1CNT. -/
def State.at1 (s : State) (n : BitVec 32) : State := { s with tick := { s.tick with t1 := n } }

/-- The rings run with 256 entries each, their tails and heads as given. -/
def State.ringed (s : State) (tail head : Nat) : State :=
  s.updHi fun h =>
    { h with en := true, hrdy := true, rings := Tab.all { Ring.zero with base := 4096, size := 256, tail := tail, head := head } }

/-- A configuration of the rings that passes the checks of HI_CTRL.EN. -/
def Hi.set : Hi := { Hi.zero with msixEn := false, crcEn := false, sb := 256, rings := Tab.all { Ring.zero with base := 4096, size := 256 } }

/-- The host interface as given. -/
def State.withHi (s : State) (h : Hi) : State := { s with hi := h }

/-- A call entry has been fetched. -/
def State.calling (s : State) (b : List Byte) : State := s.updHi fun h => { h with en := true, hrdy := true, calls := [b] }

/-- A call entry: up from landing 0, front side, HOST_REF 1. -/
def Call.up1 : List Byte := [1, 0, 0, 0, 0xFF, 0xFF, 0, 0, 1, 0, 0, 0] ++ List.replicate 20 0

/-- An image of the host that waits for its boundary. -/
def PendingImg.host : PendingImg :=
  { model := Model.small, slot := 0, changed := [], cars := 0, applyT2 := none, waited := 0, origin := .host, peerOk := false }

/-- A module in CONFIG with SEAL0 on and an image in verification. -/
def State.verifyingOf (bs : List Byte) : State :=
  ({ State.inMod .config with seals := { Seal.zero with now := 1 } } : State).updImg fun g => { g with state := .verifying, work := some (bs, .host) }

/-- A message of kind 1 from a source. -/
def FaultMsg.of (source : BitVec 10) (cls : BitVec 2) : FaultMsg := { source := source, kind := 1, cls := cls, detail := 0, context := 0, t0 := 0 }

/-- The test of port 47 in its last T0. -/
def TestRun.port : TestRun :=
  { unit := .port 47, source := 0x2F, kind := 1, context := 0, running := true, clear := false, age := 2, last := 0 }

/-- An injection that waits for its start. -/
def Inject.one (dur : Nat) : Inject :=
  { point := 1, signal := 1, capu := 0, ampl := 1, dur := dur, p1 := 1, p2 := 1, started := false, i := 0, q := 1, wait := 0,
    identify := none, set0 := 0, e := cmdOf 0x34 0xFF }

/-- A frame of no node: classical, identifier 0, 8 bytes. -/
def Frame.plain (n : Fin 12) : Frame := { bus := n, ext := false, fd := false, brs := false, ident := 0, data := List.replicate 8 0, sof := 0 }

/-- A listed frame of the module's own. -/
def TxFrame.plain (raw : Option (BitVec 32)) : TxFrame :=
  { ext := false, fd := false, brs := false, ident := 0, data := [], cyclic := false, dest := 0xFFFF, buf := none, raw := raw, answer := none }

/-- A bus in a state with one listed frame. -/
def State.listing (s : State) (n : Fin 12) (f : TxFrame) : State := s.updBus n fun b => { b with state := .active, tx := [f] }

end Sys2Proof.Machine
end

