-- ==== Sys2Proof/Tests/Frames.lean ====
section
/-! SUPPORT. Frames that pass the checks of their receiver, whatever the uninterpreted CMAC and MODULE_ID are: a header followed by its
check value and tag. -/

namespace Sys2Proof.Machine

theorem leNat_leBytes (n x : Nat) : leNat (leBytes n x) = x % 256 ^ n := by
  induction n generalizing x with
  | zero => simp [leBytes, leNat, Nat.mod_one]
  | succ n ih =>
    simp only [leBytes, leNat, ih, BitVec.toNat_ofNat]
    have h : x % 256 ^ (n + 1) = x % 256 + 256 * (x / 256 % 256 ^ n) := by rw [Nat.pow_succ, Nat.mul_comm, Nat.mod_mul]
    exact h.symm

theorem leNat_word {w n : Nat} (x : BitVec w) (h : 2 ^ w = 256 ^ n) : leNat (leBytes n x.toNat) = x.toNat := by
  rw [leNat_leBytes, ← h, Nat.mod_eq_of_lt x.isLt]

theorem ofNat_word {w n : Nat} (x : BitVec w) (h : 2 ^ w = 256 ^ n) : BitVec.ofNat w (leNat (leBytes n x.toNat)) = x := by
  rw [leNat_word x h, BitVec.ofNat_toNat, BitVec.setWidth_eq]

/-- A header, its check value and a tag. -/
def checked (hdr : List Byte) (fold : BitVec 32) (tag : List Byte → List Byte) : List Byte :=
  let msg := hdr ++ leBytes 4 (cv fold hdr).toNat
  msg ++ tag msg

theorem slice_append {a b : List Byte} {off n : Nat} (h : off + n ≤ a.length) : slice (a ++ b) off n = slice a off n := by
  unfold slice
  rw [List.drop_append_of_le_length (by omega), List.take_append_of_le_length (by simp; omega)]

theorem slice_checked {hdr : List Byte} {fold : BitVec 32} {tag : List Byte → List Byte} {off n : Nat} (h : off + n ≤ hdr.length) :
    slice (checked hdr fold tag) off n = slice hdr off n := by
  simp only [checked, List.append_assoc]
  exact slice_append h

theorem fld_checked {hdr : List Byte} {fold : BitVec 32} {tag : List Byte → List Byte} {off n : Nat} (h : off + n ≤ hdr.length) :
    fld (checked hdr fold tag) off n = fld hdr off n := by
  unfold fld
  rw [slice_checked h]

theorem checked_length {hdr : List Byte} {fold : BitVec 32} {tag : List Byte → List Byte} (ht : ∀ x, (tag x).length = 4) :
    (checked hdr fold tag).length = hdr.length + 8 := by
  simp [checked, ht, leBytes_length]

theorem checked_parts {hdr : List Byte} {fold : BitVec 32} {tag : List Byte → List Byte} (ht : ∀ x, (tag x).length = 4) :
    (checked hdr fold tag).take ((checked hdr fold tag).length - 8) = hdr ∧
    slice (checked hdr fold tag) ((checked hdr fold tag).length - 8) 4 = leBytes 4 (cv fold hdr).toNat ∧
    (checked hdr fold tag).drop ((checked hdr fold tag).length - 4) = tag ((checked hdr fold tag).take ((checked hdr fold tag).length - 4)) := by
  have h8 : hdr.length + 8 - 8 = hdr.length := by omega
  have h4 : hdr.length + 8 - 4 = (hdr ++ leBytes 4 (cv fold hdr).toNat).length := by simp [leBytes_length]
  rw [checked_length ht, h8, h4]
  refine ⟨?_, ?_, ?_⟩
  · simp [checked]
  · unfold slice
    simp only [checked, List.append_assoc, List.drop_left]
    rw [List.take_append_of_le_length (by simp [leBytes_length]), List.take_of_length_le (by simp [leBytes_length])]
  · unfold checked
    rw [List.drop_left, List.take_left]

/-- A safety header with its fields passes the checks up to the tag (R382). -/
structure HeaderOk (s : State) (r : NodeRec) (hdr : List Byte) (ftype plen : Nat) (n : Fin 12) : Prop where
  safety : r.safety = true
  named  : fld hdr 0 1 = ftype
  sized  : fld hdr 1 1 = plen
  length : hdr.length + 8 = safetyLen plen
  zero   : zeroAt hdr (20 + plen) (hdr.length - 20 - plen) = true
  node   : fld hdr 4 4 = r.nodeId.toNat
  module : fld hdr 8 4 = Config.moduleId.toNat
  cv     : s.cvUsable (State.busCv n) = true

theorem header_length {s : State} {r : NodeRec} {hdr : List Byte} {ftype plen : Nat} {n : Fin 12} (h : HeaderOk s r hdr ftype plen n) :
    24 ≤ hdr.length := by
  have := h.length
  unfold safetyLen at this
  split at this
  · omega
  · split at this <;> omega

theorem safetyFormat_checked {s : State} {r : NodeRec} {hdr : List Byte} {ftype plen : Nat} {n : Fin 12} {fr : Frame} {fold : BitVec 32}
    {tag : List Byte → List Byte} (ht : ∀ x, (tag x).length = 4) (h : HeaderOk s r hdr ftype plen n) (hl : 20 + plen ≤ hdr.length)
    (hd : fr.data = checked hdr fold tag) (hf : fr.fd = true) : safetyFormat fr ftype plen = true := by
  have := header_length h
  have hz : hdr.length + 8 - 28 - plen = hdr.length - 20 - plen := by omega
  simp only [safetyFormat, hd, fld_checked (show 0 + 1 ≤ hdr.length by omega), fld_checked (show 1 + 1 ≤ hdr.length by omega), h.named, h.sized,
    checked_length ht, h.length.symm, hf, zeroAt, hz, slice_checked (show 20 + plen + (hdr.length - 20 - plen) ≤ hdr.length by omega)]
  simpa [zeroAt] using h.zero

/-- `checkSafety` of such a frame is what the claim, the sequence and the time leave of it. -/
theorem checkSafety_checked {s : State} {r : NodeRec} {c : Conn} {fr : Frame} {hdr : List Byte} {ftype plen : Nat} {joining : Bool}
    (h : HeaderOk s r hdr ftype plen r.bus) (hk : c.key.length = 16) (hl : 20 + plen ≤ hdr.length) (hf : fr.fd = true)
    (hd : fr.data = checked hdr (BitVec.ofNat 32 (c.connId.toNat * 65536 + (BitVec.ofNat 16 (fld hdr 2 2)).toNat))
      (tag4 c.key 0x56 fr.ident.toNat)) :
    s.checkSafety r c fr ftype plen joining =
      if joining then .ok c
      else if fld hdr 16 4 ≠ s.claim.toNat then .error .claim
      else match c.takeSeq (BitVec.ofNat 16 (fld hdr 2 2)) with
        | none => .error .seq
        | some c =>
          match c.takeTime (BitVec.ofNat 32 (fld hdr 12 4)) fr.sof with
          | none => .error .time
          | some c => .ok c := by
  have ht := fun x => tag4_length 0x56 fr.ident.toNat x hk
  have h24 := header_length h
  obtain ⟨p1, p2, p3⟩ := checked_parts (hdr := hdr)
    (fold := BitVec.ofNat 32 (c.connId.toNat * 65536 + (BitVec.ofNat 16 (fld hdr 2 2)).toNat)) ht
  have hsf := safetyFormat_checked ht h hl hd hf
  unfold State.checkSafety
  simp only [hsf, h.safety, h.cv, hd, fld_checked (show 2 + 2 ≤ hdr.length by omega), fld_checked (show 4 + 4 ≤ hdr.length by omega),
    fld_checked (show 8 + 4 ≤ hdr.length by omega), fld_checked (show 12 + 4 ≤ hdr.length by omega),
    fld_checked (show 16 + 4 ≤ hdr.length by omega), h.node, h.module, p1, p2, ← p3]
  simp
  try rfl

/-- `checkWit` likewise. -/
theorem checkWit_checked {s : State} {r : NodeRec} {c : Conn} {fr : Frame} {hdr : List Byte} {ftype plen : Nat}
    (h : HeaderOk s r hdr ftype plen fr.bus) (hk : c.key.length = 16) (hl : 20 + plen ≤ hdr.length) (hf : fr.fd = true)
    (hd : fr.data = checked hdr (BitVec.ofNat 32 (c.connId.toNat * 65536 + (BitVec.ofNat 16 (fld hdr 2 2)).toNat))
      (tag4 c.key 0x56 fr.ident.toNat)) :
    s.checkWit r c fr ftype plen =
      match c.takeSeq (BitVec.ofNat 16 (fld hdr 2 2)) with
      | none => .error .seq
      | some c =>
        match c.takeTime (BitVec.ofNat 32 (fld hdr 12 4)) fr.sof with
        | none => .error .time
        | some c => .ok c := by
  have ht := fun x => tag4_length 0x56 fr.ident.toNat x hk
  have h24 := header_length h
  obtain ⟨p1, p2, p3⟩ := checked_parts (hdr := hdr)
    (fold := BitVec.ofNat 32 (c.connId.toNat * 65536 + (BitVec.ofNat 16 (fld hdr 2 2)).toNat)) ht
  have hsf := safetyFormat_checked ht h hl hd hf
  unfold State.checkWit
  simp only [hsf, h.safety, h.cv, hd, fld_checked (show 2 + 2 ≤ hdr.length by omega), fld_checked (show 4 + 4 ≤ hdr.length by omega),
    fld_checked (show 8 + 4 ≤ hdr.length by omega), fld_checked (show 12 + 4 ≤ hdr.length by omega), h.node, h.module, p1, p2, ← p3]
  simp
  try rfl

/-- The header of a safety frame of node 0x51 to this module: SEQ 1, STAMP 0, CLAIM 0 (R371). -/
def safetyHdr (ftype plen : Byte) (payload : List Byte) : List Byte :=
  State.pad (safetyLen plen.toNat - 8) ([ftype, plen, 1, 0, 0x51, 0, 0, 0] ++ leBytes 4 Config.moduleId.toNat ++ [0, 0, 0, 0, 0, 0, 0, 0] ++ payload)

/-- A safety frame on a connection that has key [] and identity 0. -/
def Frame.safe (ident : BitVec 29) (ftype plen : Byte) (payload : List Byte) : Frame :=
  let hdr := safetyHdr ftype plen payload
  { bus := 0, ext := false, fd := true, brs := true, ident := ident, sof := 0,
    data := checked hdr (BitVec.ofNat 32 (Conn.heard.connId.toNat * 65536 + (BitVec.ofNat 16 (fld hdr 2 2)).toNat))
      (tag4 Conn.heard.key 0x56 ident.toNat) }

/-- A node frame with a header of 20 bytes and its tag. -/
def Frame.reply (ident : BitVec 29) (pre : Byte) (hdr : List Byte) : Frame :=
  { bus := 0, ext := false, fd := true, brs := true, ident := ident, data := hdr ++ tag4 Conn.heard.key pre ident.toNat hdr, sof := 0 }

/-- A frame of a fixture node at the first station with a header of 12 bytes and its tag. -/
def Frame.fixture (fn : BitVec 29) (pre : Byte) (hdr : List Byte) : Frame :=
  let ident : BitVec 29 := 0x10080000 + fn
  { bus := 4, ext := true, fd := true, brs := true, ident := ident, data := hdr ++ tagF Conn.heard.key pre ident.toNat hdr, sof := 0 }

/-- A bus has heard one frame. -/
def State.heardOn (s : State) (n : Fin 12) : State := s.updBus n fun b => { b with rxOk := b.rxOk + 1, fifo := b.fifo + 1 }

/-- A channel that receives, of the frame's format and with room in its FIFO, hears a frame. -/
theorem hear_open {s : State} {fr : Frame} (hb : State.busHears (s.buses.get fr.bus) = true)
    (hf : (fr.fd && !(s.busRec fr.bus).any (·.fd)) = false) (hq : (s.buses.get fr.bus).fifo < 64) : s.hear fr = some (s.heardOn fr.bus) := by
  simp only [State.hear, hb, hf, State.heardOn]
  rw [if_neg (by simp), if_neg (by omega)]

/-- A call frame whose tag is right is accepted by a connection without a sequence baseline (08 R292). -/
theorem checkCall_tagged {c : Conn} {fr : Frame} {hdr : List Byte} {tag : List Byte → List Byte} (ht : ∀ x, (tag x).length = 4)
    (hl : hdr.length = 12) (hv : byteAt hdr 0 = 1) (hb : c.echoBased = false) (hd : fr.data = hdr ++ tag hdr) :
    State.checkCall c fr (tag (fr.data.take 12)) =
      .ok { (c.accept fr.sof) with echoBased := true, echo := BitVec.ofNat 16 (fld hdr 4 2) } := by
  have h1 : byteAt (hdr ++ tag hdr) 0 = 1 := by
    cases hdr with
    | nil => simp at hl
    | cons a l => simpa [byteAt] using hv
  have h2 : fld (hdr ++ tag hdr) 4 2 = fld hdr 4 2 := by unfold fld; rw [slice_append (by omega)]
  unfold State.checkCall
  simp only [hd, List.length_append, ht, hl, h1, h2, hb, List.drop_append_of_le_length (show 12 ≤ hdr.length by omega),
    List.take_append_of_le_length (show 12 ≤ hdr.length by omega), List.drop_of_length_le (show hdr.length ≤ 12 by omega),
    List.take_of_length_le (show hdr.length ≤ 12 by omega)]
  simp

/-- A 24-byte reply whose tag is right passes (R180, 07 R220). -/
theorem checkReply_tagged {c : Conn} {fr : Frame} {pre : Byte} {hdr : List Byte} (hk : c.key.length = 16) (hl : hdr.length = 20) (hv : byteAt hdr 0 = 1)
    (hd : fr.data = hdr ++ tag4 c.key pre fr.ident.toNat hdr) : State.checkReply c fr pre = none := by
  have h1 : byteAt (hdr ++ tag4 c.key pre fr.ident.toNat hdr) 0 = 1 := by
    cases hdr with
    | nil => simp at hl
    | cons a l => simpa [byteAt] using hv
  unfold State.checkReply
  rw [hd, List.length_append, tag4_length _ _ _ hk, hl, h1, List.drop_append_of_le_length (by omega), List.take_append_of_le_length (by omega),
    List.drop_of_length_le (by omega), List.take_of_length_le (by omega)]
  simp

/-- A link frame passes CRC and TAG (15 R492). -/
theorem linkGood_checked {s : State} {m : Model} (hk : (s.yilzKey m).length = 16) (hdr : List Byte) (fold : BitVec 32) :
    s.linkGood m (checked hdr fold (s.linkTag m)) fold = true := by
  obtain ⟨p1, p2, p3⟩ := checked_parts (hdr := hdr) (fold := fold) (tag := s.linkTag m) (fun x => linkTag_length x hk)
  unfold State.linkGood
  simp only [p1, p2, ← p3]
  simp

/-- A heartbeat header of the peer in slot 2 (15 R493): FLAGS and RSI_VERSION given, all else 0. -/
def hbHdr (flags : Byte) (rsi : BitVec 16) : List Byte :=
  [1, 1, 64, 0, 2, 0, 0, 0, 0, 0, 0, 0, 0, 0, 0, 0, 0, 0, flags, 0, 0, 0, 0, 0, 0, 0, 0, 0, 0, 0, 0, 0, 0, 0] ++
    (leBytes 2 rsi.toNat ++ List.replicate 20 0)

/-- What such a heartbeat says. -/
def PeerHb.of (flags : Byte) (rsi : BitVec 16) : PeerHb := { PeerHb.own with flags := flags.setWidth 16, rsi := rsi }

theorem readHb_checked (flags : Byte) (rsi : BitVec 16) (fold : BitVec 32) (tag : List Byte → List Byte) :
    State.readHb (checked (hbHdr flags rsi) fold tag) = PeerHb.of flags rsi := by
  have hl : (hbHdr flags rsi).length = 56 := rfl
  have hr : BitVec.ofNat 16 (fld (hbHdr flags rsi) 34 2) = rsi := ofNat_word (n := 2) rsi (by norm_num)
  have hf : BitVec.ofNat 16 (fld (hbHdr flags rsi) 18 2) = flags.setWidth 16 := by
    show BitVec.ofNat 16 (flags.toNat + 256 * 0) = _
    apply BitVec.eq_of_toNat_eq
    simp
  have hb : ∀ i, i < 56 → byteAt (checked (hbHdr flags rsi) fold tag) i = byteAt (hbHdr flags rsi) i := by
    intro i hi
    unfold byteAt checked
    rw [List.append_assoc, List.getD_append _ _ _ _ (by omega)]
  have fl : ∀ off n, off + n ≤ 56 → fld (checked (hbHdr flags rsi) fold tag) off n = fld (hbHdr flags rsi) off n := fun _ _ h => fld_checked h
  simp only [State.readHb, fl 18 2 (by decide), fl 20 4 (by decide), fl 12 4 (by decide), fl 24 4 (by decide), fl 28 4 (by decide), fl 34 2 (by decide), fl 36 4 (by decide), fl 40 4 (by decide),
    slice_checked (hdr := hbHdr flags rsi) (off := 44) (n := 8) (show 52 ≤ 56 by decide), hb 16 (by decide), hb 17 (by decide), hr, hf]
  rfl

/-- Some RSI_VERSION differs from this firmware's by more than 1. -/
theorem rsi_other : ∃ r : BitVec 16, r.toNat + 1 < Config.rsiVersion.toNat ∨ Config.rsiVersion.toNat + 1 < r.toNat := by
  by_cases h : Config.rsiVersion.toNat < 2
  · exact ⟨100, .inr (by simp; omega)⟩
  · exact ⟨0, .inl (by simp; omega)⟩

/-- An epoch header with a sequence number. -/
def epochHdr (seq : Byte) : List Byte :=
  [2, 1, 48, 0, 2, 0, 0, 0, seq, 0, 0, 0, 0, 0, 0, 0, 0, 0, 0, 0] ++ (leBytes 2 Config.rsiVersion.toNat ++ List.replicate 18 0)

/-- A snapshot part with its index. -/
def snapHdr (ix : Byte) : List Byte :=
  [3, 1, 48, 0, 2, 0, 0, 0, 0, 0, 0, 0, 0, 0, 0, 0, ix, 32] ++ (leBytes 2 Config.rsiVersion.toNat ++ List.replicate 20 0)

/-- An image part of 12 bytes with its offset. -/
def imageHdr (off : Byte) : List Byte :=
  [4, 1, 36, 0, 2, 0, 0, 0, off, 0, 0, 0, 0, 0, 0, 0, 0, 0, 0, 0, 0, 0, 0, 0, 0, 1, 0, 0]

/-- A link frame has its form when its header has. -/
theorem linkForm_checked {s : State} {m : Model} {hdr : List Byte} {fold : BitVec 32} {type lo hi : Nat} (hk : (s.yilzKey m).length = 16) (h5 : 5 ≤ hdr.length)
    (h : (fld hdr 0 1 = type && fld hdr 1 1 = 1 && fld hdr 2 2 = hdr.length + 8 && fld hdr 4 1 = s.peerSlot && lo ≤ hdr.length + 8 &&
      hdr.length + 8 ≤ hi) = true) :
    s.linkForm (checked hdr fold (s.linkTag m)) type lo hi = true := by
  unfold State.linkForm
  rw [checked_length (fun x => linkTag_length x hk), fld_checked (by omega), fld_checked (by omega), fld_checked (by omega), fld_checked (by omega)]
  exact h

/-- The version in use with a peer of the same firmware is that firmware's (15 R493). -/
theorem rsiInUse_own {s : State} {h : PeerHb} (e : s.tw.lastHb = some h) (r : h.rsi = Config.rsiVersion) :
    s.rsiInUse = some Config.rsiVersion.toNat := by
  simp [State.rsiInUse, e, r]

end Sys2Proof.Machine
end

