-- ==== Sys2Proof/WellFormed.lean ====
section
/-! DEFINITION. What a command must satisfy beyond its types: the shapes that the bus, the rings and the pins allow. -/

namespace Sys2Proof

/-- Data lengths of a CAN FD frame (13 R430). -/
def fdLength (n : Nat) : Bool := n ≤ 8 || [12, 16, 20, 24, 32, 48, 64].contains n

/-- A frame as ISO 11898-1 allows it (13 R423, R435): an 11-bit identifier fits 11 bits, a classical frame has at most 8 data
bytes and no bit-rate switch, an FD frame has one of the FD lengths. -/
def Frame.wf (f : Frame) : Bool :=
  (f.ext || f.ident.toNat < 2048) && (if f.fd then fdLength f.data.length else f.data.length ≤ 8 && !f.brs)

/-- A CMD entry has 32 PARAM bytes (14 R465). -/
def CmdEntry.wf (e : CmdEntry) : Bool := e.param.length = 32

/-- A fault message has one of the classes C, U and F; class 0 is never sent (16 R522). -/
def FaultMsg.wf (m : FaultMsg) : Bool := m.cls ≠ 0

/-- How a sleeping bus is woken (13 R450): a wake-up frame is classical. -/
def BusWake.wf : BusWake → Bool
  | .pattern => true
  | .frame ext ident data => (ext || ident.toNat < 2048) && data.length ≤ 8
  | .host => true

/-- The pages of R534. -/
def TestUnit.wf : TestUnit → Bool
  | .sramPage p => p < 1536
  | .dramPage p => p < 8192
  | _ => true

/-- A command is well formed. -/
def Instr.wf : Instr → Bool
  | .vinFault mv | .vinRestored mv | .powerFail mv => mv < 65536
  | .railFault _ _ mv => mv < 65536
  | .hdvFeedback fr | .donReply fr | .hallCall fr | .destCall fr | .carCall fr | .join fr | .hdvRep fr | .ctnRep fr
  | .ptnRep fr | .busFrameUnowned fr | .leaseAns fr | .witStatusRx fr | .witnessLeaseReq fr | .witnessLeaseRel fr => fr.wf
  | .inputFilterAccept _ samples => samples.all (· < 65536)
  | .busWake _ how => how.wf
  | .frameSent _ _ delay => delay < 256
  | .cmdFetch bytes => bytes.length = 64
  | .callFetch bytes => bytes.length = 32
  | .nop e | .cancelImage e | .readProposal e | .keyRelease e | .setMode e | .clearMode e | .clearDispatchHold e | .run e
  | .door e | .doorReset e | .learnShaft e | .learnDoors e | .learnCancel e | .brakeTest e | .inject e | .injectAbort e
  | .identify e | .busRecover e | .clearRetired e | .reset e => e.wf
  | .loadImage e _ | .rawSend e _ | .update e _ => e.wf
  | .faultReport m => m.wf
  | .targetedTestDone u _ => u.wf
  | _ => true

end Sys2Proof
end

