-- ==== Sys2Proof/Tests/Slice0.lean ====
section
/-! SUPPORT. The author's own tests: the checks of `Instr.wf`, the worked examples of the spec, and single steps on small states. -/

set_option maxRecDepth 8000
set_option Elab.async false

open Sys2Proof Sys2Proof.Machine Sys2Proof.Machine.State

namespace Sys2Proof.Machine

/-! WellFormed: each check refuses an ill-formed command and lets a well-formed one pass. -/

/-- An extended FD frame of 12 bytes on K4. -/
def Frame.good : Frame := { bus := 4, ext := true, fd := true, brs := true, ident := 0x10080010, data := List.replicate 12 0, sof := 0 }

theorem test_wf_frame_passes : Instr.wf (.hallCall Frame.good) = true := by decide
theorem test_wf_identifier_of_11_bits : Instr.wf (.busFrameUnowned { Frame.good with ext := false, ident := 2048 }) = false := by decide
theorem test_wf_fd_length : Instr.wf (.hallCall { Frame.good with data := List.replicate 13 0 }) = false := by decide
theorem test_wf_classical_length :
    Instr.wf (.busFrameUnowned { Frame.plain 0 with data := List.replicate 9 0 }) = false := by decide
theorem test_wf_classical_has_no_bit_rate_switch : Instr.wf (.busFrameUnowned { Frame.plain 0 with brs := true }) = false := by decide
theorem test_wf_voltage : Instr.wf (.vinFault 65536) = false ∧ Instr.wf (.railFault 0 0 65536) = false ∧ Instr.wf (.powerFail 65535) = true := by
  decide
theorem test_wf_samples : Instr.wf (.inputFilterAccept 0 [0, 65536]) = false ∧ Instr.wf (.inputFilterAccept 0 [0, 65535]) = true := by decide
theorem test_wf_delay : Instr.wf (.frameSent 0 0 256) = false ∧ Instr.wf (.frameSent 0 0 255) = true := by decide
theorem test_wf_wake : Instr.wf (.busWake 4 (.frame false 2048 [])) = false ∧ Instr.wf (.busWake 4 (.frame true 2048 (List.replicate 9 0))) = false ∧
    Instr.wf (.busWake 4 (.frame true 2048 (List.replicate 8 0))) = true := by decide
theorem test_wf_fetches : Instr.wf (.cmdFetch (List.replicate 63 0)) = false ∧ Instr.wf (.callFetch (List.replicate 33 0)) = false ∧
    Instr.wf (.cmdFetch (List.replicate 64 0)) = true ∧ Instr.wf (.callFetch (List.replicate 32 0)) = true := by decide
theorem test_wf_entry : Instr.wf (.nop { cmdOf 1 0 with param := [] }) = false ∧ Instr.wf (.nop (cmdOf 1 0)) = true := by decide
theorem test_wf_class_0 : Instr.wf (.faultReport (FaultMsg.of 0x30 0)) = false ∧ Instr.wf (.faultReport (FaultMsg.of 0x30 3)) = true := by decide
theorem test_wf_pages : Instr.wf (.targetedTestDone (.sramPage 1536) .pass) = false ∧ Instr.wf (.targetedTestDone (.dramPage 8192) .pass) = false ∧
    Instr.wf (.targetedTestDone (.sramPage 1535) .pass) = true := by decide

/-! Worked examples. -/

/-- The ASCII digits 1 to 9. -/
def nineDigits : List Byte := [0x31, 0x32, 0x33, 0x34, 0x35, 0x36, 0x37, 0x38, 0x39]

/-- 16 R542. -/
theorem test_check_values : crc32c nineDigits = 0xE3069283 ∧ crc32 nineDigits = 0xCBF43926 ∧ crc16 nineDigits = 0x29B1 := by decide +kernel

/-- 05, example of R162: car J from landing 0 to 33. -/
theorem test_plan_of_car_j : plan 0 0 1342000 60000 12000 12000 12000 = .ok
    [⟨1000000, 2000, 6000, 1⟩, ⟨4000000, 122000, 54000, 2⟩, ⟨1000000, 180000, 60000, 3⟩, ⟨16366667, 1162000, 60000, 4⟩,
     ⟨1000000, 1220000, 54000, 5⟩, ⟨4000000, 1340000, 6000, 6⟩, ⟨1000000, 1342000, 0, 7⟩] := by decide +kernel

/-- 05, example of R173: the caps and the reversal of car C's front door; open 1,513,586 µs after the decision. -/
theorem test_reversal_of_car_c : energyCap 1800 10 = 3333 ∧ energyCap 1800 4 = 2108 ∧
    reversalSeg (F64.ofInt 2800) (F64.ofInt (-3000)) 15000 = ⟨200000, 2500, 0, 0⟩ ∧
    (match plan 2500 0 5500 5000 10000 10000 50000 with | .ok l => planLen l | _ => 0) = 1313586 := by decide +kernel

/-- 10, the example after R339: the stop of car J from 60,000 at 630,120. -/
theorem test_stop_of_car_j : (stopPlan (F64.ofInt 630120) (F64.ofInt 60000) F64.zero 10000 50000).map (fun g => (g.dur, g.endVel)) =
    [(200000, 59000), (5800000, 1000), (200000, 0)] ∧
    ((stopPlan (F64.ofInt 630120) (F64.ofInt 60000) F64.zero 10000 50000).getLast?.map (·.endPos)) = some 816120 := by decide +kernel

/-- The gains of 06's example, set 1 and set 2. -/
def gainsOfH8 : GainRec :=
  { kind := 1, regionMap := 0b10010100, corrMax := 1000, uMax := 66000, iMax := 300, feLimit := 0, regA := 500, regB := 2000,
    p1 := 0, p2 := 0, p3 := 0, p4 := 0,
    sets := #v[⟨0, 0, 0, 0⟩, ⟨0x10000, 0x40000, 0xA3D, 0⟩, ⟨0x10000, 0x80000, 0x147B, 0x4000⟩, ⟨0, 0, 0, 0⟩] }

/-- 06, example of R193: car J's lane in T0 205,464. -/
theorem test_lane_of_car_j :
    let l := law gainsOfH8 { Lane.zero with set := 1, integ := 2500 } ⟨1340008, 5984, 1339966, 6010, 0, 0, 0,
      hoistRegion gainsOfH8 1340008 5984 (-11984) 1342000⟩
    l.uc = 6206 ∧ l.integ = -132 ∧ l.err = 30 ∧ l.verr = -26 ∧ l.set = 2 ∧ l.evSwitch = 1 ∧ l.itTerm = -11 := by decide +kernel

/-- 03, example of R110: car L's re-levelling on PP10, times in 10 ns. -/
theorem test_estimator_of_car_l :
    let e1 := (Est.zero.onEdge 10000 1).onLatch 25000 5000000
    let e2 := (e1.onEdge 700300 1).onLatch 725000 5000000
    let e3 := (e2.onEdge 1390600 1).onLatch 1400000 5000000
    e1.speed = 0 ∧ e1.moving = true ∧ e2.speed = 2317 ∧ (e3.onLatch 2075000 5000000).speed = 2317 ∧
      (e3.onLatch 2100000 5000000).speed = 2255 ∧ (e3.onLatch 2400000 5000000).speed = 1585 := by decide +kernel

/-- 03, example of R119: the record of PP26. -/
theorem test_record_of_pp26 :
    let p := readPort [0x04, 0x00, 0x05, 0x32, 0x02, 0x0A, 0x02, 0x19, 0x03, 0x01, 0x18, 0x00, 0x64, 0x3C, 0x00, 0x00, 0x00, 0x00, 0x01, 0x00,
      0xD4, 0x30, 0x00, 0x00, 0x00, 0x00, 0x00, 0x00, 0x00, 0x00, 0x00, 0x00]
    (p.mode, p.filt, p.tstop, p.role, p.car, p.supply) = (4, 5, 50, 2, 10, 2) ∧ (p.ssiBits, p.gray, p.errEn, p.errLow) = (25, true, true, false) ∧
      (p.posLsb, p.posBits, p.errPos, p.rate, p.delay) = (1, 24, 0, 100, 60) ∧ (p.scale, p.zero) = (65536, 12500) := by decide +kernel

/-- 13, example of R424: the record of K2. -/
theorem test_record_of_k2 :
    let b := readBus [0x07, 0x01, 0x01, 0x3F, 0x10, 0x10, 0x01, 0x0B, 0x04, 0x04, 0x0C, 0, 0, 0, 0, 0]
    (b.en, b.fd, b.brs, b.auto, b.boff) = (true, true, true, false, 1) ∧ (b.nbrp, b.ntseg1, b.ntseg2, b.nsjw) = (1, 63, 16, 16) ∧
      (b.dbrp, b.dtseg1, b.dtseg2, b.dsjw, b.tdcOffset) = (1, 11, 4, 4, 12) := by decide +kernel

/-- 10, example of R335: v_env of car J at the demand and 9,997 T0 after it. -/
theorem test_envelope_of_car_j : sf1Env 60000 0 = 63000 ∧ sf1Env 60000 9997 = 53004 := by decide

/-! Single steps. The expected values are those of the rule named. -/

/-- The state after a command. -/
def after (c : Instr) (s : State) : State :=
  match exec c s with
  | .next t => t
  | _ => s

theorem test_step_takes_the_front : step { State.reset with pending := [.powerOn, .t2Boundary] } =
    exec .powerOn { State.reset with pending := [.t2Boundary] } := by rfl
theorem test_step_idles : step State.small = .next State.small := by rfl
theorem test_table_gives_no_bits : decodeTableWord 16 0 = none ∧ State.reset.withFetchWord 16 0 = State.reset := by exact ⟨rfl, rfl⟩

/-- 01 R46, 17 R555. -/
theorem test_power_on : (after .powerOn State.reset).mod = .boot ∧ (after .powerOn State.reset).pwr.pd0 = true := by decide +kernel
/-- 01 R17 to R19: every counter wraps together, and the T1 part of the boundary is due. -/
theorem test_t0_wraps : (after (.t0Boundary 0) (State.small.atT0 0xFFFFFFFF)).tick.t0 = 0 ∧
    (after (.t0Boundary 0) (State.small.atT0 0xFFFFFFFF)).tick.t1Due = true := by decide +kernel
/-- 01 R46. -/
theorem test_power_fail : (after (.powerFail 15999) State.small).mod = .off := by decide +kernel
/-- 17 R572: the derate starts above 110 °C on the die. -/
theorem test_derate : (after (.thermalWarn .die0 1101) State.small).pwr.derate = true := by decide +kernel
/-- 03 R85: a step with the direction level high counts up, and the count wraps and says so. -/
theorem test_count_wraps :
    let s := State.small.updPort 0 fun p => { p with en := true, cfg := { p.cfg with mode := 1, filt := 0 }, level := 2, count := 0x7FFFFFFF }
    ((after (.portEdge 0 ⟨3, 1⟩ 5) s).ports.get 0).count = 0x80000000 ∧ ((after (.portEdge 0 ⟨3, 1⟩ 5) s).ports.get 0).flags.wrap = true := by
  decide +kernel
/-- 03 R88. -/
theorem test_illegal_transition :
    let s := State.small.updPort 0 fun p => { p with en := true, cfg := { p.cfg with mode := 3, filt := 0 }, count := 7 }
    ((after (.portEdge 0 ⟨3, 1⟩ 5) s).ports.get 0).count = 7 ∧ ((after (.portEdge 0 ⟨3, 1⟩ 5) s).ports.get 0).flags.illegal = true := by
  decide +kernel
/-- 06 R200: the stop of the following error takes the car out of dispatch. -/
theorem test_following_error :
    let s := (State.small.updAxis 0 fun a => { a with state := .run }).updLane 0 fun l => { l with feRun := 4 }
    ((after (.followingErrorStop 0) s).cars.get 0).holds.following = true := by decide +kernel
/-- 10 R348: overspeed demands at once, and torque goes. -/
theorem test_overspeed :
    let s := State.quiet.updLv 0 fun l => { l with osRun := 2 }
    ((after (.overspeed 0) s).lv.get 0).demand = true ∧ ((after (.overspeed 0) s).lv.get 0).torqueOff = true := by decide +kernel
/-- 12 R395: L+ out of range. -/
theorem test_lp_low :
    let s := State.quiet.updPol 0 fun p => { p with lpOk := true }
    ((after (.lpLow 0) s).pol.pol.get 0).lpOk = false := by decide +kernel
/-- 13 R444. -/
theorem test_busoff : ((after (.busoff 11 256 0) (State.small.updBus 11 fun b => { b with state := .active })).buses.get 11).state = .busoff := by
  decide +kernel
/-- 14 R461: an index beyond the ring is ignored and counted. -/
theorem test_doorbell : ((after (.dbCmdTail 255) (State.small.ringed 2 1)).hi.rings.get 0).tail = 255 ∧
    ((after (.dbCmdTail 256) (State.small.ringed 2 1)).hi.rings.get 0).tail = 2 ∧ (after (.dbCmdTail 256) (State.small.ringed 2 1)).hi.dbErr = true := by
  decide +kernel
/-- 14 R465, R468: an opcode outside the table is refused with OPCODE, and the entry does not wait. -/
theorem test_unknown_opcode :
    let t := after (.cmdFetch (List.replicate 64 0)) (State.small.ringed 2 1)
    t.hi.waiting = [] ∧ (t.hi.cpl.get 0).code = 0x80 := by decide +kernel
/-- 14 R468. -/
theorem test_nop_done :
    let t := after (.nop (cmdOf 0x01 0xFF)) (State.small.waiting (cmdOf 0x01 0xFF))
    (t.hi.cpl.get 0).status = 0 ∧ (t.hi.cpl.get 0).code = 0 ∧ (t.hi.cpl.get 0).tag = 7 ∧ t.hi.waiting = [] := by decide +kernel
/-- 14 R456. -/
theorem test_unaligned : (after (.unalignedAccess true 1) State.small).hi.accErr = true := by decide +kernel
/-- 18 R577: MAP_PAGE.SEL 3 selects nothing and the page stands. -/
theorem test_map_page : (after (.mapPageSelect 2) State.small).page = 2 ∧ (after (.mapPageSelect 3) State.small).page = 0 := by decide +kernel
/-- 08 R258, R262: a call in a call entry takes slot 0. -/
theorem test_call_entry : (after .callEntry (State.small.calling Call.up1)).dsx.calls.map (·.slot) = [0] := by decide +kernel
/-- 15 R503: a word without SYNC changes no peer claim. -/
theorem test_claim_word : (after (.claimWordRx 0) (State.paired .active 0)).tw.claimErr = 1 ∧
    (after (.claimWordRx 0) (State.paired .active 0)).tw.claimOk = false := by decide +kernel
/-- 15 R517: with both leases run out the gate closes. -/
theorem test_leases_end :
    (after .leaseExpiry ((State.paired .active 0).updTw fun t => { t with gate := true, wLease := 250, pLease := 0 })).tw.gate = false := by
  decide +kernel
/-- 16 R524: a class C finding waits for the T0 boundary. -/
theorem test_fault_waits : (after (.faultReport (FaultMsg.of 0x2F 1)) State.small).fc.batch.length = 1 := by decide +kernel

/-! The algorithms the spec names by their standards, on the standards' own examples. -/

/-- FIPS 180-4: SHA-256 of "abc". -/
theorem test_sha256 : beNat (sha256 [0x61, 0x62, 0x63]) = 0xba7816bf8f01cfea414140de5dae2223b00361a396177a9cb410ff61f20015ad := by decide +kernel
/-- FIPS 197, appendix C.1. -/
theorem test_aes128 : beNat (aes128 (beBytes 16 0x000102030405060708090a0b0c0d0e0f) (beBytes 16 0x00112233445566778899aabbccddeeff)) =
    0x69c4e0d86a7b0430d8cdb78070b4c55a := by decide +kernel
/-- RFC 4493, examples 1 and 2: CMAC of the empty message and of one block. -/
theorem test_cmac : beNat (cmac (beBytes 16 0x2b7e151628aed2a6abf7158809cf4f3c) []) = 0xbb1d6929e95937287fa37d129b756746 ∧
    beNat (cmac (beBytes 16 0x2b7e151628aed2a6abf7158809cf4f3c) (beBytes 16 0x6bc1bee22e409f96e93d7e117393172a)) =
      0x070a16b46b4d4144f79bdd9dd04a287c := by decide +kernel
/-- P-256: the base point is on the curve, and so is its double. -/
theorem test_p256 : onCurve p256G.1 p256G.2 = true ∧ (addPoint (some p256G) (some p256G)).map (·.1) =
    some 0x7cf27b188d034f7e8a52380304b51ac3c08969e277f21b35a60b48fc47669978 := by decide +kernel

end Sys2Proof.Machine
end

