-- ==== Sys2Proof/Tests/Witnesses1.lean ====
section
/-! SUPPORT. Witnesses: for each clause of a statement with hypotheses, a state and operands that meet them together (the block, its power, its tick, its ports and its motion).
Where a clause compares, the witness stands at the boundary of the comparison. -/

set_option linter.unusedTactic false
set_option linter.unreachableTactic false
set_option linter.unnecessarySeqFocus false
set_option linter.unusedVariables false
set_option maxRecDepth 4000

open Sys2Proof Sys2Proof.Machine Sys2Proof.Machine.State

namespace Sys2Proof.Machine

theorem wit_step_idles_of_reset : State.reset.pending = [] := rfl

/-- The hypotheses of `Obligations.CountersAgreeAfterEveryStep` are met, clause by clause. -/
theorem wit_CountersAgreeAfterEveryStep :
    (∃ s t : State, s.CountersInv ∧ s.PeerAgrees ∧ step s = .next t ∧ t.CountersInv) :=
  ⟨State.reset, State.reset, ⟨by unfold CountersInv Tick.Agree CountersAgree; decide, trivial, rfl, by unfold CountersInv Tick.Agree CountersAgree; decide⟩⟩

/-- The hypothesis of `Obligations.ModelChangesOnlyAtLoadAndT2Boundary` is met: power comes up from reset. -/
theorem wit_ModelChangesOnlyAtLoadAndT2Boundary : ∃ (c : Instr) (s t : State), exec c s = .next t :=
  ⟨.powerOn, State.reset, _, rfl⟩

theorem wit_TimebaseOriginIsNeverRewritten : ∃ (c : Instr) (s t : State), exec c s = .next t ∧ s.tick.started = true := ⟨.t2Boundary, { State.reset with tick := { Tick.zero with started := true } }, _, rfl, rfl⟩

theorem wit_PowerOnAndPowerFail :
    (∃ s : State, s.pwr.pd0 = false ∧ s.mod = .off) ∧ (∃ (s : State) (mv : Nat), s.pwr.pd0 = true ∧ (mv < 16000 ∨ 34000 < mv)) ∧
    (∃ s : State, s.pwr.pd0 = true) :=
  ⟨⟨State.reset, rfl, rfl⟩, ⟨State.inMod .active, 15999, rfl, .inl (by decide)⟩, ⟨State.inMod .active, rfl⟩⟩

theorem wit_ResetPinAndRestarts :
    (∃ s : State, s.mod ≠ .off ∧ s.pwr.nrstin = false) ∧ (∃ s : State, s.mod = .boot ∧ s.pwr.nrstin = true) ∧
    (∃ s : State, s.mod = .off ∧ s.pwr.pd0 = true ∧ s.pwr.nrstin = true) ∧
    (∃ (s : State) (e : CmdEntry), s.canStart 0x61 e = true ∧ paramOk e true = true ∧ s.mod = .safeHold ∧ (s.pwr.tripped = false ∨ s.pwr.derate = false)) ∧
    (∃ s : State, s.fc.crst = true ∧ s.mod = .safeHold ∧ s.allStill = true) ∧
    (∃ s : State, s.mod = .boot ∧ 5 ≤ s.pwr.boot.step ∧ s.pwr.boot.trial = true ∧ 240000 ≤ s.pwr.boot.age) :=
  ⟨⟨State.inMod .active, by decide, rfl⟩, ⟨(State.inMod .boot).holdReset, rfl, rfl⟩, ⟨(State.inMod .off).holdReset, rfl, rfl, rfl⟩,
   ⟨(State.inMod .safeHold).waiting (cmdOf 0x61 0), cmdOf 0x61 0, by decide, by decide, rfl, .inl rfl⟩,
   ⟨{ State.inMod .safeHold with fc := { Fc.zero with crst := true } }, rfl, rfl, rfl⟩,
   ⟨(State.inMod .boot).updPwr fun p => { p with boot := { Boot.zero with step := 5, trial := true, age := 240000 } }, rfl, by decide, rfl, by decide⟩⟩

theorem wit_RestartsThatChangeFlash :
    (∃ (s : State) (e : CmdEntry), s.canStart 0x13 e = true ∧ paramOk e true = true ∧ (s.mod = .config ∨ s.mod = .safeHold) ∧
      s.seal0 = true ∧ s.allStill = true) ∧
    (∃ (s : State) (u : Update), s.pwr.update = some u ∧ s.mod = .update ∧ u.writing = true) ∧
    (∃ s : State, s.recovers = true ∧ s.pwr.recState = 3) :=
  ⟨⟨({ State.inMod .config with seals := { Seal.zero with now := 1 } } : State).waiting (cmdOf 0x13 0), cmdOf 0x13 0, by decide, by decide, .inl rfl, by decide, rfl⟩,
   ⟨(State.inMod .update).updPwr fun p => { p with update := some ⟨[], cmdOf 0x60 0, true, true, 0⟩ }, _, rfl, rfl, rfl⟩,
   ⟨(State.inMod .boot).updPwr fun p => { p with recovery := true, recState := 3 }, by decide, rfl⟩⟩

theorem wit_VinExcursionsAreReported :
    (∃ (s : State) (mv : Nat), s.pwr.pd0 = true ∧ (mv < 19000 ∨ 32000 < mv) ∧ (s.pwr.vinBad = false ∨ s.pwr.vinRepT2 ≠ s.tick.t2)) ∧
    (∃ (s : State) (mv : Nat), s.pwr.pd0 = true ∧ (mv < 19000 ∨ 32000 < mv) ∧ s.pwr.vinBad = true ∧ s.pwr.vinRepT2 = s.tick.t2) ∧
    (∃ (s : State) (mv : Nat), s.pwr.pd0 = true ∧ 19200 ≤ mv ∧ mv ≤ 30000) :=
  ⟨⟨State.inMod .active, 18999, rfl, by decide, .inl rfl⟩,
   ⟨(State.inMod .active).updPwr fun p => { p with vinBad := true }, 32001, rfl, by decide, rfl, rfl⟩, ⟨State.inMod .active, 19200, rfl, by decide, by decide⟩⟩

/-- The hypotheses of `Obligations.RailsAndDomains` are met, clause by clause. -/
theorem wit_RailsAndDomains :
    (∃ (s : State) (d : Fin 8) (rail : Fin 7) (mv v : Nat), railNominal d rail = some v ∧ s.pd d.val = true ∧ (20 * mv < 19 * v ∨ 21 * v < 20 * mv)) ∧
    (∃ (s : State) (d : Fin 8), s.pwr.pd0 = true ∧ d ≠ 0) ∧
    (∃ (s : State) (d : Fin 8), s.pwr.domLock.getLsbD d.val = true ∧ s.nextDomain ≠ some d) ∧
    (∃ (s : State) (d : Fin 8), s.nextDomain = some d ∧ 16 ≤ s.pwr.lastOn ∧ s.pwr.domOk.getLsbD (s.domainBefore d).val = true) ∧
    (∃ (s : State) (d : Fin 8), s.nextDomain = some d ∧ 16 ≤ s.pwr.lastOn ∧ s.pwr.domOk.getLsbD (s.domainBefore d).val = true ∧ s.mod ≠ .boot) ∧
    (∃ (s : State) (d : Fin 8), s.nextDomain = some d ∧ 16 ≤ s.pwr.lastOn ∧ s.pwr.domOk.getLsbD (s.domainBefore d).val = true ∧ s.mod = .boot) :=
  ⟨⟨State.inMod .active, 0, 0, 0, 850, by and_intros <;> first | rfl | decide⟩,
   ⟨State.inMod .active, 7, by and_intros <;> first | rfl | decide⟩,
   ⟨{ State.inMod .active with pwr := { (State.inMod .active).pwr with domOn := 0xDF, domLock := 0x20 } }, 5, by and_intros <;> first | rfl | decide⟩,
   ⟨{ State.inMod .active with pwr := { (State.inMod .active).pwr with domOn := 0xDF, lastOn := 16 } }, 5, by and_intros <;> first | rfl | decide⟩,
   ⟨{ State.inMod .active with pwr := { (State.inMod .active).pwr with domOn := 0xDF, lastOn := 16 } }, 5, by and_intros <;> first | rfl | decide⟩,
   ⟨{ State.inMod .boot with pwr := { (State.inMod .boot).pwr with domOn := 0xDF, lastOn := 16, boot := { Boot.zero with step := 5 } } }, 5, by and_intros <;> first | rfl | decide⟩⟩

/-- The hypotheses of `Obligations.BootSelectsAndCommitsSlots` are met, clause by clause. -/
theorem wit_BootSelectsAndCommitsSlots :
    (∃ (s : State) (ks : List (Fin 2)), s.mod = .boot ∧ s.pwr.boot.step = 4 ∧ s.pwr.boot.halted = false ∧ s.pwr.nrstin = false ∧ s.pwr.recovery = false ∧ s.pwr.domLock.getLsbD 1 = false ∧ (let more (k : Fin 2) : List (Fin 2) := if (s.pwr.slots.get k).state = 1 ∨ (s.pwr.slots.get k).state = 2 then [k] else []; let k := ((idx 2).find? fun k => (s.pwr.slots.get k).state = 2).getD s.pwr.preferred; ks = if s.pwr.boot.tried = 0 then k :: more (1 - k) else if s.pwr.boot.tried = 1 then more (1 - s.pwr.boot.first) else [])) ∧
    (∃ s : State, s.mod = .boot ∧ s.pwr.boot.step = 6 ∧ s.pwr.boot.halted = false) ∧
    (∃ s : State, s.mod = .boot ∧ s.pwr.boot.step = 6 ∧ s.pwr.boot.halted = false) ∧
    (∃ s : State, s.mod = .boot ∧ s.pwr.boot.step = 7 ∧ s.pwr.boot.halted = false) :=
  ⟨⟨{ State.inMod .boot with pwr := { (State.inMod .boot).pwr with boot := { Boot.zero with step := 4 }, slots := Tab.all ⟨[], 2⟩ } }, [0, 1], by refine ⟨rfl, rfl, rfl, rfl, rfl, by decide, ?_⟩; decide⟩,
   ⟨{ (State.inMod .boot) with pwr := { (State.inMod .boot).pwr with boot := { Boot.zero with step := 6 } } }, by and_intros <;> first | rfl | decide⟩,
   ⟨{ (State.inMod .boot) with pwr := { (State.inMod .boot).pwr with boot := { Boot.zero with step := 6 } } }, by and_intros <;> first | rfl | decide⟩,
   ⟨{ (State.inMod .boot) with pwr := { (State.inMod .boot).pwr with boot := { Boot.zero with step := 7 } } }, by and_intros <;> first | rfl | decide⟩⟩

/-- The hypotheses of `Obligations.Temperature` are met, clause by clause. -/
theorem wit_Temperature :
    (∃ (s : State) (x : Sensor) (v : Int), s.pwr.pd0 = true ∧ (if x = .base then 850 else 1100) < v) ∧
    (∃ (s : State) (x : Sensor) (v : Int), s.pwr.pd0 = true ∧ (if x = .base then 950 else 1250) < v) ∧
    (∃ s : State, s.pwr.derate = true ∧ s.mod ≠ .boot) ∧
    (∃ s : State, s.mod = .boot ∧ s.pwr.boot.halted = true ∧ s.pwr.boot.hot = true) :=
  ⟨⟨State.inMod .active, .base, 851, by and_intros <;> first | rfl | decide⟩,
   ⟨State.inMod .active, .die0, 1251, by and_intros <;> first | rfl | decide⟩,
   ⟨{ State.inMod .active with pwr := { (State.inMod .active).pwr with derate := true } }, by and_intros <;> first | rfl | decide⟩,
   ⟨{ State.inMod .boot with pwr := { (State.inMod .boot).pwr with derate := true, boot := { Boot.zero with halted := true, hot := true } }, seals := { Seal.zero with fixed := true } }, by and_intros <;> first | rfl | decide⟩⟩

/-- The hypotheses of `Obligations.RecoveryTakesAnImage` are met, clause by clause. -/
theorem wit_RecoveryTakesAnImage :
    (∃ s : State, s.recovers = true) ∧
    (∃ (s : State) (off : BitVec 24), s.recovers = true ∧ s.pwr.recState = 1) ∧
    (∃ s : State, s.recovers = true ∧ s.pwr.recState = 1) :=
  ⟨⟨{ State.inMod .boot with pwr := { (State.inMod .boot).pwr with recovery := true } }, by decide⟩,
   ⟨{ State.inMod .boot with pwr := { (State.inMod .boot).pwr with recovery := true, recState := 1 } }, 0xFFFFFF, by and_intros <;> first | rfl | decide⟩,
   ⟨{ State.inMod .boot with pwr := { (State.inMod .boot).pwr with recovery := true, recState := 1 } }, by and_intros <;> first | rfl | decide⟩⟩

/-- The hypotheses of `Obligations.UpdateIsCheckedThenWaits` are met, clause by clause. -/
theorem wit_UpdateIsCheckedThenWaits :
    (∃ (s : State) (e : CmdEntry) (d : List Byte), s.canStart 0x60 e = true ∧ paramOk e true = true ∧ s.pwr.update = none ∧ d.length = e.dataLen.toNat ∧ (s.mod = .config ∨ s.mod = .standby ∨ s.mod = .witness ∨ s.mod = .safeHold ∨ (s.mod = .active ∧ s.seals.role = 3))) ∧
    (∃ (s : State) (e : CmdEntry) (d : Option (List Byte)) (code : Nat), s.canStart 0x60 e = true ∧ paramOk e true = true ∧ (¬ (s.mod = .config ∨ s.mod = .standby ∨ s.mod = .witness ∨ s.mod = .safeHold ∨ (s.mod = .active ∧ s.seals.role = 3)) ∨ s.pwr.update.isSome = true ∨ d = none ∨ (d.getD []).length ≠ e.dataLen.toNat) ∧ code = (if ¬ (s.mod = .config ∨ s.mod = .standby ∨ s.mod = .witness ∨ s.mod = .safeHold ∨ (s.mod = .active ∧ s.seals.role = 3)) then 0x83 else if s.pwr.update.isSome then 0x89 else 0x8C)) ∧
    (∃ (s : State) (u : Update), s.pwr.update = some u ∧ u.checked = false ∧ s.pwr.derate = false) ∧
    (∃ (s : State) (u : Update), s.pwr.update = some u ∧ s.mod = .active ∧ u.writing = false ∧ 1000 ≤ u.waited) :=
  ⟨⟨(State.inMod .config).waiting (cmdOf 0x60 0xFF), cmdOf 0x60 0xFF, [], by and_intros <;> first | rfl | exact .inl rfl | decide⟩,
   ⟨(State.inMod .config).waiting (cmdOf 0x60 0xFF), cmdOf 0x60 0xFF, none, 0x8C, ⟨by decide, by decide, .inr (.inr (.inl rfl)), by decide⟩⟩,
   ⟨(State.inMod .config).updPwr fun p => { p with update := some { image := [], e := cmdOf 0x60 0xFF, checked := false, writing := false, waited := 0 } }, { image := [], e := cmdOf 0x60 0xFF, checked := false, writing := false, waited := 0 }, by and_intros <;> first | rfl | decide⟩,
   ⟨(State.inMod .active).updPwr fun p => { p with update := some { image := [], e := cmdOf 0x60 0xFF, checked := true, writing := false, waited := 1000 } }, { image := [], e := cmdOf 0x60 0xFF, checked := true, writing := false, waited := 1000 }, by and_intros <;> first | rfl | decide⟩⟩

/-- The hypotheses of `Obligations.ParkedGroups` are met, clause by clause. -/
theorem wit_ParkedGroups :
    (∃ (s : State) (v : BitVec 32), s.hostUp = true) ∧
    (∃ (s : State) (m : Model) (g : Fin 6), s.model = some m ∧ s.groupState = true ∧ s.pwr.parkReq.getLsbD g.val = true ∧ s.pwr.parked.getLsbD g.val = false ∧ (State.groupCars m g).all (s.parkReady m) = true) ∧
    (∃ (s : State) (m : Model) (g : Fin 6), s.model = some m ∧ s.pwr.parked.getLsbD g.val = true ∧ (s.pwr.parkReq.getLsbD g.val = false ∨ s.unparkAsked m g = true)) :=
  ⟨⟨State.inMod .active, 0xFFFFFFFF, by and_intros <;> first | rfl | decide⟩,
   ⟨((State.inMod .active).withModel Model.one).updPwr fun p => { p with parkReq := 0xFFFFFFFF }, Model.one, 5, by and_intros <;> first | rfl | decide⟩,
   ⟨((State.inMod .active).withModel Model.one).updPwr fun p => { p with parked := 1 }, Model.one, 0, ⟨rfl, rfl, .inl rfl⟩⟩⟩

theorem wit_BoundariesAdvanceTheCounters :
    (∃ s : State, s.pwr.pd0 = true ∧ s.tick.started = false) ∧
    (∃ s : State, s.pwr.pd0 = true ∧ s.tick.started = true ∧ (s.tw.lastHb = none ∨ s.tw.adopt ≠ 1)) ∧
    (∃ s : State, s.pwr.pd0 = true ∧ s.tick.started = true ∧ s.tick.t1Due = true) ∧
    (∃ s : State, s.pwr.pd0 = true ∧ s.tick.started = true ∧ s.tick.t2Done = false ∧ s.tick.t0.toNat % 256 = 255) :=
  ⟨⟨State.inMod .active, rfl, rfl⟩, ⟨(State.inMod .active).atT0 0xFFFFFFFF, rfl, rfl, .inl rfl⟩,
   ⟨{ State.inMod .active with tick := { Tick.zero with started := true, t1Due := true } }, rfl, rfl, rfl⟩,
   ⟨(State.inMod .active).atT0 0xFFFFFFFF, rfl, rfl, rfl, rfl⟩⟩

/-- The hypotheses of `Obligations.AbandonedJobsAreCounted` are met, clause by clause. -/
theorem wit_AbandonedJobsAreCounted :
    (∃ (s : State) (j : Job) (u : Fin 12) (l : Fin 3), s.jobRuns j = true ∧ s.abandoned j = false ∧ (match j with | .fusion c => u.val = 2 + c.val / 4 ∧ l = 0 | .carCoreT1 cc => u.val = 2 + cc.val ∧ l = 1 | .publishFixtures cc => u.val = 2 + cc.val ∧ l = 2 | .heartbeat => u = 1 ∧ l = 0 | .epoch => u = 1 ∧ l = 1 | .telemetry => u = 0 ∧ l = 1 | .rings => u = 0 ∧ l = 1 | .publishHost => u = 0 ∧ l = 2 | _ => False)) ∧
    (∃ (s : State) (k : Fin 48) (pg : Bool), s.jobRuns (if pg then .lanePg k else .laneCe k) = true ∧ s.laneMarked k = false) ∧
    (∃ (s : State) (c : Fin 16), s.jobRuns (.frameBuild c) = true ∧ s.abandoned (.frameBuild c) = false) ∧
    (∃ s : State, s.jobRuns .snapshot = true ∧ s.abandoned .snapshot = false) ∧
    (∃ s : State, s.jobRuns .solver = true ∧ s.abandoned .solver = false) ∧
    (∃ (s : State) (lc : Fin 2), s.jobRuns (.levee lc) = true ∧ s.abandoned (.levee lc) = false) ∧
    (∃ (s : State) (lc : Fin 2), 2 ≤ s.spill.miss.get lc) :=
  ⟨⟨State.serving, .carCoreT1 0, 2, 1, by and_intros <;> first | rfl | decide⟩,
   ⟨{ State.serving with model := some Model.geared }, 0, true, by and_intros <;> first | rfl | decide⟩,
   ⟨{ State.serving with model := some Model.geared }, 0, by and_intros <;> first | rfl | decide⟩,
   ⟨(State.paired .active 0).updTw fun t => { t with snapBytes := some [] }, by and_intros <;> first | rfl | decide⟩,
   ⟨State.serving.updDsx fun d => { d with snap := some Snap.empty }, by and_intros <;> first | rfl | decide⟩,
   ⟨State.serving, 0, by and_intros <;> first | rfl | decide⟩,
   ⟨{ State.serving with spill := { State.serving.spill with miss := State.serving.spill.miss.put 1 2 } }, 1, by and_intros <;> first | rfl | decide⟩⟩

/-- The hypotheses of `Obligations.RepeatedDropsEscalate` are met, clause by clause. -/
theorem wit_RepeatedDropsEscalate :
    (∃ (s : State) (m : Model) (k : Fin 48), s.model = some m ∧ (s.lanes.get k).stopped = false ∧ s.laneRuns k = true ∧ 2 ≤ (s.lanes.get k).missRun ∧ isHoist k = true) ∧
    (∃ (s : State) (m : Model) (k : Fin 48), s.model = some m ∧ (s.lanes.get k).stopped = false ∧ s.laneRuns k = true ∧ 2 ≤ (s.lanes.get k).missRun ∧ isHoist k = false) ∧
    (∃ (s : State) (cc : Fin 4), 4 ≤ s.spill.core.get cc ∧ s.spill.told.get cc = false) ∧
    (∃ (s : State) (off : Int), s.mod = .standby ∧ (off < -200 ∨ 200 < off)) :=
  ⟨⟨(State.serving.withModel Model.geared).updLane 0 fun l => { l with missRun := 2 }, Model.geared, 0, by and_intros <;> first | rfl | decide⟩,
   ⟨(State.serving.withModel Model.geared).updLane 47 fun l => { l with missRun := 2 }, Model.geared, 47, by and_intros <;> first | rfl | decide⟩,
   ⟨{ State.serving with spill := { State.serving.spill with core := Tab.all 4 } }, 3, by and_intros <;> first | rfl | decide⟩,
   ⟨State.inMod .standby, -201, by and_intros <;> first | rfl | decide⟩⟩

/-- The hypotheses of `Obligations.SolverRunsAndTheFallback` are met, clause by clause. -/
theorem wit_SolverRunsAndTheFallback :
    (∃ (s : State) (m : Model) (snap : Snap) (us : Nat), s.model = some m ∧ s.dsx.snap = some snap ∧ us ≤ 60000) ∧
    (∃ s : State, s.mod = .active ∧ 3 ≤ s.spill.solver ∧ s.dsx.fallback = false) :=
  ⟨⟨State.serving.updDsx fun d => { d with snap := some Snap.empty }, Model.one, Snap.empty, 60000, by and_intros <;> first | rfl | decide⟩,
   ⟨{ State.serving with spill := { State.serving.spill with solver := 3 } }, by and_intros <;> first | rfl | decide⟩⟩

end Sys2Proof.Machine
end

