-- ==== Sys2Proof/Tests/Witnesses2.lean ====
section
/-! SUPPORT. Witnesses: for each clause of a statement with hypotheses, a state and operands that meet them together (doors, calls, safety, buses and the host interface).
Where a clause compares, the witness stands at the boundary of the comparison. -/

set_option linter.unusedTactic false
set_option linter.unreachableTactic false
set_option linter.unnecessarySeqFocus false
set_option linter.unusedVariables false
set_option maxRecDepth 4000

open Sys2Proof Sys2Proof.Machine Sys2Proof.Machine.State

namespace Sys2Proof.Machine

/-- The hypotheses of `Obligations.PortEdgesCount` are met, clause by clause. -/
theorem wit_PortEdgesCount :
    (∃ (s : State) (n : Fin 48) (lv : BitVec 2) (held : Nat) (ts : BitVec 32), held ≤ (s.ports.get n).cfg.filt.toNat) ∧
    (∃ (s : State) (n : Fin 48) (lv : BitVec 2) (held : Nat) (ts : BitVec 32) (d₀ : Int), (s.ports.get n).cfg.filt.toNat < held ∧ s.portLive n = true ∧ (s.ports.get n).incremental = true ∧ (s.ports.get n).dataFault = false ∧ (s.ports.get n).edgeAt lv d₀ = true) ∧
    (∃ (s : State) (n : Fin 48) (lv : BitVec 2) (held : Nat) (ts : BitVec 32), (s.ports.get n).cfg.filt.toNat < held ∧ (s.portLive n = false ∨ (s.ports.get n).incremental = false ∨ (s.ports.get n).dataFault = true ∨ ((s.ports.get n).edgeAt lv 1 = false ∧ (s.ports.get n).edgeAt lv (-1) = false ∧ (s.ports.get n).illegalAt lv = false))) :=
  ⟨⟨((State.inMod .active).updPort 47 fun p => { p with en := true, cfg := { p.cfg with mode := 1 } }), 47, 1, 5, 5, by and_intros <;> first | rfl | decide⟩,
   ⟨((State.inMod .active).updPort 47 fun p => { p with en := true, cfg := { p.cfg with mode := 1 } }), 47, 1, 6, 5, -1, by and_intros <;> first | rfl | decide⟩,
   ⟨((State.inMod .active).updPort 47 fun p => { p with en := true, cfg := { p.cfg with mode := 1 } }), 47, 0, 6, 5, by and_intros <;> first | rfl | decide⟩⟩

/-- The hypotheses of `Obligations.IllegalTransitionLeavesTheCount` are met, clause by clause. -/
theorem wit_IllegalTransitionLeavesTheCount :
    (∃ (s : State) (n : Fin 48) (lv : BitVec 2) (held : Nat) (ts : BitVec 32), (s.ports.get n).cfg.filt.toNat < held ∧ s.portLive n = true ∧ (s.ports.get n).incremental = true ∧ (s.ports.get n).dataFault = false ∧ (s.ports.get n).illegalAt lv = true) :=
  ⟨((State.inMod .active).updPort 47 fun p => { p with en := true, cfg := { p.cfg with mode := 1 } }), 47, 3, 6, 5, by and_intros <;> first | rfl | decide⟩

/-- The hypotheses of `Obligations.IndexAndStandstill` are met, clause by clause. -/
theorem wit_IndexAndStandstill :
    (∃ (s : State) (n : Fin 48) (lv : Bool) (held : Nat) (ts : BitVec 32), held ≤ (s.ports.get n).cfg.filt.toNat) ∧
    (∃ (s : State) (n : Fin 48) (lv : Bool) (held : Nat) (ts : BitVec 32), (s.ports.get n).cfg.filt.toNat < held ∧ s.portLive n = true ∧ (s.ports.get n).incremental = true ∧ (s.ports.get n).linePair.getLsbD 2 = false ∧ (s.ports.get n).lineWas 2 = (s.ports.get n).cfg.idxEdge ∧ (lv != (s.ports.get n).cfg.inv.getLsbD 2) = !(s.ports.get n).cfg.idxEdge) ∧
    (∃ (s : State) (n : Fin 48) (lv : Bool) (held : Nat) (ts : BitVec 32), (s.ports.get n).cfg.filt.toNat < held ∧ (s.portLive n = false ∨ (s.ports.get n).incremental = false ∨ (s.ports.get n).linePair.getLsbD 2 = true ∨ (s.ports.get n).lineWas 2 ≠ (s.ports.get n).cfg.idxEdge ∨ (lv != (s.ports.get n).cfg.inv.getLsbD 2) = (s.ports.get n).cfg.idxEdge)) ∧
    (∃ (s : State) (n : Fin 48), (s.ports.get n).incremental = true ∧ (s.ports.get n).est.moving = true ∧ (s.ports.get n).cfg.tstop.toNat * 100000 ≤ (BitVec.setWidth 32 (s.tick.tb + 25000) - (s.ports.get n).est.edgeT).toNat) :=
  ⟨⟨((State.inMod .active).updPort 47 fun p => { p with en := true, cfg := { p.cfg with mode := 1 } }), 47, true, 5, 5, by and_intros <;> first | rfl | decide⟩,
   ⟨((State.inMod .active).updPort 47 fun p => { p with en := true, cfg := { p.cfg with mode := 1 }, level := 3, rwc := { p.rwc with idxArm := true, idxWin := 1 } }), 47, true, 6, 5, by and_intros <;> first | rfl | decide⟩,
   ⟨((State.inMod .active).updPort 47 fun p => { p with en := true, cfg := { p.cfg with mode := 1 } }), 47, false, 6, 5, by and_intros <;> first | rfl | decide⟩,
   ⟨((State.inMod .active).updPort 0 fun p => { p with en := true, cfg := { p.cfg with mode := 1 }, est := { p.est with moving := true, edgeT := BitVec.setWidth 32 (25000 - 5000000 : BitVec 64) } }), 0, by and_intros <;> first | rfl | decide⟩⟩

/-- The hypotheses of `Obligations.SsiFramesAndLineFaults` are met, clause by clause. -/
theorem wit_SsiFramesAndLineFaults :
    (∃ (s : State) (n : Fin 48) (fr : SsiBits), s.portLive n = true ∧ (s.ports.get n).cfg.mode = 4 ∧ (s.ports.get n).ssiOpen = true ∧ (s.ports.get n).dataFault = false) ∧
    (∃ (s : State) (n : Fin 48) (started : Bool), s.portLive n = true ∧ (s.ports.get n).cfg.mode = 4 ∧ (s.ports.get n).ssiOpen = true ∧ (s.ports.get n).dataFault = false ∧ ((s.ports.get n).driving = true ∨ started = true)) ∧
    (∃ (s : State) (n : Fin 48), s.portLive n = true ∧ (s.ports.get n).cfg.mode = 4 ∧ (s.ports.get n).ssiOpen = true ∧ (s.ports.get n).dataFault = false ∧ (s.ports.get n).driving = false) ∧
    (∃ (s : State) (n : Fin 48) (pair : Fin 3), s.portLive n = true ∧ (s.ports.get n).usedPairs.getLsbD pair.val = true ∧ s.parked (State.portGroup n) = false) :=
  ⟨⟨((State.inMod .active).updPort 0 fun p => { p with en := true, cfg := { p.cfg with mode := 4 }, ssiOpen := true }), 0, ⟨true, 0, true⟩, by and_intros <;> first | rfl | decide⟩,
   ⟨((State.inMod .active).updPort 0 fun p => { p with en := true, cfg := { p.cfg with mode := 4 }, ssiOpen := true }), 0, true, by and_intros <;> first | rfl | decide⟩,
   ⟨((State.inMod .active).updPort 47 fun p => { p with en := true, cfg := { p.cfg with mode := 4 }, ssiOpen := true }), 47, by and_intros <;> first | rfl | decide⟩,
   ⟨((State.inMod .active).updPort 0 fun p => { p with en := true, cfg := { p.cfg with mode := 1 } }), 0, 0, by and_intros <;> first | rfl | decide⟩⟩

/-- The hypotheses of `Obligations.SuppliesAndTheChain` are met, clause by clause. -/
theorem wit_SuppliesAndTheChain :
    (∃ (s : State) (g : Fin 6), (s.sup.groups.get g).on = true) ∧
    (∃ (s : State) (g : Fin 6), (s.sup.groups.get g).on = true ∧ (s.sup.groups.get g).settle = 1) ∧
    (∃ (s : State) (g : Fin 6), s.sup.wait = 0 ∧ .group g ∈ s.sup.queue ∧ s.chainReady (.group g) = true ∧ (∀ i ∈ s.sup.queue, s.chainReady i = true → g.val ≤ State.chainKey i)) ∧
    (∃ (s : State) (n : Fin 12), s.sup.wait = 0 ∧ .trx n ∈ s.sup.queue ∧ s.chainReady (.trx n) = true ∧ (∀ i ∈ s.sup.queue, s.chainReady i = true → 6 + n.val ≤ State.chainKey i)) :=
  ⟨⟨(State.inMod .active).updSup 5 fun g => { g with on := true }, 5, by and_intros <;> first | rfl | decide⟩,
   ⟨(State.inMod .active).updSup 5 fun g => { g with on := true, settle := 1 }, 5, by and_intros <;> first | rfl | decide⟩,
   ⟨{ (State.inMod .active).updSup 0 (fun g => { g with en := true, sel := 1 }) with sup := { ((State.inMod .active).updSup 0 fun g => { g with en := true, sel := 1 }).sup with queue := [.trx 3, .group 0] } }, 0, by and_intros <;> first | rfl | decide⟩,
   ⟨{ State.inMod .active with sup := { State.reset.sup with queue := [.trx 3, .group 0] } }, 3, by and_intros <;> first | rfl | decide⟩⟩

/-- The hypotheses of `Obligations.PositionHealthFalls` are met, clause by clause. -/
theorem wit_PositionHealthFalls :
    (∃ (s : State) (c : Fin 16), 8 ≤ (s.cars.get c).drops ∧ (s.cars.get c).health ≠ .lost) ∧
    (∃ (s : State) (c : Fin 16), 4 ≤ (s.cars.get c).drops ∧ (s.cars.get c).drops < 8 ∧ ((s.cars.get c).health = .valid ∨ (s.cars.get c).health = .degraded)) ∧
    (∃ (s : State) (c : Fin 16), 2 ≤ (s.cars.get c).tsBad ∧ ((s.cars.get c).health = .valid ∨ (s.cars.get c).health = .degraded)) ∧
    (∃ (s : State) (m : Model) (c : Fin 16), s.model = some m ∧ (s.cars.get c).absOk = true ∧ (3 ≤ (s.cars.get c).rejects ∨ (m.hoists.get c).absBridge ≤ (s.cars.get c).gap)) :=
  ⟨⟨State.small.updCar 0 (fun c => { c with drops := 8, health := .valid }), 0, by and_intros <;> first | rfl | decide⟩,
   ⟨State.small.updCar 0 (fun c => { c with drops := 7, health := .degraded }), 0, by and_intros <;> first | rfl | decide⟩,
   ⟨State.small.updCar 0 (fun c => { c with tsBad := 2, health := .valid }), 0, by and_intros <;> first | rfl | decide⟩,
   ⟨State.small.updCar 0 (fun c => { c with rejects := 3, absOk := true }), Model.small, 0, by and_intros <;> first | rfl | decide⟩⟩

/-- The hypotheses of `Obligations.SpecialRunsStart` are met, clause by clause. -/
theorem wit_SpecialRunsStart :
    (∃ (s : State) (m : Model) (c : Fin 16), s.model = some m ∧ ((s.cars.get c).health = .suspect ∧ (s.cars.get c).spec.kind = .none ∨ (s.cars.get c).spec.kind = .homing ∧ (s.cars.get c).spec.leg = 9) ∧ s.specReady m c = true ∧ s.dz2 m c = true) ∧
    (∃ (s : State) (m : Model) (c : Fin 16), s.model = some m ∧ (s.cars.get c).health = .lost ∧ (s.cars.get c).spec.kind = .none ∧ (s.cars.get c).inspect = false ∧ ((s.cars.get c).motorOk = true ∨ (s.cars.get c).secOk = true) ∧ s.specReady m c = true) ∧
    (∃ (s : State) (m : Model) (c : Fin 16), s.model = some m ∧ s.mod = .active ∧ 4 ≤ (s.cars.get c).relevT1 ∧ (s.cars.get c).spec.kind = .none ∧ s.relevelDeviates m c = true) :=
  ⟨⟨(State.quiet.withModel Model.zoned).updCar 0 (fun c => { c with health := .suspect }), Model.zoned, 0, by and_intros <;> first | rfl | decide⟩,
   ⟨(State.quiet.withModel Model.zoned).updCar 0 (fun c => { c with secOk := true }), Model.zoned, 0, by and_intros <;> first | rfl | decide⟩,
   ⟨(((State.quiet.withModel ({ Model.zoned with ports := Model.zoned.ports.put 0 { Model.zoned.ports.get 0 with role := 1, car := 0 } })).updCar 0 fun c => { c with health := .valid, relevT1 := 4, pos := 101 }).updSide 0 (fun d => { d with state := .open_ })).updPort 0 (fun p => { p with en := true, cfg := { p.cfg with mode := 1 }, level := 4 }), { Model.zoned with ports := Model.zoned.ports.put 0 { Model.zoned.ports.get 0 with role := 1, car := 0 } }, 0, by and_intros <;> first | rfl | decide⟩⟩

/-- The hypotheses of `Obligations.SpecialRunsEnd` are met, clause by clause. -/
theorem wit_SpecialRunsEnd :
    (∃ (s : State) (m : Model) (c : Fin 16), s.model = some m ∧ (s.cars.get c).spec.leg = 14 ∧ State.correctionOf m c (m.hoists.get c) (s.cars.get c).spec = none) ∧
    (∃ (s : State) (m : Model) (c : Fin 16) (d : Int), s.model = some m ∧ (s.cars.get c).spec.leg = 14 ∧ State.correctionOf m c (m.hoists.get c) (s.cars.get c).spec = some d) ∧
    (∃ (s : State) (m : Model) (c : Fin 16), s.model = some m ∧ (s.cars.get c).spec.kind = .relevel ∧ (s.cars.get c).spec.leg < 3 ∧ (s.dz1 m c = false ∨ s.dz2 m c = false ∨ Health.rank (s.cars.get c).health < 2 ∨ 12000 < (s.cars.get c).spec.age)) ∧
    (∃ (s : State) (m : Model) (c : Fin 16) (reason : Nat), s.model = some m ∧ (s.cars.get c).spec.kind = .learn ∧ (s.cars.get c).spec.leg = 4 ∧ State.learnResult m c (s.cars.get c).spec = .inr reason) ∧
    (∃ (s : State) (m : Model) (c : Fin 16) (out : List State.Learned), s.model = some m ∧ (s.cars.get c).spec.kind = .learn ∧ (s.cars.get c).spec.leg = 4 ∧ State.learnResult m c (s.cars.get c).spec = .inl out) :=
  ⟨⟨State.small.updCar 0 (fun c => { c with health := .suspect, spec := { c.spec with leg := 14 } }), Model.small, 0, by and_intros <;> first | rfl | decide⟩,
   ⟨State.small.updCar 0 (fun c => { c with health := .suspect, spec := { c.spec with leg := 14, capU := some (fx 510), capD := some (fx (-490)) } }), Model.small, 0, fx (-10), by and_intros <;> first | rfl | decide⟩,
   ⟨State.small.updCar 0 (fun c => { c with spec := { c.spec with kind := .relevel, leg := 2 } }), Model.small, 0, by and_intros <;> first | rfl | decide⟩,
   ⟨State.small.updCar 0 (fun c => { c with spec := { c.spec with kind := .learn, leg := 4 } }), Model.small, 0, 1, by and_intros <;> first | rfl | decide⟩,
   ⟨State.small.updCar 0 (fun c => { c with spec := { c.spec with kind := .learn, leg := 4, capsU := [⟨0, fx 500⟩, ⟨1, fx 40500⟩], capsD := [⟨0, fx (-500)⟩, ⟨1, fx 39500⟩] } }), Model.small, 0, [⟨0, 0, 500⟩, ⟨1, 40000, 500⟩], by and_intros <;> first | rfl | decide⟩⟩

/-- The hypotheses of `Obligations.RunStartAndEnd` are met, clause by clause. -/
theorem wit_RunStartAndEnd :
    (∃ (s : State) (m : Model) (c : Fin 16) (r : NewRun) (mag : BitVec 32), s.model = some m ∧ (s.axes.get (hoist c)).held = some r ∧ (s.axes.get (hoist c)).magAt = some mag ∧ (s.axes.get (hoist c)).state = .start ∧ (s.tick.t0 + 1).toNat % 8 = c.val % 8 ∧ (m.hoists.get c).brakeLift * 40 ≤ (s.tick.t0 + 1 - mag).toNat) ∧
    (∃ (s t : State) (m : Model) (c : Fin 16) (r : NewRun), (s.axes.get (hoist c)).held = some r ∧ (s.axes.get (hoist c)).state = .start ∧ (s.axes.get (hoist c)).due = true ∧ t = s.installRun m c ∧ t = { s with lanes := t.lanes, axes := t.axes } ∧ (∀ k, k ≠ hoist c → t.axes.get k = s.axes.get k ∧ t.lanes.get k = s.lanes.get k) ∧ (t.axes.get (hoist c)).state = .run ∧ (t.axes.get (hoist c)).fHold = false ∧ (t.axes.get (hoist c)).target = r.target ∧ (t.axes.get (hoist c)).held = none ∧ (t.axes.get (hoist c)).failures = 0 ∧ (t.axes.get (hoist c)).startT0 = s.tick.t0 ∧ (t.axes.get (hoist c)).originPos = (s.cars.get c).pos ∧ (t.lanes.get (hoist c)).gain = some (m.gains.get (hoist c))) ∧
    (∃ (s : State) (c : Fin 16), (s.axes.get (hoist c)).moving = true ∧ (s.tick.t0 + 1).toNat % 8 = c.val % 8 ∧ planLen (s.axes.get (hoist c)).segs ≤ (s.axes.get (hoist c)).tauAt (s.tick.t0 + 1) + 2000) ∧
    (∃ (s : State) (m : Model) (c : Fin 16) (e : BitVec 32), s.model = some m ∧ (s.axes.get (hoist c)).endAt = some e ∧ (s.axes.get (hoist c)).state = .end_ ∧ (s.tick.t0 + 1).toNat % 8 = c.val % 8 ∧ (m.hoists.get c).brakeDrop * 40 ≤ (s.tick.t0 + 1 - e).toNat) ∧
    (∃ (s : State) (c : Fin 16), (s.axes.get (hoist c)).state = .start ∧ (s.axes.get (hoist c)).magAt = none ∧ 250 ≤ (s.axes.get (hoist c)).startWait) :=
  ⟨⟨(State.small.updAxis 0 (fun a => { a with held := some NewRun.zero, magAt := some 0, state := .start })).atT0 39, Model.small, 0, NewRun.zero, 0, by and_intros <;> first | rfl | decide⟩,
   ⟨State.small.updAxis 0 (fun a => { a with held := some NewRun.zero, due := true, state := .start }), _, Model.small, 0, NewRun.zero, by and_intros <;> first | rfl | decide⟩,
   ⟨(State.small.updAxis 0 (fun a => { a with state := .run })).atT0 7, 0, by and_intros <;> first | rfl | decide⟩,
   ⟨(State.small.updAxis 0 (fun a => { a with endAt := some 0, state := .end_ })).atT0 39, Model.small, 0, 0, by and_intros <;> first | rfl | decide⟩,
   ⟨State.small.updAxis 0 (fun a => { a with state := .start, startWait := 250 }), 0, by and_intros <;> first | rfl | decide⟩⟩

/-- The hypotheses of `Obligations.FollowingErrorAndFeedback` are met, clause by clause. -/
theorem wit_FollowingErrorAndFeedback :
    (∃ (s : State) (c : Fin 16), 4 ≤ (s.lanes.get (hoist c)).feRun ∧ ((s.axes.get (hoist c)).state = .run ∨ (s.axes.get (hoist c)).state = .stopping) ∧ (s.cars.get c).holds.following = false) :=
  ⟨(State.small.updAxis 0 (fun a => { a with state := .stopping })).updLane 0 (fun l => { l with feRun := 4 }), 0, by and_intros <;> first | rfl | decide⟩

/-- The hypotheses of `Obligations.NodeReportsAreTaken` are met, clause by clause. -/
theorem wit_NodeReportsAreTaken :
    (∃ (s t : State) (fr : Frame) (m : Model) (i : Nat) (r : NodeRec) (c a : Conn), s.Reaches t fr 2 m i r c ∧ r.cls = .hdv ∧ t.checkSafety r c fr 0x20 8 false = .ok a) ∧
    (∃ (s t : State) (fr : Frame) (m : Model) (i : Nat) (r : NodeRec) (c a : Conn), s.Reaches t fr 2 m i r c ∧ r.cls = .ctn ∧ t.checkSafety r c fr 0x21 12 false = .ok a) ∧
    (∃ (s t : State) (fr : Frame) (m : Model) (i : Nat) (r : NodeRec) (c a : Conn), s.Reaches t fr 2 m i r c ∧ r.cls = .ptn ∧ t.checkSafety r c fr 0x22 4 false = .ok a) ∧
    (∃ (s t : State) (fr : Frame) (m : Model) (i : Nat) (r : NodeRec) (c a : Conn), s.Reaches t fr 2 m i r c ∧ t.checkSafety r c fr 0x02 8 true = .ok a) ∧
    (∃ (s t : State) (fr : Frame) (m : Model) (i : Nat) (r : NodeRec) (c : Conn) (e : Rej), s.Reaches t fr 2 m i r c ∧ r.cls = .hdv ∧ t.checkSafety r c fr 0x20 8 false = .error e) :=
  ⟨⟨State.small, State.small.heardOn 0, Frame.safe 0x200 0x20 8 [], Model.small, 0, NodeRec.at0 .hdv 0, Conn.heard, _, ⟨hear_open rfl rfl (by decide), rfl, by decide, by decide, ⟨rfl, rfl⟩, by decide, by decide, rfl, rfl⟩, rfl, (checkSafety_checked (hdr := safetyHdr 0x20 8 []) (plen := 8) ⟨rfl, rfl, rfl, rfl, rfl, rfl, leNat_word (n := 4) Config.moduleId (by norm_num), rfl⟩ rfl (by decide) rfl rfl).trans rfl⟩,
   ⟨State.small, State.small.heardOn 0, Frame.safe 0x203 0x21 12 [], Model.small, 1, NodeRec.at0 .ctn 3, Conn.heard, _, ⟨hear_open rfl rfl (by decide), rfl, by decide, by decide, ⟨rfl, rfl⟩, by decide, by decide, rfl, rfl⟩, rfl, (checkSafety_checked (hdr := safetyHdr 0x21 12 []) (plen := 12) ⟨rfl, rfl, rfl, rfl, rfl, rfl, leNat_word (n := 4) Config.moduleId (by norm_num), rfl⟩ rfl (by decide) rfl rfl).trans rfl⟩,
   ⟨State.small, State.small.heardOn 0, Frame.safe 0x204 0x22 4 [], Model.small, 3, NodeRec.at0 .ptn 4, Conn.heard, _, ⟨hear_open rfl rfl (by decide), rfl, by decide, by decide, ⟨rfl, rfl⟩, by decide, by decide, rfl, rfl⟩, rfl, (checkSafety_checked (hdr := safetyHdr 0x22 4 []) (plen := 4) ⟨rfl, rfl, rfl, rfl, rfl, rfl, leNat_word (n := 4) Config.moduleId (by norm_num), rfl⟩ rfl (by decide) rfl rfl).trans rfl⟩,
   ⟨State.small, State.small.heardOn 0, Frame.safe 0x200 0x02 8 [], Model.small, 0, NodeRec.at0 .hdv 0, Conn.heard, _, ⟨hear_open rfl rfl (by decide), rfl, by decide, by decide, ⟨rfl, rfl⟩, by decide, by decide, rfl, rfl⟩, (checkSafety_checked (hdr := safetyHdr 0x02 8 []) (plen := 8) ⟨rfl, rfl, rfl, rfl, rfl, rfl, leNat_word (n := 4) Config.moduleId (by norm_num), rfl⟩ rfl (by decide) rfl rfl).trans rfl⟩,
   ⟨State.small, State.small.heardOn 0, { Frame.reply 0x200 0 [] with data := [] }, Model.small, 0, NodeRec.at0 .hdv 0, Conn.heard, .format, ⟨hear_open rfl rfl (by decide), rfl, by decide, by decide, ⟨rfl, rfl⟩, by decide, by decide, rfl, rfl⟩, rfl, rfl⟩⟩

/-- The hypotheses of `Obligations.OperatorAndDriveRepliesAndTheWatchdog` are met, clause by clause. -/
theorem wit_OperatorAndDriveRepliesAndTheWatchdog :
    (∃ (s t : State) (fr : Frame) (m : Model) (i : Nat) (r : NodeRec) (c : Conn) (h : r.car < 16), s.Reaches t fr 4 m i r c ∧ r.cls = .hdv ∧ checkReply c fr 0x46 = none) ∧
    (∃ (s t : State) (fr : Frame) (m : Model) (i : Nat) (r : NodeRec) (c : Conn) (d : Fin 32), r.car < 16 ∧ r.side < 2 ∧ s.Reaches t fr 4 m i r c ∧ r.cls = .don ∧ checkReply c fr 0x52 = none ∧ d.val = 16 * r.side + r.car ∧ (BitVec.ofNat 16 (fld fr.data 2 2) = (t.sides.get d).seqSent ∨ BitVec.ofNat 16 (fld fr.data 2 2) = (t.sides.get d).seqPrev)) ∧
    (∃ (s t : State) (fr : Frame) (m : Model) (i : Nat) (r : NodeRec) (c : Conn) (d : Fin 32), r.car < 16 ∧ r.side < 2 ∧ s.Reaches t fr 4 m i r c ∧ r.cls = .don ∧ checkReply c fr 0x52 = none ∧ d.val = 16 * r.side + r.car ∧ BitVec.ofNat 16 (fld fr.data 2 2) ≠ (t.sides.get d).seqSent ∧ BitVec.ofNat 16 (fld fr.data 2 2) ≠ (t.sides.get d).seqPrev) ∧
    (∃ (s : State) (m : Model) (i : Nat) (r : NodeRec) (c : Conn), r.car < 16 ∧ s.model = some m ∧ m.nodes[i]? = some r ∧ s.conns[i]? = some c ∧ r.cls ≠ .don ∧ r.cls ≠ .hdv ∧ s.watchdogDue r c = true) :=
  ⟨⟨State.small.updAxis 0 fun a => { a with fRun := true }, (State.small.updAxis 0 fun a => { a with fRun := true }).heardOn 0, Frame.reply 0x400 0x46 (1 :: 0 :: 0 :: 0 :: List.replicate 16 0), Model.small, 0, NodeRec.at0 .hdv 0, Conn.heard, by decide, ⟨hear_open rfl rfl (by decide), rfl, by decide, by decide, ⟨rfl, rfl⟩, by decide, by decide, rfl, rfl⟩, rfl, checkReply_tagged rfl rfl rfl rfl⟩,
   ⟨State.small, State.small.heardOn 0, Frame.reply 0x401 0x52 (1 :: 0 :: 0 :: 0 :: List.replicate 16 0), Model.small, 2, NodeRec.at0 .don 1, Conn.heard, 0, by decide, by decide, ⟨hear_open rfl rfl (by decide), rfl, by decide, by decide, ⟨rfl, rfl⟩, by decide, by decide, rfl, rfl⟩, rfl, checkReply_tagged rfl rfl rfl rfl, rfl, .inl rfl⟩,
   ⟨State.small.updSide 0 fun d => { d with seqSent := 1, seqPrev := 1 }, (State.small.updSide 0 fun d => { d with seqSent := 1, seqPrev := 1 }).heardOn 0, Frame.reply 0x401 0x52 (1 :: 0 :: 0 :: 0 :: List.replicate 16 0), Model.small, 2, NodeRec.at0 .don 1, Conn.heard, 0, by decide, by decide, ⟨hear_open rfl rfl (by decide), rfl, by decide, by decide, ⟨rfl, rfl⟩, by decide, by decide, rfl, rfl⟩, rfl, checkReply_tagged rfl rfl rfl rfl, rfl, by simp [Frame.reply, fld, slice, leNat, State.heardOn, State.updBus, State.updSide], by simp [Frame.reply, fld, slice, leNat, State.heardOn, State.updBus, State.updSide]⟩,
   ⟨{ State.small with tick := { Tick.zero with tb := 2000000 } }, Model.small, 1, NodeRec.at0 .ctn 3, Conn.heard, by and_intros <;> first | rfl | decide⟩⟩

/-- The hypotheses of `Obligations.DoorTimersActOnTheirSide` are met, clause by clause. -/
theorem wit_DoorTimersActOnTheirSide :
    (∃ (s : State) (m : Model) (d : Fin 32), s.model = some m ∧ (s.sides.get d).state = .stopped ∧ (s.sides.get d).opObst = 1 ∧ 500 ≤ (s.t1Now - (s.sides.get d).stopT1).toNat) ∧
    (∃ (s : State) (m : Model) (d : Fin 32), s.model = some m ∧ (s.sides.get d).state = .locking ∧ 1000 ≤ (s.sides.get d).lockAge ∧ s.lockMade d = false) ∧
    (∃ (s : State) (m : Model) (d : Fin 32), s.model = some m ∧ (s.sides.get d).state = .homing ∧ 500 ≤ (s.sides.get d).planEnd ∧ (s.sides.get d).contact = false) ∧
    (∃ (s : State) (m : Model) (c : Fin 16), s.mod = .active ∧ s.model = some m) ∧
    (∃ (s : State) (m : Model) (c : Fin 16) (cmd : DoorLearnCmd), s.model = some m ∧ s.learn.get c = some cmd ∧ (s.sides.get (front c)).learn ++ (s.sides.get (rear c)).learn ≠ [] ∧ ((s.sides.get (front c)).learn ++ (s.sides.get (rear c)).learn).all (·.done) = true) :=
  ⟨⟨(State.quiet.updSide 0 (fun d => { d with state := .stopped, opObst := 1 })).atT0 0 |>.at1 500, Model.zoned, 0, by and_intros <;> first | rfl | decide⟩,
   ⟨State.quiet.updSide 0 (fun d => { d with state := .locking, lockAge := 1000, locked := false }), Model.zoned, 0, by and_intros <;> first | rfl | decide⟩,
   ⟨State.quiet.updSide 0 (fun d => { d with state := .homing, planEnd := 500 }), Model.zoned, 0, by and_intros <;> first | rfl | decide⟩,
   ⟨State.quiet, Model.zoned, 0, by and_intros <;> first | rfl | decide⟩,
   ⟨{ State.quiet.updSide 0 (fun d => { d with learn := [⟨0, 0, [], [], [], true, false⟩] }) with learn := Tab.all (some ⟨cmdOf 0x31 0, 4⟩) }, Model.zoned, 0, ⟨cmdOf 0x31 0, 4⟩, by and_intros <;> first | rfl | decide⟩⟩

/-- The hypotheses of `Obligations.CallsFromTheNodes` are met, clause by clause. -/
theorem wit_CallsFromTheNodes :
    (∃ (s t : State) (fr : Frame) (m : Model) (i : Nat) (r : NodeRec) (c a : Conn) (q : Asked), s.ReachesFixture t fr 0x10 m i r c ∧ checkCall c fr (tagF c.key 0x48 fr.ident.toNat (fr.data.take 12)) = .ok a ∧ s.mod = .active ∧ (byteAt fr.data 1 = 1 ∨ byteAt fr.data 1 = 2) ∧ (byteAt fr.data 2).toNat ≤ 3 ∧ byteAt fr.data 3 = 0 ∧ zeroAt fr.data 6 6 = true ∧ q = ⟨(byteAt fr.data 1).toNat, bitAt fr.data 2 0, r.addr.toNat / 128 % 128, b2n (bitAt fr.data 2 1), 0xFF, 0, 0, 0, .lfn i (BitVec.ofNat 16 (fld fr.data 4 2))⟩ ∧ callCode m q = none ∧ (∀ x ∈ s.dsx.calls, (x.kind = .dest ∨ x.kind.code ≠ q.kind ∨ x.origin ≠ q.origin ∨ x.side ≠ q.side)) ∧ s.freeSlot < 512) ∧
    (∃ (s t : State) (fr : Frame) (m : Model) (i : Nat) (r : NodeRec) (c a : Conn) (x : Call), s.ReachesFixture t fr 0x10 m i r c ∧ checkCall c fr (tagF c.key 0x48 fr.ident.toNat (fr.data.take 12)) = .ok a ∧ s.mod = .active ∧ (byteAt fr.data 1 = 1 ∨ byteAt fr.data 1 = 2) ∧ (byteAt fr.data 2).toNat ≤ 3 ∧ byteAt fr.data 3 = 0 ∧ zeroAt fr.data 6 6 = true ∧ callCode m ⟨(byteAt fr.data 1).toNat, bitAt fr.data 2 0, r.addr.toNat / 128 % 128, b2n (bitAt fr.data 2 1), 0xFF, 0, 0, 0, .lfn i (BitVec.ofNat 16 (fld fr.data 4 2))⟩ = none ∧ x ∈ s.dsx.calls ∧ x.kind.code = (byteAt fr.data 1).toNat ∧ x.origin = r.addr.toNat / 128 % 128 ∧ x.side = b2n (bitAt fr.data 2 1)) ∧
    (∃ (s t : State) (fr : Frame) (m : Model) (i : Nat) (r : NodeRec) (c a : Conn) (q : Asked) (code : Nat), s.ReachesFixture t fr 0x11 m i r c ∧ checkCall c fr (tagF c.key 0x44 fr.ident.toNat (fr.data.take 12)) = .ok a ∧ s.mod = .active ∧ (byteAt fr.data 2).toNat ≤ 3 ∧ zeroAt fr.data 6 6 = true ∧ q = ⟨3, bitAt fr.data 2 0, r.addr.toNat / 128 % 128, b2n (bitAt fr.data 2 1), (byteAt fr.data 1).toNat, (byteAt fr.data 3).toNat, 0, 0, .lfn i (BitVec.ofNat 16 (fld fr.data 4 2))⟩ ∧ callCode m q = some code) ∧
    (∃ (s t : State) (fr : Frame) (m : Model) (i : Nat) (r : NodeRec) (c a : Conn) (q : Asked), s.ReachesFixture t fr 0x11 m i r c ∧ checkCall c fr (tagF c.key 0x44 fr.ident.toNat (fr.data.take 12)) = .ok a ∧ s.mod = .active ∧ (byteAt fr.data 2).toNat ≤ 3 ∧ zeroAt fr.data 6 6 = true ∧ q = ⟨3, bitAt fr.data 2 0, r.addr.toNat / 128 % 128, b2n (bitAt fr.data 2 1), (byteAt fr.data 1).toNat, (byteAt fr.data 3).toNat, 0, 0, .lfn i (BitVec.ofNat 16 (fld fr.data 4 2))⟩ ∧ callCode m q = none ∧ s.freeSlot < 512) ∧
    (∃ (s t : State) (fr : Frame) (m : Model) (i : Nat) (r : NodeRec) (c a : Conn) (h : r.car < 16) (x : CarCall), s.Reaches t fr 5 m i r c ∧ r.cls = .ctn ∧ checkCall c fr (tag4 c.key 0x4B fr.ident.toNat (fr.data.take 12)) = .ok a ∧ s.mod = .active ∧ byteAt fr.data 1 = 2 ∧ (byteAt fr.data 2).toNat ≤ 1 ∧ zeroAt fr.data 6 6 = true ∧ m.dispatch.ctnCancel = true ∧ s.carCallAllowed ⟨r.car, h⟩ false = true ∧ (s.modes.get ⟨r.car, h⟩).mode ≠ 5 ∧ (s.dsx.carCalls.get ⟨r.car, h⟩).find? (fun x => x.landing = (byteAt fr.data 3).toNat) = some x) ∧
    (∃ (s t : State) (fr : Frame) (m : Model) (i : Nat) (r : NodeRec) (c a : Conn) (h : r.car < 16), s.Reaches t fr 5 m i r c ∧ r.cls = .ctn ∧ checkCall c fr (tag4 c.key 0x4B fr.ident.toNat (fr.data.take 12)) = .ok a ∧ s.mod = .active ∧ byteAt fr.data 1 = 1 ∧ (byteAt fr.data 2).toNat ≤ 1 ∧ zeroAt fr.data 6 6 = true ∧ m.present ⟨r.car, h⟩ = true ∧ (byteAt fr.data 3).toNat < m.landings.length ∧ m.served ⟨r.car, h⟩ (byteAt fr.data 3).toNat = true ∧ s.carCallAllowed ⟨r.car, h⟩ false = true ∧ (s.modes.get ⟨r.car, h⟩).mode ≠ 5 ∧ (s.dsx.carCalls.get ⟨r.car, h⟩).length < 128 ∧ (∀ x ∈ s.dsx.carCalls.get ⟨r.car, h⟩, x.landing ≠ (byteAt fr.data 3).toNat)) ∧
    (∃ (s t : State) (fr : Frame) (m : Model) (i : Nat) (r : NodeRec) (c : Conn) (e : Rej), s.ReachesFixture t fr 0x10 m i r c ∧ checkCall c fr (tagF c.key 0x48 fr.ident.toNat (fr.data.take 12)) = .error e) :=
  ⟨⟨State.small, State.small.heardOn 4, Frame.fixture 0x10 0x48 [1, 1, 0, 0, 1, 0, 0, 0, 0, 0, 0, 0], Model.small, 4, { NodeRec.at0 .lfn 0x0080 with bus := 4, car := 0xFF, side := 0xFF }, Conn.heard, _, ⟨1, false, 1, 0, 0xFF, 0, 0, 0, .lfn 4 1⟩, ⟨hear_open rfl rfl (by decide), rfl, by decide, by decide, ⟨rfl, rfl, by decide⟩, by decide, by decide, rfl, rfl⟩, checkCall_tagged (hdr := [1, 1, 0, 0, 1, 0, 0, 0, 0, 0, 0, 0]) (fun _ => tagF_length _ _ _ rfl) rfl rfl rfl rfl, rfl, .inl rfl, by decide, rfl, rfl, rfl, by decide, by decide, by decide⟩,
   ⟨(State.small.updDsx fun d => { d with calls := [⟨0, .up, false, 1, 0, 0xFF, 0, 0, 0, .host, 0, .open_, none, false, 0, none, []⟩] }), (State.small.updDsx fun d => { d with calls := [⟨0, .up, false, 1, 0, 0xFF, 0, 0, 0, .host, 0, .open_, none, false, 0, none, []⟩] }).heardOn 4, Frame.fixture 0x10 0x48 [1, 1, 0, 0, 1, 0, 0, 0, 0, 0, 0, 0], Model.small, 4, { NodeRec.at0 .lfn 0x0080 with bus := 4, car := 0xFF, side := 0xFF }, Conn.heard, _, ⟨0, .up, false, 1, 0, 0xFF, 0, 0, 0, .host, 0, .open_, none, false, 0, none, []⟩, ⟨hear_open rfl rfl (by decide), rfl, by decide, by decide, ⟨rfl, rfl, by decide⟩, by decide, by decide, rfl, rfl⟩, checkCall_tagged (hdr := [1, 1, 0, 0, 1, 0, 0, 0, 0, 0, 0, 0]) (fun _ => tagF_length _ _ _ rfl) rfl rfl rfl rfl, rfl, .inl rfl, by decide, rfl, rfl, by decide, by decide, rfl, rfl, rfl⟩,
   ⟨State.small, State.small.heardOn 4, Frame.fixture 0x11 0x44 [1, 1, 0, 1, 1, 0, 0, 0, 0, 0, 0, 0], Model.small, 4, { NodeRec.at0 .lfn 0x0080 with bus := 4, car := 0xFF, side := 0xFF }, Conn.heard, _, ⟨3, false, 1, 0, 1, 1, 0, 0, .lfn 4 1⟩, 0x12, ⟨hear_open rfl rfl (by decide), rfl, by decide, by decide, ⟨rfl, rfl, by decide⟩, by decide, by decide, rfl, rfl⟩, checkCall_tagged (hdr := [1, 1, 0, 1, 1, 0, 0, 0, 0, 0, 0, 0]) (fun _ => tagF_length _ _ _ rfl) rfl rfl rfl rfl, rfl, by decide, rfl, rfl, by decide⟩,
   ⟨State.small, State.small.heardOn 4, Frame.fixture 0x11 0x44 [1, 0, 0, 1, 1, 0, 0, 0, 0, 0, 0, 0], Model.small, 4, { NodeRec.at0 .lfn 0x0080 with bus := 4, car := 0xFF, side := 0xFF }, Conn.heard, _, ⟨3, false, 1, 0, 0, 1, 0, 0, .lfn 4 1⟩, ⟨hear_open rfl rfl (by decide), rfl, by decide, by decide, ⟨rfl, rfl, by decide⟩, by decide, by decide, rfl, rfl⟩, checkCall_tagged (hdr := [1, 0, 0, 1, 1, 0, 0, 0, 0, 0, 0, 0]) (fun _ => tagF_length _ _ _ rfl) rfl rfl rfl rfl, rfl, by decide, rfl, rfl, by decide, by decide⟩,
   ⟨((State.inService.withModel ({ Model.small with dispatch := { Model.small.dispatch with ctnCancel := true } } : Model)).updDsx fun d => { d with carCalls := Tab.all [⟨1, 0, false, 0, false, []⟩] }), ((State.inService.withModel ({ Model.small with dispatch := { Model.small.dispatch with ctnCancel := true } } : Model)).updDsx fun d => { d with carCalls := Tab.all [⟨1, 0, false, 0, false, []⟩] }).heardOn 0, Frame.reply 0x503 0x4B [1, 2, 0, 1, 1, 0, 0, 0, 0, 0, 0, 0], ({ Model.small with dispatch := { Model.small.dispatch with ctnCancel := true } } : Model), 1, NodeRec.at0 .ctn 3, Conn.heard, _, by decide, ⟨1, 0, false, 0, false, []⟩, ⟨hear_open rfl rfl (by decide), rfl, by decide, by decide, ⟨rfl, rfl⟩, by decide, by decide, rfl, rfl⟩, rfl, checkCall_tagged (hdr := [1, 2, 0, 1, 1, 0, 0, 0, 0, 0, 0, 0]) (fun _ => tag4_length _ _ _ rfl) rfl rfl rfl rfl, rfl, rfl, by decide, rfl, rfl, by decide, by decide, by decide⟩,
   ⟨State.inService, State.inService.heardOn 0, Frame.reply 0x503 0x4B [1, 1, 0, 1, 1, 0, 0, 0, 0, 0, 0, 0], Model.small, 1, NodeRec.at0 .ctn 3, Conn.heard, _, by decide, ⟨hear_open rfl rfl (by decide), rfl, by decide, by decide, ⟨rfl, rfl⟩, by decide, by decide, rfl, rfl⟩, rfl, checkCall_tagged (hdr := [1, 1, 0, 1, 1, 0, 0, 0, 0, 0, 0, 0]) (fun _ => tag4_length _ _ _ rfl) rfl rfl rfl rfl, rfl, rfl, by decide, rfl, by decide, by decide, by decide, by decide, by decide, by decide, by decide⟩,
   ⟨State.small, State.small.heardOn 4, { Frame.fixture 0x10 0x48 [] with data := [] }, Model.small, 4, { NodeRec.at0 .lfn 0x0080 with bus := 4, car := 0xFF, side := 0xFF }, Conn.heard, .format, ⟨hear_open rfl rfl (by decide), rfl, by decide, by decide, ⟨rfl, rfl, by decide⟩, by decide, by decide, rfl, rfl⟩, rfl⟩⟩

/-- The hypotheses of `Obligations.CallEntriesAreAnswered` are met, clause by clause. -/
theorem wit_CallEntriesAreAnswered :
    (∃ (s n : State) (m : Model) (b : List Byte) (l : List (List Byte)) (slot : Nat), s.hi.calls = b :: l ∧ s.model = some m ∧ s.mod = .active ∧ State.callRecord { s with hi := { s.hi with calls := l } } m b = (n, .inr slot)) ∧
    (∃ (s n : State) (m : Model) (b : List Byte) (l : List (List Byte)) (code : Nat), s.hi.calls = b :: l ∧ s.model = some m ∧ s.mod = .active ∧ State.callRecord { s with hi := { s.hi with calls := l } } m b = (n, .inl code)) ∧
    (∃ (s : State) (b : List Byte) (l : List (List Byte)), s.hi.calls = b :: l ∧ s.mod ≠ .active) :=
  ⟨⟨State.small.calling Call.up1, (callRecord (State.small.calling Call.up1 |>.updHi fun h => { h with calls := [] }) Model.small Call.up1).1, Model.small, Call.up1, [], 0, ⟨rfl, rfl, rfl, Prod.ext rfl (by decide)⟩⟩,
   ⟨State.small.calling (List.replicate 32 0), (callRecord (State.small.calling (List.replicate 32 0) |>.updHi fun h => { h with calls := [] }) Model.small (List.replicate 32 0)).1, Model.small, (List.replicate 32 0), [], 0x13, ⟨rfl, rfl, rfl, Prod.ext rfl (by decide)⟩⟩,
   ⟨(State.inMod .standby).calling Call.up1, Call.up1, [], by and_intros <;> first | rfl | decide⟩⟩

/-- The hypotheses of `Obligations.LeveeCausesStartADemand` are met, clause by clause. -/
theorem wit_LeveeCausesStartADemand :
    (∃ (s : State) (m : Model) (c : Fin 16), s.model = some m ∧ s.Undemanded c ∧ 8 ≤ (s.lv.get c).xRun) ∧
    (∃ (s : State) (m : Model) (c : Fin 16), s.model = some m ∧ s.Undemanded c ∧ 2 ≤ (s.lv.get c).osRun) ∧
    (∃ (s : State) (m : Model) (c : Fin 16), s.model = some m ∧ s.Undemanded c ∧ (s.lv.get c).wMc.due = true) ∧
    (∃ (s : State) (m : Model) (c : Fin 16) (k : Fin 2), s.model = some m ∧ s.Undemanded c ∧ (if k = 0 then (s.lv.get c).wBrk1 else (s.lv.get c).wBrk2).due = true) ∧
    (∃ (s : State) (m : Model) (c : Fin 16) (k : DualSource), s.model = some m ∧ s.Undemanded c ∧ State.discT0 m c (State.dualOf (s.lv.get c) k).2 < (State.dualOf (s.lv.get c) k).1.disagree ∧ (State.dualOf (s.lv.get c) k).1.latched = false) ∧
    (∃ (s : State) (m : Model) (c : Fin 16) (i : Nat), s.model = some m ∧ m.node? c .hdv = some i ∧ (s.lv.get c).torqueOff = true ∧ (s.lv.get c).tqSent = true ∧ (s.lv.get c).stoSeen = false ∧ (s.lv.get c).stoRaised = false ∧ 16 ≤ (s.lv.get c).tqAge) :=
  ⟨⟨State.quiet.updLv 0 (fun l => { l with xRun := 8 }), Model.zoned, 0, by and_intros <;> first | rfl | decide | exact ⟨rfl, rfl, rfl⟩⟩,
   ⟨State.quiet.updLv 0 (fun l => { l with osRun := 2 }), Model.zoned, 0, by and_intros <;> first | rfl | decide | exact ⟨rfl, rfl, rfl⟩⟩,
   ⟨State.quiet.updLv 0 (fun l => { l with wMc := { l.wMc with bad := 1 } }), Model.zoned, 0, by and_intros <;> first | rfl | decide | exact ⟨rfl, rfl, rfl⟩⟩,
   ⟨State.quiet.updLv 0 (fun l => { l with wBrk2 := { l.wBrk2 with bad := 1 } }), Model.zoned, 0, 1, by and_intros <;> first | rfl | decide | exact ⟨rfl, rfl, rfl⟩⟩,
   ⟨State.quiet.updLv 0 (fun l => { l with stopD := { l.stopD with disagree := 201 } }), Model.zoned, 0, .stop, by and_intros <;> first | rfl | decide | exact ⟨rfl, rfl, rfl⟩⟩,
   ⟨State.quiet.updLv 0 (fun l => { l with torqueOff := true, tqSent := true, tqAge := 16 }), Model.zoned, 0, 0, by and_intros <;> first | rfl | decide⟩⟩

/-- The hypotheses of `Obligations.BrakeTestsRun` are met, clause by clause. -/
theorem wit_BrakeTestsRun :
    (∃ (s : State) (m : Model) (c : Fin 16), s.model = some m ∧ 345600000 ≤ (s.lv.get c).bt.ageT0 ∧ s.tick.t0.toNat % 256 = 0 ∧ (s.lv.get c).bt.retry = none ∧ (s.lv.get c).bt.torq ≠ 0 ∧ s.mod = .active ∧ (s.modes.get c).mode = 3 ∧ (s.lv.get c).bt.phase = 0 ∧ State.btReady (s.lv.get c) (s.lvSrc m c (s.lv.get c)) = true ∧ s.hoistIdle c = true ∧ s.carParked m c = false) ∧
    (∃ (s : State) (m : Model) (c : Fin 16), s.model = some m ∧ 345600000 ≤ (s.lv.get c).bt.ageT0 ∧ s.tick.t0.toNat % 256 = 0 ∧ (s.lv.get c).bt.retry = none ∧ (s.lv.get c).bt.torq = 0 ∧ 345600000 ≤ (s.lv.get c).bt.noTorq) ∧
    (∃ (s : State) (m : Model) (c : Fin 16), s.model = some m ∧ (s.lv.get c).bt.retry = some 0 ∧ s.mod = .active ∧ (s.modes.get c).mode = 3 ∧ (s.lv.get c).bt.phase = 0 ∧ State.btReady (s.lv.get c) (s.lvSrc m c (s.lv.get c)) = true ∧ s.hoistIdle c = true ∧ s.carParked m c = false) ∧
    (∃ (s : State) (m : Model) (c : Fin 16), s.model = some m ∧ 6000 ≤ (s.lv.get c).bt.age ∧ ((s.lv.get c).bt.phase = 2 ∨ (s.lv.get c).bt.phase = 5)) ∧
    (∃ (s : State) (m : Model) (c : Fin 16), s.model = some m ∧ 6000 ≤ (s.lv.get c).bt.age ∧ (s.lv.get c).bt.phase = 3) ∧
    (∃ (s : State) (m : Model) (c : Fin 16), s.model = some m ∧ 6000 ≤ (s.lv.get c).bt.age ∧ (s.lv.get c).bt.phase = 6) ∧
    (∃ (s : State) (c : Fin 16), 691200000 ≤ (s.lv.get c).bt.ageT0 ∧ (s.lv.get c).bt.overdue = false) :=
  ⟨⟨{ (State.quiet.updLv 0 (fun l => { l with bt := { l.bt with ageT0 := 345600000, torq := 1 } })) with modes := Tab.all { Mode.zero with mode := 3 } }, Model.zoned, 0, by and_intros <;> first | rfl | decide⟩,
   ⟨State.quiet.updLv 0 (fun l => { l with bt := { l.bt with ageT0 := 345600000, noTorq := 345600000 } }), Model.zoned, 0, by and_intros <;> first | rfl | decide⟩,
   ⟨{ (State.quiet.updLv 0 (fun l => { l with bt := { l.bt with retry := some 0 } })) with modes := Tab.all { Mode.zero with mode := 3 } }, Model.zoned, 0, by and_intros <;> first | rfl | decide⟩,
   ⟨State.quiet.updLv 0 (fun l => { l with bt := { l.bt with age := 6000, phase := 5 } }), Model.zoned, 0, by and_intros <;> first | rfl | decide⟩,
   ⟨State.quiet.updLv 0 (fun l => { l with bt := { l.bt with age := 6000, phase := 3, circuit := 1 } }), Model.zoned, 0, by and_intros <;> first | rfl | decide⟩,
   ⟨State.quiet.updLv 0 (fun l => { l with bt := { l.bt with age := 6000, phase := 6, circuit := 2, e := some (cmdOf 0x33 0) } }), Model.zoned, 0, by and_intros <;> first | rfl | decide⟩,
   ⟨State.quiet.updLv 0 (fun l => { l with bt := { l.bt with ageT0 := 691200000 } }), 0, by and_intros <;> first | rfl | decide⟩⟩

/-- The hypotheses of `Obligations.ResetsAndStartTests` are met, clause by clause. -/
theorem wit_ResetsAndStartTests :
    (∃ (s : State) (m : Model) (c : Fin 16) (n : Nat), s.model = some m ∧ (s.lv.get c).released = some n ∧ 800 ≤ n ∧ n ≤ 12000 ∧ (s.lv.get c).still = true ∧ (s.lv.get c).torqueOff = true ∧ s.isRetired (.resetInput c) = false) ∧
    (∃ (s : State) (m : Model) (c : Fin 16) (n : Nat), s.model = some m ∧ (s.lv.get c).released = some n ∧ 12000 < n) ∧
    (∃ (s : State) (m : Model) (c : Fin 16) (n : Nat), s.model = some m ∧ (s.lv.get c).released = some n ∧ n < 800) ∧
    (∃ (s : State) (m : Model) (c : Fin 16) (n : Nat), s.model = some m ∧ (s.lv.get c).released = some n ∧ 800 ≤ n ∧ n ≤ 12000 ∧ ((s.lv.get c).still = false ∨ (s.lv.get c).torqueOff = false ∨ s.isRetired (.resetInput c) = true)) ∧
    (∃ (s : State) (c : Fin 16), s.isRetired (.resetInput c) = false ∧ (s.lv.get c).stuck = true) ∧
    (∃ (s : State) (c : Fin 16) (n : Nat), s.isRetired (.resetInput c) = false ∧ (s.lv.get c).stuck = false ∧ (s.lv.get c).press = some n ∧ 120000 ≤ n) ∧
    (∃ (s : State) (c : Fin 16) (n : Nat), 1 ≤ (s.lv.get c).tests.step ∧ (s.lv.get c).tests.step ≤ 7 ∧ (s.lv.get c).tests.failed = false ∧ (State.testLimit (s.lv.get c).tests.step = some n ∧ n < (s.lv.get c).tests.age ∨ 400 < (s.lv.get c).tests.sub)) :=
  ⟨⟨State.quiet.updLv 0 (fun l => { l with released := some 12000, torqueOff := true }), Model.zoned, 0, 12000, by and_intros <;> first | rfl | decide⟩,
   ⟨State.quiet.updLv 0 (fun l => { l with released := some 12001 }), Model.zoned, 0, 12001, by and_intros <;> first | rfl | decide⟩,
   ⟨State.quiet.updLv 0 (fun l => { l with released := some 799 }), Model.zoned, 0, 799, by and_intros <;> first | rfl | decide⟩,
   ⟨State.quiet.updLv 0 (fun l => { l with released := some 800, torqueOff := false }), Model.zoned, 0, 800, by and_intros <;> first | rfl | decide⟩,
   ⟨State.quiet.updLv 0 (fun l => { l with stuck := true }), 0, by and_intros <;> first | rfl | decide⟩,
   ⟨State.quiet.updLv 0 (fun l => { l with press := some 120000 }), 0, 120000, by and_intros <;> first | rfl | decide⟩,
   ⟨State.quiet.updLv 0 (fun l => { l with tests := { l.tests with step := 7, age := 9 } }), 0, 8, by and_intros <;> first | rfl | decide⟩⟩

/-- The hypotheses of `Obligations.FieldChannelsAndTheirSupply` are met, clause by clause. -/
theorem wit_FieldChannelsAndTheirSupply :
    (∃ (s : State) (i : Fin 96) (l : List Nat) (k : PolClass), l ≠ [] ∧ (∀ x ∈ l, sampleClass (s.polRec i).wbEn x = some k) ∧ (outRole (s.polRec i).role = true ∨ 8 * (if (s.polRec i).filter = 0 then 4 else (s.polRec i).filter) ≤ l.length)) ∧
    (∃ (s : State) (i : Fin 96) (l : List Nat), (outRole (s.polRec i).role = false ∧ l.length < 8 * (if (s.polRec i).filter = 0 then 4 else (s.polRec i).filter)) ∨ (∃ x ∈ l, sampleClass (s.polRec i).wbEn x = none)) ∧
    (∃ (s : State) (i : Fin 96), inRole (s.polRec i).role = true ∧ (s.pol.ch.get i).guard = false) ∧
    (∃ (s : State) (p : Fin 12), (s.pol.pol.get p).lpOk = true) ∧
    (∃ (s : State) (p : Fin 12), (s.pol.pol.get p).lpOk = false) ∧
    (∃ (s : State) (i : Fin 96), s.lpOk i = true) ∧
    (∃ (s : State) (i : Fin 96), outRole (s.polRec i).role = true) ∧
    (∃ (s : State) (i : Fin 96) (d : OvldDetail), outRole (s.polRec i).role = true ∧ s.rbSuspended i = false ∧ (s.pol.ch.get i).heldOff = false ∧ (s.pol.ch.get i).cmd = true ∧ (d = .readback → 2 ≤ (s.pol.ch.get i).badRb)) ∧
    (∃ (s : State) (i : Fin 96), outRole (s.polRec i).role = true ∧ s.rbSuspended i = false ∧ (s.pol.ch.get i).heldOff = false ∧ (s.pol.ch.get i).cmd = false ∧ 2 ≤ (s.pol.ch.get i).badRb) :=
  ⟨⟨State.quiet, 0, List.replicate 32 190, .closed, by and_intros <;> first | rfl | decide⟩,
   ⟨State.quiet, 95, List.replicate 31 190, by and_intros <;> first | rfl | decide⟩,
   ⟨State.quiet, 0, by and_intros <;> first | rfl | decide⟩,
   ⟨State.small.updPol 11 (fun p => { p with lpOk := true }), 11, by and_intros <;> first | rfl | decide⟩,
   ⟨State.small, 11, by and_intros <;> first | rfl | decide⟩,
   ⟨State.small.updPol 11 (fun p => { p with lpOk := true }), 95, by and_intros <;> first | rfl | decide⟩,
   ⟨{ State.small with model := some Model.driven, seals := { Seal.zero with fixed := true, role := 3 } }, 95, by and_intros <;> first | rfl | decide⟩,
   ⟨(({ State.small with model := some Model.driven, seals := { Seal.zero with fixed := true, role := 3 } } : State).updPol 11 fun p => { p with lpOk := true }).updCh 95 (fun c => { c with cmd := true }), 95, .thermal, by and_intros <;> first | rfl | decide⟩,
   ⟨(({ State.small with model := some Model.driven, seals := { Seal.zero with fixed := true, role := 3 } } : State).updPol 11 fun p => { p with lpOk := true }).updCh 95 (fun c => { c with badRb := 2 }), 95, by and_intros <;> first | rfl | decide⟩⟩

/-- The hypotheses of `Obligations.BusTrafficAndRates` are met, clause by clause. -/
theorem wit_BusTrafficAndRates :
    (∃ (s : State) (fr : Frame) (b : Bus), s.ownedFrame fr = false ∧ b = s.buses.get fr.bus ∧ busHears b = true ∧ (fr.fd = true → (s.busRec fr.bus).any (·.fd) = true) ∧ b.fifo < 64) ∧
    (∃ (s : State) (fr : Frame) (b : Bus), s.ownedFrame fr = false ∧ b = s.buses.get fr.bus ∧ busHears b = true ∧ (fr.fd = true → (s.busRec fr.bus).any (·.fd) = true) ∧ 64 ≤ b.fifo) ∧
    (∃ (s : State) (fr : Frame), (s.ownedFrame fr = true ∨ busHears (s.buses.get fr.bus) = false ∨ (fr.fd = true ∧ (s.busRec fr.bus).any (·.fd) = false))) ∧
    (∃ (s : State) (n : Fin 12) (sof : BitVec 32) (delay i : Nat) (f : TxFrame) (r : BusRec) (b : Bus), s.onOffer n = some (i, f) ∧ s.busRec n = some r ∧ b = s.buses.get n) ∧
    (∃ (s : State) (n : Fin 12), (s.onOffer n).isSome = true) ∧
    (∃ (s : State) (n : Fin 12), (s.buses.get n).state = .detect) ∧
    (∃ (s : State) (n : Fin 12) (why : RateDrop) (b : Bus), b = s.buses.get n ∧ b.state = .detect ∧ b.adopted = false) :=
  ⟨⟨(State.small.withModel Model.small.withBuses).updBus 11 (fun b => { b with fifo := 63 }), Frame.plain 11, ((State.small.withModel Model.small.withBuses).updBus 11 (fun b => { b with fifo := 63 })).buses.get 11, by and_intros <;> first | rfl | decide⟩,
   ⟨State.small.updBus 11 (fun b => { b with fifo := 64 }), Frame.plain 11, (State.small.updBus 11 (fun b => { b with fifo := 64 })).buses.get 11, by and_intros <;> first | rfl | decide⟩,
   ⟨(State.small.withModel { Model.small with buses := Tab.all { Model.small.buses.get 0 with fd := false } }), { Frame.plain 11 with fd := true }, by and_intros <;> first | rfl | decide⟩,
   ⟨((State.small.withModel Model.small.withBuses).listing 0 (TxFrame.plain (some 7))).updHi (fun h => { h with running := [⟨cmdOf 0x40 0, false⟩] }), 0, 0, 255, 0, TxFrame.plain (some 7), Model.small.withBuses.buses.get 0, (((State.small.withModel Model.small.withBuses).listing 0 (TxFrame.plain (some 7))).updHi (fun h => { h with running := [⟨cmdOf 0x40 0, false⟩] })).buses.get 0, by and_intros <;> first | rfl | decide⟩,
   ⟨(State.small.withModel Model.small.withBuses).listing 11 (TxFrame.plain none), 11, by and_intros <;> first | rfl | decide⟩,
   ⟨(State.small.withModel Model.small.withBuses).updBus 4 (fun b => { b with state := .detect }), 4, by and_intros <;> first | rfl | decide⟩,
   ⟨(State.small.withModel Model.small.withBuses).updBus 4 (fun b => { b with state := .detect, cand := 8 }), 4, .error, ((State.small.withModel Model.small.withBuses).updBus 4 (fun b => { b with state := .detect, cand := 8 })).buses.get 4, by and_intros <;> first | rfl | decide⟩⟩

/-- The hypotheses of `Obligations.BusErrorsSleepAndWake` are met, clause by clause. -/
theorem wit_BusErrorsSleepAndWake :
    (∃ (s : State) (n : Fin 12) (i : Nat) (f : TxFrame), s.onOffer n = some (i, f)) ∧
    (∃ (s : State) (n : Fin 12) (tec rec_ : Nat), (s.buses.get n).state = .active ∧ (128 ≤ tec ∨ 128 ≤ rec_)) ∧
    (∃ (s : State) (n : Fin 12) (tec rec_ : Nat), (s.buses.get n).state = .passive ∧ tec < 128 ∧ rec_ < 128) ∧
    (∃ (s : State) (n : Fin 12) (tec rec_ : Nat), ((s.buses.get n).state = .active ∨ (s.buses.get n).state = .passive)) ∧
    (∃ (s : State) (n : Fin 12), (s.buses.get n).state = .recover) ∧
    (∃ (s : State) (n : Fin 12), 4 ≤ n.val ∧ (s.buses.get n).sleepReq = true ∧ ((s.buses.get n).state = .active ∨ (s.buses.get n).state = .passive) ∧ 1 ≤ (s.buses.get n).sleepT1 ∧ (s.buses.get n).tx = []) ∧
    (∃ (s : State) (n : Fin 12), 4 ≤ n.val ∧ (s.buses.get n).sleepReq = true ∧ ((s.buses.get n).state = .active ∨ (s.buses.get n).state = .passive) ∧ 8 ≤ (s.buses.get n).sleepT1) ∧
    (∃ (s : State) (n : Fin 12) (how : BusWake), (s.buses.get n).state = .sleep ∧ (s.buses.get n).onWait = false ∧ ((s.buses.get n).wakeMode = false ∧ how = .pattern ∨ (s.buses.get n).wakeMode = true ∧ ∃ x i d, how = .frame x i d ∧ wakeMatch (s.buses.get n) x i d = true)) ∧
    (∃ (s : State) (n : Fin 12), (s.buses.get n).state = .sleep ∧ (s.buses.get n).onWait = false ∧ (s.buses.get n).sleepReq = false) ∧
    (∃ (s : State) (n : Fin 12) (how : BusWake), ((s.buses.get n).state ≠ .sleep ∨ (s.buses.get n).onWait = true ∨ (s.buses.get n).wakeMode = true ∧ how = .pattern ∨ how = .host ∧ (s.buses.get n).sleepReq = true ∨ ∃ x i d, how = .frame x i d ∧ ((s.buses.get n).wakeMode = false ∨ wakeMatch (s.buses.get n) x i d = false))) ∧
    (∃ (s : State) (n : Fin 12) (v : BitVec 32), s.hostUp = true ∧ 4 ≤ n.val ∧ bit v 0 = true ∧ (s.buses.get n).sleepReq = false ∧ (s.buses.get n).state ≠ .sleep) ∧
    (∃ (s : State) (n : Fin 12) (v : BitVec 32), s.hostUp = true ∧ n.val < 4 ∧ bit v 0 = true) ∧
    (∃ (s : State) (n : Fin 12) (v : BitVec 32), s.hostUp = true ∧ 4 ≤ n.val ∧ bit v 0 = false ∧ (s.buses.get n).state = .sleep ∧ (s.buses.get n).onWait = false) ∧
    (∃ (s : State) (n : Fin 12) (v : BitVec 32) (b : Bus), s.hostUp = true ∧ 4 ≤ n.val ∧ bit v 0 = false ∧ b = s.buses.get n ∧ b.state ≠ .sleep) :=
  ⟨⟨(State.small.withModel Model.small.withBuses).listing 11 (TxFrame.plain none), 11, 0, TxFrame.plain none, by and_intros <;> first | rfl | decide⟩,
   ⟨State.small, 11, 0, 128, by and_intros <;> first | rfl | decide⟩,
   ⟨State.small.updBus 11 (fun b => { b with state := .passive }), 11, 127, 127, by and_intros <;> first | rfl | decide⟩,
   ⟨State.small, 0, 256, 255, by and_intros <;> first | rfl | decide⟩,
   ⟨State.small.updBus 0 (fun b => { b with state := .recover }), 0, by and_intros <;> first | rfl | decide⟩,
   ⟨State.small.updBus 4 (fun b => { b with sleepReq := true, sleepT1 := 1 }), 4, by and_intros <;> first | rfl | decide⟩,
   ⟨State.small.updBus 4 (fun b => { b with sleepReq := true, sleepT1 := 8 }), 4, by and_intros <;> first | rfl | decide⟩,
   ⟨State.small.updBus 4 (fun b => { b with state := .sleep, wakeMode := true }), 4, .frame false 0 [], by refine ⟨by decide, by decide, Or.inr ⟨by decide, false, 0, [], rfl, by decide⟩⟩⟩,
   ⟨State.small.updBus 4 (fun b => { b with state := .sleep }), 4, by and_intros <;> first | rfl | decide⟩,
   ⟨State.small.updBus 4 (fun b => { b with state := .sleep }), 4, .frame false 0 [], by exact Or.inr (Or.inr (Or.inr (Or.inr ⟨false, 0, [], rfl, by decide⟩)))⟩,
   ⟨State.small, 4, 1, by and_intros <;> first | rfl | decide⟩,
   ⟨State.small, 3, 1, by and_intros <;> first | rfl | decide⟩,
   ⟨State.small.updBus 4 (fun b => { b with state := .sleep }), 4, 0, by and_intros <;> first | rfl | decide⟩,
   ⟨State.small, 4, 2, State.small.buses.get 4, by and_intros <;> first | rfl | decide⟩⟩

/-- The hypotheses of `Obligations.DoorbellsMoveTheirIndex` are met, clause by clause. -/
theorem wit_DoorbellsMoveTheirIndex :
    (∃ (s : State) (v : BitVec 32), s.hostUp = true ∧ s.hi.hrdy = true ∧ s.hi.en = true ∧ v.toNat % 65536 < (s.hi.rings.get 0).size.toNat) ∧
    (∃ (s : State) (v : BitVec 32), s.hostUp = true ∧ s.hi.hrdy = true ∧ s.hi.en = true ∧ v.toNat % 65536 < (s.hi.rings.get 1).size.toNat) ∧
    (∃ (s : State) (v : BitVec 32) (cmd : Instr) (r : Fin 6), ((r = 2 ∧ cmd = .dbEvtHead v) ∨ (r = 3 ∧ cmd = .dbTelHead v) ∨ (r = 4 ∧ cmd = .dbLogHead v) ∨ (r = 5 ∧ cmd = .dbCapHead v)) ∧ s.hostUp = true ∧ s.hi.hrdy = true ∧ s.hi.en = true ∧ v.toNat % 65536 < (s.hi.rings.get r).size.toNat ∧ (v.toNat % 65536 + (s.hi.rings.get r).size.toNat - (s.hi.rings.get r).head) % (s.hi.rings.get r).size.toNat ≤ ((s.hi.rings.get r).tail + (s.hi.rings.get r).size.toNat - (s.hi.rings.get r).head) % (s.hi.rings.get r).size.toNat) ∧
    (∃ (s : State) (v : BitVec 32), s.hostUp = true ∧ s.hi.hrdy = true ∧ s.hi.en = true ∧ v.toNat % 65536 < 16 ∧ (v.toNat % 65536 + 16 - s.hi.cplHead) % 16 ≤ (s.hi.cplTail + 16 - s.hi.cplHead) % 16) ∧
    (∃ (s : State) (v : BitVec 32) (cmd : Instr) (r : Fin 6), ((r = 0 ∧ cmd = .dbCmdTail v) ∨ (r = 1 ∧ cmd = .dbCallTail v) ∨ (r = 3 ∧ cmd = .dbTelHead v) ∨ (r = 4 ∧ cmd = .dbLogHead v) ∨ (r = 5 ∧ cmd = .dbCapHead v)) ∧ s.hostUp = true ∧ s.hi.hrdy = true ∧ s.hi.en = true ∧ ((s.hi.rings.get r).size.toNat ≤ v.toNat % 65536 ∨ (3 ≤ r.val ∧ ((s.hi.rings.get r).tail + (s.hi.rings.get r).size.toNat - (s.hi.rings.get r).head) % (s.hi.rings.get r).size.toNat < (v.toNat % 65536 + (s.hi.rings.get r).size.toNat - (s.hi.rings.get r).head) % (s.hi.rings.get r).size.toNat))) ∧
    (∃ (s : State) (v : BitVec 32) (cmd : Instr), (cmd = .dbCmdTail v ∨ cmd = .dbCallTail v ∨ cmd = .dbTelHead v ∨ cmd = .dbLogHead v ∨ cmd = .dbCapHead v ∨ cmd = .dbCplHead v) ∧ s.hostUp = true ∧ (s.hi.hrdy = false ∨ s.hi.en = false)) ∧
    (∃ (s : State) (v : BitVec 32), s.hostUp = true ∧ s.hi.hrdy = true ∧ s.hi.en = true ∧ (16 ≤ v.toNat % 65536 ∨ (s.hi.cplTail + 16 - s.hi.cplHead) % 16 < (v.toNat % 65536 + 16 - s.hi.cplHead) % 16)) ∧
    (∃ (s : State) (v : BitVec 32), s.hostUp = true) :=
  ⟨⟨(State.small.ringed 2 1), 1, by and_intros <;> first | rfl | decide⟩,
   ⟨(State.small.ringed 2 1), 1, by and_intros <;> first | rfl | decide⟩,
   ⟨(State.small.ringed 2 1), 1, .dbEvtHead 1, 2, by and_intros <;> first | rfl | decide⟩,
   ⟨State.small.ringed 2 1 |>.updHi (fun h => { h with cplTail := 15 }), 15, by and_intros <;> first | rfl | decide⟩,
   ⟨(State.small.ringed 2 1), 256, .dbCmdTail 256, 0, by and_intros <;> first | rfl | decide⟩,
   ⟨State.small, 0xFFFFFFFF, .dbCmdTail 0xFFFFFFFF, by and_intros <;> first | rfl | decide⟩,
   ⟨(State.small.ringed 2 1), 16, by and_intros <;> first | rfl | decide⟩,
   ⟨State.small, 0, by and_intros <;> first | rfl | decide⟩⟩

end Sys2Proof.Machine
end

