-- ==== Sys2Proof/Tests/Witnesses3.lean ====
section
/-! SUPPORT. Witnesses: for each clause of a statement with hypotheses, a state and operands that meet them together (commands, captures, the pair and the faults).
Where a clause compares, the witness stands at the boundary of the comparison. -/

set_option linter.unusedTactic false
set_option linter.unreachableTactic false
set_option linter.unnecessarySeqFocus false
set_option linter.unusedVariables false
set_option maxRecDepth 4000

open Sys2Proof Sys2Proof.Machine Sys2Proof.Machine.State

namespace Sys2Proof.Machine

/-- The hypotheses of `Obligations.HostInterfaceComesAndGoes` are met, clause by clause. -/
theorem wit_HostInterfaceComesAndGoes :
    (∃ (s : State) (v : BitVec 32) (h : Hi), s.hostUp = true ∧ s.hi.en = false ∧ bit v 0 = true ∧ h = { s.hi with msixEn := bit v 1, crcEn := bit v 2 } ∧ State.enableOk { s with hi := h } = true) ∧
    (∃ (s : State) (v : BitVec 32) (h : Hi), s.hostUp = true ∧ s.hi.en = false ∧ bit v 0 = true ∧ h = { s.hi with msixEn := bit v 1, crcEn := bit v 2 } ∧ State.enableOk { s with hi := h } = false) ∧
    (∃ (s : State) (v : BitVec 32), s.hostUp = true ∧ s.hi.en = true ∧ bit v 0 = false) ∧
    (∃ (s : State) (k : EndpointReset), s.mod ≠ .off) ∧
    (∃ (s : State), s.mod ≠ .off ∧ s.pd 1 = true) ∧
    (∃ (s : State), s.mod ≠ .off ∧ s.pd 1 = true) ∧
    (∃ (s : State) (d3 : Bool), (s.mod = .off ∨ s.pd 1 = false)) ∧
    (∃ (s : State) (w : Bool) (a : BitVec 16), s.hostUp = true) :=
  ⟨⟨State.small.withHi (Hi.set), 1, Hi.set, by and_intros <;> first | rfl | decide⟩,
   ⟨State.small, 1, Hi.zero, by and_intros <;> first | rfl | decide⟩,
   ⟨State.small.hosted, 0, by and_intros <;> first | rfl | decide⟩,
   ⟨State.small, .linkDown, by and_intros <;> first | rfl | decide⟩,
   ⟨State.small, by and_intros <;> first | rfl | decide⟩,
   ⟨State.small.hosted, by and_intros <;> first | rfl | decide⟩,
   ⟨State.reset, true, by and_intros <;> first | rfl | decide⟩,
   ⟨State.small, true, 0xFFFF, by and_intros <;> first | rfl | decide⟩⟩

/-- The hypotheses of `Obligations.HostRingsAreServed` are met, clause by clause. -/
theorem wit_HostRingsAreServed :
    (∃ (s : State) (b : List Byte), s.mayFetch 0 .cmd = true ∧ s.inExec < 64) ∧
    (∃ (s : State) (b : List Byte), (64 ≤ s.inExec ∨ s.mayFetch 0 .cmd = false)) ∧
    (∃ (s : State) (b : List Byte), s.mayFetch 1 .call = true) ∧
    (∃ (s : State), s.ringsRun = true ∧ s.hi.tags.get 6 < 4) ∧
    (∃ (s : State) (b : List Byte), s.mayFetch 1 .call = false) ∧
    (∃ (s : State) (v : Fin 16) (x : Vec), x = s.hi.vecs.get v) :=
  ⟨⟨(State.small.ringed 2 1).updHi (fun h => { h with crcEn := true }), 0x01 :: List.replicate 63 0, by and_intros <;> first | rfl | decide⟩,
   ⟨State.small.updHi (fun h => { h with waiting := List.replicate 64 (cmdOf 0x01 0) }), List.replicate 64 0, by and_intros <;> first | rfl | decide⟩,
   ⟨(State.small.ringed 2 1), List.replicate 32 0, by and_intros <;> first | rfl | decide⟩,
   ⟨(State.small.ringed 2 1), by and_intros <;> first | rfl | decide⟩,
   ⟨State.small.hosted, [], by and_intros <;> first | rfl | decide⟩,
   ⟨(State.small.ringed 2 1).updHi (fun h => { h with msixEn := true, vecs := Tab.all { Vec.zero with want := true } }), 15, { Vec.zero with want := true }, by and_intros <;> first | rfl | decide⟩⟩

/-- The hypotheses of `Obligations.OneImageAtATimeAndItsCancel` are met, clause by clause. -/
theorem wit_OneImageAtATimeAndItsCancel :
    (∃ (s n : State) (e : CmdEntry) (d : List Byte), s.Starts n 0x10 e true ∧ (s.mod = .config ∨ s.mod = .active ∨ s.mod = .witness ∨ s.mod = .safeHold) ∧ s.img.state = .idle ∧ d.length = e.dataLen.toNat) ∧
    (∃ (s n : State) (e : CmdEntry) (d : Option (List Byte)), s.Starts n 0x10 e true ∧ (s.mod = .config ∨ s.mod = .active ∨ s.mod = .witness ∨ s.mod = .safeHold) ∧ s.img.state ≠ .idle) ∧
    (∃ (s n : State) (e : CmdEntry) (p : PendingImg), s.Starts n 0x11 e true ∧ s.img.pending = some p ∧ p.origin = .host) :=
  ⟨⟨State.small.waiting (cmdOf 0x10 0xFF), (State.small.waiting (cmdOf 0x10 0xFF)).takeEntry (cmdOf 0x10 0xFF), cmdOf 0x10 0xFF, [], by and_intros <;> first | rfl | decide | exact ⟨by decide, by decide, by decide, rfl⟩⟩,
   ⟨(State.small.updImg fun g => { g with state := .verifying }).waiting (cmdOf 0x10 0xFF), ((State.small.updImg fun g => { g with state := .verifying }).waiting (cmdOf 0x10 0xFF)).takeEntry (cmdOf 0x10 0xFF), cmdOf 0x10 0xFF, none, by and_intros <;> first | rfl | decide | exact ⟨by decide, by decide, by decide, rfl⟩⟩,
   ⟨(State.small.updImg fun g => { g with pending := some PendingImg.host }).waiting (cmdOf 0x11 0xFF), ((State.small.updImg fun g => { g with pending := some PendingImg.host }).waiting (cmdOf 0x11 0xFF)).takeEntry (cmdOf 0x11 0xFF), cmdOf 0x11 0xFF, PendingImg.host, by and_intros <;> first | rfl | decide | exact ⟨by decide, by decide, by decide, rfl⟩⟩⟩

/-- The hypotheses of `Obligations.ImagesAreVerifiedAndPending` are met, clause by clause. -/
theorem wit_ImagesAreVerifiedAndPending :
    (∃ (s : State) (bs : List Byte) (o : ImgOrigin) (flashOk : Bool), s.img.state = .verifying ∧ s.img.work = some (bs, o) ∧ (s.pwr.derate = false ∨ o ≠ .host)) ∧
    (∃ (s : State) (flashOk : Bool), (s.img.state ≠ .verifying ∨ s.img.work = none ∨ (s.pwr.derate = true ∧ ∃ bs, s.img.work = some (bs, .host)))) ∧
    (∃ (s : State) (p : PendingImg), s.mod = .active ∧ s.img.pending = some p ∧ p.origin = .host ∧ p.peerOk = false) ∧
    (∃ (s : State) (p : PendingImg) (code : BitVec 8) (d : List Byte), s.mod = .active ∧ s.img.pending = some p ∧ p.origin = .host ∧ p.peerOk = false ∧ (code ≠ 0 ∨ d ≠ p.model.digest)) ∧
    (∃ (s : State) (code : BitVec 8) (d : List Byte), (s.mod ≠ .active ∨ s.img.pending = none ∨ ∃ p, s.img.pending = some p ∧ (p.origin ≠ .host ∨ p.peerOk = true))) ∧
    (∃ (s : State) (p : PendingImg), s.img.pending = some p ∧ 1000 ≤ p.waited) ∧
    (∃ (s : State), (s.img.pending = none ∨ ∃ p, s.img.pending = some p ∧ p.waited < 1000)) :=
  ⟨⟨State.small.updImg (fun g => { g with state := .verifying, work := some ([], .host) }), [], .host, true, by and_intros <;> first | rfl | decide⟩,
   ⟨State.small.updImg (fun g => { g with state := .verifying }), true, .inr (.inl rfl)⟩,
   ⟨State.small.updImg (fun g => { g with pending := some PendingImg.host }), PendingImg.host, by and_intros <;> first | rfl | decide⟩,
   ⟨State.small.updImg (fun g => { g with pending := some PendingImg.host }), PendingImg.host, 1, [], by and_intros <;> first | rfl | decide⟩,
   ⟨State.small, 0, [], by and_intros <;> first | rfl | decide⟩,
   ⟨State.small.updImg (fun g => { g with pending := some { PendingImg.host with waited := 1000 } }), { PendingImg.host with waited := 1000 }, by and_intros <;> first | rfl | decide⟩,
   ⟨State.small.updImg (fun g => { g with pending := some { PendingImg.host with waited := 999 } }), .inr ⟨_, rfl, by decide⟩⟩⟩

/-- The hypotheses of `Obligations.PlainCommandsAreAnswered` are met, clause by clause. -/
theorem wit_PlainCommandsAreAnswered :
    (∃ (s n : State) (e : CmdEntry), s.Starts n 0x01 e true) ∧
    (∃ (s n : State) (e : CmdEntry) (p : Proposal), s.Starts n 0x12 e (e.arg0.toNat ≤ 1) ∧ s.proposal? e.arg2 = some p ∧ p.bytes.length ≤ e.dataLen.toNat) ∧
    (∃ (s n : State) (e : CmdEntry), s.Starts n 0x12 e (e.arg0.toNat ≤ 1) ∧ (∀ p, s.proposal? e.arg2 = some p → e.dataLen.toNat < p.bytes.length)) ∧
    (∃ (s n : State) (e : CmdEntry) (d : List Byte) (c : Fin 12) (r : BusRec) (ext fd brs : Bool), e.arg0.toNat = c.val ∧ e.arg1.toNat ≤ 7 ∧ ext = e.arg1.getLsbD 0 ∧ fd = e.arg1.getLsbD 1 ∧ brs = e.arg1.getLsbD 2 ∧ (brs = true → fd = true) ∧ (if ext then e.arg2.toNat < 2 ^ 29 ∧ 0x800 ≤ e.arg2.toNat % 4096 else e.arg2.toNat < 0x800) ∧ rawLenOk fd e.dataLen.toNat = true ∧ s.Starts n 0x40 e true ∧ s.rawPending c < 32 ∧ s.busRec c = some r ∧ r.raw = true ∧ (fd = true → r.fd = true) ∧ (brs = true → r.brs = true) ∧ txLive (s.buses.get c) = true ∧ d.length = e.dataLen.toNat) ∧
    (∃ (s n : State) (e : CmdEntry) (d : Option (List Byte)) (c : Fin 12), e.arg0.toNat = c.val ∧ e.arg1.toNat ≤ 3 ∧ (if e.arg1.getLsbD 0 then e.arg2.toNat < 2 ^ 29 ∧ 0x800 ≤ e.arg2.toNat % 4096 else e.arg2.toNat < 0x800) ∧ rawLenOk (e.arg1.getLsbD 1) e.dataLen.toNat = true ∧ s.Starts n 0x40 e true ∧ (32 ≤ s.rawPending c ∨ s.busRec c = none ∨ txLive (s.buses.get c) = false ∨ ∃ r, s.busRec c = some r ∧ (r.raw = false ∨ e.arg1.getLsbD 1 = true ∧ r.fd = false))) ∧
    (∃ (s n : State) (e : CmdEntry) (c : Fin 12) (r : BusRec), e.arg0.toNat = c.val ∧ s.Starts n 0x41 e true ∧ (s.buses.get c).state = .busoff ∧ s.busRec c = some r ∧ r.boff = 2) ∧
    (∃ (s n : State) (e : CmdEntry) (c : Fin 12), e.arg0.toNat = c.val ∧ s.Starts n 0x41 e true ∧ ((s.buses.get c).state ≠ .busoff ∨ (∀ r, s.busRec c = some r → r.boff ≠ 2))) ∧
    (∃ (s n : State) (e : CmdEntry) (us : List TestUnit) (m : Model), s.model = some m ∧ s.Starts n 0x50 e (clearArgs e) ∧ s.mod = .active ∧ s.seal0 = true ∧ s.fc.clearing = none ∧ us = s.namedUnits e ∧ (us ≠ [] ∨ e.arg0 = 0xFF) ∧ (∀ u ∈ us, ∀ c ∈ State.unitCars m u, (s.modes.get c).mode = 11)) ∧
    (∃ (s : State) (e : CmdEntry), s.canStart 0x01 e = true ∧ paramOk e true = false) ∧
    (∃ (s : State) (e : CmdEntry), s.canStart 0x41 e = true ∧ paramOk e (e.arg0.toNat < 12) = true ∧ s.mod = .standby) :=
  ⟨⟨(State.small).waiting (cmdOf 0x01 0xFF), ((State.small).waiting (cmdOf 0x01 0xFF)).takeEntry (cmdOf 0x01 0xFF), cmdOf 0x01 0xFF, by and_intros <;> first | rfl | decide | exact ⟨by decide, by decide, by decide, rfl⟩⟩,
   ⟨(State.small.updImg (fun g => { g with props := [⟨5, 1, 0, 0, [0]⟩] })).waiting ({ cmdOf 0x12 0xFF with arg0 := 1, arg2 := 5, dataLen := 1 }), ((State.small.updImg (fun g => { g with props := [⟨5, 1, 0, 0, [0]⟩] })).waiting ({ cmdOf 0x12 0xFF with arg0 := 1, arg2 := 5, dataLen := 1 })).takeEntry ({ cmdOf 0x12 0xFF with arg0 := 1, arg2 := 5, dataLen := 1 }), { cmdOf 0x12 0xFF with arg0 := 1, arg2 := 5, dataLen := 1 }, ⟨5, 1, 0, 0, [0]⟩, by and_intros <;> first | rfl | decide | exact ⟨by decide, by decide, by decide, rfl⟩⟩,
   ⟨(State.small).waiting ({ cmdOf 0x12 0xFF with arg2 := 5 }), ((State.small).waiting ({ cmdOf 0x12 0xFF with arg2 := 5 })).takeEntry ({ cmdOf 0x12 0xFF with arg2 := 5 }), { cmdOf 0x12 0xFF with arg2 := 5 }, by and_intros <;> first | exact ⟨by decide, by decide, by decide, rfl⟩ | (intro p h; exact absurd (h.symm.trans (show State.proposal? _ _ = none from by decide)) (by simp))⟩,
   ⟨((State.small.withModel Model.small.withBuses)).waiting ({ cmdOf 0x40 0xFF with arg0 := 11, arg1 := 1, arg2 := 0x800, dataLen := 8 }), (((State.small.withModel Model.small.withBuses)).waiting ({ cmdOf 0x40 0xFF with arg0 := 11, arg1 := 1, arg2 := 0x800, dataLen := 8 })).takeEntry ({ cmdOf 0x40 0xFF with arg0 := 11, arg1 := 1, arg2 := 0x800, dataLen := 8 }), { cmdOf 0x40 0xFF with arg0 := 11, arg1 := 1, arg2 := 0x800, dataLen := 8 }, List.replicate 8 0, 11, Model.small.withBuses.buses.get 0, true, false, false, by and_intros <;> first | rfl | decide | exact ⟨by decide, by decide, by decide, rfl⟩⟩,
   ⟨(State.small).waiting ({ cmdOf 0x40 0xFF with arg0 := 11, arg2 := 0x7FF, dataLen := 8 }), ((State.small).waiting ({ cmdOf 0x40 0xFF with arg0 := 11, arg2 := 0x7FF, dataLen := 8 })).takeEntry ({ cmdOf 0x40 0xFF with arg0 := 11, arg2 := 0x7FF, dataLen := 8 }), { cmdOf 0x40 0xFF with arg0 := 11, arg2 := 0x7FF, dataLen := 8 }, none, 11, by and_intros <;> first | rfl | decide | exact ⟨by decide, by decide, by decide, rfl⟩⟩,
   ⟨((State.small.withModel Model.small.withBuses).updBus 11 fun b => { b with state := .busoff }).waiting ({ cmdOf 0x41 0xFF with arg0 := 11 }), (((State.small.withModel Model.small.withBuses).updBus 11 fun b => { b with state := .busoff }).waiting ({ cmdOf 0x41 0xFF with arg0 := 11 })).takeEntry ({ cmdOf 0x41 0xFF with arg0 := 11 }), { cmdOf 0x41 0xFF with arg0 := 11 }, 11, Model.small.withBuses.buses.get 0, by and_intros <;> first | rfl | decide | exact ⟨by decide, by decide, by decide, rfl⟩⟩,
   ⟨(State.small).waiting ({ cmdOf 0x41 0xFF with arg0 := 11 }), ((State.small).waiting ({ cmdOf 0x41 0xFF with arg0 := 11 })).takeEntry ({ cmdOf 0x41 0xFF with arg0 := 11 }), { cmdOf 0x41 0xFF with arg0 := 11 }, 11, ⟨by decide, ⟨by decide, by decide, by decide, rfl⟩, .inl (by decide)⟩⟩,
   ⟨({ State.small with seals := { Seal.zero with now := 1 }, modes := Tab.all { Mode.zero with mode := 11 }, fc := { Fc.zero with retired := [.resetInput 0] } }).waiting ({ cmdOf 0x50 0xFF with arg0 := 0x0B, arg1 := 0 }), (({ State.small with seals := { Seal.zero with now := 1 }, modes := Tab.all { Mode.zero with mode := 11 }, fc := { Fc.zero with retired := [.resetInput 0] } }).waiting ({ cmdOf 0x50 0xFF with arg0 := 0x0B, arg1 := 0 })).takeEntry ({ cmdOf 0x50 0xFF with arg0 := 0x0B, arg1 := 0 }), { cmdOf 0x50 0xFF with arg0 := 0x0B, arg1 := 0 }, [.resetInput 0], Model.small, by and_intros <;> first | rfl | decide | exact ⟨by decide, by decide, by decide, rfl⟩⟩,
   ⟨State.small.waiting { cmdOf 0x01 0 with arg0 := 1 }, { cmdOf 0x01 0 with arg0 := 1 }, by and_intros <;> first | rfl | decide⟩,
   ⟨(State.inMod .standby).waiting (cmdOf 0x41 0), cmdOf 0x41 0, by and_intros <;> first | rfl | decide⟩⟩

/-- The hypotheses of `Obligations.ModeCommandsActOnTheRequests` are met, clause by clause. -/
theorem wit_ModeCommandsActOnTheRequests :
    (∃ (s n : State) (e : CmdEntry) (m : Model) (c : Fin 16) (r : PolicyRec), s.StartsFor n 0x20 e (e.arg0.toNat ≤ 11) m c ∧ e.arg0.toNat ∈ hostModes ∧ (e.arg0 = 11 → s.seal0 = true ∧ s.quietM3 m c = true) ∧ m.policy? c = some r ∧ r.hostAllow.getLsbD e.arg0.toNat = true) ∧
    (∃ (s n : State) (e : CmdEntry) (m : Model) (c : Fin 16), s.StartsFor n 0x20 e (e.arg0.toNat ≤ 11) m c ∧ e.arg0 = 0) ∧
    (∃ (s n : State) (e : CmdEntry) (m : Model) (c : Fin 16), s.StartsFor n 0x20 e (e.arg0.toNat ≤ 11) m c ∧ e.arg0 ≠ 0 ∧ (e.arg0.toNat ∉ hostModes ∨ (∀ r, m.policy? c = some r → r.hostAllow.getLsbD e.arg0.toNat = false))) ∧
    (∃ (s n : State) (e : CmdEntry) (m : Model) (c : Fin 16) (r : PolicyRec), s.StartsFor n 0x20 e (e.arg0.toNat ≤ 11) m c ∧ e.arg0.toNat = 11 ∧ m.policy? c = some r ∧ r.hostAllow.getLsbD 11 = true ∧ (s.seal0 = false ∨ s.quietM3 m c = false)) ∧
    (∃ (s n : State) (e : CmdEntry) (m : Model) (c : Fin 16), s.StartsFor n 0x21 e (e.arg0.toNat = 3 || e.arg0.toNat = 8) m c ∧ e.arg0 = 8) ∧
    (∃ (s n : State) (e : CmdEntry) (m : Model) (c : Fin 16), s.StartsFor n 0x21 e (e.arg0.toNat = 3 || e.arg0.toNat = 8) m c ∧ e.arg0 = 3 ∧ ((s.modes.get c).hold = false ∨ s.holdPersists m c = true)) ∧
    (∃ (s n : State) (e : CmdEntry) (m : Model) (c : Fin 16), s.StartsFor n 0x21 e (e.arg0.toNat = 3 || e.arg0.toNat = 8) m c ∧ e.arg0 = 3 ∧ (s.modes.get c).hold = true ∧ s.holdPersists m c = false) ∧
    (∃ (s n : State) (e : CmdEntry) (m : Model) (c : Fin 16), s.StartsFor n 0x22 e true m c ∧ (State.heldOut (s.cars.get c).holds = true ∨ ∃ d ∈ State.carSides m c, (s.sides.get d).held = true)) ∧
    (∃ (s n : State) (e : CmdEntry) (m : Model) (c : Fin 16), s.StartsFor n 0x22 e true m c ∧ State.heldOut (s.cars.get c).holds = false ∧ (∀ d ∈ State.carSides m c, (s.sides.get d).held = false)) :=
  ⟨⟨(State.small).waiting ({ cmdOf 0x20 0 with arg0 := 6 }), ((State.small).waiting ({ cmdOf 0x20 0 with arg0 := 6 })).takeEntry ({ cmdOf 0x20 0 with arg0 := 6 }), { cmdOf 0x20 0 with arg0 := 6 }, Model.small, 0, PolicyRec.small, by and_intros <;> first | rfl | decide | exact ⟨⟨by decide, by decide, by decide, rfl⟩, rfl, rfl, by decide, by decide⟩⟩,
   ⟨(State.small).waiting (cmdOf 0x20 0), ((State.small).waiting (cmdOf 0x20 0)).takeEntry (cmdOf 0x20 0), cmdOf 0x20 0, Model.small, 0, by and_intros <;> first | rfl | decide | exact ⟨⟨by decide, by decide, by decide, rfl⟩, rfl, rfl, by decide, by decide⟩⟩,
   ⟨(State.small).waiting ({ cmdOf 0x20 0 with arg0 := 10 }), ((State.small).waiting ({ cmdOf 0x20 0 with arg0 := 10 })).takeEntry ({ cmdOf 0x20 0 with arg0 := 10 }), { cmdOf 0x20 0 with arg0 := 10 }, Model.small, 0, by exact ⟨⟨⟨by decide, by decide, by decide, rfl⟩, rfl, rfl, by decide, by decide⟩, by decide, .inl (by decide)⟩⟩,
   ⟨(State.small).waiting ({ cmdOf 0x20 0 with arg0 := 11 }), ((State.small).waiting ({ cmdOf 0x20 0 with arg0 := 11 })).takeEntry ({ cmdOf 0x20 0 with arg0 := 11 }), { cmdOf 0x20 0 with arg0 := 11 }, Model.small, 0, PolicyRec.small, by and_intros <;> first | rfl | decide | exact ⟨⟨by decide, by decide, by decide, rfl⟩, rfl, rfl, by decide, by decide⟩⟩,
   ⟨(State.small).waiting ({ cmdOf 0x21 0 with arg0 := 8 }), ((State.small).waiting ({ cmdOf 0x21 0 with arg0 := 8 })).takeEntry ({ cmdOf 0x21 0 with arg0 := 8 }), { cmdOf 0x21 0 with arg0 := 8 }, Model.small, 0, by and_intros <;> first | rfl | decide | exact ⟨⟨by decide, by decide, by decide, rfl⟩, rfl, rfl, by decide, by decide⟩⟩,
   ⟨(State.small).waiting ({ cmdOf 0x21 0 with arg0 := 3 }), ((State.small).waiting ({ cmdOf 0x21 0 with arg0 := 3 })).takeEntry ({ cmdOf 0x21 0 with arg0 := 3 }), { cmdOf 0x21 0 with arg0 := 3 }, Model.small, 0, by and_intros <;> first | rfl | decide | exact ⟨⟨by decide, by decide, by decide, rfl⟩, rfl, rfl, by decide, by decide⟩⟩,
   ⟨({ State.small with modes := Tab.all { Mode.zero with hold := true } }).waiting ({ cmdOf 0x21 0 with arg0 := 3 }), (({ State.small with modes := Tab.all { Mode.zero with hold := true } }).waiting ({ cmdOf 0x21 0 with arg0 := 3 })).takeEntry ({ cmdOf 0x21 0 with arg0 := 3 }), { cmdOf 0x21 0 with arg0 := 3 }, Model.small, 0, by and_intros <;> first | rfl | decide | exact ⟨⟨by decide, by decide, by decide, rfl⟩, rfl, rfl, by decide, by decide⟩⟩,
   ⟨(State.small.updCar 0 fun c => { c with holds := { c.holds with slip := true } }).waiting (cmdOf 0x22 0), ((State.small.updCar 0 fun c => { c with holds := { c.holds with slip := true } }).waiting (cmdOf 0x22 0)).takeEntry (cmdOf 0x22 0), cmdOf 0x22 0, Model.small, 0, by and_intros <;> first | rfl | decide | exact ⟨⟨by decide, by decide, by decide, rfl⟩, rfl, rfl, by decide, by decide⟩⟩,
   ⟨(State.small).waiting (cmdOf 0x22 0), ((State.small).waiting (cmdOf 0x22 0)).takeEntry (cmdOf 0x22 0), cmdOf 0x22 0, Model.small, 0, by and_intros <;> first | rfl | decide | exact ⟨⟨by decide, by decide, by decide, rfl⟩, rfl, rfl, by decide, by decide⟩⟩⟩

/-- The hypotheses of `Obligations.RunsAndDoorsAreCommanded` are met, clause by clause. -/
theorem wit_RunsAndDoorsAreCommanded :
    (∃ (s n : State) (e : CmdEntry) (m : Model) (c : Fin 16), s.StartsFor n 0x23 e true m c ∧ e.arg0.toNat ∈ m.servedLandings c ∧ (s.modes.get c).mode = 11 ∧ s.carStill m c = true ∧ s.doorsClosed m c = true ∧ 2 ≤ Health.rank (s.cars.get c).health ∧ (s.modes.get c).runCmd = none ∧ s.hoistIdle c = true ∧ (s.cars.get c).spec.kind = .none ∧ (s.lv.get c).bt.phase = 0) ∧
    (∃ (s n : State) (e : CmdEntry) (m : Model) (c : Fin 16), s.StartsFor n 0x24 e (1 ≤ e.arg0.toNat && e.arg0.toNat ≤ 3 && e.arg1.toNat ≤ 1) m c ∧ (∀ d ∈ maskSides c e.arg0, m.sideFitted c (State.sideNo d) = true ∧ (s.sides.get d).state ≠ .fault ∧ (s.sides.get d).state ≠ .stopped ∧ (e.arg1 = 0 → s.openPlace m d = true ∧ s.openValid m d = true)) ∧ State.doorMode (s.modes.get c) = true ∧ s.hoistAtRest c = true ∧ (s.modes.get c).doorCmd = []) ∧
    (∃ (s n : State) (e : CmdEntry) (m : Model) (c : Fin 16) (d : Fin 32), s.StartsFor n 0x24 e (1 ≤ e.arg0.toNat && e.arg0.toNat ≤ 3 && e.arg1.toNat ≤ 1) m c ∧ e.arg1 = 0 ∧ (∀ d ∈ maskSides c e.arg0, m.sideFitted c (State.sideNo d) = true) ∧ d ∈ maskSides c e.arg0 ∧ s.openPlace m d = false) ∧
    (∃ (s n : State) (e : CmdEntry) (m : Model) (c : Fin 16) (d : Fin 32) (i : Nat) (k : Conn), s.StartsFor n 0x25 e (e.arg0.toNat ≤ 1) m c ∧ d = (if e.arg0 = 0 then front c else rear c) ∧ m.sideFitted c (State.sideNo d) = true ∧ (s.sides.get d).state = .fault ∧ s.donConn? m d = some (i, k) ∧ connUp k = true ∧ (s.sides.get d).nStatus.getLsbD 0 = true ∧ (s.sides.get d).nStatus.getLsbD 1 = false) :=
  ⟨⟨((({ State.quiet with modes := Tab.all { Mode.zero with mode := 11 } } : State).updCar 0 fun c => { c with health := .valid, motorOk := true })).waiting ({ cmdOf 0x23 0 with arg0 := 1 }), (((({ State.quiet with modes := Tab.all { Mode.zero with mode := 11 } } : State).updCar 0 fun c => { c with health := .valid, motorOk := true })).waiting ({ cmdOf 0x23 0 with arg0 := 1 })).takeEntry ({ cmdOf 0x23 0 with arg0 := 1 }), { cmdOf 0x23 0 with arg0 := 1 }, Model.zoned, 0, by and_intros <;> first | rfl | decide | exact ⟨⟨by decide, by decide, by decide, rfl⟩, rfl, rfl, by decide, by decide⟩⟩,
   ⟨((({ State.quiet with modes := Tab.all { Mode.zero with mode := 11 } } : State).updCar 0 fun c => { c with health := .valid, motorOk := true })).waiting ({ cmdOf 0x24 0 with arg0 := 1 }), (((({ State.quiet with modes := Tab.all { Mode.zero with mode := 11 } } : State).updCar 0 fun c => { c with health := .valid, motorOk := true })).waiting ({ cmdOf 0x24 0 with arg0 := 1 })).takeEntry ({ cmdOf 0x24 0 with arg0 := 1 }), { cmdOf 0x24 0 with arg0 := 1 }, Model.zoned, 0, by and_intros <;> first | rfl | decide | exact ⟨⟨by decide, by decide, by decide, rfl⟩, rfl, rfl, by decide, by decide⟩⟩,
   ⟨((({ State.quiet with modes := Tab.all { Mode.zero with mode := 11 } } : State).updCar 0 fun c => { c with health := .valid, motorOk := true }).updCar 0 fun c => { c with pos := 501 }).waiting ({ cmdOf 0x24 0 with arg0 := 1 }), (((({ State.quiet with modes := Tab.all { Mode.zero with mode := 11 } } : State).updCar 0 fun c => { c with health := .valid, motorOk := true }).updCar 0 fun c => { c with pos := 501 }).waiting ({ cmdOf 0x24 0 with arg0 := 1 })).takeEntry ({ cmdOf 0x24 0 with arg0 := 1 }), { cmdOf 0x24 0 with arg0 := 1 }, Model.zoned, 0, 0, by and_intros <;> first | rfl | decide | exact ⟨⟨by decide, by decide, by decide, rfl⟩, rfl, rfl, by decide, by decide⟩⟩,
   ⟨((({ State.quiet with modes := Tab.all { Mode.zero with mode := 11 } } : State).updCar 0 fun c => { c with health := .valid, motorOk := true }).updSide 0 fun d => { d with state := .fault, nStatus := 1 }).waiting (cmdOf 0x25 0), (((({ State.quiet with modes := Tab.all { Mode.zero with mode := 11 } } : State).updCar 0 fun c => { c with health := .valid, motorOk := true }).updSide 0 fun d => { d with state := .fault, nStatus := 1 }).waiting (cmdOf 0x25 0)).takeEntry (cmdOf 0x25 0), cmdOf 0x25 0, Model.zoned, 0, 0, 2, Conn.heard, by and_intros <;> first | rfl | decide | exact ⟨⟨by decide, by decide, by decide, rfl⟩, rfl, rfl, by decide, by decide⟩⟩⟩

/-- The hypotheses of `Obligations.LearningAndBrakeTestCommands` are met, clause by clause. -/
theorem wit_LearningAndBrakeTestCommands :
    (∃ (s n : State) (e : CmdEntry) (m : Model) (c : Fin 16), s.StartsFor n 0x30 e true m c ∧ s.learnRefusal m c = none) ∧
    (∃ (s n : State) (e : CmdEntry) (m : Model) (c : Fin 16) (code : Nat), s.StartsFor n 0x30 e true m c ∧ s.learnRefusal m c = some code) ∧
    (∃ (s n : State) (e : CmdEntry) (m : Model) (c : Fin 16), s.StartsFor n 0x31 e (1 ≤ e.arg0.toNat && e.arg0.toNat ≤ 3 && 4 ≤ e.arg1.toNat && e.arg1.toNat ≤ 32 && !(maskLandings e).isEmpty && zeroAt e.param 16 16) m c ∧ (∀ d ∈ maskSides c e.arg0, m.sideFitted c (State.sideNo d) = true ∧ ∀ l ∈ maskLandings e, m.serves c (State.sideNo d) l = true) ∧ ((s.modes.get c).mode = 0 ∨ (s.modes.get c).mode = 11) ∧ s.learn.get c = none) ∧
    (∃ (s n : State) (e : CmdEntry) (m : Model) (c : Fin 16) (l : DoorLearnCmd), s.StartsFor n 0x32 e true m c ∧ (s.cars.get c).spec.kind ≠ .learn ∧ s.learn.get c = some l) ∧
    (∃ (s n : State) (e : CmdEntry) (m : Model) (c : Fin 16), s.StartsFor n 0x32 e true m c ∧ (s.cars.get c).spec.kind = .learn) ∧
    (∃ (s n : State) (e : CmdEntry) (m : Model) (c : Fin 16), s.StartsFor n 0x32 e true m c ∧ (s.cars.get c).spec.kind ≠ .learn ∧ s.learn.get c = none) ∧
    (∃ (s n : State) (e : CmdEntry) (m : Model) (c : Fin 16), s.StartsFor n 0x33 e (200 ≤ e.arg1.toNat && e.arg1.toNat ≤ 1500) m c ∧ s.seals.now.getLsbD 1 = true ∧ (s.modes.get c).mode = 11 ∧ State.btReady (s.lv.get c) (s.lvSrc m c (s.lv.get c)) = true ∧ s.hoistIdle c = true ∧ (s.lv.get c).bt.phase = 0 ∧ (s.modes.get c).runCmd = none ∧ (s.cars.get c).spec.kind = .none) :=
  ⟨⟨(((({ State.quiet with modes := Tab.all { Mode.zero with mode := 11 } } : State).withModel Model.lower).updCar 0 fun c => { c with health := .valid, motorOk := true }).updCh 1 fun c => { c with active := true }).waiting (cmdOf 0x30 0), ((((({ State.quiet with modes := Tab.all { Mode.zero with mode := 11 } } : State).withModel Model.lower).updCar 0 fun c => { c with health := .valid, motorOk := true }).updCh 1 fun c => { c with active := true }).waiting (cmdOf 0x30 0)).takeEntry (cmdOf 0x30 0), cmdOf 0x30 0, Model.lower, 0, by and_intros <;> first | rfl | decide | exact ⟨⟨by decide, by decide, by decide, rfl⟩, rfl, rfl, by decide, by decide⟩⟩,
   ⟨(State.quiet).waiting (cmdOf 0x30 0), ((State.quiet).waiting (cmdOf 0x30 0)).takeEntry (cmdOf 0x30 0), cmdOf 0x30 0, Model.zoned, 0, 0x85, by and_intros <;> first | rfl | decide | exact ⟨⟨by decide, by decide, by decide, rfl⟩, rfl, rfl, by decide, by decide⟩⟩,
   ⟨({ State.quiet with modes := Tab.all { Mode.zero with mode := 11 } }).waiting ({ cmdOf 0x31 0 with arg0 := 1, arg1 := 32, param := 3 :: List.replicate 31 0 }), (({ State.quiet with modes := Tab.all { Mode.zero with mode := 11 } }).waiting ({ cmdOf 0x31 0 with arg0 := 1, arg1 := 32, param := 3 :: List.replicate 31 0 })).takeEntry ({ cmdOf 0x31 0 with arg0 := 1, arg1 := 32, param := 3 :: List.replicate 31 0 }), { cmdOf 0x31 0 with arg0 := 1, arg1 := 32, param := 3 :: List.replicate 31 0 }, Model.zoned, 0, by and_intros <;> first | rfl | decide | exact ⟨⟨by decide, by decide, by decide, rfl⟩, rfl, rfl, by decide, by decide⟩⟩,
   ⟨({ State.quiet with learn := Tab.all (some ⟨cmdOf 0x31 0, 4⟩) }).waiting (cmdOf 0x32 0), (({ State.quiet with learn := Tab.all (some ⟨cmdOf 0x31 0, 4⟩) }).waiting (cmdOf 0x32 0)).takeEntry (cmdOf 0x32 0), cmdOf 0x32 0, Model.zoned, 0, ⟨cmdOf 0x31 0, 4⟩, by and_intros <;> first | rfl | decide | exact ⟨⟨by decide, by decide, by decide, rfl⟩, rfl, rfl, by decide, by decide⟩⟩,
   ⟨(State.quiet.updSpec 0 fun r => { r with kind := .learn }).waiting (cmdOf 0x32 0), ((State.quiet.updSpec 0 fun r => { r with kind := .learn }).waiting (cmdOf 0x32 0)).takeEntry (cmdOf 0x32 0), cmdOf 0x32 0, Model.zoned, 0, by and_intros <;> first | rfl | decide | exact ⟨⟨by decide, by decide, by decide, rfl⟩, rfl, rfl, by decide, by decide⟩⟩,
   ⟨(State.quiet).waiting (cmdOf 0x32 0), ((State.quiet).waiting (cmdOf 0x32 0)).takeEntry (cmdOf 0x32 0), cmdOf 0x32 0, Model.zoned, 0, by and_intros <;> first | rfl | decide | exact ⟨⟨by decide, by decide, by decide, rfl⟩, rfl, rfl, by decide, by decide⟩⟩,
   ⟨({ { State.quiet with modes := Tab.all { Mode.zero with mode := 11 } } with seals := { Seal.zero with now := 3 } }).waiting ({ cmdOf 0x33 0 with arg1 := 1500 }), (({ { State.quiet with modes := Tab.all { Mode.zero with mode := 11 } } with seals := { Seal.zero with now := 3 } }).waiting ({ cmdOf 0x33 0 with arg1 := 1500 })).takeEntry ({ cmdOf 0x33 0 with arg1 := 1500 }), { cmdOf 0x33 0 with arg1 := 1500 }, Model.zoned, 0, by and_intros <;> first | rfl | decide | exact ⟨⟨by decide, by decide, by decide, rfl⟩, rfl, rfl, by decide, by decide⟩⟩⟩

/-- The hypotheses of `Obligations.InjectionsRunAndEnd` are met, clause by clause. -/
theorem wit_InjectionsRunAndEnd :
    (∃ (s n : State) (e : CmdEntry) (m : Model) (k : Fin 48), s.Starts n 0x34 e true ∧ s.model = some m ∧ fld e.param 0 1 = k.val ∧ s.injectCode m k e false = none) ∧
    (∃ (s n : State) (e : CmdEntry) (m : Model) (k : Fin 48) (code op : Nat) (b : Bool) (cmd : Instr), (b = false ∧ op = 0x34 ∧ cmd = .inject e ∨ b = true ∧ op = 0x36 ∧ cmd = .identify e) ∧ s.Starts n op e true ∧ s.model = some m ∧ fld e.param 0 1 = k.val ∧ s.injectCode m k e b = some code) ∧
    (∃ (s n : State) (e : CmdEntry) (op : Nat) (cmd : Instr), (op = 0x34 ∧ cmd = .inject e ∨ op = 0x36 ∧ cmd = .identify e) ∧ s.Starts n op e true ∧ (48 ≤ fld e.param 0 1 ∨ s.model = none)) ∧
    (∃ (s n : State) (e : CmdEntry) (m : Model) (k : Fin 48) (u : Fin 4), s.Starts n 0x36 e true ∧ s.model = some m ∧ fld e.param 0 1 = k.val ∧ s.injectCode m k e true = none ∧ s.freeCapu = some u) ∧
    (∃ (s n : State) (e : CmdEntry) (k : Fin 48) (j : Inject), e.arg0.toNat = k.val ∧ s.Starts n 0x35 e true ∧ (s.lanes.get k).injection = some j) ∧
    (∃ (s n : State) (e : CmdEntry) (k : Fin 48), e.arg0.toNat = k.val ∧ s.Starts n 0x35 e true ∧ (s.lanes.get k).injection = none) ∧
    (∃ (s : State) (k : Fin 48) (j : Inject), (s.lanes.get k).injection = some j ∧ j.started = false ∧ (s.axes.get k).state = .run) ∧
    (∃ (s : State) (k : Fin 48), ((s.lanes.get k).injection = none ∨ (s.axes.get k).state ≠ .run)) ∧
    (∃ (s : State) (k : Fin 48) (j : Inject), (s.lanes.get k).injection = some j ∧ j.started = true ∧ j.dur ≤ j.i) ∧
    (∃ (s : State) (k : Fin 48) (j : Inject), (s.lanes.get k).injection = some j ∧ j.started = false ∧ 30000 ≤ j.wait) ∧
    (∃ (s : State) (m : Model) (k : Fin 48) (j : Inject) (u : Fin 4), s.model = some m ∧ (s.lanes.get k).injection = some j ∧ j.identify = some u ∧ j.started = true ∧ j.dur ≤ j.i) :=
  ⟨⟨((({ State.quiet with modes := Tab.all { Mode.zero with mode := 11 } } : State).withModel Model.geared)).waiting ({ cmdOf 0x34 0xFF with param := 0 :: 1 :: 1 :: 0 :: 1 :: 0 :: 0 :: 0 :: 1 :: 0 :: 0 :: 0 :: 1 :: 0 :: 1 :: List.replicate 17 0 }), (((({ State.quiet with modes := Tab.all { Mode.zero with mode := 11 } } : State).withModel Model.geared)).waiting ({ cmdOf 0x34 0xFF with param := 0 :: 1 :: 1 :: 0 :: 1 :: 0 :: 0 :: 0 :: 1 :: 0 :: 0 :: 0 :: 1 :: 0 :: 1 :: List.replicate 17 0 })).takeEntry ({ cmdOf 0x34 0xFF with param := 0 :: 1 :: 1 :: 0 :: 1 :: 0 :: 0 :: 0 :: 1 :: 0 :: 0 :: 0 :: 1 :: 0 :: 1 :: List.replicate 17 0 }), { cmdOf 0x34 0xFF with param := 0 :: 1 :: 1 :: 0 :: 1 :: 0 :: 0 :: 0 :: 1 :: 0 :: 0 :: 0 :: 1 :: 0 :: 1 :: List.replicate 17 0 }, Model.geared, 0, by and_intros <;> first | rfl | decide | exact ⟨by decide, by decide, by decide, rfl⟩⟩,
   ⟨(State.small).waiting ({ cmdOf 0x36 0xFF with param := 47 :: List.replicate 31 0 }), ((State.small).waiting ({ cmdOf 0x36 0xFF with param := 47 :: List.replicate 31 0 })).takeEntry ({ cmdOf 0x36 0xFF with param := 47 :: List.replicate 31 0 }), { cmdOf 0x36 0xFF with param := 47 :: List.replicate 31 0 }, Model.small, 47, 0x13, 0x36, true, .identify { cmdOf 0x36 0xFF with param := 47 :: List.replicate 31 0 }, by and_intros <;> first | rfl | decide | exact ⟨by decide, by decide, by decide, rfl⟩⟩,
   ⟨(State.small).waiting ({ cmdOf 0x34 0xFF with param := 48 :: List.replicate 31 0 }), ((State.small).waiting ({ cmdOf 0x34 0xFF with param := 48 :: List.replicate 31 0 })).takeEntry ({ cmdOf 0x34 0xFF with param := 48 :: List.replicate 31 0 }), { cmdOf 0x34 0xFF with param := 48 :: List.replicate 31 0 }, 0x34, .inject { cmdOf 0x34 0xFF with param := 48 :: List.replicate 31 0 }, by and_intros <;> first | rfl | decide | exact ⟨by decide, by decide, by decide, rfl⟩⟩,
   ⟨((({ State.quiet with modes := Tab.all { Mode.zero with mode := 11 } } : State).withModel Model.geared)).waiting ({ cmdOf 0x36 0xFF with param := 0 :: 3 :: 1 :: 0 :: 1 :: 0 :: 0 :: 0 :: 1 :: 0 :: 0 :: 0 :: 1 :: 0 :: 1 :: List.replicate 17 0 }), (((({ State.quiet with modes := Tab.all { Mode.zero with mode := 11 } } : State).withModel Model.geared)).waiting ({ cmdOf 0x36 0xFF with param := 0 :: 3 :: 1 :: 0 :: 1 :: 0 :: 0 :: 0 :: 1 :: 0 :: 0 :: 0 :: 1 :: 0 :: 1 :: List.replicate 17 0 })).takeEntry ({ cmdOf 0x36 0xFF with param := 0 :: 3 :: 1 :: 0 :: 1 :: 0 :: 0 :: 0 :: 1 :: 0 :: 0 :: 0 :: 1 :: 0 :: 1 :: List.replicate 17 0 }), { cmdOf 0x36 0xFF with param := 0 :: 3 :: 1 :: 0 :: 1 :: 0 :: 0 :: 0 :: 1 :: 0 :: 0 :: 0 :: 1 :: 0 :: 1 :: List.replicate 17 0 }, Model.geared, 0, 0, by and_intros <;> first | rfl | decide | exact ⟨by decide, by decide, by decide, rfl⟩⟩,
   ⟨(State.quiet.updLane 47 (fun l => { l with injection := some { Inject.one 4 with dur := 1, identify := some 3 } })).waiting ({ cmdOf 0x35 0xFF with arg0 := 47 }), ((State.quiet.updLane 47 (fun l => { l with injection := some { Inject.one 4 with dur := 1, identify := some 3 } })).waiting ({ cmdOf 0x35 0xFF with arg0 := 47 })).takeEntry ({ cmdOf 0x35 0xFF with arg0 := 47 }), { cmdOf 0x35 0xFF with arg0 := 47 }, 47, { Inject.one 4 with dur := 1, identify := some 3 }, by and_intros <;> first | rfl | decide | exact ⟨by decide, by decide, by decide, rfl⟩⟩,
   ⟨(State.small).waiting ({ cmdOf 0x35 0xFF with arg0 := 47 }), ((State.small).waiting ({ cmdOf 0x35 0xFF with arg0 := 47 })).takeEntry ({ cmdOf 0x35 0xFF with arg0 := 47 }), { cmdOf 0x35 0xFF with arg0 := 47 }, 47, by and_intros <;> first | rfl | decide | exact ⟨by decide, by decide, by decide, rfl⟩⟩,
   ⟨(State.quiet.updLane 47 (fun l => { l with injection := some { Inject.one 4 with dur := 1 } })).updAxis 47 (fun a => { a with state := .run }), 47, { Inject.one 4 with dur := 1 }, by and_intros <;> first | rfl | decide⟩,
   ⟨State.small, 47, by and_intros <;> first | rfl | decide⟩,
   ⟨State.quiet.updLane 47 (fun l => { l with injection := some { Inject.one 4 with started := true, dur := 4, i := 4 } }), 47, { Inject.one 4 with started := true, dur := 4, i := 4 }, by and_intros <;> first | rfl | decide⟩,
   ⟨State.quiet.updLane 47 (fun l => { l with injection := some { Inject.one 4 with wait := 30000 } }), 47, { Inject.one 4 with wait := 30000 }, by and_intros <;> first | rfl | decide⟩,
   ⟨State.quiet.updLane 47 (fun l => { l with injection := some { Inject.one 4 with identify := some 3, started := true, dur := 4, i := 4 } }), Model.zoned, 47, { Inject.one 4 with identify := some 3, started := true, dur := 4, i := 4 }, 3, by and_intros <;> first | rfl | decide⟩⟩

/-- The hypotheses of `Obligations.CaptureUnitsRecordAndDeliver` are met, clause by clause. -/
theorem wit_CaptureUnitsRecordAndDeliver :
    (∃ (s : State) (u : Fin 4) (v : BitVec 32) (c : Capu), s.hostUp = true ∧ c = s.capus.get u) ∧
    (∃ (s : State) (u : Fin 4), (s.capus.get u).en = true ∧ (s.capus.get u).state = 2 ∧ (s.capus.get u).fired = true) ∧
    (∃ (s : State) (u : Fin 4), ((s.capus.get u).en = false ∨ (s.capus.get u).state ≠ 2 ∨ (s.capus.get u).fired = false)) ∧
    (∃ (s : State) (u : Fin 4) (c : Capu), c = s.capus.get u ∧ (c.state = 4 ∨ c.state = 3 ∧ c.rwc.stream = true ∧ 4064 / State.recSize c.rwc ≤ c.samples.length) ∧ s.pwr.derate = false ∧ s.ringsRun = true ∧ State.ringRoom (s.hi.rings.get 5) ≠ 0 ∧ State.tagFree s.hi .cap = true) ∧
    (∃ (s : State) (u : Fin 4) (c : Capu), c = s.capus.get u ∧ (c.state = 4 ∨ c.state = 3 ∧ c.rwc.stream = true ∧ 4064 / State.recSize c.rwc ≤ c.samples.length) ∧ (s.pwr.derate = true ∨ s.ringsRun = false ∨ State.ringRoom (s.hi.rings.get 5) = 0 ∨ State.tagFree s.hi .cap = false)) ∧
    (∃ (s : State) (u : Fin 4), (s.capus.get u).state ≠ 4 ∧ ((s.capus.get u).state ≠ 3 ∨ (s.capus.get u).rwc.stream = false ∨ (s.capus.get u).samples.length < 4064 / State.recSize (s.capus.get u).rwc)) :=
  ⟨⟨State.hosted State.small |>.updCapu 3 (fun c => { c with state := 6 }), 3, 3, (State.hosted State.small |>.updCapu 3 (fun c => { c with state := 6 })).capus.get 3, by and_intros <;> first | rfl | decide⟩,
   ⟨State.hosted State.small |>.updCapu 3 (fun c => { c with en := true, state := 2, fired := true }), 3, by and_intros <;> first | rfl | decide⟩,
   ⟨State.small, 3, by and_intros <;> first | rfl | decide⟩,
   ⟨State.small.ringed 2 1 |>.updCapu 3 (fun c => { c with state := 4 }), 3, (State.small.ringed 2 1 |>.updCapu 3 (fun c => { c with state := 4 })).capus.get 3, by and_intros <;> first | rfl | decide⟩,
   ⟨State.hosted State.small |>.updCapu 3 (fun c => { c with state := 4 }), 3, (State.hosted State.small |>.updCapu 3 (fun c => { c with state := 4 })).capus.get 3, by and_intros <;> first | rfl | decide⟩,
   ⟨State.small, 3, by and_intros <;> first | rfl | decide⟩⟩

/-- The hypotheses of `Obligations.HostRegisterAccesses` are met, clause by clause. -/
theorem wit_HostRegisterAccesses :
    (∃ (s : State) (v : BitVec 32), s.hostUp = true ∧ bits v 1 0 ≠ 3) ∧
    (∃ (s : State) (v : BitVec 32), (s.hostUp = false ∨ bits v 1 0 = 3)) ∧
    (∃ (s : State) (o : Fin 25000), s.hostUp = true) ∧
    (∃ (s : State) (o : Fin 25000), s.hostUp = false) ∧
    (∃ s : State, s.hostUp = true) ∧
    (∃ (s : State) (a : BitVec 16) (v : BitVec 32), s.hostUp = true ∧ a.toNat % 4 ≠ 0) ∧
    (∃ (s : State) (v : BitVec 32), s.hostUp = true) ∧
    (∃ (s : State) (v : BitVec 32), s.hostUp = true) ∧
    (∃ (s : State) (v : BitVec 32), s.hostUp = true ∧ s.hi.en = true) ∧
    (∃ (s : State) (v : BitVec 32), s.hostUp = true ∧ s.hi.en = false) ∧
    (∃ (s : State) (n : Fin 48) (v : BitVec 32), s.hostUp = true) ∧
    (∃ (s : State) (a : BitVec 16) (v : BitVec 32), s.hostUp = true ∧ a.toNat % 4 = 0 ∧ (a.toNat < 0x400 ∨ 0x7054 ≤ a.toNat)) ∧
    (∃ (s : State) (a : BitVec 16) (v : BitVec 32), s.hostUp = false ∧ s.recovers = false) :=
  ⟨⟨State.small, 2, by and_intros <;> first | rfl | decide⟩,
   ⟨State.small, 3, by and_intros <;> first | rfl | decide⟩,
   ⟨State.small, 24999, by and_intros <;> first | rfl | decide⟩,
   ⟨State.reset, 0, by and_intros <;> first | rfl | decide⟩,
   ⟨State.small, by and_intros <;> first | rfl | decide⟩,
   ⟨State.small, 1, 0, by and_intros <;> first | rfl | decide⟩,
   ⟨State.small, 0, by and_intros <;> first | rfl | decide⟩,
   ⟨State.small, 0, by and_intros <;> first | rfl | decide⟩,
   ⟨State.small.hosted, 0, by and_intros <;> first | rfl | decide⟩,
   ⟨State.small, 0, by and_intros <;> first | rfl | decide⟩,
   ⟨State.small, 47, 0, by and_intros <;> first | rfl | decide⟩,
   ⟨State.small, 0x7054, 0, by and_intros <;> first | rfl | decide⟩,
   ⟨State.reset, 0x0410, 1, by and_intros <;> first | rfl | decide⟩⟩

/-- The hypotheses of `Obligations.HeartbeatsKeepThePairTogether` are met, clause by clause. -/
theorem wit_HeartbeatsKeepThePairTogether :
    (∃ (s t : State) (m : Model) (bs : List Byte) (off : Nat) (h : PeerHb) (k : Bool), s.LinkPasses t m bs 1 64 64 (BitVec.ofNat 32 (fld bs 12 4)) ∧ h = readHb bs ∧ k = (decide (h.t0 = s.tick.t0) && decide (off ≤ 200)) ∧ s.mod = .active) ∧
    (∃ (s t : State) (m : Model) (bs : List Byte) (off : Nat) (h : PeerHb) (k : Bool), s.LinkPasses t m bs 1 64 64 (BitVec.ofNat 32 (fld bs 12 4)) ∧ h = readHb bs ∧ k = (decide (h.t0 = s.tick.t0) && decide (off ≤ 200)) ∧ s.mod = .standby ∧ Config.rsiVersion.toNat ≤ h.rsi.toNat + 1 ∧ h.rsi.toNat ≤ Config.rsiVersion.toNat + 1 ∧ h.imgDig = s.digest8) ∧
    (∃ (s t : State) (m : Model) (bs : List Byte) (off : Nat) (h : PeerHb) (k : Bool), s.LinkPasses t m bs 1 64 64 (BitVec.ofNat 32 (fld bs 12 4)) ∧ h = readHb bs ∧ k = (decide (h.t0 = s.tick.t0) && decide (off ≤ 200)) ∧ s.mod = .standby ∧ Config.rsiVersion.toNat ≤ h.rsi.toNat + 1 ∧ h.rsi.toNat ≤ Config.rsiVersion.toNat + 1 ∧ h.imgDig ≠ s.digest8 ∧ h.flags.getLsbD 4 = false ∧ (s.tw.state = .synced ∨ s.tw.state = .resync)) ∧
    (∃ (s t : State) (m : Model) (bs : List Byte) (off : Nat) (h : PeerHb) (k : Bool), s.LinkPasses t m bs 1 64 64 (BitVec.ofNat 32 (fld bs 12 4)) ∧ h = readHb bs ∧ k = (decide (h.t0 = s.tick.t0) && decide (off ≤ 200)) ∧ s.mod = .standby ∧ (h.rsi.toNat + 1 < Config.rsiVersion.toNat ∨ Config.rsiVersion.toNat + 1 < h.rsi.toNat) ∧ s.tw.rsiBad = false ∧ h.imgDig = s.digest8 ∧ h.flags.getLsbD 4 = false ∧ (s.tw.state = .synced ∨ s.tw.state = .resync)) ∧
    (∃ (s t : State) (m : Model) (bs : List Byte) (off : Nat) (h : PeerHb) (k : Bool), s.LinkPasses t m bs 1 64 64 (BitVec.ofNat 32 (fld bs 12 4)) ∧ h = readHb bs ∧ k = (decide (h.t0 = s.tick.t0) && decide (off ≤ 200)) ∧ s.mod ≠ .active ∧ s.mod ≠ .standby) ∧
    (∃ (s : State) (m : Model) (bs : List Byte) (off : Nat), s.model = some m ∧ s.linkUp = true ∧ s.linkForm bs 1 64 64 = true ∧ (s.linkGood m bs (BitVec.ofNat 32 (fld bs 12 4)) = false ∨ s.cvSpoilt 15 = true)) ∧
    (∃ (s : State) (m : Model) (bs : List Byte) (off : Nat), s.model = some m ∧ s.linkUp = true ∧ s.linkForm bs 1 64 64 = false) ∧
    (∃ (s : State) (bs : List Byte) (off : Nat), (s.model = none ∨ s.linkUp = false)) ∧
    (∃ s : State, s.twinRole = true ∧ s.tw.peer = true ∧ 8 ≤ s.tw.hbMiss ∧ s.mod = .standby) ∧
    (∃ s : State, s.twinRole = true ∧ s.tw.peer = true ∧ 8 ≤ s.tw.hbMiss ∧ s.mod ≠ .standby) ∧
    (∃ s : State, (s.twinRole = false ∨ s.tw.peer = false ∨ s.tw.hbMiss < 8)) :=
  ⟨⟨State.paired .active 0, (State.paired .active 0).useCv 15 true, Model.pair, checked (hbHdr 4 Config.rsiVersion) 0 (State.linkTag (State.paired .active 0) Model.pair), 200, PeerHb.of 4 Config.rsiVersion, true, ⟨rfl, by decide, linkForm_checked (hdr := (hbHdr 4 Config.rsiVersion)) (yilzKey_length rfl rfl) (Nat.le_of_ble_eq_true rfl) rfl, linkGood_checked (yilzKey_length rfl rfl) _ _, by decide, rfl⟩, (readHb_checked _ _ _ _).symm, rfl, rfl⟩,
   ⟨((State.paired .standby 0).updTw fun t => { t with state := .synced }), (((State.paired .standby 0).updTw fun t => { t with state := .synced })).useCv 15 true, Model.pair, checked (hbHdr 16 Config.rsiVersion) 0 (State.linkTag (((State.paired .standby 0).updTw fun t => { t with state := .synced })) Model.pair), 200, PeerHb.of 16 Config.rsiVersion, true, ⟨rfl, by decide, linkForm_checked (hdr := (hbHdr 16 Config.rsiVersion)) (yilzKey_length rfl rfl) (Nat.le_of_ble_eq_true rfl) rfl, linkGood_checked (yilzKey_length rfl rfl) _ _, by decide, rfl⟩, (readHb_checked _ _ _ _).symm, rfl, rfl, (show ∀ r : BitVec 16, r.toNat ≤ r.toNat + 1 from fun r => by omega) _, (show ∀ r : BitVec 16, r.toNat ≤ r.toNat + 1 from fun r => by omega) _, rfl⟩,
   ⟨(((State.paired .standby 0).updTw fun t => { t with state := .synced })).withModel { Model.pair with digest := [1] }, ((((State.paired .standby 0).updTw fun t => { t with state := .synced })).withModel { Model.pair with digest := [1] }).useCv 15 true, { Model.pair with digest := [1] }, checked (hbHdr 0 Config.rsiVersion) 0 (State.linkTag ((((State.paired .standby 0).updTw fun t => { t with state := .synced })).withModel { Model.pair with digest := [1] }) { Model.pair with digest := [1] }), 201, PeerHb.of 0 Config.rsiVersion, false, ⟨rfl, by decide, linkForm_checked (hdr := (hbHdr 0 Config.rsiVersion)) (yilzKey_length rfl rfl) (Nat.le_of_ble_eq_true rfl) rfl, linkGood_checked (yilzKey_length rfl rfl) _ _, by decide, rfl⟩, (readHb_checked _ _ _ _).symm, rfl, rfl, (show ∀ r : BitVec 16, r.toNat ≤ r.toNat + 1 from fun r => by omega) _, (show ∀ r : BitVec 16, r.toNat ≤ r.toNat + 1 from fun r => by omega) _, by decide, rfl, .inl rfl⟩,
   (by
     obtain ⟨r, hr⟩ := rsi_other
     exact ⟨((State.paired .standby 0).updTw fun t => { t with state := .synced }), (((State.paired .standby 0).updTw fun t => { t with state := .synced })).useCv 15 true, Model.pair, checked (hbHdr 0 r) 0 (State.linkTag (((State.paired .standby 0).updTw fun t => { t with state := .synced })) Model.pair), 0, PeerHb.of 0 r, true, ⟨rfl, by decide, linkForm_checked (hdr := (hbHdr 0 r)) (yilzKey_length rfl rfl) (Nat.le_of_ble_eq_true rfl) rfl, linkGood_checked (yilzKey_length rfl rfl) _ _, by decide, rfl⟩, (readHb_checked _ _ _ _).symm, rfl, rfl, hr, rfl, rfl, by simp [PeerHb.of], .inl rfl⟩),
   ⟨State.paired .safeHold 0, (State.paired .safeHold 0).useCv 15 true, Model.pair, checked (hbHdr 0 Config.rsiVersion) 0 (State.linkTag (State.paired .safeHold 0) Model.pair), 0, PeerHb.of 0 Config.rsiVersion, true, ⟨rfl, by decide, linkForm_checked (hdr := (hbHdr 0 Config.rsiVersion)) (yilzKey_length rfl rfl) (Nat.le_of_ble_eq_true rfl) rfl, linkGood_checked (yilzKey_length rfl rfl) _ _, by decide, rfl⟩, (readHb_checked _ _ _ _).symm, rfl, by decide, by decide⟩,
   ⟨State.paired .active 0, Model.pair, ([1, 1, 64, 0, 2] ++ List.replicate 59 0), 0, ⟨rfl, by decide, by decide, .inl (by decide +kernel)⟩⟩,
   ⟨State.paired .active 0, Model.pair, ([1, 1, 64, 0, 2] ++ List.replicate 59 0).drop 1, 0, by and_intros <;> first | rfl | decide⟩,
   ⟨State.reset, [], 0, by and_intros <;> first | rfl | decide⟩,
   ⟨((State.paired .standby 0).updTw fun t => { t with peer := true, hbMiss := 8 }), by and_intros <;> first | rfl | decide⟩,
   ⟨((State.paired .active 0).updTw fun t => { t with peer := true, hbMiss := 8 }), by and_intros <;> first | rfl | decide⟩,
   ⟨((State.paired .active 0).updTw fun t => { t with peer := true, hbMiss := 7 }), by and_intros <;> first | rfl | decide⟩⟩

/-- The hypotheses of `Obligations.ReplicationReachesTheStandby` are met, clause by clause. -/
theorem wit_ReplicationReachesTheStandby :
    (∃ (s t : State) (m : Model) (bs : List Byte) (want : BitVec 32), s.mod = .standby ∧ (s.follows = .synced ∨ s.follows = .resync) ∧ want = s.epochHave + 1 ∧ s.LinkPasses t m bs 2 48 49152 want ∧ BitVec.ofNat 32 (fld bs 8 4) = want ∧ (s.follows = .resync → 0 < diff32 want s.tw.partsBase) ∧ s.isRetired (.cv 15) = false ∧ t.rsiInUse = some (fld bs 20 2)) ∧
    (∃ (s : State) (m : Model) (bs : List Byte) (want : BitVec 32), s.mod = .standby ∧ (s.tw.state = .synced ∨ s.tw.state = .resync ∧ 0 < diff32 (BitVec.ofNat 32 (fld bs 8 4)) s.tw.partsBase) ∧ want = s.epochHave + 1 ∧ s.model = some m ∧ s.linkUp = true ∧ s.linkForm bs 2 48 49152 = true ∧ (s.linkGood m bs want = false ∨ s.cvSpoilt 15 = true)) ∧
    (∃ (s : State) (bs : List Byte), s.mod = .standby ∧ s.linkUp = true ∧ s.follows ≠ .synced ∧ s.follows ≠ .resync) ∧
    (∃ (s : State) (bs : List Byte), (s.mod ≠ .standby ∨ s.linkUp = false)) ∧
    (∃ (s t : State) (m : Model) (bs : List Byte), s.mod = .standby ∧ s.tw.state = .unsynced ∧ s.LinkPasses t m bs 3 48 49152 (BitVec.ofNat 32 (fld bs 8 4) <<< 5) ∧ fld bs 16 1 = 0 ∧ fld bs 17 1 = 32 ∧ fld bs 24 4 = 0 ∧ bs.length = 48 + fld bs 28 4 ∧ s.isRetired (.cv 15) = false ∧ t.rsiInUse = some (fld bs 18 2) ∧ (s.tw.lastHb.any fun h => h.imgDig = s.digest8) = true) ∧
    (∃ (s t : State) (m : Model) (bs : List Byte) (all : List (Nat × List Byte)), s.mod = .standby ∧ s.tw.state = .resync ∧ s.tw.install = false ∧ s.LinkPasses t m bs 3 48 49152 (BitVec.ofNat 32 (fld bs 8 4) <<< 5 ||| BitVec.ofNat 32 (fld bs 16 1)) ∧ fld bs 16 1 = s.tw.parts.length ∧ s.tw.parts.length < 32 ∧ fld bs 17 1 = 32 ∧ bs.length = 48 + fld bs 28 4 ∧ s.isRetired (.cv 15) = false ∧ t.rsiInUse = some (fld bs 18 2) ∧ BitVec.ofNat 32 (fld bs 8 4) = s.tw.partsT2 ∧ fld bs 20 4 = s.tw.partsBase.toNat ∧ fld bs 32 4 = s.tw.partsCrc.toNat ∧ fld bs 24 4 = (s.tw.parts.map (·.2.length)).sum ∧ all = s.tw.parts ++ [(fld bs 24 4, slice bs 40 (fld bs 28 4))]) ∧
    (∃ (s t : State) (m : Model) (bs : List Byte), s.mod = .standby ∧ s.tw.state = .resync ∧ s.tw.install = false ∧ s.LinkPasses t m bs 3 48 49152 (BitVec.ofNat 32 (fld bs 8 4) <<< 5 ||| BitVec.ofNat 32 (fld bs 16 1)) ∧ fld bs 16 1 ≠ s.tw.parts.length) ∧
    (∃ (s t : State) (m : Model) (bs data : List Byte) (off : Nat) (g : Img) (sync : Bool), s.mod = .standby ∧ off = fld bs 8 4 ∧ s.LinkPasses t m bs 4 32 4096 (BitVec.ofNat 32 off) ∧ data = slice bs 16 (bs.length - 24) ∧ off ≠ 0xFFFFFFFF ∧ (off = 0 ∧ s.img.work = none ∧ (∀ p, s.img.pending = some p → p.origin = .peer ∧ p.applyT2 = none) ∧ g = { s.img with state := .receiving, pending := none, linkBuf := data, linkLen := fld data 8 4, slots := (match s.img.pending with | some p => s.img.slots.put p.slot none | none => s.img.slots) } ∨ 0 < off ∧ off = s.img.linkBuf.length ∧ s.img.state = .receiving ∧ g = { s.img with linkBuf := s.img.linkBuf ++ data }) ∧ sync = (s.tw.lastHb.any fun h => h.imgDig = pad 8 (imgDigest (g.linkBuf.take g.linkLen)) && h.imgDig ≠ s.digest8)) ∧
    (∃ (s t : State) (m : Model) (bs data : List Byte), fld bs 8 4 = 0xFFFFFFFF ∧ s.LinkPasses t m bs 4 32 4096 0xFFFFFFFF ∧ data = slice bs 16 (bs.length - 24) ∧ (s.mod = .active ∨ s.mod = .standby)) :=
  ⟨⟨((State.paired .standby 0).updTw fun t => { t with state := .synced }), (((State.paired .standby 0).updTw fun t => { t with state := .synced })).useCv 15 true, Model.pair, checked (epochHdr 1) 1 (State.linkTag (((State.paired .standby 0).updTw fun t => { t with state := .synced })) Model.pair), 1, rfl, .inl rfl, rfl, ⟨rfl, by decide, linkForm_checked (hdr := (epochHdr 1)) (yilzKey_length rfl rfl) (Nat.le_of_ble_eq_true rfl) rfl, linkGood_checked (yilzKey_length rfl rfl) _ _, by decide, rfl⟩, (congrArg (BitVec.ofNat 32) (fld_checked (hdr := (epochHdr 1)) (off := 8) (n := 4) (by decide))).trans rfl, fun h => absurd h (by decide), rfl, (rsiInUse_own rfl rfl).trans (congrArg some ((fld_checked (hdr := (epochHdr 1)) (off := 20) (n := 2) (by decide)).trans (leNat_word (n := 2) Config.rsiVersion (by norm_num))).symm)⟩,
   ⟨((State.paired .standby 0).updTw fun t => { t with state := .synced }), Model.pair, ([2, 1, 48, 0, 2] ++ List.replicate 43 0), 1, ⟨rfl, .inl rfl, rfl, rfl, by decide, by decide, .inl (by decide +kernel)⟩⟩,
   ⟨((State.paired .standby 0).updTw fun t => { t with state := .unsynced }), [], by and_intros <;> first | rfl | decide⟩,
   ⟨State.reset, [], by and_intros <;> first | rfl | decide⟩,
   ⟨((State.paired .standby 0).updTw fun t => { t with state := .unsynced }), (((State.paired .standby 0).updTw fun t => { t with state := .unsynced })).useCv 15 true, Model.pair, checked (snapHdr 0) 0 (State.linkTag (((State.paired .standby 0).updTw fun t => { t with state := .unsynced })) Model.pair), rfl, rfl, ⟨rfl, by decide, linkForm_checked (hdr := (snapHdr 0)) (yilzKey_length rfl rfl) (Nat.le_of_ble_eq_true rfl) rfl, linkGood_checked (yilzKey_length rfl rfl) _ _, by decide, rfl⟩, (fld_checked (hdr := (snapHdr 0)) (off := 16) (n := 1) (by decide)).trans rfl, (fld_checked (hdr := (snapHdr 0)) (off := 17) (n := 1) (by decide)).trans rfl, (fld_checked (hdr := (snapHdr 0)) (off := 24) (n := 4) (by decide)).trans rfl, checked_length (fun x => linkTag_length x (yilzKey_length rfl rfl)), by decide, (rsiInUse_own rfl rfl).trans (congrArg some ((fld_checked (hdr := (snapHdr 0)) (off := 18) (n := 2) (by decide)).trans (leNat_word (n := 2) Config.rsiVersion (by norm_num))).symm), rfl⟩,
   ⟨((State.paired .standby 0).updTw fun t => { t with state := .resync, parts := List.replicate 31 (0, []) }), (((State.paired .standby 0).updTw fun t => { t with state := .resync, parts := List.replicate 31 (0, []) })).useCv 15 true, Model.pair, checked (snapHdr 31) 31 (State.linkTag (((State.paired .standby 0).updTw fun t => { t with state := .resync, parts := List.replicate 31 (0, []) })) Model.pair), _, rfl, rfl, rfl, ⟨rfl, by decide, linkForm_checked (hdr := (snapHdr 31)) (yilzKey_length rfl rfl) (Nat.le_of_ble_eq_true rfl) rfl, linkGood_checked (yilzKey_length rfl rfl) _ _, by decide, rfl⟩, (fld_checked (hdr := (snapHdr 31)) (off := 16) (n := 1) (by decide)).trans rfl, by decide, (fld_checked (hdr := (snapHdr 31)) (off := 17) (n := 1) (by decide)).trans rfl, checked_length (fun x => linkTag_length x (yilzKey_length rfl rfl)), by decide, (rsiInUse_own rfl rfl).trans (congrArg some ((fld_checked (hdr := (snapHdr 31)) (off := 18) (n := 2) (by decide)).trans (leNat_word (n := 2) Config.rsiVersion (by norm_num))).symm), (congrArg (BitVec.ofNat 32) (fld_checked (hdr := (snapHdr 31)) (off := 8) (n := 4) (by decide))).trans rfl, (fld_checked (hdr := (snapHdr 31)) (off := 20) (n := 4) (by decide)).trans rfl, (fld_checked (hdr := (snapHdr 31)) (off := 32) (n := 4) (by decide)).trans rfl, (fld_checked (hdr := (snapHdr 31)) (off := 24) (n := 4) (by decide)).trans rfl, rfl⟩,
   ⟨((State.paired .standby 0).updTw fun t => { t with state := .resync }), (((State.paired .standby 0).updTw fun t => { t with state := .resync })).useCv 15 true, Model.pair, checked (snapHdr 1) 1 (State.linkTag (((State.paired .standby 0).updTw fun t => { t with state := .resync })) Model.pair), rfl, rfl, rfl, ⟨rfl, by decide, linkForm_checked (hdr := (snapHdr 1)) (yilzKey_length rfl rfl) (Nat.le_of_ble_eq_true rfl) rfl, linkGood_checked (yilzKey_length rfl rfl) _ _, by decide, rfl⟩, (by rw [fld_checked (hdr := (snapHdr 1)) (by decide)]; decide)⟩,
   ⟨State.paired .standby 0, (State.paired .standby 0).useCv 15 true, Model.pair, checked (imageHdr 0) 0 (State.linkTag (State.paired .standby 0) Model.pair), _, 0, _, _, rfl, ((fld_checked (hdr := (imageHdr 0)) (off := 8) (n := 4) (by decide)).trans rfl).symm, ⟨rfl, by decide, linkForm_checked (hdr := (imageHdr 0)) (yilzKey_length rfl rfl) (Nat.le_of_ble_eq_true rfl) rfl, linkGood_checked (yilzKey_length rfl rfl) _ _, by decide, rfl⟩, rfl, by decide, .inl ⟨rfl, rfl, by simp [State.paired, State.inMod, State.withModel, State.reset, Img.zero], rfl⟩, rfl⟩,
   ⟨State.paired .active 0, (State.paired .active 0).useCv 15 true, Model.pair, checked [4, 1, 36, 0, 2, 0, 0, 0, 0xFF, 0xFF, 0xFF, 0xFF, 0, 0, 0, 0, 0, 0, 0, 0, 0, 0, 0, 0, 0, 1, 0, 0] 0xFFFFFFFF (State.linkTag (State.paired .active 0) Model.pair), _, (fld_checked (hdr := [4, 1, 36, 0, 2, 0, 0, 0, 0xFF, 0xFF, 0xFF, 0xFF, 0, 0, 0, 0, 0, 0, 0, 0, 0, 0, 0, 0, 0, 1, 0, 0]) (off := 8) (n := 4) (by decide)).trans rfl, ⟨rfl, by decide, linkForm_checked (hdr := [4, 1, 36, 0, 2, 0, 0, 0, 0xFF, 0xFF, 0xFF, 0xFF, 0, 0, 0, 0, 0, 0, 0, 0, 0, 0, 0, 0, 0, 1, 0, 0]) (yilzKey_length rfl rfl) (Nat.le_of_ble_eq_true rfl) rfl, linkGood_checked (yilzKey_length rfl rfl) _ _, by decide, rfl⟩, rfl, .inl rfl⟩⟩

/-- The hypotheses of `Obligations.LinkLanesAndClaimWords` are met, clause by clause. -/
theorem wit_LinkLanesAndClaimWords :
    (∃ (s : State) (l : Fin 2), s.twinRole = true ∧ s.tw.lanes = 3) ∧
    (∃ (s : State) (l : Fin 2), s.twinRole = true ∧ s.tw.lanes = (if l = 0 then 1 else 2)) ∧
    (∃ (s : State) (l : Fin 2), s.twinRole = true ∧ s.pd 7 = true) ∧
    (∃ s : State, s.twinRole = true ∧ s.pwr.pd0 = true) ∧
    (∃ (s : State) (w : BitVec 64) (c : BitVec 32), s.twinRole = true ∧ s.pwr.pd0 = true ∧ claimOfWord w = some c) ∧
    (∃ (s : State) (w : BitVec 64) (c : BitVec 32), s.twinRole = true ∧ s.pwr.pd0 = true ∧ claimOfWord w = some c ∧ s.tw.claimOwn.toNat < c.toNat ∧ s.tw.gate = true ∧ s.seals.role ≠ 3) ∧
    (∃ (s : State) (w : BitVec 64), s.twinRole = true ∧ s.pwr.pd0 = true ∧ claimOfWord w = none) ∧
    (∃ s : State, s.twinRole = true ∧ s.pwr.pd0 = true) ∧
    (∃ (s : State) (w : BitVec 64), (s.twinRole = false ∨ s.pwr.pd0 = false)) ∧
    (∃ (s : State) (l : Fin 2), (s.twinRole = false ∨ s.tw.lanes.getLsbD l.val = false)) ∧
    (∃ (s : State) (l : Fin 2), (s.twinRole = false ∨ s.pd 7 = false)) :=
  ⟨⟨State.paired .active 0, 1, by and_intros <;> first | rfl | decide⟩,
   ⟨((State.paired .active 0).updTw fun t => { t with lanes := 2 }), 1, by and_intros <;> first | rfl | decide⟩,
   ⟨State.paired .active 0, 1, by and_intros <;> first | rfl | decide⟩,
   ⟨State.paired .active 0, by and_intros <;> first | rfl | decide⟩,
   ⟨State.paired .active 0, BitVec.ofNat 64 (0xA5 * 2 ^ 56 + claimCrc 0), 0, by and_intros <;> first | rfl | decide⟩,
   ⟨((State.paired .active 0).updTw fun t => { t with gate := true }), BitVec.ofNat 64 (0xA5 * 2 ^ 56 + 2 ^ 24 + claimCrc 256), 1, by and_intros <;> first | rfl | decide⟩,
   ⟨State.paired .active 0, 0, by and_intros <;> first | rfl | decide⟩,
   ⟨((State.paired .active 0).updTw fun t => { t with claimOk := true }), by and_intros <;> first | rfl | decide⟩,
   ⟨State.inMod .active, 0, by and_intros <;> first | rfl | decide⟩,
   ⟨((State.paired .active 0).updTw fun t => { t with lanes := 2 }), 0, by and_intros <;> first | rfl | decide⟩,
   ⟨State.inMod .active, 1, by and_intros <;> first | rfl | decide⟩⟩

/-- The hypotheses of `Obligations.LeasesRunAndEnd` are met, clause by clause. -/
theorem wit_LeasesRunAndEnd :
    (∃ s : State, s.negotiates = true ∧ 64 ≤ s.tw.listen ∧ s.tw.asking = false ∧ s.peerActive = false) ∧
    (∃ s : State, s.negotiates = true ∧ 64 ≤ s.tw.listen ∧ s.tw.asking = false ∧ s.peerActive = true) ∧
    (∃ s : State, (s.negotiates = false ∨ s.tw.listen < 64 ∨ s.tw.asking = true)) ∧
    (∃ (s t n : State) (fr : Frame) (m : Model) (i : Nat) (r : NodeRec) (c₀ c : Conn) (q : LeaseReq), s.WitPasses t n fr 0 0x31 12 i m r c₀ c ∧ s.twinRole = true ∧ n.tw.reqs.find? (·.seq = BitVec.ofNat 16 (fld (slice fr.data 20 12) 2 2)) = some q ∧ q.kind = 2 ∧ fld (slice fr.data 20 12) 1 1 = s.ownSlot ∧ fld (slice fr.data 20 12) 0 1 = 1 ∧ fld (slice fr.data 20 12) 4 4 = n.tw.claimOwn.toNat) ∧
    (∃ (s t n : State) (fr : Frame) (m : Model) (i : Nat) (r : NodeRec) (c₀ c : Conn) (q : LeaseReq), s.WitPasses t n fr 0 0x31 12 i m r c₀ c ∧ s.twinRole = true ∧ n.tw.reqs.find? (·.seq = BitVec.ofNat 16 (fld (slice fr.data 20 12) 2 2)) = some q ∧ q.kind = 2 ∧ fld (slice fr.data 20 12) 1 1 = s.ownSlot ∧ fld (slice fr.data 20 12) 0 1 = 2) ∧
    (∃ (s t n : State) (fr : Frame) (m : Model) (i : Nat) (r : NodeRec) (c₀ c : Conn) (q : LeaseReq), s.WitPasses t n fr 0 0x31 12 i m r c₀ c ∧ s.twinRole = true ∧ n.tw.reqs.find? (·.seq = BitVec.ofNat 16 (fld (slice fr.data 20 12) 2 2)) = some q ∧ q.kind = 1 ∧ fld (slice fr.data 20 12) 1 1 = s.ownSlot ∧ fld (slice fr.data 20 12) 0 1 = 0) ∧
    (∃ (s t n : State) (fr : Frame) (m : Model) (i : Nat) (r : NodeRec) (c₀ c : Conn) (q : LeaseReq) (z : Nat), s.WitPasses t n fr 0 0x31 12 i m r c₀ c ∧ s.twinRole = true ∧ n.tw.reqs.find? (·.seq = BitVec.ofNat 16 (fld (slice fr.data 20 12) 2 2)) = some q ∧ z = fld (slice fr.data 20 12) 0 1 ∧ fld (slice fr.data 20 12) 1 1 = s.ownSlot ∧ ¬ (z = 0 ∧ q.kind = 1) ∧ ¬ (z = 2 ∧ q.kind = 2) ∧ ¬ (z = 1 ∧ q.kind = 2 ∧ fld (slice fr.data 20 12) 4 4 = n.tw.claimOwn.toNat)) ∧
    (∃ (s t n : State) (fr : Frame) (m : Model) (i : Nat) (r : NodeRec) (c₀ c : Conn), s.WitPasses t n fr 0 0x31 12 i m r c₀ c ∧ s.twinRole = true ∧ (n.tw.reqs.find? (·.seq = BitVec.ofNat 16 (fld (slice fr.data 20 12) 2 2)) = none ∨ fld (slice fr.data 20 12) 1 1 ≠ s.ownSlot)) ∧
    (∃ s : State, s.twinRole = true) ∧
    (∃ s : State, s.twinRole = true ∧ s.mod = .safeHold ∧ s.tw.gate = true ∧ s.tw.wLease ≤ 250 ∧ s.tw.pLease ≤ 250) ∧
    (∃ s : State, s.twinRole = true ∧ s.mod ≠ .safeHold ∧ s.tw.gate = true ∧ s.tw.wLease ≤ 250 ∧ s.tw.pLease ≤ 250) ∧
    (∃ s : State, s.twinRole = false) ∧
    (∃ s : State, s.mod = .safeHold ∧ s.twinRole = true ∧ s.tw.gate = true ∧ s.tw.released = false ∧ s.allStill = true ∧ s.allOff = true) ∧
    (∃ s : State, (s.mod ≠ .safeHold ∨ s.twinRole = false ∨ s.tw.gate = false ∨ s.tw.released = true ∨ s.allStill = false ∨ s.allOff = false)) :=
  ⟨⟨((State.paired .config 0).updTw fun t => { t with listen := 64 }), by and_intros <;> first | rfl | decide⟩,
   ⟨((State.paired .config 0).updTw fun t => { t with listen := 64, lastHb := some { PeerHb.own with state := 4 } }), by and_intros <;> first | rfl | decide⟩,
   ⟨((State.paired .config 0).updTw fun t => { t with listen := 63 }), by and_intros <;> first | rfl | decide⟩,
   ⟨((State.paired .active 0).updTw fun t => { t with reqs := [⟨1, 0, 2⟩] }), (((State.paired .active 0).updTw fun t => { t with reqs := [⟨1, 0, 2⟩] })).heardOn 0, _, Frame.safe 0x1F0 0x31 12 [1, 1, 1, 0, 0, 0, 0, 0, 0, 0, 0, 0], Model.pair, 0, NodeRec.at0 .wit 0, Conn.heard, _, ⟨1, 0, 2⟩, ⟨hear_open rfl rfl (by decide), rfl, by decide, ⟨by decide, rfl, by decide⟩, by decide, rfl, rfl, (checkWit_checked (hdr := safetyHdr 0x31 12 [1, 1, 1, 0, 0, 0, 0, 0, 0, 0, 0, 0]) (plen := 12) ⟨rfl, rfl, rfl, rfl, rfl, rfl, leNat_word (n := 4) Config.moduleId (by norm_num), rfl⟩ rfl (by decide) rfl rfl).trans rfl, rfl⟩, rfl, rfl, rfl, rfl, rfl, rfl⟩,
   ⟨((State.paired .active 0).updTw fun t => { t with reqs := [⟨1, 0, 2⟩] }), (((State.paired .active 0).updTw fun t => { t with reqs := [⟨1, 0, 2⟩] })).heardOn 0, _, Frame.safe 0x1F0 0x31 12 [2, 1, 1, 0, 0, 0, 0, 0, 0, 0, 0, 0], Model.pair, 0, NodeRec.at0 .wit 0, Conn.heard, _, ⟨1, 0, 2⟩, ⟨hear_open rfl rfl (by decide), rfl, by decide, ⟨by decide, rfl, by decide⟩, by decide, rfl, rfl, (checkWit_checked (hdr := safetyHdr 0x31 12 [2, 1, 1, 0, 0, 0, 0, 0, 0, 0, 0, 0]) (plen := 12) ⟨rfl, rfl, rfl, rfl, rfl, rfl, leNat_word (n := 4) Config.moduleId (by norm_num), rfl⟩ rfl (by decide) rfl rfl).trans rfl, rfl⟩, rfl, rfl, rfl, rfl, rfl⟩,
   ⟨((State.paired .config 0).updTw fun t => { t with reqs := [⟨1, 0, 1⟩] }), (((State.paired .config 0).updTw fun t => { t with reqs := [⟨1, 0, 1⟩] })).heardOn 0, _, Frame.safe 0x1F0 0x31 12 [0, 1, 1, 0, 1, 0, 0, 0, 0, 0, 0, 0], Model.pair, 0, NodeRec.at0 .wit 0, Conn.heard, _, ⟨1, 0, 1⟩, ⟨hear_open rfl rfl (by decide), rfl, by decide, ⟨by decide, rfl, by decide⟩, by decide, rfl, rfl, (checkWit_checked (hdr := safetyHdr 0x31 12 [0, 1, 1, 0, 1, 0, 0, 0, 0, 0, 0, 0]) (plen := 12) ⟨rfl, rfl, rfl, rfl, rfl, rfl, leNat_word (n := 4) Config.moduleId (by norm_num), rfl⟩ rfl (by decide) rfl rfl).trans rfl, rfl⟩, rfl, rfl, rfl, rfl, rfl⟩,
   ⟨((State.paired .active 0).updTw fun t => { t with reqs := [⟨1, 0, 2⟩] }), (((State.paired .active 0).updTw fun t => { t with reqs := [⟨1, 0, 2⟩] })).heardOn 0, _, Frame.safe 0x1F0 0x31 12 [1, 1, 1, 0, 1, 0, 0, 0, 0, 0, 0, 0], Model.pair, 0, NodeRec.at0 .wit 0, Conn.heard, _, ⟨1, 0, 2⟩, 1, ⟨hear_open rfl rfl (by decide), rfl, by decide, ⟨by decide, rfl, by decide⟩, by decide, rfl, rfl, (checkWit_checked (hdr := safetyHdr 0x31 12 [1, 1, 1, 0, 1, 0, 0, 0, 0, 0, 0, 0]) (plen := 12) ⟨rfl, rfl, rfl, rfl, rfl, rfl, leNat_word (n := 4) Config.moduleId (by norm_num), rfl⟩ rfl (by decide) rfl rfl).trans rfl, rfl⟩, rfl, rfl, rfl, rfl, by decide, by decide, by decide⟩,
   ⟨((State.paired .active 0).updTw fun t => { t with reqs := [⟨1, 0, 2⟩] }), (((State.paired .active 0).updTw fun t => { t with reqs := [⟨1, 0, 2⟩] })).heardOn 0, _, Frame.safe 0x1F0 0x31 12 [1, 2, 1, 0, 0, 0, 0, 0, 0, 0, 0, 0], Model.pair, 0, NodeRec.at0 .wit 0, Conn.heard, _, ⟨hear_open rfl rfl (by decide), rfl, by decide, ⟨by decide, rfl, by decide⟩, by decide, rfl, rfl, (checkWit_checked (hdr := safetyHdr 0x31 12 [1, 2, 1, 0, 0, 0, 0, 0, 0, 0, 0, 0]) (plen := 12) ⟨rfl, rfl, rfl, rfl, rfl, rfl, leNat_word (n := 4) Config.moduleId (by norm_num), rfl⟩ rfl (by decide) rfl rfl).trans rfl, rfl⟩, rfl, .inr (by decide)⟩,
   ⟨((State.paired .active 0).updTw fun t => { t with gate := true, wLease := 250, pLease := 250 }), by and_intros <;> first | rfl | decide⟩,
   ⟨((State.paired .safeHold 0).updTw fun t => { t with gate := true, wLease := 250, pLease := 250 }), by and_intros <;> first | rfl | decide⟩,
   ⟨((State.paired .active 0).updTw fun t => { t with gate := true, wLease := 250, pLease := 250 }), by and_intros <;> first | rfl | decide⟩,
   ⟨State.inMod .active, by and_intros <;> first | rfl | decide⟩,
   ⟨((State.paired .safeHold 0).updTw fun t => { t with gate := true }).updLv 0 (fun l => { l with torqueOff := true, still := true }), by and_intros <;> first | rfl | decide⟩,
   ⟨State.paired .safeHold 0, by and_intros <;> first | rfl | decide⟩⟩

/-- The hypotheses of `Obligations.TheWitnessGrantsOneHolder` are met, clause by clause. -/
theorem wit_TheWitnessGrantsOneHolder :
    (∃ (s t n : State) (fr : Frame) (m : Model) (k i : Nat) (r : NodeRec) (c₀ c : Conn) (z : Int), s.mod = .witness ∧ (k = 1 ∨ k = 2) ∧ s.WitPasses t n fr k 0x30 8 i m r c₀ c ∧ fld (slice fr.data 20 8) 1 1 = k ∧ z = diff32 fr.sof n.stamp) ∧
    (∃ (w : Wit) (kind k : Nat) (held : BitVec 32) (z : Int), z < w.quiet ∧ witAnswer w kind k held z = (3, w)) ∧
    (∃ (w : Wit) (k : Nat) (held : BitVec 32) (z : Int), w.quiet ≤ z ∧ (w.holder = k ∧ held = w.hclaim ∨ w.holder = 0 ∧ w.granted = false ∧ w.bound < held.toNat / 256 + 16 ∧ held.toNat / 256 ≤ w.bound ∧ held.toNat % 256 = k) ∧ witAnswer w 2 k held z = (1, { w with holder := k, hclaim := held, exp := z + 16000 })) ∧
    (∃ (w : Wit) (k : Nat) (held : BitVec 32) (z : Int), w.quiet ≤ z ∧ (w.holder = 0 ∨ w.exp ≤ z) ∧ witAnswer w 1 k held z = if w.epoch = 0xFFFFFF then (4, w) else (0, { w with epoch := w.epoch + 1, bound := if w.bound < w.epoch + 1 then w.epoch + 1 + 15 else w.bound, holder := k, hclaim := BitVec.ofNat 32 ((w.epoch + 1) * 256 + k), exp := z + 16000, granted := true })) ∧
    (∃ (w : Wit) (kind k : Nat) (held : BitVec 32) (z : Int), w.quiet ≤ z ∧ (kind = 1 → w.holder ≠ 0 ∧ z < w.exp) ∧ (kind = 2 → (w.holder = k → held ≠ w.hclaim) ∧ (w.holder = 0 → w.granted = true ∨ held.toNat / 256 + 16 ≤ w.bound ∨ w.bound < held.toNat / 256 ∨ held.toNat % 256 ≠ k)) ∧ witAnswer w kind k held z = (2, w)) ∧
    (∃ (s t n : State) (fr : Frame) (m : Model) (k i : Nat) (r : NodeRec) (c₀ c : Conn), s.mod = .witness ∧ (k = 1 ∨ k = 2) ∧ s.WitPasses t n fr k 0x30 8 i m r c₀ c ∧ fld (slice fr.data 20 8) 1 1 ≠ k) ∧
    (∃ (s : State) (fr : Frame), s.mod ≠ .witness) ∧
    (∃ (s t n : State) (fr : Frame) (m : Model) (k i : Nat) (r : NodeRec) (c₀ c : Conn), s.mod = .witness ∧ (k = 1 ∨ k = 2) ∧ s.WitPasses t n fr k 0x32 4 i m r c₀ c ∧ n.tw.wit.holder = k ∧ fld fr.data 20 4 = n.tw.wit.hclaim.toNat) ∧
    (∃ (s t n : State) (fr : Frame) (m : Model) (k i : Nat) (r : NodeRec) (c₀ c : Conn), s.mod = .witness ∧ (k = 1 ∨ k = 2) ∧ s.WitPasses t n fr k 0x32 4 i m r c₀ c ∧ (n.tw.wit.holder ≠ k ∨ fld fr.data 20 4 ≠ n.tw.wit.hclaim.toNat)) ∧
    (∃ (s : State) (m : Model) (i j : Nat) (a b : NodeRec) (c d : Conn), s.mod = .witness ∧ s.tick.t0.toNat % 16 = 0 ∧ s.model = some m ∧ m.wit? 1 = some i ∧ m.wit? 2 = some j ∧ i ≠ j ∧ m.nodes[i]? = some a ∧ m.nodes[j]? = some b ∧ s.conns[i]? = some c ∧ s.conns[j]? = some d) ∧
    (∃ (s t n : State) (fr : Frame) (m : Model) (i : Nat) (r : NodeRec) (c₀ c : Conn), s.twinRole = true ∧ s.WitPasses t n fr 0 0x33 8 i m r c₀ c) :=
  ⟨⟨((State.paired .witness 2).updTw fun t => { t with wit := { t.wit with quiet := 1 } }), (((State.paired .witness 2).updTw fun t => { t with wit := { t.wit with quiet := 1 } })).heardOn 0, _, Frame.safe 0x1F1 0x30 8 [1, 1, 0, 0, 0, 0, 0, 0], Model.pair, 1, 1, NodeRec.at0 .wit 1, Conn.heard, _, _, rfl, .inl rfl, ⟨hear_open rfl rfl (by decide), rfl, by decide, ⟨by decide, rfl, by decide⟩, by decide, rfl, rfl, (checkWit_checked (hdr := safetyHdr 0x30 8 [1, 1, 0, 0, 0, 0, 0, 0]) (plen := 8) ⟨rfl, rfl, rfl, rfl, rfl, rfl, leNat_word (n := 4) Config.moduleId (by norm_num), rfl⟩ rfl (by decide) rfl rfl).trans rfl, rfl⟩, rfl, rfl⟩,
   ⟨{ Wit.zero with quiet := 1 }, 1, 1, 0, 0, by and_intros <;> first | rfl | decide⟩,
   ⟨{ Wit.zero with holder := 1, hclaim := 1 }, 1, 1, 0, by decide⟩,
   ⟨{ Wit.zero with holder := 2, exp := 1 }, 1, 0, 1, by decide⟩,
   ⟨{ Wit.zero with holder := 2, exp := 1 }, 1, 1, 0, 0, by decide⟩,
   ⟨((State.paired .witness 2).updTw fun t => { t with wit := { t.wit with quiet := 1 } }), (((State.paired .witness 2).updTw fun t => { t with wit := { t.wit with quiet := 1 } })).heardOn 0, _, Frame.safe 0x1F1 0x30 8 [1, 2, 0, 0, 0, 0, 0, 0], Model.pair, 1, 1, NodeRec.at0 .wit 1, Conn.heard, _, rfl, .inl rfl, ⟨hear_open rfl rfl (by decide), rfl, by decide, ⟨by decide, rfl, by decide⟩, by decide, rfl, rfl, (checkWit_checked (hdr := safetyHdr 0x30 8 [1, 2, 0, 0, 0, 0, 0, 0]) (plen := 8) ⟨rfl, rfl, rfl, rfl, rfl, rfl, leNat_word (n := 4) Config.moduleId (by norm_num), rfl⟩ rfl (by decide) rfl rfl).trans rfl, rfl⟩, by decide⟩,
   ⟨State.reset, Frame.plain 0, by and_intros <;> first | rfl | decide⟩,
   ⟨((State.paired .witness 2).updTw fun t => { t with wit := { t.wit with holder := 1, hclaim := 1 } }), (((State.paired .witness 2).updTw fun t => { t with wit := { t.wit with holder := 1, hclaim := 1 } })).heardOn 0, _, Frame.safe 0x1F1 0x32 4 [1, 0, 0, 0], Model.pair, 1, 1, NodeRec.at0 .wit 1, Conn.heard, _, rfl, .inl rfl, ⟨hear_open rfl rfl (by decide), rfl, by decide, ⟨by decide, rfl, by decide⟩, by decide, rfl, rfl, (checkWit_checked (hdr := safetyHdr 0x32 4 [1, 0, 0, 0]) (plen := 4) ⟨rfl, rfl, rfl, rfl, rfl, rfl, leNat_word (n := 4) Config.moduleId (by norm_num), rfl⟩ rfl (by decide) rfl rfl).trans rfl, rfl⟩, rfl, rfl⟩,
   ⟨((State.paired .witness 2).updTw fun t => { t with wit := { t.wit with holder := 2, hclaim := 1 } }), (((State.paired .witness 2).updTw fun t => { t with wit := { t.wit with holder := 2, hclaim := 1 } })).heardOn 0, _, Frame.safe 0x1F1 0x32 4 [1, 0, 0, 0], Model.pair, 1, 1, NodeRec.at0 .wit 1, Conn.heard, _, rfl, .inl rfl, ⟨hear_open rfl rfl (by decide), rfl, by decide, ⟨by decide, rfl, by decide⟩, by decide, rfl, rfl, (checkWit_checked (hdr := safetyHdr 0x32 4 [1, 0, 0, 0]) (plen := 4) ⟨rfl, rfl, rfl, rfl, rfl, rfl, leNat_word (n := 4) Config.moduleId (by norm_num), rfl⟩ rfl (by decide) rfl rfl).trans rfl, rfl⟩, .inl (by decide)⟩,
   ⟨State.paired .witness 2, Model.pair, 1, 2, NodeRec.at0 .wit 1, NodeRec.at0 .wit 2, Conn.heard, Conn.heard, by and_intros <;> first | rfl | decide⟩,
   ⟨State.paired .active 0, (State.paired .active 0).heardOn 0, _, Frame.safe 0x1F0 0x33 8 (List.replicate 8 0), Model.pair, 0, NodeRec.at0 .wit 0, Conn.heard, _, rfl, ⟨hear_open rfl rfl (by decide), rfl, by decide, ⟨by decide, rfl, by decide⟩, by decide, rfl, rfl, (checkWit_checked (hdr := safetyHdr 0x33 8 (List.replicate 8 0)) (plen := 8) ⟨rfl, rfl, rfl, rfl, rfl, rfl, leNat_word (n := 4) Config.moduleId (by norm_num), rfl⟩ rfl (by decide) rfl rfl).trans rfl, rfl⟩⟩⟩

/-- The hypotheses of `Obligations.FaultMessagesAndTests` are met, clause by clause. -/
theorem wit_FaultMessagesAndTests :
    (∃ (s : State) (m : FaultMsg) (r : BitVec 5), s.mod ≠ .off ∧ sourceExists m.source.toNat = true ∧ m.cls ≠ 0 ∧ (unitOf m).any s.silenced = false ∧ (m.cls = 1 → countOf s.fc.countC m.source < 8 ∧ batchFull s.fc.batch = false) ∧ ¬ (0x90 ≤ m.source.toNat ∧ m.source.toNat < 0xA0 ∧ m.kind = 1) ∧ ¬ ((m.source = 0x76 ∨ m.source = 0x77) ∧ m.kind = 1) ∧ s.mod ≠ .boot ∧ r = reactionOf s.fc m.source.toNat m.cls) ∧
    (∃ (s : State) (m : FaultMsg), s.mod ≠ .off ∧ s.mod ≠ .boot ∧ m.source = 0xA0 ∧ m.cls = 2 ∧ (reactionOf s.fc 0xA0 2).getLsbD 2 = true) ∧
    (∃ (s : State) (m : FaultMsg) (k : Fin 16), s.mod ≠ .off ∧ s.mod ≠ .boot ∧ m.source.toNat = 0x90 + k.val ∧ m.kind = 1 ∧ m.cls = 2 ∧ s.isRetired (.cv k) = false) ∧
    (∃ (s : State) (m : FaultMsg) (lc : Fin 2), s.mod ≠ .off ∧ s.mod ≠ .boot ∧ m.source.toNat = 0x76 + lc.val ∧ m.kind = 1 ∧ m.cls = 2 ∧ s.isRetired (.levee lc) = false ∧ .levee lc ∉ s.spill.abandoned) ∧
    (∃ (s : State) (m : FaultMsg), s.mod = .boot ∧ sourceExists m.source.toNat = true ∧ m.cls = 3 ∧ (unitOf m).any s.silenced = false ∧ s.failsSlot m = false ∧ s.pwr.boot.failed = false) ∧
    (∃ (s : State) (m : FaultMsg), s.mod ≠ .off ∧ s.mod ≠ .boot ∧ sourceExists m.source.toNat = true ∧ m.cls = 1 ∧ ¬ (0x90 ≤ m.source.toNat ∧ m.source.toNat < 0xA0) ∧ m.source ≠ 0x76 ∧ m.source ≠ 0x77 ∧ (unitOf m).any s.silenced = false ∧ (8 ≤ countOf s.fc.countC m.source ∨ batchFull s.fc.batch = true)) ∧
    (∃ (s : State) (m : FaultMsg), s.mod ≠ .boot ∧ m.source.toNat < 0x70 ∧ (unitOf m).any s.silenced = true) ∧
    (∃ (s : State) (m : FaultMsg), (s.mod = .off ∨ sourceExists m.source.toNat = false)) ∧
    (∃ (s : State) (u : TestUnit) (t : TestRun), s.fc.tests.find? (fun t => t.unit = u && t.running && decide (testT0 u ≤ t.age)) = some t ∧ ((passesOf s.fc.hist u).filter fun x => s.fc.powered - x < dayT0).length < 2) ∧
    (∃ (s : State) (u : TestUnit) (t : TestRun), s.fc.tests.find? (fun t => t.unit = u && t.running && decide (testT0 u ≤ t.age)) = some t ∧ 2 ≤ ((passesOf s.fc.hist u).filter fun x => s.fc.powered - x < dayT0).length ∧ s.sramRetired < 32) ∧
    (∃ (s : State) (n : Fin 48) (t : TestRun), s.fc.tests.find? (fun t => t.unit = TestUnit.port n && t.running && decide (testT0 (.port n) ≤ t.age)) = some t ∧ ((passesOf s.fc.hist (.port n)).filter fun x => s.fc.powered - x < dayT0).length < 2 ∧ s.fc.clearing = none) ∧
    (∃ (s : State) (u : TestUnit) (t : TestRun), s.fc.tests.find? (fun t => t.unit = u && t.running && decide (testT0 u ≤ t.age)) = some t ∧ s.sramRetired < 32) ∧
    (∃ (s : State) (i j : Fin 96) (t : TestRun), s.fc.tests.find? (fun t => t.unit = TestUnit.channel i && t.running && decide (testT0 (.channel i) ≤ t.age)) = some t) ∧
    (∃ (s : State) (u : TestUnit) (r : TestResult), s.fc.tests.find? (fun t => t.unit = u && t.running && decide (testT0 u ≤ t.age)) = none) :=
  ⟨⟨State.small, FaultMsg.of 0x2F 1, reactionOf State.small.fc 0x2F 1, by and_intros <;> first | rfl | decide⟩,
   ⟨State.small, FaultMsg.of 0xA0 2, by and_intros <;> first | rfl | decide⟩,
   ⟨State.small, FaultMsg.of 0x9F 2, 15, by and_intros <;> first | rfl | decide⟩,
   ⟨State.small, FaultMsg.of 0x77 2, 1, by and_intros <;> first | rfl | decide⟩,
   ⟨State.inMod .boot, FaultMsg.of 0xF2 3, by and_intros <;> first | rfl | decide⟩,
   ⟨{ State.small with fc := { Fc.zero with countC := [(0x2F, 8)] } }, FaultMsg.of 0x2F 1, by and_intros <;> first | rfl | decide | exact .inl (by decide)⟩,
   ⟨{ State.small with fc := { Fc.zero with retired := [.port 47] } }, FaultMsg.of 0x2F 1, by and_intros <;> first | rfl | decide⟩,
   ⟨State.reset, FaultMsg.of 0x2F 1, by and_intros <;> first | rfl | decide⟩,
   ⟨{ State.small with fc := { Fc.zero with tests := [TestRun.port] } }, .port 47, TestRun.port, by and_intros <;> first | rfl | decide⟩,
   ⟨{ State.small with fc := { Fc.zero with tests := [TestRun.port], hist := [⟨.port 47, [0, 0]⟩] } }, .port 47, TestRun.port, by and_intros <;> first | rfl | decide⟩,
   ⟨{ State.small with fc := { Fc.zero with tests := [TestRun.port] } }, 47, TestRun.port, by and_intros <;> first | rfl | decide⟩,
   ⟨{ State.small with fc := { Fc.zero with tests := [TestRun.port] } }, .port 47, TestRun.port, by and_intros <;> first | rfl | decide⟩,
   ⟨{ State.small with fc := { Fc.zero with tests := [{ TestRun.port with unit := .channel 95, age := 100000 }] } }, 95, 0, { TestRun.port with unit := .channel 95, age := 100000 }, by and_intros <;> first | rfl | decide⟩,
   ⟨State.small, .port 47, .pass, by and_intros <;> first | rfl | decide⟩⟩

end Sys2Proof.Machine
end

section
/-! How a command leaves the timebase, the last heartbeat, the queue and the building model: the counters of R19 in natural numbers,
the boundaries, and every other command. -/

namespace Sys2Proof.Machine

open State

/-! The relations of the counters as equations between numbers. -/

/-- The third relation of R19 follows from the other two. -/
theorem countersAgree_iff (t0 t1 t2 : BitVec 32) :
    CountersAgree t0 t1 t2 ↔ t1.toNat % 2 ^ 29 = t0.toNat / 8 ∧ t2.toNat % 2 ^ 27 = t1.toNat / 32 % 2 ^ 27 := by
  have h0 := t0.isLt
  unfold CountersAgree
  simp only [← BitVec.toNat_inj, BitVec.extractLsb'_toNat, Nat.shiftRight_eq_div_pow]
  omega

/-- What `Tick.Agree` says, with the two parts that may be ahead or behind taken into the equations. -/
theorem Tick.agree_iff (t : Tick) :
    t.Agree ↔ (t.t1Seen.toNat % 2 ^ 29 = t.t0.toNat / 8 ∧ t.t2Seen.toNat % 2 ^ 27 = t.t1Seen.toNat / 32 % 2 ^ 27) ∧
      (t.t1Due → t.t0.toNat % 8 = 0) ∧ (t.t2Done → t.t0.toNat % 256 = 255 ∧ t.t1Due = false) := by
  unfold Tick.Agree
  rw [countersAgree_iff]

theorem Tick.agree_reset : State.reset.tick.Agree :=
  ⟨⟨by decide, by decide, by decide⟩, by decide, by decide⟩

theorem State.reset_countersInv : State.reset.CountersInv := ⟨Tick.agree_reset, by simp [State.reset, Tw.zero]⟩

/-- The counters of the first boundary: all parts at 0, the T1 part still to come (R17). -/
theorem Tick.agree_start {t : Tick} (h0 : t.t0 = 0) (h1 : t.t1 = -1) (h2 : t.t2 = 0) (hd : t.t1Due = true) (hn : t.t2Done = false) :
    t.Agree := by
  rw [Tick.agree_iff]
  simp [Tick.t1Seen, Tick.t2Seen, h0, h1, h2, hd, hn]

/-- One T0 on: a T1 part that was due counts as made, a T2 part at the end of a T2 is made up. -/
def Tick.next (t : Tick) (d : Int) : Tick :=
  { t with t0 := t.t0 + 1, t1 := if t.t1Due then t.t1 + 1 else t.t1,
           t2 := if t.t0.toNat % 256 = 255 && !t.t2Done then t.t2 + 1 else t.t2,
           t1Due := (t.t0 + 1).toNat % 8 = 0, t2Done := false, tb := t.tb + BitVec.ofInt 64 d }

theorem Tick.next_agree {t : Tick} (h : t.Agree) (d : Int) : (t.next d).Agree := by
  have l0 := t.t0.isLt
  have l1 := t.t1Seen.isLt
  have l2 := t.t2.isLt
  rw [Tick.agree_iff] at h ⊢
  obtain ⟨⟨e1, e2⟩, -, hn⟩ := h
  have t1Seen : (t.next d).t1Seen.toNat = if (t.t0.toNat + 1) % 2 ^ 32 % 8 = 0 then (t.t1Seen.toNat + 1) % 2 ^ 32 else t.t1Seen.toNat := by
    have e : (t.t0 + 1).toNat = (t.t0.toNat + 1) % 2 ^ 32 := BitVec.toNat_add ..
    rw [← e]
    by_cases hd : (t.t0 + 1).toNat % 8 = 0
    · simp only [Tick.next, Tick.t1Seen, hd, decide_true, if_true]
      exact BitVec.toNat_add ..
    · simp only [Tick.next, Tick.t1Seen, hd, decide_false, if_false, Bool.false_eq_true]
  have t2Seen : (t.next d).t2Seen.toNat = if t.t0.toNat % 256 = 255 then (t.t2Seen.toNat + 1) % 2 ^ 32 else t.t2Seen.toNat := by
    cases hd : t.t2Done
    · by_cases h0 : t.t0.toNat % 256 = 255
      · simp only [Tick.next, Tick.t2Seen, hd, h0, if_true]
        exact BitVec.toNat_add ..
      · simp [Tick.next, Tick.t2Seen, hd, h0]
    · simp [Tick.next, Tick.t2Seen, hd, (hn hd).1]
      omega
  have t0 : (t.next d).t0.toNat = (t.t0.toNat + 1) % 2 ^ 32 := BitVec.toNat_add ..
  have due : (t.next d).t1Due = decide ((t.t0.toNat + 1) % 2 ^ 32 % 8 = 0) := rfl
  rw [t1Seen, t2Seen, t0, due]
  refine ⟨⟨?_, ?_⟩, by simp, fun h => Bool.noConfusion h⟩
  · split <;> omega
  · split <;> split <;> omega

/-- Counters taken over from a heartbeat that agrees, moved on by its age, agree (R20). -/
theorem adoptTicks_agree {t : Tick} {h : PeerHb} (hh : CountersAgree h.t0 h.t1 h.t2) (ht : t.t2Done = false) (age : Nat) :
    (adoptTicks t h age).Agree := by
  have l0 := h.t0.isLt
  have l1 := h.t1.isLt
  have l2 := h.t2.isLt
  obtain ⟨e1, e2⟩ := (countersAgree_iff ..).mp hh
  rw [Tick.agree_iff]
  have t1Seen : (adoptTicks t h age).t1Seen = h.t1 + BitVec.ofNat 32 ((h.t0.toNat % 8 + age) / 8) := by
    simp only [adoptTicks, Tick.t1Seen, decide_eq_true_eq]
    split <;> simp
  have t2Seen : (adoptTicks t h age).t2Seen = h.t2 + BitVec.ofNat 32 ((h.t1.toNat % 32 + (h.t0.toNat % 8 + age) / 8) / 32) := by
    simp [adoptTicks, Tick.t2Seen, ht]
  have t0 : (adoptTicks t h age).t0 = h.t0 + BitVec.ofNat 32 age := rfl
  refine ⟨?_, by simp [adoptTicks], fun h' => by simp [adoptTicks, ht] at h'⟩
  rw [t1Seen, t2Seen, t0]
  simp only [BitVec.toNat_add, BitVec.toNat_ofNat]
  constructor <;> omega

/-- What a T0 boundary can do to the timebase: the first one starts it; a later one goes one T0 on, or takes over the counters of the
last heartbeat where an adoption is due. -/
theorem State.advance_cases (s : State) (adj : Int) :
    (s.tick.started = false ∧ (s.advance adj).tick =
        { s.tick with started := true, tb0 := BitVec.ofNat 64 (s.take.1.toNat % 25000), tb := BitVec.ofNat 64 (s.take.1.toNat % 25000),
                      t0 := 0, t1 := -1, t2 := 0, t1Due := true, t2Done := false }) ∨
    (s.tick.started = true ∧ ∃ d, d = 25000 + (if s.mod = .standby then clamp adj (-100) 100 else 0) ∧
      ((s.tw.lastHb = none ∨ s.tw.adopt ≠ 1) ∧ (s.advance adj).tick = s.tick.next d ∨
        ∃ h, s.tw.lastHb = some h ∧ s.tw.adopt = 1 ∧ (s.advance adj).tick = adoptTicks (s.tick.next d) h (s.tw.hbAge + 1))) := by
  cases hs : s.tick.started
  · exact .inl ⟨rfl, by simp [State.advance, hs]⟩
  · refine .inr ⟨rfl, _, rfl, ?_⟩
    cases hb : s.tw.lastHb with
    | none => exact .inl ⟨.inl rfl, by simp [State.advance, hs, hb, Tick.next]⟩
    | some h =>
      by_cases ha : s.tw.adopt = 1
      · exact .inr ⟨h, rfl, ha, by simp [State.advance, hs, hb, ha, Tick.next]⟩
      · exact .inl ⟨.inr ha, by simp [State.advance, hs, hb, ha, Tick.next]⟩

/-- Beside the timebase a T0 boundary's counting leaves the heartbeat, the queue and the model. -/
theorem State.advance_keeps (s : State) (adj : Int) :
    (s.advance adj).tw.lastHb = s.tw.lastHb ∧ (s.advance adj).pending = s.pending ∧ (s.advance adj).model = s.model := by
  unfold State.advance
  dsimp only
  split
  · simp
  · split
    · split <;> simp
    · simp

/-- The counters agree after a T0 boundary's counting. -/
theorem State.advance_agree {s : State} (h : s.CountersInv) (adj : Int) : (s.advance adj).tick.Agree := by
  rcases s.advance_cases adj with ⟨-, e⟩ | ⟨-, d, -, ⟨-, e⟩ | ⟨p, hp, -, e⟩⟩ <;> rw [e]
  · exact Tick.agree_start rfl rfl rfl rfl rfl
  · exact Tick.next_agree h.1 d
  · exact adoptTicks_agree (h.2 p hp) rfl _

/-- `clamp` is the nearest value of the interval. -/
theorem clamp_eq_max_min {x lo hi : Int} (h : lo ≤ hi) : clamp x lo hi = max lo (min x hi) := by
  unfold clamp
  split
  · omega
  · split <;> omega

/-! The boundaries. -/

theorem State.takeFatal_tick (s : State) : s.takeFatal.tick = s.tick := by
  have h : ((s.updFc fun f => { f with arrived := [] }).settleBoot).tick = s.tick := by
    unfold State.settleBoot
    split <;> rfl
  revert h
  unfold State.takeFatal
  extract_lets a t
  intro h
  split
  · exact (State.enterSafeHold_keeps t 3).1.trans h
  · exact h

/-- After the counting a T0 boundary leaves the timebase and the queue, and the heartbeat and the model but for a failed firmware slot. -/
theorem State.t0Boundary_advance {s : State} (hp : s.pwr.pd0 = true) (adj : Int) :
    (s.t0Boundary adj).tick = (s.advance adj).tick ∧ Loose (s.advance adj) (s.t0Boundary adj) := by
  let u := (s.advance adj).bootStart.takeSluice.orderBatch
  have hu : u.tick = (s.advance adj).tick ∧ u.tw.lastHb = (s.advance adj).tw.lastHb ∧ u.pending = (s.advance adj).pending ∧
      u.model = (s.advance adj).model := by simp [u]
  have e : s.t0Boundary adj = u.takeFatal.t0Begin.t0Phases := by simp [State.t0Boundary, hp, u]
  have hv := kept_trans (State.t0Phases_keeps u.takeFatal.t0Begin) (State.t0Begin_keeps u.takeFatal)
  rw [e]
  exact ⟨hv.1.trans ((State.takeFatal_tick u).trans hu.1), ((Loose.of_keeps hu).trans (State.takeFatal_loose u)).trans (.of_keeps hv)⟩

/-- T1_BOUNDARY where it is due counts T1CNT and stamps the boundary. -/
theorem State.t1Boundary_due {s : State} (hp : s.pwr.pd0 = true) (hs : s.tick.started = true) (hd : s.tick.t1Due = true) (r : BitVec 8) :
    (s.t1Boundary r).tick = { s.tick with t1 := s.tick.t1 + 1, t1Due := false, t1Stamp := s.stamp } ∧
      (s.t1Boundary r).tw.lastHb = s.tw.lastHb ∧ (s.t1Boundary r).pending = s.pending ∧ (s.t1Boundary r).model = s.model := by
  simp [State.t1Boundary, hp, hs, hd, State.stamp]

/-- And nothing else. -/
theorem State.t1Boundary_not_due {s : State} (h : ¬ (s.pwr.pd0 = true ∧ s.tick.started = true ∧ s.tick.t1Due = true)) (r : BitVec 8) :
    s.t1Boundary r = s := by
  unfold State.t1Boundary
  rw [if_pos]
  simp only [Bool.or_eq_true, Bool.not_eq_true']
  grind

/-- T2_BOUNDARY in the last T0 of a T2 counts T2CNT in advance. -/
theorem State.t2Boundary_due {s : State} (hp : s.pwr.pd0 = true) (hs : s.tick.started = true) (hd : s.tick.t2Done = false)
    (h0 : s.tick.t0.toNat % 256 = 255) :
    s.t2Boundary.tick = { s.tick with t2 := s.tick.t2 + 1, t2Done := true } ∧ s.t2Boundary.tw.lastHb = s.tw.lastHb ∧
      s.t2Boundary.pending = s.pending := by
  simp [State.t2Boundary, hp, hs, hd, h0, State.t2Jobs_keeps]

theorem State.t2Boundary_not_due {s : State}
    (h : ¬ (s.pwr.pd0 = true ∧ s.tick.started = true ∧ s.tick.t2Done = false ∧ s.tick.t0.toNat % 256 = 255)) : s.t2Boundary = s := by
  unfold State.t2Boundary
  dsimp only
  rw [if_pos]
  simp only [Bool.or_eq_true, Bool.not_eq_true', decide_eq_true_eq]
  grind

/-- The T2 part made in advance leaves the counters of the present boundary. -/
theorem Tick.agree_t2 {t : Tick} (h : t.Agree) (hd : t.t2Done = false) (h0 : t.t0.toNat % 256 = 255) :
    { t with t2 := t.t2 + 1, t2Done := true : Tick }.Agree := by
  obtain ⟨ha, h1, -⟩ := h
  refine ⟨?_, h1, fun _ => ⟨h0, ?_⟩⟩
  · simpa [Tick.t1Seen, Tick.t2Seen, hd] using ha
  · cases e : t.t1Due
    · rfl
    · have := h1 e
      omega

/-- The T1 part made when due leaves the counters of the present boundary. -/
theorem Tick.agree_t1 {t : Tick} (h : t.Agree) (hd : t.t1Due = true) (st : BitVec 32) :
    { t with t1 := t.t1 + 1, t1Due := false, t1Stamp := st : Tick }.Agree := by
  obtain ⟨ha, -, h2⟩ := h
  refine ⟨?_, fun h => Bool.noConfusion h, fun h => ⟨(h2 h).1, rfl⟩⟩
  simpa [Tick.t1Seen, Tick.t2Seen, hd] using ha

/-- A heartbeat leaves the timebase, the queue and the model; one that passes is the last heard. -/
theorem State.heartbeatRx_keeps (s : State) (bs : List Byte) (off : Nat) :
    (s.heartbeatRx bs off).tick = s.tick ∧ ((s.heartbeatRx bs off).tw.lastHb = s.tw.lastHb ∨ (s.heartbeatRx bs off).tw.lastHb = some (readHb bs)) ∧
      (s.heartbeatRx bs off).pending = s.pending ∧ (s.heartbeatRx bs off).model = s.model := by
  unfold State.heartbeatRx State.onLink
  dsimp only
  split
  · simp
  · split
    · simp
    · split
      · simp
      · split
        · split <;> simp
        · simp

/-! Every other command. -/

/-- The commands that write the timebase, the last heartbeat or the model in force: the boundaries, the latch of TBASE, a heartbeat,
the load of the model. -/
def movesTimebase : Instr → Bool
  | .t0Boundary _ | .t1Boundary _ | .t2Boundary | .tbaseLoRead _ | .heartbeatRx _ _ | .modelLoad => true
  | _ => false

/-- Every other command answers a next state and leaves the timebase, the heartbeat, the queue and the model, but for what a restart or
a loss of power takes. -/
theorem exec_loose {c : Instr} (hc : movesTimebase c = false) (s : State) : ∃ t, exec c s = .next t ∧ Loose s t := by
  cases c with
  | powerOn => exact ⟨_, rfl, powerOn_loose ..⟩
  | vinFault _ => exact ⟨_, rfl, .of_keeps (vinFault_keeps ..)⟩
  | vinRestored _ => exact ⟨_, rfl, .of_keeps (vinRestored_keeps ..)⟩
  | powerFail _ => exact ⟨_, rfl, powerFail_loose ..⟩
  | railFault _ _ _ => exact ⟨_, rfl, .of_keeps (railFault_keeps ..)⟩
  | railDomainOff _ => exact ⟨_, rfl, railDomainOff_loose ..⟩
  | domainSwitchOn _ _ => exact ⟨_, rfl, domainSwitchOn_loose ..⟩
  | nrstinAssert => exact ⟨_, rfl, nrstinAssert_loose ..⟩
  | nrstinRelease => exact ⟨_, rfl, .of_keeps (nrstinRelease_keeps ..)⟩
  | perst _ => exact ⟨_, rfl, .of_keeps (endpointReset_keeps ..)⟩
  | slotSelect => exact ⟨_, rfl, .of_keeps (slotSelect_keeps ..)⟩
  | startupSelfTestsDone _ => exact ⟨_, rfl, startupSelfTestsDone_loose ..⟩
  | bootWatchdog => exact ⟨_, rfl, bootWatchdog_loose ..⟩
  | thermalWarn _ _ => exact ⟨_, rfl, .of_keeps (thermalWarn_keeps ..)⟩
  | derateOff => exact ⟨_, rfl, derateOff_loose ..⟩
  | thermalTrip _ _ => exact ⟨_, rfl, .of_keeps (thermalTrip_keeps ..)⟩
  | tickSyncFault _ => exact ⟨_, rfl, .of_keeps (tickSyncFault_keeps ..)⟩
  | bermAbandon _ => exact ⟨_, rfl, .of_keeps (bermAbandon_keeps ..)⟩
  | laneStop _ => exact ⟨_, rfl, .of_keeps (laneStop_keeps ..)⟩
  | carCoreJobDrops _ => exact ⟨_, rfl, .of_keeps (carCoreJobDrops_keeps ..)⟩
  | leveeMissSafeState _ => exact ⟨_, rfl, .of_keeps (leveeMissSafeState_keeps ..)⟩
  | solverRunComplete _ => exact ⟨_, rfl, .of_keeps (solverRunComplete_keeps ..)⟩
  | nearestCarFallback => exact ⟨_, rfl, .of_keeps (nearestCarFallback_keeps ..)⟩
  | portEdge _ _ _ => exact ⟨_, rfl, .of_keeps (takeEdge_keeps ..)⟩
  | indexEvent _ _ => exact ⟨_, rfl, .of_keeps (indexEvent_keeps ..)⟩
  | ssiFrame _ _ => exact ⟨_, rfl, .of_keeps (ssiFrame_keeps ..)⟩
  | ssiFrameLate _ _ => exact ⟨_, rfl, .of_keeps (ssiFrameLate_keeps ..)⟩
  | portLineFault _ _ _ => exact ⟨_, rfl, .of_keeps (portLineFault_keeps ..)⟩
  | portStandstill _ => exact ⟨_, rfl, .of_keeps (portStandstill_keeps ..)⟩
  | supplyOvercurrent _ => exact ⟨_, rfl, .of_keeps (supplyOvercurrent_keeps ..)⟩
  | supplySettled _ => exact ⟨_, rfl, .of_keeps (supplySettled_keeps ..)⟩
  | supplyChainStart => exact ⟨_, rfl, .of_keeps (supplyChainStart_keeps ..)⟩
  | fusionDropHealth _ => exact ⟨_, rfl, .of_keeps (fusionDropHealth_keeps ..)⟩
  | tsContradiction _ => exact ⟨_, rfl, .of_keeps (tsContradiction_keeps ..)⟩
  | absSourceFail _ => exact ⟨_, rfl, .of_keeps (absSourceFail_keeps ..)⟩
  | correctionRun _ => exact ⟨_, rfl, .of_keeps (correctionRun_keeps ..)⟩
  | correctionRunEnd _ => exact ⟨_, rfl, .of_keeps (correctionRunEnd_keeps ..)⟩
  | homingRun _ => exact ⟨_, rfl, .of_keeps (homingRun_keeps ..)⟩
  | relevelStart _ => exact ⟨_, rfl, .of_keeps (relevelStart_keeps ..)⟩
  | relevelTimeout _ => exact ⟨_, rfl, .of_keeps (relevelTimeout_keeps ..)⟩
  | learnShaftDone _ => exact ⟨_, rfl, .of_keeps (learnShaftDone_keeps ..)⟩
  | brakeLiftWait _ => exact ⟨_, rfl, .of_keeps (brakeLiftWait_keeps ..)⟩
  | planEnd _ => exact ⟨_, rfl, .of_keeps (planEnd_keeps ..)⟩
  | brakeDropWait _ => exact ⟨_, rfl, .of_keeps (brakeDropWait_keeps ..)⟩
  | startFailure _ => exact ⟨_, rfl, .of_keeps (startFailure_keeps ..)⟩
  | hdvFeedback _ => exact ⟨_, rfl, .of_keeps (hdvFeedback_keeps ..)⟩
  | followingErrorStop _ => exact ⟨_, rfl, .of_keeps (followingErrorStop_keeps ..)⟩
  | injectionStart _ => exact ⟨_, rfl, .of_keeps (injectionStart_keeps ..)⟩
  | injectionComplete _ => exact ⟨_, rfl, .of_keeps (injectionComplete_keeps ..)⟩
  | injectionWaitTimeout _ => exact ⟨_, rfl, .of_keeps (injectionWaitTimeout_keeps ..)⟩
  | identifyFit _ => exact ⟨_, rfl, .of_keeps (identifyFit_keeps ..)⟩
  | capuTrigger _ => exact ⟨_, rfl, .of_keeps (capuTrigger_keeps ..)⟩
  | capuBlockDeliver _ => exact ⟨_, rfl, .of_keeps (capuBlockDeliver_keeps ..)⟩
  | capuCtrlWrite _ _ => exact ⟨_, rfl, .of_keeps (capuCtrlWrite_keeps ..)⟩
  | donReply _ => exact ⟨_, rfl, .of_keeps (donReply_keeps ..)⟩
  | doorReopen _ => exact ⟨_, rfl, .of_keeps (doorReopen_keeps ..)⟩
  | lockTimeout _ => exact ⟨_, rfl, .of_keeps (lockTimeout_keeps ..)⟩
  | homingCloseFailure _ => exact ⟨_, rfl, .of_keeps (homingCloseFailure_keeps ..)⟩
  | dwellExpiry _ => exact ⟨_, rfl, .of_keeps (dwellExpiry_keeps ..)⟩
  | doorLearnDone _ => exact ⟨_, rfl, .of_keeps (doorLearnDone_keeps ..)⟩
  | hallCall _ => exact ⟨_, rfl, .of_keeps (hallCall_keeps ..)⟩
  | destCall _ => exact ⟨_, rfl, .of_keeps (destCall_keeps ..)⟩
  | carCall _ => exact ⟨_, rfl, .of_keeps (carCall_keeps ..)⟩
  | callEntry => exact ⟨_, rfl, .of_keeps (callEntry_keeps ..)⟩
  | stoMissing _ => exact ⟨_, rfl, .of_keeps (stoMissing_keeps ..)⟩
  | contactorFbTimeout _ => exact ⟨_, rfl, .of_keeps (contactorFbTimeout_keeps ..)⟩
  | brakeFbTimeout _ _ => exact ⟨_, rfl, .of_keeps (brakeFbTimeout_keeps ..)⟩
  | brakeTestAuto _ => exact ⟨_, rfl, .of_keeps (brakeTestAuto_keeps ..)⟩
  | brakeTestPhaseEnd _ => exact ⟨_, rfl, .of_keeps (brakeTestPhaseEnd_keeps ..)⟩
  | brakeTestOverdue _ => exact ⟨_, rfl, .of_keeps (brakeTestOverdue_keeps ..)⟩
  | brakeTestRetry _ => exact ⟨_, rfl, .of_keeps (brakeTestRetry_keeps ..)⟩
  | discrepancy _ _ => exact ⟨_, rfl, .of_keeps (discrepancy_keeps ..)⟩
  | xchkFail _ => exact ⟨_, rfl, .of_keeps (xchkFail_keeps ..)⟩
  | overspeed _ => exact ⟨_, rfl, .of_keeps (overspeed_keeps ..)⟩
  | safetyReset _ => exact ⟨_, rfl, .of_keeps (safetyReset_keeps ..)⟩
  | resetStuck _ => exact ⟨_, rfl, .of_keeps (resetStuck_keeps ..)⟩
  | startTestFailed _ => exact ⟨_, rfl, .of_keeps (startTestFailed_keeps ..)⟩
  | join _ => exact ⟨_, rfl, .of_keeps (join_keeps ..)⟩
  | hdvRep _ => exact ⟨_, rfl, .of_keeps (hdvRep_keeps ..)⟩
  | ctnRep _ => exact ⟨_, rfl, .of_keeps (ctnRep_keeps ..)⟩
  | ptnRep _ => exact ⟨_, rfl, .of_keeps (ptnRep_keeps ..)⟩
  | connectionWatchdog _ => exact ⟨_, rfl, .of_keeps (connectionWatchdog_keeps ..)⟩
  | inputFilterAccept _ _ => exact ⟨_, rfl, .of_keeps (inputFilterAccept_keeps ..)⟩
  | inputGuard _ => exact ⟨_, rfl, .of_keeps (inputGuard_keeps ..)⟩
  | lpLow _ => exact ⟨_, rfl, .of_keeps (lpLow_keeps ..)⟩
  | lpRestored _ => exact ⟨_, rfl, .of_keeps (lpRestored_keeps ..)⟩
  | couplerFault _ => exact ⟨_, rfl, .of_keeps (couplerFault_keeps ..)⟩
  | fieldWatchdog _ => exact ⟨_, rfl, .of_keeps (fieldWatchdog_keeps ..)⟩
  | readbackFault _ _ => exact ⟨_, rfl, .of_keeps (readbackFault_keeps ..)⟩
  | busFrameUnowned _ => exact ⟨_, rfl, .of_keeps (busFrameUnowned_keeps ..)⟩
  | frameSent _ _ _ => exact ⟨_, rfl, .of_keeps (frameSent_keeps ..)⟩
  | rateAdopted _ => exact ⟨_, rfl, .of_keeps (rateAdopted_keeps ..)⟩
  | rateCandidateDrop _ _ => exact ⟨_, rfl, .of_keeps (rateCandidateDrop_keeps ..)⟩
  | noack _ => exact ⟨_, rfl, .of_keeps (noack_keeps ..)⟩
  | collision _ => exact ⟨_, rfl, .of_keeps (collision_keeps ..)⟩
  | errorPassive _ _ _ => exact ⟨_, rfl, .of_keeps (errorPassive_keeps ..)⟩
  | busoff _ _ _ => exact ⟨_, rfl, .of_keeps (busoff_keeps ..)⟩
  | busRecovered _ => exact ⟨_, rfl, .of_keeps (busRecovered_keeps ..)⟩
  | busSleep _ => exact ⟨_, rfl, .of_keeps (busSleep_keeps ..)⟩
  | busWake _ _ => exact ⟨_, rfl, .of_keeps (busWake_keeps ..)⟩
  | kSleepWrite _ _ => exact ⟨_, rfl, .of_keeps (kSleepWrite_keeps ..)⟩
  | dbCmdTail _ => exact ⟨_, rfl, .of_keeps (tailDoorbell_keeps ..)⟩
  | dbCallTail _ => exact ⟨_, rfl, .of_keeps (tailDoorbell_keeps ..)⟩
  | dbEvtHead _ => exact ⟨_, rfl, .of_keeps (evtDoorbell_keeps ..)⟩
  | dbTelHead _ => exact ⟨_, rfl, .of_keeps (headDoorbell_keeps ..)⟩
  | dbLogHead _ => exact ⟨_, rfl, .of_keeps (headDoorbell_keeps ..)⟩
  | dbCapHead _ => exact ⟨_, rfl, .of_keeps (headDoorbell_keeps ..)⟩
  | dbCplHead _ => exact ⟨_, rfl, .of_keeps (cplDoorbell_keeps ..)⟩
  | hiEnable _ => exact ⟨_, rfl, .of_keeps (hiEnable_keeps ..)⟩
  | hiDisable _ => exact ⟨_, rfl, .of_keeps (hiDisable_keeps ..)⟩
  | cmdFetch _ => exact ⟨_, rfl, .of_keeps (cmdFetch_keeps ..)⟩
  | callFetch _ => exact ⟨_, rfl, .of_keeps (callFetch_keeps ..)⟩
  | statusBlockWrite => exact ⟨_, rfl, .of_keeps (statusBlockWrite_keeps ..)⟩
  | irqModerationEnd _ => exact ⟨_, rfl, .of_keeps (irqModerationEnd_keeps ..)⟩
  | unalignedAccess _ _ => exact ⟨_, rfl, .of_keeps (unalignedAccess_keeps ..)⟩
  | mapPageSelect _ => exact ⟨_, rfl, .of_keeps (mapPageSelect_keeps ..)⟩
  | fcSluiceCommit => exact ⟨_, rfl, .of_keeps (sluiceCommit_keeps ..)⟩
  | pwrParkWrite _ => exact ⟨_, rfl, .of_keeps (pwrParkWrite_keeps ..)⟩
  | groupPark _ => exact ⟨_, rfl, .of_keeps (groupPark_keeps ..)⟩
  | groupUnpark _ => exact ⟨_, rfl, .of_keeps (groupUnpark_keeps ..)⟩
  | recoveryStart => exact ⟨_, rfl, .of_keeps (recoveryStart_keeps ..)⟩
  | recoveryChunk _ => exact ⟨_, rfl, .of_keeps (recoveryChunk_keeps ..)⟩
  | recoveryCommit => exact ⟨_, rfl, .of_keeps (recoveryCommit_keeps ..)⟩
  | registerWrite _ _ => exact ⟨_, rfl, .of_keeps (registerWrite_keeps ..)⟩
  | nop _ => exact ⟨_, rfl, .of_keeps (nopCmd_keeps ..)⟩
  | loadImage _ _ => exact ⟨_, rfl, .of_keeps (loadImage_keeps ..)⟩
  | imageVerified _ => exact ⟨_, rfl, .of_keeps (imageVerified_keeps ..)⟩
  | peerVerifyResult _ _ => exact ⟨_, rfl, .of_keeps (peerVerifyResult_keeps ..)⟩
  | imageNotQuiet => exact ⟨_, rfl, .of_keeps (imageNotQuiet_keeps ..)⟩
  | cancelImage _ => exact ⟨_, rfl, .of_keeps (cancelImage_keeps ..)⟩
  | readProposal _ => exact ⟨_, rfl, .of_keeps (readProposal_keeps ..)⟩
  | keyRelease _ => exact ⟨_, rfl, keyRelease_loose ..⟩
  | setMode _ => exact ⟨_, rfl, .of_keeps (setModeCmd_keeps ..)⟩
  | clearMode _ => exact ⟨_, rfl, .of_keeps (clearModeCmd_keeps ..)⟩
  | clearDispatchHold _ => exact ⟨_, rfl, .of_keeps (clearDispatchHold_keeps ..)⟩
  | run _ => exact ⟨_, rfl, .of_keeps (runCmd_keeps ..)⟩
  | door _ => exact ⟨_, rfl, .of_keeps (doorCmd_keeps ..)⟩
  | doorReset _ => exact ⟨_, rfl, .of_keeps (doorReset_keeps ..)⟩
  | learnShaft _ => exact ⟨_, rfl, .of_keeps (learnShaft_keeps ..)⟩
  | learnDoors _ => exact ⟨_, rfl, .of_keeps (learnDoors_keeps ..)⟩
  | learnCancel _ => exact ⟨_, rfl, .of_keeps (learnCancel_keeps ..)⟩
  | brakeTest _ => exact ⟨_, rfl, .of_keeps (brakeTest_keeps ..)⟩
  | inject _ => exact ⟨_, rfl, .of_keeps (injectCmd_keeps ..)⟩
  | injectAbort _ => exact ⟨_, rfl, .of_keeps (injectAbort_keeps ..)⟩
  | identify _ => exact ⟨_, rfl, .of_keeps (identifyCmd_keeps ..)⟩
  | rawSend _ _ => exact ⟨_, rfl, .of_keeps (rawSend_keeps ..)⟩
  | busRecover _ => exact ⟨_, rfl, .of_keeps (busRecover_keeps ..)⟩
  | clearRetired _ => exact ⟨_, rfl, .of_keeps (clearRetired_keeps ..)⟩
  | update _ _ => exact ⟨_, rfl, .of_keeps (update_keeps ..)⟩
  | updateFlashDone _ => exact ⟨_, rfl, updateFlashDone_loose ..⟩
  | updateNotQuiet => exact ⟨_, rfl, .of_keeps (updateNotQuiet_keeps ..)⟩
  | reset _ => exact ⟨_, rfl, resetCmd_loose ..⟩
  | heartbeatLost => exact ⟨_, rfl, .of_keeps (heartbeatLost_keeps ..)⟩
  | epochRx _ => exact ⟨_, rfl, .of_keeps (epochRx_keeps ..)⟩
  | snapPartRx _ => exact ⟨_, rfl, .of_keeps (snapPartRx_keeps ..)⟩
  | imageLinkFrame _ => exact ⟨_, rfl, .of_keeps (imageLinkFrame_keeps ..)⟩
  | yilzLaneLoss _ => exact ⟨_, rfl, .of_keeps (yilzLaneLoss_keeps ..)⟩
  | claimWordSend => exact ⟨_, rfl, .of_keeps (claimWordSend_keeps ..)⟩
  | claimWordRx _ => exact ⟨_, rfl, .of_keeps (claimWordRx_keeps ..)⟩
  | claimWordTimeout => exact ⟨_, rfl, .of_keeps (claimWordTimeout_keeps ..)⟩
  | roleNegotiation => exact ⟨_, rfl, .of_keeps (roleNegotiation_keeps ..)⟩
  | leaseAns _ => exact ⟨_, rfl, .of_keeps (leaseAns_keeps ..)⟩
  | leaseExpiry => exact ⟨_, rfl, .of_keeps (leaseExpiry_keeps ..)⟩
  | safeHoldRelease => exact ⟨_, rfl, .of_keeps (safeHoldRelease_keeps ..)⟩
  | witStatusRx _ => exact ⟨_, rfl, .of_keeps (witStatusRx_keeps ..)⟩
  | witnessLeaseReq _ => exact ⟨_, rfl, .of_keeps (witnessLeaseReq_keeps ..)⟩
  | witnessLeaseRel _ => exact ⟨_, rfl, .of_keeps (witnessLeaseRel_keeps ..)⟩
  | witStatusSend => exact ⟨_, rfl, .of_keeps (witStatusSend_keeps ..)⟩
  | faultReport _ => exact ⟨_, rfl, faultReport_loose ..⟩
  | targetedTestDone _ _ => exact ⟨_, rfl, .of_keeps (testDone_keeps ..)⟩
  | crstReboot => exact ⟨_, rfl, crstReboot_loose ..⟩
  | yilzLaneSync _ => exact ⟨_, rfl, .of_keeps (yilzLaneSync_keeps ..)⟩
  | hostMemoryAccessDone _ _ => exact ⟨_, rfl, .of_keeps (accessDone_keeps ..)⟩
  | updateImageChecked => exact ⟨_, rfl, .of_keeps (updateImageChecked_keeps ..)⟩
  | recoveryWriteDone _ => exact ⟨_, rfl, recoveryWriteDone_loose ..⟩
  | pciPowerStateChange _ => exact ⟨_, rfl, .of_keeps (pciPower_keeps ..)⟩
  | _ => cases hc

theorem State.tbaseLoRead_keeps (s : State) (off : Fin 25000) :
    ∃ v, s.tbaseLoRead off = { s with tick := { s.tick with hi := v } } := by
  unfold State.tbaseLoRead
  split
  · exact ⟨_, rfl⟩
  · exact ⟨s.tick.hi, rfl⟩

theorem State.t0Boundary_pending (s : State) (adj : Int) : (s.t0Boundary adj).pending = s.pending := by
  cases hp : s.pwr.pd0
  · simp [State.t0Boundary, hp]
  · exact (State.t0Boundary_advance hp adj).2.pending.trans (s.advance_keeps adj).2.1

theorem State.t1Boundary_pending (s : State) (r : BitVec 8) : (s.t1Boundary r).pending = s.pending := by
  by_cases h : s.pwr.pd0 = true ∧ s.tick.started = true ∧ s.tick.t1Due = true
  · exact (State.t1Boundary_due h.1 h.2.1 h.2.2 r).2.2.1
  · rw [State.t1Boundary_not_due h]

theorem State.t2Boundary_pending (s : State) : s.t2Boundary.pending = s.pending := by
  by_cases h : s.pwr.pd0 = true ∧ s.tick.started = true ∧ s.tick.t2Done = false ∧ s.tick.t0.toNat % 256 = 255
  · obtain ⟨hp, hs, hd, h0⟩ := h
    exact (State.t2Boundary_due hp hs hd h0).2.2
  · rw [State.t2Boundary_not_due h]

/-- Every command answers a next state with the queue it was given. -/
theorem exec_next (c : Instr) (s : State) : ∃ t, exec c s = .next t ∧ t.pending = s.pending := by
  cases hc : movesTimebase c
  · obtain ⟨t, e, h⟩ := exec_loose hc s
    exact ⟨t, e, h.pending⟩
  · cases c with
    | t0Boundary adj => exact ⟨_, rfl, s.t0Boundary_pending adj⟩
    | t1Boundary r => exact ⟨_, rfl, s.t1Boundary_pending r⟩
    | t2Boundary => exact ⟨_, rfl, s.t2Boundary_pending⟩
    | tbaseLoRead off =>
      obtain ⟨v, e⟩ := s.tbaseLoRead_keeps off
      exact ⟨_, rfl, by rw [e]⟩
    | heartbeatRx bs off => exact ⟨_, rfl, (s.heartbeatRx_keeps bs off).2.2.1⟩
    | modelLoad => exact ⟨_, rfl, s.modelLoad_keeps.2.2⟩
    | _ => cases hc

/-! The invariant of the counters. -/

/-- A restart and a loss of power keep the invariant: the timebase as it was or at its start, the heartbeat as it was or forgotten. -/
theorem State.CountersInv.of_loose {s t : State} (h : s.CountersInv) (l : Loose s t) : t.CountersInv := by
  obtain ⟨ha, hb⟩ := h
  refine ⟨?_, fun p hp => ?_⟩
  · rcases l.tick with e | e <;> rw [e]
    · exact ha
    · exact Tick.agree_reset
  · rcases l.lastHb with e | e <;> rw [e] at hp
    · exact hb p hp
    · cases hp

theorem State.CountersInv.t0Boundary {s : State} (h : s.CountersInv) (adj : Int) : (s.t0Boundary adj).CountersInv := by
  cases hp : s.pwr.pd0
  · simpa [State.t0Boundary, hp] using h
  · refine State.CountersInv.of_loose (s := s.advance adj) ⟨State.advance_agree h adj, ?_⟩ (State.t0Boundary_advance hp adj).2
    rw [(s.advance_keeps adj).1]
    exact h.2

theorem State.CountersInv.t1Boundary {s : State} (h : s.CountersInv) (r : BitVec 8) : (s.t1Boundary r).CountersInv := by
  by_cases hd : s.pwr.pd0 = true ∧ s.tick.started = true ∧ s.tick.t1Due = true
  · obtain ⟨et, eh, -⟩ := State.t1Boundary_due hd.1 hd.2.1 hd.2.2 r
    exact ⟨et ▸ Tick.agree_t1 h.1 hd.2.2 _, eh ▸ h.2⟩
  · rwa [State.t1Boundary_not_due hd]

theorem State.CountersInv.t2Boundary {s : State} (h : s.CountersInv) : s.t2Boundary.CountersInv := by
  by_cases hd : s.pwr.pd0 = true ∧ s.tick.started = true ∧ s.tick.t2Done = false ∧ s.tick.t0.toNat % 256 = 255
  · obtain ⟨hp, hs, hn, h0⟩ := hd
    obtain ⟨et, eh, -⟩ := State.t2Boundary_due hp hs hn h0
    exact ⟨et ▸ Tick.agree_t2 h.1 hn h0, eh ▸ h.2⟩
  · rwa [State.t2Boundary_not_due hd]

theorem State.CountersInv.heartbeatRx {s : State} (h : s.CountersInv) {bs : List Byte} (off : Nat)
    (hp : CountersAgree (readHb bs).t0 (readHb bs).t1 (readHb bs).t2) : (s.heartbeatRx bs off).CountersInv := by
  obtain ⟨et, eh, -⟩ := s.heartbeatRx_keeps bs off
  refine ⟨et ▸ h.1, fun p hm => ?_⟩
  rcases eh with e | e <;> rw [e] at hm
  · exact h.2 p hm
  · cases hm
    exact hp

/-- Every command keeps the invariant; of a heartbeat the peer's own relations are the premise. -/
theorem State.CountersInv.exec {c : Instr} {s t : State} (h : s.CountersInv)
    (hp : ∀ bs off, c = .heartbeatRx bs off → CountersAgree (readHb bs).t0 (readHb bs).t1 (readHb bs).t2)
    (e : exec c s = .next t) : t.CountersInv := by
  cases hc : movesTimebase c
  · obtain ⟨u, eu, hu⟩ := exec_loose hc s
    cases e.symm.trans eu
    exact h.of_loose hu
  · cases c with
    | t0Boundary adj => cases e; exact h.t0Boundary adj
    | t1Boundary r => cases e; exact h.t1Boundary r
    | t2Boundary => cases e; exact h.t2Boundary
    | tbaseLoRead off =>
      cases e
      obtain ⟨v, ev⟩ := s.tbaseLoRead_keeps off
      show (s.tbaseLoRead off).CountersInv
      rw [ev]
      exact h
    | heartbeatRx bs off => cases e; exact h.heartbeatRx off (hp bs off rfl)
    | modelLoad =>
      cases e
      obtain ⟨et, eh, -⟩ := s.modelLoad_keeps
      exact ⟨et ▸ h.1, eh ▸ h.2⟩
    | _ => cases hc

/-- Settles O3, by evaluation of the reset state's counters. -/
theorem countersAgreeAtReset : Obligations.CountersAgreeAtReset := State.reset_countersInv

/-- Settles O4: the queue's front is taken off and its command keeps the invariant. -/
theorem countersAgreeAfterEveryStep : Obligations.CountersAgreeAfterEveryStep := by
  intro s t h hp e
  unfold step at e
  split at e
  · cases e
    exact h
  · rename_i c rest hq
    refine State.CountersInv.exec (s := { s with pending := rest }) h (fun bs off hc => ?_) e
    subst hc
    simpa [State.PeerAgrees, hq] using hp

/-- Settles O5. -/
theorem everyCommandCompletesAndLeavesTheQueue : Obligations.EveryCommandCompletesAndLeavesTheQueue := exec_next

/-- Settles O18: the counting of the boundaries, and nothing after it touches the counters or the queue. -/
theorem boundariesAdvanceTheCounters : Obligations.BoundariesAdvanceTheCounters := by
  refine ⟨fun s adj hp hs => ⟨_, rfl, ?_⟩, fun s adj hp hs ha => ⟨_, rfl, s.t0Boundary_pending adj, ?_⟩,
    fun s r hp hs hd => ⟨_, rfl, ?_⟩, fun s hp hs hd h0 => ⟨_, rfl, s.t2Boundary_pending, (State.t2Boundary_due hp hs hd h0).1⟩⟩
  · have hq := s.t0Boundary_pending adj
    rw [(State.t0Boundary_advance hp adj).1]
    rcases s.advance_cases adj with ⟨-, e⟩ | ⟨h, -⟩
    · rw [e]
      exact ⟨rfl, rfl, by simp [Tick.t1Seen], by simp [Tick.t2Seen], rfl, rfl, hq⟩
    · simp [hs] at h
  · rw [(State.t0Boundary_advance hp adj).1]
    rcases s.advance_cases adj with ⟨h, -⟩ | ⟨-, d, hd, ⟨-, e⟩ | ⟨p, hb, h1, -⟩⟩
    · simp [hs] at h
    · rw [e, hd, clamp_eq_max_min (by decide)]
      simp [Tick.next]
    · simp [hb, h1] at ha
  · obtain ⟨et, -, eq, em⟩ := State.t1Boundary_due hp hs hd r
    exact ⟨eq, em, et⟩

end Sys2Proof.Machine
end

section
/-! What power and restarts leave: the state without power and the state after a restart. -/

namespace Sys2Proof.Machine

open State

theorem State.powerLost_unpowered (s : State) : s.Unpowered s.powerLost where
  mod := rfl
  pd0 := rfl
  tick := rfl
  gate := rfl
  model := rfl
  blocks := ⟨rfl, rfl, rfl, rfl, rfl, rfl, rfl, rfl, rfl, rfl⟩
  flash := ⟨rfl, rfl, rfl, rfl, rfl, rfl⟩
  queue := rfl

theorem State.reboot_restarted (s : State) : s.Restarted s.reboot where
  mod := rfl
  step := rfl
  tick := rfl
  role := ⟨rfl, rfl, rfl⟩
  retired := rfl
  counts := ⟨rfl, rfl, rfl⟩
  domains := ⟨rfl, rfl⟩
  gate := rfl
  model := ⟨rfl, rfl⟩
  blocks := ⟨rfl, rfl, rfl, rfl, rfl, rfl, rfl, rfl, rfl, rfl, rfl, rfl⟩
  queue := rfl

/-- A write of supervisor registers other than the step and the domains leaves a restarted module restarted. -/
theorem State.Restarted.updPwr {s t : State} (h : s.Restarted t) {f : Pwr → Pwr} (hb : (f t.pwr).boot.step = t.pwr.boot.step)
    (hd : (f t.pwr).domOn = t.pwr.domOn) (hp : (f t.pwr).pd0 = t.pwr.pd0) : s.Restarted (t.updPwr f) :=
  { h with step := hb.trans h.step, domains := ⟨hd.trans h.domains.1, hp.trans h.domains.2⟩ }

/-- Taking an entry is no part of what a restart keeps. -/
theorem State.Restarted.of_takeEntry {s t : State} {e : CmdEntry} (h : (s.takeEntry e).Restarted t) : s.Restarted t := { h with }

/-- POWER_ON from OFF without PD0: the state without power, PD0 up, and BOOT at step 2 unless nRSTIN holds the module. -/
theorem State.powerOn_off {s : State} (hp : s.pwr.pd0 = false) (hm : s.mod = .off) :
    s.powerOn = { s.powerLost with
      mod := if s.pwr.nrstin then .off else .boot
      fc := { s.powerLost.fc with boots := if s.pwr.nrstin then s.fc.boots else s.fc.boots + 1 }
      pwr := { s.powerLost.pwr with pd0 := true, boot := { Boot.zero with step := 2 } } } := by
  cases hn : s.pwr.nrstin <;> simp [State.powerOn, hp, hm, hn, State.powerLost]

/-- Settles O8: POWER_ON starts from the state without power, POWER_FAIL and the loss of PD0 lead there. -/
theorem powerOnAndPowerFail : Obligations.PowerOnAndPowerFail := by
  refine ⟨fun s hp hm => ⟨_, rfl, ?_⟩, fun s mv hp hv => ⟨_, rfl, ?_⟩, fun s hp => ⟨_, rfl, ?_⟩⟩
  · rw [State.powerOn_off hp hm]
    exact ⟨rfl, rfl, rfl, rfl, rfl, rfl, rfl, rfl, rfl, rfl, rfl, rfl, rfl⟩
  · have e : s.powerFail mv = s.powerLost := by simp [State.powerFail, hp, hv]
    rw [e]
    exact s.powerLost_unpowered
  · have e : s.railDomainOff 0 = s.powerLost := by simp [State.railDomainOff, hp]
    rw [e]
    exact s.powerLost_unpowered

/-- Settles O9: each of them is a restart, or the end of one that nRSTIN holds. -/
theorem resetPinAndRestarts : Obligations.ResetPinAndRestarts := by
  refine ⟨fun s hm hn => ⟨_, rfl, ?_⟩, fun s hm hn => ?_, fun s hm hp hn => ⟨_, rfl, ?_⟩, fun s e hc hq hm ht => ⟨_, rfl, ?_⟩,
    fun s hc hm hs => ⟨_, rfl, ?_⟩, fun s hm hb ht ha => ⟨_, rfl, ?_⟩⟩
  · have e : s.nrstinAssert = s.reboot.updPwr fun p => { p with nrstin := true } := by simp [State.nrstinAssert, hm, hn]
    rw [e]
    exact ⟨s.reboot_restarted.updPwr rfl rfl rfl, rfl⟩
  · show Host.Outcome.next s.nrstinRelease = _
    simp [State.nrstinRelease, hm, hn, State.updPwr]
  · have e : s.nrstinRelease = { s with
        mod := .boot
        fc := { s.fc with boots := s.fc.boots + 1 }
        pwr := { s.pwr with
          nrstin := false
          boot := { Boot.zero with step := if s.seals.fixed then 4 else if s.tick.started then 3 else 2 } } } := by
      simp [State.nrstinRelease, hm, hp, hn, State.updPwr]
    rw [e]
    exact ⟨rfl, rfl, rfl, rfl⟩
  · have hst : s.Starts (s.takeEntry e) 0x61 e true := ⟨hc, hq, fun h => by simp [hm] at h, rfl⟩
    have er : s.resetCmd e = (s.takeEntry e).reboot :=
      command_act hst (by rcases ht with h | h <;> simp [firstBad, takeEntry, hm, h])
    rw [er]
    exact (State.reboot_restarted _).of_takeEntry
  · have e : s.crstReboot = s.reboot := by simp [State.crstReboot, hc, hm, hs]
    rw [e]
    exact s.reboot_restarted
  · have e : s.bootWatchdog = s.reboot.updPwr fun p => { p with slots := p.slots.upd s.pwr.running fun x => { x with state := 3 } } := by
      simp [State.bootWatchdog, hm, hb, ht, ha]
    rw [e]
    exact ⟨s.reboot_restarted.updPwr rfl rfl rfl, by simp [State.updPwr, State.reboot], rfl⟩

/-- The module states in which R467 lets an UPDATE start. -/
abbrev State.updateState (s : State) : Prop :=
  s.mod = .config ∨ s.mod = .standby ∨ s.mod = .witness ∨ s.mod = .safeHold ∨ (s.mod = .active ∧ s.seals.role = 3)

/-- The command's own check of them. -/
theorem State.updateState_iff (s : State) :
    (s.mod == .config || s.mod == .standby || s.mod == .witness || s.mod == .safeHold || (s.mod == .active && s.seals.role == 3)) = true ↔
      s.updateState := by
  simp [State.updateState, or_assoc]

theorem State.update_starts {s : State} {e : CmdEntry} (hc : s.canStart 0x60 e = true) (hq : paramOk e true = true) :
    s.Starts (s.takeEntry e) 0x60 e true := ⟨hc, hq, fun _ => by decide, rfl⟩

/-- UPDATE takes the image and is in execution. -/
theorem State.update_takes {s : State} {e : CmdEntry} {d : List Byte} (hc : s.canStart 0x60 e = true) (hq : paramOk e true = true)
    (hm : s.updateState) (hu : s.pwr.update = none) (hl : d.length = e.dataLen.toNat) :
    s.update e (some d) = { s with
      hi := { (s.takeEntry e).hi with running := s.hi.running ++ [⟨e, false⟩] }
      pwr := { s.pwr with update := some ⟨d, e, false, false, 0⟩ } } := by
  unfold State.update
  rw [command_act (State.update_starts hc hq)]
  · rfl
  · have hm' := (State.updateState_iff (s.takeEntry e)).mpr hm
    have hu' : (s.takeEntry e).pwr.update = none := hu
    simp only [hm', hu', hl, Option.any_some, decide_true]
    rfl

/-- UPDATE is refused by the first of its checks that fails: the module's state, an update in progress, its data. -/
theorem State.update_refused {s : State} {e : CmdEntry} {d : Option (List Byte)} {code : Nat} (hc : s.canStart 0x60 e = true)
    (hq : paramOk e true = true)
    (h : (¬ s.updateState ∧ code = 0x83) ∨ (s.updateState ∧ s.pwr.update.isSome = true ∧ code = 0x89) ∨
      (s.updateState ∧ s.pwr.update.isSome = false ∧ (d.any fun d => d.length = e.dataLen.toNat) = false ∧ code = 0x8C)) :
    s.update e d = (s.takeEntry e).answer e .refused code := by
  unfold State.update
  refine command_refused (State.update_starts hc hq) ?_
  have hs := State.updateState_iff (s.takeEntry e)
  have hu : (s.takeEntry e).pwr.update = s.pwr.update := rfl
  rcases h with ⟨hm, rfl⟩ | ⟨hm, h1, rfl⟩ | ⟨hm, h1, h2, rfl⟩
  · have := Bool.eq_false_iff.mpr (hs.not.mpr hm)
    simp only [this]
    rfl
  · simp only [hs.mpr hm, hu, h1]
    rfl
  · simp only [hs.mpr hm, hu, h1, h2]
    rfl

/-- An update whose image fails ends with the code of the failure. -/
theorem State.failUpdate_some {s : State} {u : Update} (h : s.pwr.update = some u) (code : Nat) :
    s.failUpdate code = State.finish { s with pwr := { s.pwr with update := none } } u.e .failed code := by
  simp [State.failUpdate, h, State.updPwr]

theorem State.updateImageChecked_fails {s : State} {u : Update} (hu : s.pwr.update = some u) (hc : u.checked = false)
    (hd : s.pwr.derate = false) {code : Nat} (hf : fwCode s.pwr.minSec u.image = some code) :
    s.updateImageChecked = State.finish { s with pwr := { s.pwr with update := none } } u.e .failed code := by
  simp [State.updateImageChecked, hu, hc, hd, hf, State.failUpdate_some hu]

theorem State.updateImageChecked_passes {s : State} {u : Update} (hu : s.pwr.update = some u) (hc : u.checked = false)
    (hd : s.pwr.derate = false) (hf : fwCode s.pwr.minSec u.image = none) :
    s.updateImageChecked = { s with pwr := { s.pwr with update := some { u with checked := true } } } := by
  simp [State.updateImageChecked, hu, hc, hd, hf, State.updPwr]

/-- Settles O16: the checks of the command in their order, then those of the image. -/
theorem updateIsCheckedThenWaits : Obligations.UpdateIsCheckedThenWaits := by
  refine ⟨fun s e d hc hq hu hl hm => congrArg _ (State.update_takes hc hq hm hu hl), fun s e d code hc hq hbad hcode =>
    congrArg _ (State.update_refused hc hq ?_), fun s u hu hck hd => ?_, fun s u hu hm hw hn => ?_⟩
  · change ¬ s.updateState ∨ _ at hbad
    change code = if ¬ s.updateState then _ else _ at hcode
    by_cases hm : s.updateState
    · refine .inr ?_
      rw [if_neg (not_not_intro hm)] at hcode
      cases hu : s.pwr.update.isSome
      · have hd : (d.any fun d => d.length = e.dataLen.toNat) = false := by
          rcases hbad with h | h | h | h
          · exact absurd hm h
          · simp [hu] at h
          · simp [h]
          · cases d with
            | none => rfl
            | some d => simpa using h
        exact .inr ⟨hm, rfl, hd, by simpa [hu] using hcode⟩
      · exact .inl ⟨hm, rfl, by simpa [hu] using hcode⟩
    · exact .inl ⟨hm, by simpa [hm] using hcode⟩
  · refine congrArg Host.Outcome.next ?_
    cases hf : fwCode s.pwr.minSec u.image with
    | some c => exact State.updateImageChecked_fails hu hck hd hf
    | none => exact State.updateImageChecked_passes hu hck hd hf
  · refine congrArg Host.Outcome.next ?_
    rw [← State.failUpdate_some hu]
    simp [State.updateNotQuiet, hu, hm, hw, hn]

end Sys2Proof.Machine
end

section
/-! Abandoned jobs and what repeated drops lead to (01 R29 to R36): what a mark and a count change, unit by unit. -/

namespace Sys2Proof.Machine

open State

/-! Abandoned jobs. -/

/-- A job that runs and is not marked is not passed over by BERM_ABANDON. -/
theorem State.berm_open {s : State} {j : Job} (hr : s.jobRuns j = true) (ha : s.abandoned j = false) :
    (!s.jobRuns j || s.abandoned j) = false := by simp [hr, ha]

theorem mem_idx {n : Nat} (i : Fin n) : i ∈ idx n := List.mem_finRange i

/-- Counting one more drop of each of a list of lanes changes SPILL_LANE alone. -/
theorem State.each_countLane (s : State) (l : List (Fin 48)) :
    s.each l countLane = { s with spill := { s.spill with lane := l.foldl (fun t k => t.upd k (· + 1)) s.spill.lane } } := by
  unfold State.each
  induction l generalizing s with
  | nil => rfl
  | cons k l ih => rw [List.foldl_cons, ih]; rfl

/-- A lane is counted with its car's frame build when it is computed, is one of the car's and has no mark of its own. -/
theorem State.mem_unmarked_carLanes (s : State) (c : Fin 16) (k : Fin 48) :
    k ∈ (s.carLanes c).filter (fun k => !s.laneMarked k) ↔ laneCar k = c ∧ s.laneRuns k = true ∧ s.laneMarked k = false := by
  simp [State.carLanes, mem_idx, and_comm, and_left_comm]

theorem State.unmarked_carLanes_nodup (s : State) (c : Fin 16) : ((s.carLanes c).filter fun k => !s.laneMarked k).Nodup :=
  ((idx_nodup 48).filter _).filter _

/-- A trace goes to the host interface, with the solver's trace count. -/
theorem State.putTrace_scope (s : State) (k : Nat) (t : BitVec 32) (bs : List Byte) :
    ∃ n h, s.putTrace k t bs = { s with dsx := { s.dsx with traceSeq := n }, hi := h } := by
  induction k generalizing s bs with
  | zero => exact ⟨s.dsx.traceSeq, s.hi, rfl⟩
  | succ k ih =>
    unfold State.putTrace
    split
    · exact ⟨s.dsx.traceSeq, s.hi, rfl⟩
    · dsimp only
      obtain ⟨n, h, e⟩ := ih (State.putCap _ _).1 (bs.drop 4064)
      have hc (u : State) (b : List Byte) : ∃ g, (u.putCap b).1 = { u with hi := g } := by
        unfold State.putCap
        split <;> exact ⟨_, rfl⟩
      obtain ⟨g, eg⟩ := hc (s.updDsx fun d => { d with traceSeq := d.traceSeq + 1 }) _
      rw [e, eg]
      exact ⟨n, h, rfl⟩

theorem State.traceRun_scope (s : State) (snap : Snap) (r : Option Result) :
    ∃ n h, s.traceRun snap r = { s with dsx := { s.dsx with traceSeq := n }, hi := h } := by
  unfold State.traceRun
  split
  · dsimp only
    obtain ⟨n, h, e⟩ := State.putTrace_scope (s.updDsx fun d => { d with traceSeq := 0 }) _ _ _
    rw [e]
    exact ⟨n, h, rfl⟩
  · exact ⟨s.dsx.traceSeq, s.hi, rfl⟩

theorem State.traceRun_off {s : State} (h : s.dsx.trace = false) (snap : Snap) (r : Option Result) : s.traceRun snap r = s := by
  simp [State.traceRun, h]

/-- An abandoned solver run: its snapshot is gone, the drop counts at unit 8 and in the series. -/
theorem State.abandonRun_some {s : State} {snap : Snap} (h : s.dsx.snap = some snap) :
    ∃ n g, s.abandonRun = { s with
      dsx := { s.dsx with snap := none, traceSeq := n }
      hi := g
      spill := { s.spill with solver := s.spill.solver + 1, cnt := s.spill.cnt.upd 8 fun r => r.upd 2 (· + 1) } } ∧
      (s.dsx.trace = false → n = s.dsx.traceSeq ∧ g = s.hi) := by
  unfold State.abandonRun
  rw [h]
  dsimp only
  by_cases ht : s.dsx.trace = false
  · rw [State.traceRun_off ht]
    exact ⟨s.dsx.traceSeq, s.hi, rfl, fun _ => ⟨rfl, rfl⟩⟩
  · obtain ⟨n, g, e⟩ := s.traceRun_scope snap none
    rw [e]
    exact ⟨n, g, rfl, fun h => absurd h ht⟩

/-- A missed levee evaluation that has no mark yet is marked, counted and reported. -/
theorem State.missEvaluation_reported {s : State} {lc : Fin 2} (h : s.abandoned (.levee lc) = false) :
    s.missEvaluation lc false = State.raise
      { s with spill := { s.spill with abandoned := s.spill.abandoned ++ [.levee lc], miss := s.spill.miss.put lc (s.spill.miss.get lc + 1) } }
      (0x76 + lc.val) 2 2 (BitVec.ofNat 32 (s.spill.miss.get lc + 1)) 0 := by
  have h' : s.spill.abandoned.contains (.levee lc) = false := h
  simp only [State.missEvaluation, h']
  rfl

/-! The safe state of a levee core's outputs. -/

/-- An output channel of a car of the levee core. -/
def State.ownOutput (s : State) (lc : Fin 2) (i : Fin 96) : Bool :=
  outRole (s.polRec i).role && (polCar (s.polRec i)).any (fun c => carLevee c = lc)

/-- A channel taken to its programmed safe state, R416's switching first. -/
def safeCh (s : State) (i : Fin 96) (c : PolCh) : PolCh :=
  { c with cmd := s.safeState (s.polRec i), on := s.safeState (s.polRec i), defer := false, onT0 := none, skipRb := c.skipRb || c.cmd,
           badRb := if c.cmd then 0 else c.badRb, pulse := false, tpulse := false }

/-- A fold of channel updates that look at no other part of the state but the polders. -/
theorem State.each_updCh {s : State} {f : State → Fin 96 → State} {g : Fin 96 → PolCh → PolCh}
    (hf : ∀ u i, u = { s with pol := u.pol } → f u i = u.updCh i (g i)) (l : List (Fin 96)) {u : State} (hu : u = { s with pol := u.pol }) :
    u.each l f = { s with pol := { u.pol with ch := l.foldl (fun t i => t.upd i (g i)) u.pol.ch } } := by
  induction l generalizing u with
  | nil => exact hu
  | cons i l ih =>
    have h : (i :: l).foldl f u = l.foldl f (f u i) := rfl
    rw [State.each, h, hf u i hu]
    exact ih (by rw [hu]; rfl)

/-- R32: once the core has missed two evaluations, each of its outputs is taken to its safe state, and nothing else changes. -/
theorem State.leveeMissSafeState_missed {s : State} {lc : Fin 2} (h : s.leveeMissed lc = true) :
    s.leveeMissSafeState lc = { s with pol := { s.pol with
      ch := (idx 96).foldl (fun t i => t.upd i (if s.ownOutput lc i then safeCh s i else id)) s.pol.ch } } := by
  unfold State.leveeMissSafeState
  rw [if_pos h]
  refine State.each_updCh (fun u i hu => ?_) (idx 96) rfl
  have hr : u.polRec i = s.polRec i := by rw [hu]; rfl
  have hs (r : PolRec) : u.safeState r = s.safeState r := by rw [hu]; rfl
  dsimp only
  rw [hr, hs]
  by_cases hi : s.ownOutput lc i = true
  · refine (if_pos hi).trans ?_
    rw [if_pos hi]
    simp [State.switchOff, State.updCh, Tab.upd, safeCh]
  · refine (if_neg hi).trans ?_
    rw [if_neg hi]
    simp [State.updCh, Tab.upd]

theorem State.leveeMissSafeState_get {s : State} {lc : Fin 2} (h : s.leveeMissed lc = true) {i : Fin 96} (hi : s.ownOutput lc i = true) :
    (s.leveeMissSafeState lc).pol.ch.get i = safeCh s i (s.pol.ch.get i) := by
  rw [State.leveeMissSafeState_missed h]
  refine (foldl_upd_get (fun i => if s.ownOutput lc i then safeCh s i else id) (idx 96) s.pol.ch i (idx_nodup 96)).trans ?_
  rw [if_pos (mem_idx i), if_pos hi]

/-- Settles O19, job by job: what each marks, counts and takes away. -/
theorem abandonedJobsAreCounted : Obligations.AbandonedJobsAreCounted := by
  refine ⟨fun s j u l hr ha hj => congrArg Host.Outcome.next ?_, fun s k pg hr hm => congrArg Host.Outcome.next ?_,
    fun s c hr ha =>
      ⟨((s.carLanes c).filter fun k => !s.laneMarked k).foldl (fun t k => t.upd k (· + 1)) s.spill.lane, congrArg Host.Outcome.next ?_, fun k => ?_⟩, fun s hr ha => congrArg Host.Outcome.next ?_,
    fun s hr ha => ⟨_, rfl, ?_⟩, fun s lc hr ha => ⟨_, congrArg Host.Outcome.next ?_, rfl⟩, fun s lc hm => ⟨_, rfl, ?_, fun i hi => ?_⟩⟩
  · simp only [State.bermAbandon, State.berm_open hr ha]
    cases j with
    | fusion c =>
      obtain ⟨hu, rfl⟩ := hj
      obtain rfl : u = coreUnit (carCore c) := Fin.ext hu
      rfl
    | carCoreT1 cc =>
      obtain ⟨hu, rfl⟩ := hj
      obtain rfl : u = coreUnit cc := Fin.ext hu
      rfl
    | publishFixtures cc =>
      obtain ⟨hu, rfl⟩ := hj
      obtain rfl : u = coreUnit cc := Fin.ext hu
      rfl
    | heartbeat | epoch | telemetry | rings | publishHost =>
      obtain ⟨rfl, rfl⟩ := hj
      rfl
    | _ => exact hj.elim
  · obtain ⟨hp, hc⟩ : s.abandoned (.lanePg k) = false ∧ s.abandoned (.laneCe k) = false := by simpa [State.laneMarked] using hm
    cases pg
    · change s.bermAbandon (.laneCe k) = _
      simp only [State.bermAbandon, State.berm_open (j := .laneCe k) hr hc, hm]
      rfl
    · change s.bermAbandon (.lanePg k) = _
      simp only [State.bermAbandon, State.berm_open (j := .lanePg k) hr hp, hm]
      rfl
  · simp only [State.bermAbandon, State.berm_open hr ha]
    exact State.each_countLane ..
  · refine (foldl_upd_get _ _ _ _ (s.unmarked_carLanes_nodup c)).trans ?_
    simp only [State.mem_unmarked_carLanes]
    split <;> simp
  · simp only [State.bermAbandon, State.berm_open hr ha]
    rfl
  · obtain ⟨snap, hs⟩ := Option.isSome_iff_exists.mp (show s.dsx.snap.isSome = true from hr)
    have e : s.bermAbandon .solver = s.abandonRun := by
      simp only [State.bermAbandon, State.berm_open hr ha]
      rfl
    obtain ⟨n, g, er, ht⟩ := State.abandonRun_some hs
    rw [e, er]
    refine ⟨rfl, rfl, rfl, rfl, rfl, fun h => ?_⟩
    obtain ⟨rfl, rfl⟩ := ht h
    exact ⟨rfl, rfl⟩
  · rw [← State.missEvaluation_reported ha]
    simp only [State.bermAbandon, State.berm_open hr ha]
    rfl
  · rw [State.leveeMissSafeState_missed (decide_eq_true hm)]
  · obtain ⟨ho, c, hc, hl⟩ := hi
    have hi : s.ownOutput lc i = true := by simp [State.ownOutput, ho, hc, hl]
    rw [State.leveeMissSafeState_get (decide_eq_true hm) hi]
    exact ⟨rfl, rfl⟩

/-! Repeated drops. -/

/-- LANE_STOP of a lane with two consecutive drops. -/
theorem State.laneStop_stops {s : State} {m : Model} {k : Fin 48} (h : s.model = some m) (hs : (s.lanes.get k).stopped = false)
    (hr : s.laneRuns k = true) (hd : 2 ≤ (s.lanes.get k).missRun) :
    s.laneStop k = State.raise
      (if isHoist k then (s.updLane k fun l => { l with stopped := true }).askSf1 (laneCar k)
        else (s.updLane k fun l => { l with stopped := true }).unrefSide m (laneSide k))
      0x81 1 2 (BitVec.ofNat 32 k.val) 0 := by
  simp [State.laneStop, h, hs, hr, hd]

/-- The cars of a list that ask for SF1 have their request, the others keep theirs. -/
theorem State.each_askSf1_get (s : State) {l : List (Fin 16)} (h : l.Nodup) (c : Fin 16) :
    ((s.each l askSf1).lv.get c).req.sf1 = ((s.lv.get c).req.sf1 || decide (c ∈ l)) := by
  have e := s.each_updLv_get l (fun _ v => { v with req := { v.req with sf1 := true } }) h c
  change (s.each l askSf1).lv.get c = _ at e
  rw [e]
  by_cases hc : c ∈ l <;> simp [hc]

theorem State.each_askSf1_scope (s : State) (l : List (Fin 16)) : s.each l askSf1 = { s with lv := (s.each l askSf1).lv } := by
  have e := s.each_updLv l fun _ v => { v with req := { v.req with sf1 := true } }
  change s.each l askSf1 = _ at e
  rw [e]

theorem coreCars_nodup (cc : Fin 4) : (coreCars cc).Nodup := (idx_nodup 16).filter _

theorem mem_coreCars {cc : Fin 4} {c : Fin 16} : c ∈ coreCars cc ↔ c.val / 4 = cc.val := by
  simp [coreCars, mem_idx, carCore, Fin.ext_iff]

/-- CAR_CORE_JOB_DROPS at the fourth consecutive drop. -/
theorem State.carCoreJobDrops_reports {s : State} {cc : Fin 4} (h : 4 ≤ s.spill.core.get cc) (ht : s.spill.told.get cc = false) :
    s.carCoreJobDrops cc = State.raise
      ({ s with spill := { s.spill with told := s.spill.told.put cc true } }.each ((coreCars cc).filter s.present.contains) askSf1)
      (0x72 + cc.val) 3 2 (BitVec.ofNat 32 (s.spill.core.get cc)) 0 := by
  simp only [State.carCoreJobDrops, h, ht, decide_true]
  rfl

/-- Settles O20. -/
theorem repeatedDropsEscalate : Obligations.RepeatedDropsEscalate := by
  refine ⟨fun s m k h hs hr hd hh => ⟨_, congrArg Host.Outcome.next (State.laneStop_stops h hs hr hd), ?_, ?_, ?_⟩,
    fun s m k h hs hr hd hh => congrArg Host.Outcome.next ?_, fun s cc h ht =>
      ⟨_, congrArg Host.Outcome.next (State.carCoreJobDrops_reports h ht), ?_, fun c => ?_⟩, fun s off hm ho => congrArg Host.Outcome.next ?_⟩
  · rw [if_pos hh]; rfl
  · rw [if_pos hh]; rfl
  · rw [if_pos hh]; rfl
  · rw [State.laneStop_stops h hs hr hd, hh]; rfl
  · exact State.each_askSf1_scope ..
  · refine (State.each_askSf1_get _ ((coreCars_nodup cc).filter _) c).trans ?_
    simp [mem_coreCars]
  · have h : 200 < off.natAbs := by omega
    simp [State.tickSyncFault, hm, h]

end Sys2Proof.Machine
end

section
/-! The solver's runs (08 R281, R287 to R290) and the frames of SSI ports (03 R102, R103, R115). -/

namespace Sys2Proof.Machine

open State

/-! The end of a run. -/

theorem State.useCv_scope (s : State) (n : Fin 16) (ok : Bool) : s.useCv n ok = { s with cvs := (s.useCv n ok).cvs } := by
  unfold State.useCv
  split <;> rfl

theorem State.dispatchEvent_scope (s : State) (kind : Nat) :
    s.dispatchEvent kind = { s with hi := (s.dispatchEvent kind).hi, freeCtr := s.freeCtr + 1 } := by
  unfold State.dispatchEvent
  rw [State.event_scope]

/-- A standby's comparison of digests changes, of the solver, the digests and the mismatches. -/
theorem State.checkDigest_dsx (s : State) :
    ∃ o p b n, s.checkDigest.dsx = { s.dsx with ownDigest := o, peerDigest := p, mismatch := b, mismatches := n } := by
  unfold State.checkDigest
  split
  · split
    · exact ⟨s.dsx.ownDigest, s.dsx.peerDigest, s.dsx.mismatch, s.dsx.mismatches, rfl⟩
    · dsimp only
      split
      · exact ⟨none, none, s.dsx.mismatch, s.dsx.mismatches, rfl⟩
      · rw [State.dispatchEvent_scope, State.raise_scope]
        exact ⟨none, none, true, s.dsx.mismatches + 1, rfl⟩
  · exact ⟨s.dsx.ownDigest, s.dsx.peerDigest, s.dsx.mismatch, s.dsx.mismatches, rfl⟩

theorem State.checkDigest_spill (s : State) : s.checkDigest.spill = s.spill := by
  unfold State.checkDigest
  split
  · split
    · rfl
    · dsimp only
      split
      · rfl
      · rw [State.dispatchEvent_scope, State.raise_scope]
        rfl
  · rfl

/-- Tracing and digesting a run change, of the solver, the trace count and the own digest, and neither the module's state nor the drops. -/
theorem State.traced_digested (s : State) (snap : Snap) (r : Result) :
    ∃ n o, ((s.traceRun snap (some r)).digestRun snap r).dsx = { s.dsx with traceSeq := n, ownDigest := o } ∧
      ((s.traceRun snap (some r)).digestRun snap r).mod = s.mod ∧ ((s.traceRun snap (some r)).digestRun snap r).spill = s.spill := by
  obtain ⟨n, h, e⟩ := s.traceRun_scope snap (some r)
  rw [e]
  unfold State.digestRun
  split
  · rw [State.useCv_scope]
    exact ⟨n, some (snap.t2, digestOf r), rfl, rfl, rfl⟩
  · rw [State.useCv_scope]
    exact ⟨n, s.dsx.ownDigest, rfl, rfl, rfl⟩

/-- What the end of a run leaves of the solver: the registers of the run and the calls. -/
theorem State.settleRun_run (s : State) (us : Nat) (r : Result) :
    (s.settleRun us r).dsx.snap = s.dsx.snap ∧ (s.settleRun us r).dsx.runT2 = s.dsx.runT2 ∧ (s.settleRun us r).dsx.runTime = s.dsx.runTime ∧
      (s.settleRun us r).dsx.pairs = s.dsx.pairs ∧ (s.settleRun us r).dsx.swaps = s.dsx.swaps ∧ (s.settleRun us r).dsx.calls = s.dsx.calls := by
  unfold State.settleRun
  split
  · obtain ⟨o, p, b, n, e⟩ := State.checkDigest_dsx { s with spill := { s.spill with solver := 0 } }
    rw [e]
    exact ⟨rfl, rfl, rfl, rfl, rfl, rfl⟩
  · split
    · split <;> rw [State.dispatchEvent_scope] <;> exact ⟨rfl, rfl, rfl, rfl, rfl, rfl⟩
    · exact ⟨rfl, rfl, rfl, rfl, rfl, rfl⟩

theorem State.settleRun_standby {s : State} (h : s.mod = .standby) (us : Nat) (r : Result) : (s.settleRun us r).spill.solver = 0 := by
  rw [State.settleRun, if_pos h, State.checkDigest_spill]

/-- Outside STANDBY and the fallback the result is held and the series of drops ends. -/
theorem State.settleRun_holds {s : State} (h : s.mod ≠ .standby) (hf : s.dsx.fallback = false) (us : Nat) (r : Result) :
    (s.settleRun us r).dsx.result = some r ∧ (s.settleRun us r).spill.solver = 0 := by
  simp [State.settleRun, h, hf]

/-- In the fallback a run within 30 ms ends it. -/
theorem State.settleRun_ends_fallback {s : State} (h : s.mod ≠ .standby) (hf : s.dsx.fallback = true) {us : Nat} (hu : us ≤ 30000) (r : Result) :
    (s.settleRun us r).dsx.result = some r ∧ (s.settleRun us r).spill.solver = 0 ∧ (s.settleRun us r).dsx.fallback = false := by
  rw [State.settleRun, if_neg h, if_pos hf, if_pos hu, State.dispatchEvent_scope]
  exact ⟨rfl, rfl, rfl⟩

/-- A later one does not. -/
theorem State.settleRun_late {s : State} (h : s.mod ≠ .standby) (hf : s.dsx.fallback = true) {us : Nat} (hu : 30000 < us) (r : Result) :
    (s.settleRun us r).dsx.result = s.dsx.result ∧ (s.settleRun us r).spill.solver = s.spill.solver ∧ (s.settleRun us r).dsx.fallback = true := by
  rw [State.settleRun, if_neg h, if_pos hf, if_neg (by omega), State.dispatchEvent_scope]
  exact ⟨rfl, rfl, hf⟩

/-- A finished run: its snapshot is consumed, its registers are written (R281, R290). -/
def State.runEnded (s : State) (snap : Snap) (us : Nat) (r : Result) : State :=
  s.updDsx fun d =>
    { d with snap := none, lastPat := snap.pattern, runT2 := snap.t2, runTime := BitVec.ofNat 32 us, pairs := BitVec.ofNat 32 r.pairs,
             swaps := BitVec.ofNat 32 r.swaps, deferred := BitVec.ofNat 16 r.deferred }

/-- Within the 60 ms window a run ends, is traced and digested, and is settled. -/
theorem State.solverRunComplete_in_time {s : State} {m : Model} {snap : Snap} {us : Nat} (hm : s.model = some m)
    (hs : s.dsx.snap = some snap) (hu : us ≤ 60000) :
    s.solverRunComplete us = ((((s.runEnded snap us (Run.solve m snap)).traceRun snap (some (Run.solve m snap))).digestRun snap
      (Run.solve m snap)).settleRun us (Run.solve m snap)) := by
  simp only [State.solverRunComplete, hm, hs, if_neg (show ¬ 60000 < us by omega)]
  rfl

/-- Settles O21: the run is traced and digested, and what settles it is one of the four cases. -/
theorem solverRunsAndTheFallback : Obligations.SolverRunsAndTheFallback := by
  refine ⟨fun s m snap us hm hs hu => ⟨_, rfl, ?_⟩, fun s hm h3 hf => congrArg Host.Outcome.next ?_⟩
  · obtain ⟨ht, -, hp, hmo⟩ := s.solverRunComplete_keeps us
    have e := State.solverRunComplete_in_time hm hs hu
    obtain ⟨n, o, hd, hmod, hsp⟩ := (s.runEnded snap us (Run.solve m snap)).traced_digested snap (Run.solve m snap)
    generalize ((s.runEnded snap us (Run.solve m snap)).traceRun snap (some (Run.solve m snap))).digestRun snap (Run.solve m snap) = v at *
    rw [e] at ht hp hmo ⊢
    have hm : v.mod = s.mod := hmod
    have hfb : v.dsx.fallback = s.dsx.fallback := by rw [hd]; rfl
    have hres : v.dsx.result = s.dsx.result := by rw [hd]; rfl
    have hsol : v.spill.solver = s.spill.solver := by rw [hsp]; rfl
    obtain ⟨h1, h2, h3, h4, h5, h6⟩ := v.settleRun_run us (Run.solve m snap)
    rw [h1, h2, h3, h4, h5, h6, hd]
    refine ⟨rfl, rfl, rfl, rfl, rfl, rfl, ht, hmo, hp, fun h => State.settleRun_standby (hm.trans h) us _,
      fun h hf => State.settleRun_holds (hm ▸ h) (hfb.trans hf) us _,
      fun h hf hl => State.settleRun_ends_fallback (hm ▸ h) (hfb.trans hf) hl _, fun h hf hl => ?_⟩
    rw [← hres, ← hsol]
    exact State.settleRun_late (hm ▸ h) (hfb.trans hf) hl _
  · simp [State.nearestCarFallback, hm, h3, hf, State.updDsx]

/-! SSI frames. -/

/-- A port in service that waits for an SSI frame takes what comes. -/
theorem State.ssi_open {s : State} {n : Fin 48} (hl : s.portLive n = true) (hm : (s.ports.get n).cfg.mode = 4)
    (ho : (s.ports.get n).ssiOpen = true) (hd : (s.ports.get n).dataFault = false) :
    (!s.portLive n || decide ((s.ports.get n).cfg.mode ≠ 4) || !(s.ports.get n).ssiOpen || (s.ports.get n).dataFault) = false := by
  simp [hl, hm, ho, hd]

theorem ssiFault_good {r : PortRwc} {fr : SsiBits} (hi : fr.idleHigh = true) (he : fr.endBit = false)
    (hb : (r.errEn && (fr.bits.getLsbD r.errPos.toNat != r.errLow)) = false) : ssiFault r fr = none := by
  simp only [ssiFault, hi, he, hb]
  rfl

/-- The reason for which a frame is discarded: the idle level before the end bit, the end bit before the error bit. -/
theorem ssiFault_bad {r : PortRwc} {fr : SsiBits}
    (h : fr.idleHigh = false ∨ fr.endBit = true ∨ (r.errEn && (fr.bits.getLsbD r.errPos.toNat != r.errLow)) = true) :
    ssiFault r fr = some (if fr.idleHigh = false then 1 else if fr.endBit then 2 else 3) := by
  unfold ssiFault
  cases hi : fr.idleHigh
  · rfl
  · cases he : fr.endBit
    · have hb : (r.errEn && (fr.bits.getLsbD r.errPos.toNat != r.errLow)) = true := by simpa [hi, he] using h
      simp only [hb]
      rfl
    · rfl

/-- Settles O25. -/
theorem ssiFramesAndLineFaults : Obligations.SsiFramesAndLineFaults := by
  refine ⟨fun s n fr hl hm ho hd => ⟨fun hi he hb => congrArg Host.Outcome.next ?_, fun h => congrArg Host.Outcome.next ?_⟩,
    fun s n started hl hm ho hd h => congrArg Host.Outcome.next ?_, fun s n hl hm ho hd h => congrArg Host.Outcome.next ?_,
    fun s n pair hl hu hp => ⟨fun h => congrArg Host.Outcome.next ?_, fun h => congrArg Host.Outcome.next ?_⟩, fun s n pair => rfl⟩
  · simp only [State.ssiFrame, State.ssi_open hl hm ho hd, ssiFault_good hi he hb]
    rfl
  · simp only [State.ssiFrame, State.ssi_open hl hm ho hd, ssiFault_bad h]
    rfl
  · have h' : (!(s.ports.get n).driving && !started) = false := by rcases h with h | h <;> simp [h]
    simp only [State.ssiFrameLate, State.ssi_open hl hm ho hd, h']
    rfl
  · have h' : (!(s.ports.get n).driving && !false) = true := by simp [h]
    simp only [State.ssiFrameLate, State.ssi_open hl hm ho hd, h']
    rfl
  · simp only [State.portLineFault, hl, hu, hp, h]
    rfl
  · simp only [State.portLineFault, hl, hu, hp, h]
    rfl

end Sys2Proof.Machine
end
section
/-! The status block of a host interface whose rings' job is abandoned (14 R463, 01 R31). -/

namespace Sys2Proof.Machine

open State

/-- A module in service whose host interface runs and whose next job on the rings is abandoned. -/
def State.ringsDropped : State :=
  { State.small.hosted with spill := { State.small.hosted.spill with abandoned := [.rings] } }

/-- It writes no status block. -/
theorem State.ringsDropped_statusBlockWrite : State.ringsDropped.statusBlockWrite = State.ringsDropped := by
  have h : State.ringsDropped.abandoned .rings = true := by decide
  simp [State.statusBlockWrite, h]

/-- Refutes O45: the clause of STATUS_BLOCK_WRITE leaves out that the rings' job is not abandoned. In `State.ringsDropped` the rings run
and a status tag is free, yet the command writes nothing and takes no tag. -/
theorem not_hostRingsAreServed : ¬ Obligations.HostRingsAreServed := by
  rintro ⟨-, -, -, hs, -⟩
  obtain ⟨t, e, -, -, ht, -⟩ := hs State.ringsDropped (by decide) (by decide)
  have et : t = State.ringsDropped := (Host.Outcome.next.inj e).symm.trans State.ringsDropped_statusBlockWrite
  rw [et] at ht
  have h6 := congrArg (Tab.get · 6) ht
  revert h6
  decide

end Sys2Proof.Machine
end

section
/-! Firmware slots and the model at start-up (17 R563 to R567, 02 R79): which slots are tried and with what result, and what the load of
a model leaves. -/

namespace Sys2Proof.Machine

open State

/-! The choice of a slot (R563). -/

/-- The slot that a BOOT tries first: the TRIAL one, else the PREFERRED one. -/
def Pwr.firstChoice (p : Pwr) : Fin 2 := ((idx 2).find? fun k => (p.slots.get k).state = 2).getD p.preferred

/-- A second slot is tried where it is VALID or TRIAL. -/
def Pwr.alsoTry (p : Pwr) (k : Fin 2) : List (Fin 2) := if (p.slots.get k).state = 1 ∨ (p.slots.get k).state = 2 then [k] else []

/-- The slots that are still to be tried, in order. -/
def Pwr.slotsLeft (p : Pwr) : List (Fin 2) :=
  if p.boot.tried = 0 then p.firstChoice :: p.alsoTry (1 - p.firstChoice)
  else if p.boot.tried = 1 then p.alsoTry (1 - p.boot.first) else []

/-- The slot with which this BOOT began. -/
def Pwr.begun (p : Pwr) : Fin 2 := if p.boot.tried = 0 then p.firstChoice else p.boot.first

/-- A slot's image fails the check of R563. -/
def Pwr.slotBad (p : Pwr) (k : Fin 2) : Bool := (fwCode p.minSec (p.slots.get k).image).isSome

/-- The other slot is another slot. -/
theorem one_sub_ne (k : Fin 2) : 1 - k ≠ k := by revert k; decide

theorem Pwr.alsoTry_length (p : Pwr) (k : Fin 2) : (p.alsoTry k).length ≤ 1 := by
  unfold Pwr.alsoTry
  split <;> simp

theorem Pwr.mem_alsoTry {p : Pwr} {k j : Fin 2} (h : j ∈ p.alsoTry k) : j = k := by
  unfold Pwr.alsoTry at h
  split at h
  · exact List.mem_singleton.mp h
  · cases h

theorem Pwr.slotsLeft_length (p : Pwr) : p.slotsLeft.length ≤ 2 := by
  unfold Pwr.slotsLeft
  split
  · exact Nat.succ_le_succ (p.alsoTry_length _)
  · split
    · exact (p.alsoTry_length _).trans (by decide)
    · simp

/-- The ROM's next slot is the first of those left. -/
theorem State.nextSlot_eq (s : State) : s.nextSlot = s.pwr.slotsLeft.head? := by
  have h (k : Fin 2) : (if (s.pwr.slots.get k).state = 1 || (s.pwr.slots.get k).state = 2 then some k else none) = (s.pwr.alsoTry k).head? := by
    unfold Pwr.alsoTry
    by_cases e : (s.pwr.slots.get k).state = 1 ∨ (s.pwr.slots.get k).state = 2
    · rw [if_pos e, if_pos (by simpa using e)]
      rfl
    · rw [if_neg e, if_neg (by simpa using e)]
      rfl
  unfold State.nextSlot Pwr.slotsLeft
  cases e : s.pwr.boot.tried with
  | zero => simp only [e]; rfl
  | succ n =>
    cases n with
    | zero => simp only [e]; exact h _
    | succ n => simp [e]

/-- A slot whose image fails, after its trial: a TRIAL one is FAILED. -/
def FwSlot.failed (x : FwSlot) : FwSlot := if x.state = 2 then { x with state := 3 } else x

/-- The supervisor after a slot has failed the check. -/
def Pwr.afterFail (p : Pwr) (k : Fin 2) : Pwr :=
  { p with slots := p.slots.upd k FwSlot.failed
           boot := { p.boot with first := if p.boot.tried = 0 then k else p.boot.first, tried := p.boot.tried + 1 } }

/-- And after one has passed: it runs. -/
def Pwr.afterPass (p : Pwr) (k : Fin 2) (t0 : BitVec 32) : Pwr :=
  { p with running := k
           fallback := k ≠ if p.boot.tried = 0 then k else p.boot.first
           boot := { p.boot with
             step := 5, first := if p.boot.tried = 0 then k else p.boot.first, tried := p.boot.tried + 1, startT0 := t0, age := 0,
             trial := (p.slots.get k).state = 2 } }

theorem State.trySlot_bad {s : State} {k : Fin 2} (h : s.pwr.slotBad k = true) :
    s.trySlot k = ({ s with pwr := s.pwr.afterFail k }, false) := by
  have h' : (fwCode s.pwr.minSec (s.pwr.slots.get k).image).isNone = false := by simpa [Pwr.slotBad] using h
  unfold State.trySlot
  dsimp only
  rw [h', if_neg (by decide)]
  rfl

theorem State.trySlot_good {s : State} {k : Fin 2} (h : s.pwr.slotBad k = false) :
    s.trySlot k = ({ s with pwr := s.pwr.afterPass k s.tick.t0 }, true) := by
  have h' : (fwCode s.pwr.minSec (s.pwr.slots.get k).image).isNone = true := by simpa [Pwr.slotBad] using h
  unfold State.trySlot
  dsimp only
  rw [h', if_pos rfl]
  rfl

theorem Pwr.afterFail_slots (p : Pwr) (k j : Fin 2) :
    (p.afterFail k).slots.get j = if j = k then (p.slots.get k).failed else p.slots.get j := by
  by_cases h : j = k
  · subst h
    simp [Pwr.afterFail]
  · simp [Pwr.afterFail, h, Ne.symm h]

theorem Pwr.afterFail_slotBad (p : Pwr) (k : Fin 2) : (p.afterFail k).slotBad = p.slotBad := by
  funext j
  have h : ((p.afterFail k).slots.get j).image = (p.slots.get j).image := by
    rw [Pwr.afterFail_slots]
    split
    · next e =>
      subst e
      unfold FwSlot.failed
      split <;> rfl
    · rfl
  unfold Pwr.slotBad
  rw [h]
  rfl

theorem Pwr.afterFail_alsoTry {p : Pwr} {k j : Fin 2} (h : j ≠ k) : (p.afterFail k).alsoTry j = p.alsoTry j := by
  unfold Pwr.alsoTry
  rw [Pwr.afterFail_slots, if_neg h]

/-- A failed slot is the first of those left, and leaves the others; the BOOT began with the same slot. -/
theorem Pwr.afterFail_left {p : Pwr} {k : Fin 2} {ks : List (Fin 2)} (h : p.slotsLeft = k :: ks) :
    (p.afterFail k).slotsLeft = ks ∧ (p.afterFail k).begun = p.begun ∧ k ∉ ks := by
  have ht : (p.afterFail k).boot.tried = p.boot.tried + 1 := rfl
  by_cases h0 : p.boot.tried = 0
  · have hf : (p.afterFail k).boot.first = k := if_pos h0
    rw [Pwr.slotsLeft, if_pos h0, List.cons.injEq] at h
    obtain ⟨hk, hks⟩ := h
    refine ⟨?_, ?_, fun hm => ?_⟩
    · rw [Pwr.slotsLeft, ht, h0, if_neg (by decide), if_pos rfl, hf, Pwr.afterFail_alsoTry (one_sub_ne k), ← hks, hk]
    · rw [Pwr.begun, Pwr.begun, ht, if_neg (by omega), if_pos h0, hf, hk]
    · rw [← hks] at hm
      exact one_sub_ne _ ((Pwr.mem_alsoTry hm).symm.trans hk.symm)
  · have hf : (p.afterFail k).boot.first = p.boot.first := if_neg h0
    by_cases h1 : p.boot.tried = 1
    · rw [Pwr.slotsLeft, if_neg h0, if_pos h1] at h
      have hl := p.alsoTry_length (1 - p.boot.first)
      rw [h, List.length_cons] at hl
      obtain rfl : ks = [] := List.eq_nil_of_length_eq_zero (by omega)
      refine ⟨?_, ?_, by simp⟩
      · rw [Pwr.slotsLeft, ht, h1, if_neg (by decide), if_neg (by decide)]
      · rw [Pwr.begun, Pwr.begun, ht, if_neg (by omega), if_neg h0, hf]
    · rw [Pwr.slotsLeft, if_neg h0, if_neg h1] at h
      cases h

/-- What the choice among `ks` makes of the supervisor and the collector: each slot before the first that passes is marked; that one
runs, or recovery mode is entered. -/
structure State.SlotsTried (s t : State) (ks : List (Fin 2)) : Prop where
  rest : t = { s with pwr := t.pwr, fc := t.fc }
  domOn : t.pwr.domOn = s.pwr.domOn
  slots : ∀ j, t.pwr.slots.get j = if j ∈ ks.takeWhile s.pwr.slotBad then (s.pwr.slots.get j).failed else s.pwr.slots.get j
  runs : ∀ k, ks.find? (fun k => !s.pwr.slotBad k) = some k →
    t.pwr.running = k ∧ t.pwr.boot.step = 5 ∧ t.pwr.boot.trial = decide ((s.pwr.slots.get k).state = 2) ∧
      t.pwr.boot.startT0 = s.tick.t0 ∧ t.pwr.boot.age = 0 ∧ t.pwr.recovery = s.pwr.recovery ∧ t.fc = s.fc ∧
      t.pwr.fallback = decide (k ≠ s.pwr.begun)
  recovers : ks.find? (fun k => !s.pwr.slotBad k) = none →
    t.pwr.recovery = true ∧ t.pwr.recState = 0 ∧ t.pwr.boot.step = s.pwr.boot.step ∧ t.fc = { s.fc with nerr := true }

theorem State.slotsTried_nil (s : State) : s.SlotsTried s.bothFailed [] where
  rest := rfl
  domOn := rfl
  slots _ := rfl
  runs k h := by cases h
  recovers _ := ⟨rfl, rfl, rfl, rfl⟩

theorem State.slotsTried_good {s : State} {k : Fin 2} {ks : List (Fin 2)} (h : s.pwr.slotBad k = false) (hl : s.pwr.slotsLeft = k :: ks) :
    s.SlotsTried { s with pwr := s.pwr.afterPass k s.tick.t0 } (k :: ks) where
  rest := rfl
  domOn := rfl
  slots j := by simp [h]; rfl
  runs j hj := by
    obtain rfl : k = j := by simpa [List.find?_cons, h] using hj
    refine ⟨rfl, rfl, rfl, rfl, rfl, rfl, rfl, ?_⟩
    have e : (if s.pwr.boot.tried = 0 then k else s.pwr.boot.first) = s.pwr.begun := by
      unfold Pwr.begun
      by_cases h0 : s.pwr.boot.tried = 0
      · rw [if_pos h0, if_pos h0]
        rw [Pwr.slotsLeft, if_pos h0, List.cons.injEq] at hl
        exact hl.1.symm
      · rw [if_neg h0, if_neg h0]
    rw [← e]
    rfl
  recovers hn := by simp [h] at hn

theorem State.slotsTried_bad {s t : State} {k : Fin 2} {ks : List (Fin 2)} (h : s.pwr.slotBad k = true) (hl : s.pwr.slotsLeft = k :: ks)
    (ht : State.SlotsTried { s with pwr := s.pwr.afterFail k } t ks) : s.SlotsTried t (k :: ks) := by
  obtain ⟨-, hbeg, hk⟩ := Pwr.afterFail_left hl
  have hbad := s.pwr.afterFail_slotBad k
  refine ⟨ht.rest, ht.domOn, fun j => ?_, fun j hj => ?_, fun hn => ?_⟩
  · have hs := ht.slots j
    dsimp only at hs
    rw [hbad, Pwr.afterFail_slots] at hs
    rw [hs, List.takeWhile_cons, if_pos h]
    by_cases hj : j = k
    · subst hj
      have : j ∉ ks.takeWhile s.pwr.slotBad := fun hm => hk ((List.takeWhile_sublist _).subset hm)
      simp [this]
    · simp [hj]
  · rw [List.find?_cons, h] at hj
    have hne : j ≠ k := fun e => hk (e ▸ List.mem_of_find?_eq_some hj)
    have hr := ht.runs j
    dsimp only at hr
    rw [hbad, hbeg, Pwr.afterFail_slots, if_neg hne] at hr
    exact hr hj
  · rw [List.find?_cons, h] at hn
    have hr := ht.recovers
    dsimp only at hr
    rw [hbad] at hr
    exact hr hn

theorem State.slotGo_tried (n : Nat) (s : State) (h : s.pwr.slotsLeft.length ≤ n) : s.SlotsTried (slotGo n s) s.pwr.slotsLeft := by
  induction n generalizing s with
  | zero =>
    rw [List.eq_nil_of_length_eq_zero (Nat.le_zero.mp h)]
    exact s.slotsTried_nil
  | succ n ih =>
    unfold State.slotGo
    rw [s.nextSlot_eq]
    cases hl : s.pwr.slotsLeft with
    | nil => exact s.slotsTried_nil
    | cons k ks =>
      dsimp only [List.head?_cons]
      by_cases hb : s.pwr.slotBad k = true
      · rw [State.trySlot_bad hb]
        obtain ⟨hks, -, -⟩ := Pwr.afterFail_left hl
        refine State.slotsTried_bad hb hl ?_
        have := ih { s with pwr := s.pwr.afterFail k } (by
          rw [hks]
          rw [hl, List.length_cons] at h
          omega)
        rwa [hks] at this
      · rw [State.trySlot_good (Bool.eq_false_iff.mpr hb)]
        exact State.slotsTried_good (Bool.eq_false_iff.mpr hb) hl

/-- PD1 comes on before a slot is tried. -/
def Pwr.withPd1 (p : Pwr) : Pwr := { p with domOn := p.domOn ||| 0x02, domOk := p.domOk ||| 0x02 }

theorem State.slotSelect_tries {s : State} (hm : s.mod = .boot) (h4 : s.pwr.boot.step = 4) (hh : s.pwr.boot.halted = false)
    (hn : s.pwr.nrstin = false) (hr : s.pwr.recovery = false) (hd : s.pwr.domLock.getLsbD 1 = false) :
    State.SlotsTried { s with pwr := s.pwr.withPd1 } s.slotSelect s.pwr.slotsLeft := by
  have e : s.slotSelect = slotGo 2 { s with pwr := s.pwr.withPd1 } := by
    unfold State.slotSelect
    dsimp only
    rw [if_neg (by simp only [hm, h4, hh, hn, hr, hd]; decide)]
    rfl
  rw [e]
  exact State.slotGo_tried 2 { s with pwr := s.pwr.withPd1 } (Pwr.slotsLeft_length _)

/-! The load of a model (02 R79). -/

/-- The supervisor, the image unit and the module's state: what the units of a model that comes into force leave alone. -/
def State.bootPart (s : State) : ModState × Pwr × Img := (s.mod, s.pwr, s.img)

theorem State.bootPart_eq {s : State} {x : ModState × Pwr × Img} (h : s.bootPart = x) : s.mod = x.1 ∧ s.pwr = x.2.1 ∧ s.img = x.2.2 := by
  subst h
  exact ⟨rfl, rfl, rfl⟩

theorem State.each_bootPart {α : Type} {f : State → α → State} (h : ∀ s a, (f s a).bootPart = s.bootPart) (s : State) (l : List α) :
    (s.each l f).bootPart = s.bootPart := each_keeps s State.bootPart f h l

theorem State.joinChain_bootPart (s : State) (i : ChainItem) : (s.joinChain i).bootPart = s.bootPart := by
  unfold State.joinChain
  split <;> rfl

theorem State.finish_bootPart (s : State) (e : CmdEntry) (st : CplStatus) (code : Nat) (result : BitVec 32) :
    (s.finish e st code result).bootPart = s.bootPart := by
  rw [State.finish_scope]
  rfl

theorem State.event_bootPart (s : State) (ty car : Nat) (data : List Byte) : (s.event ty car data).bootPart = s.bootPart := by
  rw [State.event_scope]
  rfl

theorem State.applyPort_bootPart (s : State) (old : Option Model) (m : Model) (n : Fin 48) : (s.applyPort old m n).bootPart = s.bootPart := by
  unfold State.applyPort
  dsimp only
  split
  · rfl
  · split <;> split <;> rfl

theorem State.loadGroup_bootPart (s : State) (m : Model) (g : Fin 6) : (s.loadGroup m g).bootPart = s.bootPart := by
  unfold State.loadGroup
  dsimp only
  split
  · rfl
  · split
    · rw [State.joinChain_bootPart]
      rfl
    · rfl

theorem State.abortRaw_bootPart (s : State) (a b : List TxFrame) : (s.abortRaw a b).bootPart = s.bootPart := by
  refine State.each_bootPart (fun s tag => ?_) s _
  split
  · rfl
  · exact State.finish_bootPart ..

theorem State.dropTx_bootPart (s : State) (n : Fin 12) (b : Bool) : (s.dropTx n b).bootPart = s.bootPart :=
  State.abortRaw_bootPart ..

theorem State.busOff_bootPart (s : State) (n : Fin 12) : (s.busOff n).bootPart = s.bootPart := State.dropTx_bootPart s n true

theorem State.applyBus_bootPart (s : State) (old : Option BusRec) (n : Fin 12) : (s.applyBus old n).bootPart = s.bootPart := by
  unfold State.applyBus
  extract_lets new u
  have h : u.bootPart = s.bootPart := by
    unfold u
    split
    · rfl
    · exact s.busOff_bootPart n
  split
  · exact h
  · split
    · split
      · exact h
      · exact (State.joinChain_bootPart ..).trans h
    · exact h

theorem State.loadUnits_bootPart (s : State) (old : Option Model) (m : Model) : (s.loadUnits old m).bootPart = s.bootPart := by
  unfold State.loadUnits
  rw [State.each_bootPart fun s n => s.applyBus_bootPart _ n, State.each_bootPart fun s g => s.loadGroup_bootPart m g,
    State.each_bootPart fun s n => s.applyPort_bootPart old m n]

theorem State.enterCar_bootPart (s : State) (old : Option Model) (m : Model) (c : Fin 16) : (s.enterCar old m c).bootPart = s.bootPart := by
  unfold State.enterCar
  split <;> rfl

theorem State.endLearnDoors_bootPart (s : State) (c : Fin 16) (st : CplStatus) : (s.endLearnDoors c st).bootPart = s.bootPart := by
  unfold State.endLearnDoors
  split
  · rfl
  · exact State.finish_bootPart ..

theorem State.freeCar_bootPart (s : State) (m : Model) (c : Fin 16) : (s.freeCar m c).bootPart = s.bootPart :=
  State.endLearnDoors_bootPart s c .aborted

theorem State.callEvent_bootPart (s : State) (kind st origin dest : Nat) (car : Option (Fin 16)) (code slot : Nat) (ref : BitVec 32) (src : Nat) :
    (s.callEvent kind st origin dest car code slot ref src).bootPart = s.bootPart := by
  unfold State.callEvent State.callReport
  dsimp only
  split
  · rfl
  · exact State.event_bootPart ..

theorem State.unlight_bootPart (s : State) (x : Call) : (s.unlight x).bootPart = s.bootPart := by
  unfold State.unlight
  split <;> rfl

theorem State.dropCall_bootPart (s : State) (x : Call) (st : Nat) : (s.dropCall x st).bootPart = s.bootPart :=
  State.each_bootPart (fun s _ => State.callEvent_bootPart s ..) _ _

theorem State.dropCarCall_bootPart (s : State) (c : Fin 16) (x : CarCall) (st : Nat) : (s.dropCarCall c x st).bootPart = s.bootPart :=
  State.each_bootPart (fun s _ => State.callEvent_bootPart s ..) _ _

theorem State.cancelUnserved_bootPart (s : State) (m : Model) : (s.cancelUnserved m).bootPart = s.bootPart := by
  unfold State.cancelUnserved
  dsimp only
  rw [State.each_bootPart fun s c => State.each_bootPart (fun s x => s.dropCarCall_bootPart c x 5) s _,
    State.each_bootPart fun s x => (State.dropCall_bootPart _ x 5).trans (s.unlight_bootPart x)]

/-- A model that takes its place outside ACTIVE and STANDBY leaves the supervisor, the images and the module's state. -/
theorem State.installModel_bootPart {s : State} (hm : s.mod = .boot) (m : Model) (cars : BitVec 16) :
    (s.installModel m cars).bootPart = s.bootPart := by
  unfold State.installModel
  extract_lets old t1 t2 t3 t4 t5
  have h1 : t1.bootPart = s.bootPart := rfl
  have h2 : t2.bootPart = t1.bootPart :=
    (State.each_bootPart (fun s c => s.enterCar_bootPart _ m c) _ _).trans (State.loadUnits_bootPart ..)
  have h3 : t3.bootPart = t2.bootPart :=
    (State.each_bootPart (f := freeSide) (fun s d => rfl) _ _).trans (State.each_bootPart (fun s c => s.freeCar_bootPart m c) _ _)
  have h4 : t4.bootPart = t3.bootPart := State.each_bootPart (f := fun s d => s.updSide d fun _ => Side.zero) (fun s d => rfl) _ _
  have h5 : t5.bootPart = t4.bootPart := State.cancelUnserved_bootPart _ m
  have h := h5.trans (h4.trans (h3.trans (h2.trans h1)))
  clear_value t5
  have hm5 : t5.mod = .boot := (State.bootPart_eq h).1.trans hm
  rw [if_neg (by simp [hm5])]
  exact h

/-- The images of MODEL_LOAD, slot by slot: those that verify, and those that do not. -/
def State.heldImages (s : State) : List (Fin 4 × List Byte) := (idx 4).filterMap fun k => (s.img.slots.get k).map fun b => (k, b)

theorem State.mem_heldImages {s : State} {p : Fin 4 × List Byte} : p ∈ s.heldImages ↔ s.img.slots.get p.1 = some p.2 := by
  obtain ⟨k, b⟩ := p
  simp [State.heldImages, mem_idx]

/-- The images that verify are those of the slots filtered. -/
theorem State.heldImages_good (s : State) :
    s.heldImages.filter (fun p => s.slotOk p.2) = (idx 4).filterMap fun k => ((s.img.slots.get k).filter s.slotOk).map fun b => (k, b) := by
  rw [State.heldImages, List.filter_filterMap]
  congr 1
  funext k
  cases s.img.slots.get k with
  | none => rfl
  | some b => by_cases h : s.slotOk b = true <;> simp [Option.filter, h]

/-- Slots emptied one after the other. -/
theorem foldl_put_none_get (l : List (Fin 4 × List Byte)) (t : Tab 4 (Option (List Byte))) (k : Fin 4) :
    (l.foldl (fun t p => t.put p.1 none) t).get k = if k ∈ l.map (·.1) then none else t.get k := by
  induction l generalizing t with
  | nil => simp
  | cons p l ih =>
    rw [List.foldl_cons, ih, Tab.get_put]
    by_cases h : k ∈ l.map (·.1)
    · simp [h]
    · by_cases hj : p.1 = k
      · simp [hj]
      · simp [h, hj, Ne.symm hj]

/-- The slots whose image fails are emptied and reported: an event each. -/
def State.emptyBad (s : State) : State :=
  s.each (s.heldImages.filter fun p => !s.slotOk p.2) fun s p =>
    (s.updImg fun i => { i with slots := i.slots.put p.1 none }).imageEvent 0 (imgSeq p.2) 0 (imgDigest p.2)

/-- The image of the highest SEQ among those that verify. -/
def State.bestImage (s : State) : Option (Fin 4 × List Byte) :=
  firstMin (fun a b => decide ((imgSeq b.2).toNat < (imgSeq a.2).toNat)) (s.heldImages.filter fun p => s.slotOk p.2)

theorem State.loadBest_none {s : State} (h : s.bestImage = none) : s.loadBest = s.emptyBad := by
  unfold State.loadBest
  dsimp only
  split
  · rfl
  · next e => cases e.symm.trans h

theorem State.loadBest_some {s : State} {k : Fin 4} {bs : List Byte} (h : s.bestImage = some (k, bs)) :
    s.loadBest = (s.emptyBad.updImg fun i => { i with inforce := k }).installModel (readModel bs) 0 := by
  unfold State.loadBest
  dsimp only
  split
  · next e => cases e.symm.trans h
  · next e =>
    cases e.symm.trans h
    rfl

/-- Emptying slots changes of the images, the supervisor and the module's state the slots alone. -/
theorem State.each_emptySlot_bootPart (l : List (Fin 4 × List Byte)) (s : State) :
    (s.each l fun s p =>
        (s.updImg fun i => { i with slots := i.slots.put p.1 none }).imageEvent 0 (imgSeq p.2) 0 (imgDigest p.2)).bootPart =
      (s.mod, s.pwr, { s.img with slots := l.foldl (fun t p => t.put p.1 none) s.img.slots }) := by
  unfold State.each
  induction l generalizing s with
  | nil => rfl
  | cons p l ih =>
    rw [List.foldl_cons, List.foldl_cons, ih]
    unfold State.imageEvent
    rw [State.event_scope]
    rfl

theorem State.emptyBad_bootPart (s : State) :
    s.emptyBad.bootPart = (s.mod, s.pwr, { s.img with
      slots := (s.heldImages.filter fun p => !s.slotOk p.2).foldl (fun t p => t.put p.1 none) s.img.slots }) :=
  State.each_emptySlot_bootPart _ s

theorem State.emptyBad_slots (s : State) (k : Fin 4) : s.emptyBad.img.slots.get k = (s.img.slots.get k).filter s.slotOk := by
  rw [(State.bootPart_eq s.emptyBad_bootPart).2.2]
  refine (foldl_put_none_get _ _ k).trans ?_
  cases hk : s.img.slots.get k with
  | none => simp
  | some b => by_cases h : s.slotOk b = true <;> simp [State.mem_heldImages, Option.filter, hk, h]

theorem State.emptyBad_model (s : State) : s.emptyBad.model = s.model := by
  unfold State.emptyBad
  refine each_model _ _ _ fun s p => ?_
  unfold State.imageEvent
  rw [State.event_scope]
  rfl

theorem State.emptyBad_rest (s : State) :
    s.emptyBad.mod = s.mod ∧ s.emptyBad.pwr = s.pwr ∧ s.emptyBad.img.key = s.img.key ∧ s.emptyBad.img.inforce = s.img.inforce := by
  obtain ⟨em, ep, ei⟩ := State.bootPart_eq s.emptyBad_bootPart
  exact ⟨em, ep, by rw [ei], by rw [ei]⟩

/-- A model installed in BOOT from a configuration slot. -/
theorem State.installFrom_spec {s : State} (hm : s.mod = .boot) (k : Fin 4) (m : Model) {t : State}
    (ht : t = (s.updImg fun i => { i with inforce := k }).installModel m 0) :
    t.mod = s.mod ∧ t.pwr = s.pwr ∧ t.img = { s.img with inforce := k } ∧ t.model = some m := by
  obtain ⟨im, ip, ii⟩ := State.bootPart_eq (State.installModel_bootPart (s := s.updImg fun i => { i with inforce := k }) hm m 0)
  rw [ht]
  exact ⟨im, ip, ii, (State.installModel_keeps ..).2.2.2⟩

/-- What the load of the best image leaves: the supervisor and the module's state, and the images that verify. -/
theorem State.loadBest_rest {s : State} (hm : s.mod = .boot) :
    s.loadBest.mod = s.mod ∧ s.loadBest.pwr = s.pwr ∧ s.loadBest.img.key = s.img.key ∧
      ∀ k, s.loadBest.img.slots.get k = (s.img.slots.get k).filter s.slotOk := by
  obtain ⟨em, ep, ek, -⟩ := s.emptyBad_rest
  have es := s.emptyBad_slots
  cases hb : s.bestImage with
  | none =>
    rw [State.loadBest_none hb]
    exact ⟨em, ep, ek, es⟩
  | some p =>
    obtain ⟨im, ip, ii, -⟩ := State.installFrom_spec (em.trans hm) p.1 (readModel p.2) (State.loadBest_some hb)
    rw [ii]
    exact ⟨im.trans em, ip.trans ep, ek, es⟩

/-- The best image is in force, in the module's model and in the image unit. -/
theorem State.loadBest_inforce {s : State} (hm : s.mod = .boot) {k : Fin 4} {bs : List Byte} (hb : s.bestImage = some (k, bs)) :
    s.loadBest.model = some (readModel bs) ∧ s.loadBest.img.inforce = k := by
  obtain ⟨-, -, ii, io⟩ := State.installFrom_spec (s.emptyBad_rest.1.trans hm) k (readModel bs) (State.loadBest_some hb)
  exact ⟨io, by rw [ii]⟩

/-- Where no image verifies the model is as it was. -/
theorem State.loadBest_unchanged {s : State} (hb : s.bestImage = none) :
    s.loadBest.model = s.model ∧ s.loadBest.img.inforce = s.img.inforce := by
  rw [State.loadBest_none hb]
  exact ⟨s.emptyBad_model, s.emptyBad_rest.2.2.2⟩

/-- MODEL_LOAD at step 7: the load, the next step, and the commit of a TRIAL slot where there is a model. -/
theorem State.modelLoad_step7 {s : State} (hm : s.mod = .boot) (h7 : s.pwr.boot.step = 7) (hh : s.pwr.boot.halted = false) :
    s.modelLoad = { s.loadBest with pwr :=
      if s.loadBest.model.isSome ∧ s.loadBest.pwr.boot.trial = true then
        { s.loadBest.pwr with
          boot := { s.loadBest.pwr.boot with step := 9, loaded := true, trial := false }
          preferred := s.loadBest.pwr.running
          slots := s.loadBest.pwr.slots.upd s.loadBest.pwr.running fun x => { x with state := 1 }
          minSec := max s.loadBest.pwr.minSec (fwSec (s.loadBest.pwr.slots.get s.loadBest.pwr.running).image) }
      else { s.loadBest.pwr with boot := { s.loadBest.pwr.boot with step := 9, loaded := true } } } := by
  unfold State.modelLoad
  rw [if_neg (by simp [hm, h7, hh])]
  generalize s.loadBest = u
  dsimp only
  by_cases h1 : u.model.isSome = true
  · by_cases h2 : u.pwr.boot.trial = true <;> simp [State.commitTrial, State.updPwr, h1, h2]
  · simp [State.updPwr, h1]

theorem Pwr.fallback_eq (p : Pwr) (k : Fin 2) :
    decide (k ≠ p.begun) = if p.boot.tried = 0 then decide (p.slotsLeft.head? ≠ some k) else decide (k ≠ p.boot.first) := by
  unfold Pwr.begun Pwr.slotsLeft
  split
  · simp [eq_comm]
  · rfl

theorem FwSlot.failed_if (c : Prop) [Decidable c] (x : FwSlot) :
    (if c then x.failed else x) = if c ∧ x.state = 2 then { x with state := 3 } else x := by
  unfold FwSlot.failed
  by_cases hc : c <;> simp [hc]

/-- Settles O13: the slots tried in turn, the end of the self-tests, the load of the best image and the commit. -/
theorem bootSelectsAndCommitsSlots : Obligations.BootSelectsAndCommitsSlots := by
  refine ⟨fun s ks hm h4 hh hn hr hd hks => ⟨_, rfl, ?_⟩, fun s hm h6 hh => congrArg Host.Outcome.next ?_,
    fun s hm h6 hh => ⟨_, rfl, ?_⟩, fun s hm h7 hh => ⟨_, rfl, ?_⟩⟩
  · obtain rfl : ks = s.pwr.slotsLeft := hks
    have h := State.slotSelect_tries hm h4 hh hn hr hd
    have hp : (fun k => (fwCode s.pwr.minSec (s.pwr.slots.get k).image).isNone) = fun k => !s.pwr.slotBad k := by
      funext k
      simp [Pwr.slotBad]
    refine ⟨?_, h.domOn, ?_, ?_, fun k => (h.slots k).trans (FwSlot.failed_if _ _), ?_⟩
    · rw [h.rest]
      exact hm
    · rw [h.rest]
    · rw [h.rest]
    · rw [hp]
      split
      · next k hk =>
        obtain ⟨h1, h2, h3, h5, h6, h7, h8, h9⟩ := h.runs k hk
        exact ⟨h1, h2, h3, h5, h6, h7.trans hr, h8, h9.trans (s.pwr.fallback_eq k)⟩
      · next hk =>
        obtain ⟨h1, h2, h3, h5⟩ := h.recovers hk
        exact ⟨h1, h2, h3.trans h4, h5⟩
  · simp [State.startupSelfTestsDone, hm, h6, hh, State.updPwr]
  · have e : s.startupSelfTestsDone false = s.failSlot := by simp [State.startupSelfTestsDone, hm, h6, hh]
    rw [e]
    refine ⟨rfl, rfl, rfl, rfl, rfl, fun k hk => Tab.get_upd_ne _ _ (Ne.symm hk), Tab.get_upd_same ..⟩
  · obtain ⟨lm, lp, lk, ls⟩ := State.loadBest_rest hm
    obtain ⟨lt, -, lq⟩ := s.loadBest_keeps
    have hb : s.bestImage = _ := congrArg (firstMin _) s.heldImages_good
    rw [State.modelLoad_step7 hm h7 hh, ← hb, ← lp]
    refine ⟨lm.trans hm, ?_, ?_, lt, lq, lk, ls, ?_, ?_⟩
    · dsimp only
      split <;> rfl
    · dsimp only
      split <;> rfl
    · split
      · next hk => exact State.loadBest_inforce hm hk
      · next hk => exact State.loadBest_unchanged hk
    · dsimp only
      split
      · exact ⟨rfl, rfl, rfl, rfl⟩
      · exact ⟨rfl, rfl, rfl, rfl⟩

end Sys2Proof.Machine
end

section
/-! The image store (02): what a rejection and an acceptance leave, and when the commands of an image do nothing. -/

namespace Sys2Proof.Machine

open State

theorem State.imageEvent_scope (s : State) (code : Nat) (seq applyT2 : BitVec 32) (digest : List Byte) :
    s.imageEvent code seq applyT2 digest = { s with hi := (s.imageEvent code seq applyT2 digest).hi, freeCtr := s.freeCtr + 1 } := by
  unfold State.imageEvent
  exact State.event_scope ..

theorem State.finishLoad_scope (s : State) (st : CplStatus) (code : Nat) (result : BitVec 32) :
    s.finishLoad st code result = { s with hi := (s.finishLoad st code result).hi } := by
  unfold State.finishLoad
  split
  · exact State.finish_scope ..
  · rfl

/-- The image store after a rejection (R62): nothing in hand, nothing pending, and the slot of the pending image empty. -/
def Img.rejected (i : Img) (code : Nat) : Img :=
  { i with
    state := .idle
    reject := BitVec.ofNat 8 code
    work := none
    pending := none
    linkBuf := []
    linkLen := 0
    slots := i.pending.elim i.slots fun p => i.slots.put p.slot none }

/-- A rejection changes the image store as `Img.rejected` says; with its answers and its event, the pair and the host interface. -/
theorem State.rejectImage_scope (s : State) (code : Nat) :
    s.rejectImage code = { s with
      img := s.img.rejected code
      tw := (s.rejectImage code).tw
      hi := (s.rejectImage code).hi
      freeCtr := s.freeCtr + 1 } := by
  unfold State.rejectImage
  dsimp only
  split <;> rw [State.finishLoad_scope, State.imageEvent_scope] <;> rfl

/-- The rejection of a pending image, in the form the statements give it. -/
theorem State.rejectImage_pending {s : State} {p : PendingImg} (h : s.img.pending = some p) (code : Nat) :
    (s.rejectImage code).img.pending = none ∧ (s.rejectImage code).img.reject = BitVec.ofNat 8 code ∧
      (s.rejectImage code).img.slots = s.img.slots.put p.slot none ∧
      s.rejectImage code = { s with
        img := (s.rejectImage code).img
        hi := (s.rejectImage code).hi
        tw := (s.rejectImage code).tw
        freeCtr := (s.rejectImage code).freeCtr } := by
  have e := s.rejectImage_scope code
  have hi : (s.rejectImage code).img = s.img.rejected code := by rw [e]
  have hf : (s.rejectImage code).freeCtr = s.freeCtr + 1 := by rw [e]
  rw [hi, hf]
  exact ⟨rfl, rfl, by simp [Img.rejected, h], e⟩

/-- An accepted image is pending in its slot; the model in force stays (R64). -/
theorem State.makePending_spec (s : State) (bs : List Byte) (o : ImgOrigin) (k : Fin 4) :
    (s.makePending bs o k).model = s.model ∧ ∃ p : PendingImg, (s.makePending bs o k).img =
        { s.img with state := .pending, work := none, pending := some p, slots := s.img.slots.put k (some bs) } ∧
      p.model = readModel bs ∧ p.slot = k ∧ p.origin = o := by
  unfold State.makePending State.oweAnswer
  dsimp only
  rw [State.imageEvent_scope]
  split <;> split <;> exact ⟨rfl, _, rfl, rfl, rfl, rfl⟩

/-- The check values of an image's sections are counted by CV12, where its container passes. -/
def State.crcsUsed (s : State) (bs : List Byte) : State :=
  if (stage1 bs).isNone then s.each (imgCrcs bs) fun s ok => s.useCv 12 ok else s

theorem State.each_useCv_scope (s : State) (n : Fin 16) (l : List Bool) :
    s.each l (fun s ok => s.useCv n ok) = { s with cvs := (s.each l fun s ok => s.useCv n ok).cvs } := by
  induction l generalizing s with
  | nil => rfl
  | cons ok l ih =>
    rw [State.each_cons, ih, State.useCv_scope]

theorem State.crcsUsed_scope (s : State) (bs : List Byte) : s.crcsUsed bs = { s with cvs := (s.crcsUsed bs).cvs } := by
  unfold State.crcsUsed
  split
  · exact State.each_useCv_scope ..
  · rfl

theorem State.crcsUsed_slotFor (s : State) (bs : List Byte) : (s.crcsUsed bs).slotFor = s.slotFor := by
  rw [State.crcsUsed_scope]
  rfl

section verified
variable {s : State} {bs : List Byte} {o : ImgOrigin} {flashOk : Bool} (hst : s.img.state = .verifying)
  (hw : s.img.work = some (bs, o)) (hd : s.pwr.derate = false ∨ o ≠ .host)
include hst hw hd

/-- A stage that fails, or flash, rejects the image in verification. -/
theorem State.imageVerified_rejects {c : Nat} (hc : (s.verifyCode bs o).or (if flashOk then none else some 0x0B) = some c) :
    s.imageVerified flashOk = (s.crcsUsed bs).rejectImage c := by
  have hp : (s.pwr.derate && decide (o = .host)) = false := by rcases hd with h | h <;> simp [h]
  unfold State.imageVerified
  simp only [hst, hw, hp]
  cases hv : s.verifyCode bs o with
  | some d =>
    obtain rfl : d = c := by simpa [hv] using hc
    rfl
  | none =>
    cases flashOk with
    | true => simp [hv] at hc
    | false =>
      obtain rfl : 0x0B = c := by simpa [hv] using hc
      rfl

/-- An image that every stage accepts and flash takes becomes pending. -/
theorem State.imageVerified_accepts (hc : (s.verifyCode bs o).or (if flashOk then none else some 0x0B) = none) :
    s.imageVerified flashOk = (s.crcsUsed bs).makePending bs o s.slotFor := by
  have hp : (s.pwr.derate && decide (o = .host)) = false := by rcases hd with h | h <;> simp [h]
  obtain ⟨hv, hf⟩ := Option.or_eq_none_iff.mp hc
  have hf : flashOk = true := by simpa using hf
  rw [← s.crcsUsed_slotFor bs]
  unfold State.imageVerified
  simp only [hst, hw, hp, hv, hf]
  rfl

end verified

/-- With no image in verification, or a host's image while derated, IMAGE_VERIFIED does nothing. -/
theorem State.imageVerified_waits {s : State} (flashOk : Bool)
    (h : s.img.state ≠ .verifying ∨ s.img.work = none ∨ (s.pwr.derate = true ∧ ∃ bs, s.img.work = some (bs, .host))) :
    s.imageVerified flashOk = s := by
  unfold State.imageVerified
  split
  · next bs o hst hw =>
    rcases h with h | h | ⟨hd, bs', h⟩
    · exact absurd hst h
    · simp [hw] at h
    · obtain ⟨-, rfl⟩ : bs = bs' ∧ o = .host := by simpa [hw] using h
      simp [hd]
  · rfl

section peer
variable {s : State} {p : PendingImg} (hm : s.mod = .active) (hp : s.img.pending = some p) (ho : p.origin = .host) (hk : p.peerOk = false)
include hm hp ho hk

/-- The VERIFIED of the image's own digest sets the boundary A. -/
theorem State.peerVerifyResult_agrees :
    s.peerVerifyResult 0 p.model.digest = s.chooseA p true := by
  simp [State.peerVerifyResult, hm, hp, ho, hk]

/-- Any other answer rejects the image. -/
theorem State.peerVerifyResult_differs {code : BitVec 8} {d : List Byte} (h : code ≠ 0 ∨ d ≠ p.model.digest) :
    s.peerVerifyResult code d = s.rejectImage rejPeer := by
  unfold State.peerVerifyResult
  simp only [hp]
  rw [if_neg (by simp [hm, ho, hk])]
  refine if_neg ?_
  rw [Bool.and_eq_true, decide_eq_true_eq, beq_iff_eq, not_and_or]
  exact h

end peer

/-- An answer for which no image waits changes nothing. -/
theorem State.peerVerifyResult_unasked {s : State} (code : BitVec 8) (d : List Byte)
    (h : s.mod ≠ .active ∨ s.img.pending = none ∨ ∃ p, s.img.pending = some p ∧ (p.origin ≠ .host ∨ p.peerOk = true)) :
    s.peerVerifyResult code d = s := by
  unfold State.peerVerifyResult
  split
  · rfl
  · next p hp =>
    refine if_pos ?_
    rcases h with h | h | ⟨q, hq, h⟩
    · simp [h]
    · simp [hp] at h
    · obtain rfl : p = q := Option.some.inj (hp.symm.trans hq)
      rcases h with h | h <;> simp [h]

/-- Settles O47: the verification's two ends, the answer of the standby's three, and the wait for a quiet moment. -/
theorem imagesAreVerifiedAndPending : Obligations.ImagesAreVerifiedAndPending := by
  refine ⟨fun s bs o flashOk hst hw hd => ⟨_, rfl, ?_⟩, fun s flashOk h => congrArg _ (State.imageVerified_waits flashOk h),
    fun s p hm hp ho hk => congrArg _ (State.peerVerifyResult_agrees hm hp ho hk), fun s p code d hm hp ho hk h => ⟨_, rfl, ?_⟩,
    fun s code d h => congrArg _ (State.peerVerifyResult_unasked code d h), fun s p hp hw => ⟨_, rfl, ?_⟩,
    fun s h => congrArg Host.Outcome.next ?_⟩
  · have e := s.crcsUsed_scope bs
    cases hc : (s.verifyCode bs o).or (if flashOk then none else some 0x0B) with
    | some c =>
      rw [State.imageVerified_rejects hst hw hd hc, State.rejectImage_scope, e]
      refine ⟨rfl, rfl, rfl, rfl, rfl, ?_⟩
      cases hp : s.img.pending <;> simp [Img.rejected, hp]
    | none =>
      rw [State.imageVerified_accepts hst hw hd hc, e]
      obtain ⟨hm, p, hi, h1, h2, h3⟩ := State.makePending_spec { s with cvs := (s.crcsUsed bs).cvs } bs o s.slotFor
      rw [hm, hi]
      exact ⟨rfl, rfl, rfl, rfl, rfl, p, rfl, h1, h2, h3⟩
  · rw [State.peerVerifyResult_differs hm hp ho hk h]
    exact State.rejectImage_pending hp _
  · have e : s.imageNotQuiet = s.rejectImage 0x0D := by simp [State.imageNotQuiet, hp, hw]
    rw [e]
    exact State.rejectImage_pending hp _
  · refine if_neg ?_
    rcases h with h | ⟨p, h, hw⟩
    · simp [h]
    · simpa [h] using hw

end Sys2Proof.Machine
end

section
/-! Restarts that change flash: KEY_RELEASE (02 R69), the end of an update (17 R571) and of a recovery (17 R565). -/

namespace Sys2Proof.Machine

open State

/-- A restart keeps nothing of the host interface: a completion written before it is no part of what it leaves. -/
theorem State.Restarted.of_hi {s t : State} {h : Hi} (r : State.Restarted { s with hi := h } t) : s.Restarted t := { r with }

/-- KEY_RELEASE that passes its checks forgets the key and the images, and restarts the module. -/
theorem State.keyRelease_restarts {s : State} {e : CmdEntry} (hc : s.canStart 0x13 e = true) (hq : paramOk e true = true)
    (hm : s.mod = .config ∨ s.mod = .safeHold) (h0 : s.seal0 = true) (ha : s.allStill = true) :
    s.keyRelease e =
      (((s.takeEntry e).updImg fun i => { i with key := none, group := none, slots := Tab.all none }).answer e .done 0).reboot := by
  have hst : s.Starts (s.takeEntry e) 0x13 e true := ⟨hc, hq, fun h => by rcases hm with h' | h' <;> simp [h] at h', rfl⟩
  have hm' : (!((s.takeEntry e).mod == .config || (s.takeEntry e).mod == .safeHold)) = false := by
    rcases hm with h | h <;> simp [h]
  have h0' : (s.takeEntry e).seal0 = true := h0
  have ha' : (s.takeEntry e).allStill = true := ha
  exact command_act hst (by simp only [firstBad, hm', h0', ha']; rfl)

/-- The end of an update ends its command and restarts the module with the slot not running written. -/
theorem State.updateFlashDone_restarts {s : State} {u : Update} (hu : s.pwr.update = some u) (hm : s.mod = .update)
    (hw : u.writing = true) (ok : Bool) : ∃ h : Hi, s.updateFlashDone ok = State.updPwr (State.reboot { s with hi := h }) fun p =>
      { p with
        preferred := p.running
        slots := p.slots.put (1 - s.pwr.running) (if ok then { image := u.image, state := 2 } else FwSlot.zero) } := by
  unfold State.updateFlashDone
  simp only [hu]
  rw [if_neg (by simp [hm, hw])]
  cases ok with
  | true =>
    rw [if_pos rfl, State.finish_scope]
    exact ⟨_, rfl⟩
  | false =>
    rw [if_neg Bool.false_ne_true, State.finish_scope]
    exact ⟨_, rfl⟩

/-- The end of a recovery restarts the module with slot A TRIAL and no FAILED slot B. -/
theorem State.recoveryWriteDone_restarts {s : State} (hr : s.recovers = true) (h3 : s.pwr.recState = 3) :
    s.recoveryWriteDone true = s.reboot.updPwr fun p =>
      { p with
        recState := 4
        slots := (p.slots.upd 1 fun x => if x.state = 3 then FwSlot.zero else x).put 0 { image := s.recoveryImage, state := 2 } } := by
  simp [State.recoveryWriteDone, hr, h3]

theorem State.recoveryWriteDone_failed {s : State} (hr : s.recovers = true) (h3 : s.pwr.recState = 3) :
    s.recoveryWriteDone false = { s with pwr := { s.pwr with recState := 5, recCode := 0xA3 } } := by
  simp [State.recoveryWriteDone, hr, h3, State.updPwr]

/-- Settles O10: each is a restart of a state whose flash has changed, or a restart whose slots are written. -/
theorem restartsThatChangeFlash : Obligations.RestartsThatChangeFlash := by
  refine ⟨fun s e hc hq hm h0 ha => ⟨_, rfl, ?_⟩, fun s u ok hu hm hw => ⟨_, rfl, ?_⟩, fun s hr h3 => ⟨_, rfl, ?_⟩,
    fun s hr h3 => congrArg _ (State.recoveryWriteDone_failed hr h3)⟩
  · rw [State.keyRelease_restarts hc hq hm h0 ha, State.answer_scope]
    exact ⟨{ State.reboot_restarted _ with }, rfl, fun _ => by simp [State.reboot, State.powerLost]⟩
  · obtain ⟨h, e⟩ := State.updateFlashDone_restarts hu hm hw ok
    rw [e]
    exact ⟨((State.reboot_restarted _).updPwr rfl rfl rfl).of_hi, rfl, rfl⟩
  · rw [State.recoveryWriteDone_restarts hr h3]
    exact ⟨(State.reboot_restarted _).updPwr rfl rfl rfl, by simp [State.updPwr],
      by simp [State.updPwr, State.reboot]⟩

end Sys2Proof.Machine
end

section
/-! The host's commands on images, proposals, raw frames, buses and retirements (14 R468): each through the checks of R467. -/

namespace Sys2Proof.Machine

open State

/-- What an accepted entry leaves: the tags and the entries that wait. -/
theorem State.Starts.eq {s n : State} {op : Nat} {e : CmdEntry} {own : Bool} (h : s.Starts n op e own) :
    ∃ w g, n = { s with hi := { s.hi with waiting := w, tags := g } } := by
  obtain rfl := h.taken
  exact ⟨_, _, s.takeEntry_scope e⟩

section takeEntry
variable (s : State) (e : CmdEntry)
@[simp] theorem State.takeEntry_img : (s.takeEntry e).img = s.img := rfl
@[simp] theorem State.takeEntry_fc : (s.takeEntry e).fc = s.fc := rfl
@[simp] theorem State.takeEntry_modes : (s.takeEntry e).modes = s.modes := rfl
@[simp] theorem State.takeEntry_buses : (s.takeEntry e).buses = s.buses := rfl
@[simp] theorem State.takeEntry_seal0 : (s.takeEntry e).seal0 = s.seal0 := rfl
@[simp] theorem State.takeEntry_proposal? (id : BitVec 32) : (s.takeEntry e).proposal? id = s.proposal? id := rfl
@[simp] theorem State.takeEntry_busRec (c : Fin 12) : (s.takeEntry e).busRec c = s.busRec c := rfl
@[simp] theorem State.takeEntry_rawPending (c : Fin 12) : (s.takeEntry e).rawPending c = s.rawPending c := rfl
@[simp] theorem State.takeEntry_namedUnits : (s.takeEntry e).namedUnits e = s.namedUnits e := rfl
end takeEntry

/-- The opcode's own ranges hold where they hold already in what `Starts` asks. -/
theorem State.Starts.own_of {s n : State} {op : Nat} {e : CmdEntry} {own : Bool} (h : s.Starts n op e true) (ho : own = true) :
    s.Starts n op e own := ho ▸ h

/-! Images (02 R62, R65). -/

section load
variable {s n : State} {e : CmdEntry} (h : s.Starts n 0x10 e true)
  (hm : s.mod = .config ∨ s.mod = .active ∨ s.mod = .witness ∨ s.mod = .safeHold)
include h hm

/-- With no image in hand LOAD_IMAGE takes the bytes into verification. -/
theorem State.loadImage_takes {d : List Byte} (hi : s.img.state = .idle) (hl : d.length = e.dataLen.toNat) :
    s.loadImage e (some d) = { n with
      img := { s.img with state := .verifying, work := some (d, .host) }
      hi := { n.hi with running := n.hi.running ++ [⟨e, false⟩] } } := by
  obtain rfl := h.taken
  unfold State.loadImage
  rw [command_act h]
  · rfl
  · rcases hm with hm | hm | hm | hm <;> simp [firstBad, hm, hi, dataOk, hl]

/-- With one in hand LOAD_IMAGE is refused, and the image store keeps its code. -/
theorem State.loadImage_refused (d : Option (List Byte)) (hi : s.img.state ≠ .idle) :
    s.loadImage e d = State.answer { n with img := { s.img with reject := 0x0F } } e .refused 0x0F := by
  obtain rfl := h.taken
  unfold State.loadImage
  rw [command_refused h (code := 0x0F)]
  · rfl
  · rcases hm with hm | hm | hm | hm <;> simp [firstBad, hm, hi]

end load

/-- The image store and the pair after CANCEL_IMAGE (R65). -/
def State.imageCancelled (s : State) (k : Fin 4) : State :=
  { s with
    img := { s.img with state := .idle, reject := 0x10, pending := none, slots := s.img.slots.put k none }
    tw := { s.tw with imgTx := none } }

/-- CANCEL_IMAGE takes the host's pending image away, ends its load and is done. -/
theorem State.cancelImage_cancels {s n : State} {e : CmdEntry} {p : PendingImg} (h : s.Starts n 0x11 e true)
    (hp : s.img.pending = some p) (ho : p.origin = .host) :
    s.cancelImage e =
      (((n.imageCancelled p.slot).imageEvent 0x10 p.model.seq 0 p.model.digest).finishLoad .cancelled 0x10).answer e .done 0 := by
  obtain rfl := h.taken
  unfold State.cancelImage
  rw [command_act h]
  · simp only [takeEntry_img, hp]
    rfl
  · simp [firstBad, hp, ho]

/-- Settles O46: the load is taken or refused, and the cancel ends it. -/
theorem oneImageAtATimeAndItsCancel : Obligations.OneImageAtATimeAndItsCancel := by
  refine ⟨fun s n e d h hm hi hl => congrArg _ (State.loadImage_takes h hm hi hl),
    fun s n e d h hm hi => congrArg _ (State.loadImage_refused h hm d hi),
    fun s n e p h hp ho => ⟨_, congrArg _ (State.cancelImage_cancels h hp ho), ?_⟩⟩
  obtain ⟨w, g, rfl⟩ := h.eq
  rw [State.finishLoad_scope, State.imageEvent_scope]
  rfl

/-! Proposals (02 R80). -/

section proposal
variable {s n : State} {e : CmdEntry} (h : s.Starts n 0x12 e (e.arg0.toNat ≤ 1))
include h

/-- READ_PROPOSAL of a held proposal that the data buffer takes. -/
theorem State.readProposal_reads {p : Proposal} (hp : s.proposal? e.arg2 = some p) (hl : p.bytes.length ≤ e.dataLen.toNat) :
    s.readProposal e = State.answer { n with
      hi := { n.hi with dataOut := some (e.dataAddr, p.bytes) }
      img := { s.img with props := if e.arg0 = 1 then s.img.props.filter (·.id ≠ p.id) else s.img.props } } e .done 0
      (BitVec.ofNat 32 p.bytes.length) := by
  obtain rfl := h.taken
  unfold State.readProposal
  rw [command_act h]
  · simp only [takeEntry_proposal?, hp]
    split <;> rfl
  · simp [firstBad, hp, hl]

/-- With none held, or a buffer too small, READ_PROPOSAL is refused. -/
theorem State.readProposal_refused (hl : ∀ p, s.proposal? e.arg2 = some p → e.dataLen.toNat < p.bytes.length) :
    s.readProposal e = n.answer e .refused (if s.proposal? e.arg2 = none then 0x8A else 0x8C) := by
  obtain rfl := h.taken
  refine command_refused h ?_
  cases hp : s.proposal? e.arg2 with
  | none => simp [firstBad, hp]
  | some p => simp [firstBad, hp, hl p hp]

end proposal

/-! Raw frames and bus recovery (13 R435, R444). -/

/-- The channel that an entry names. -/
theorem finOfNat_arg {e : CmdEntry} {c : Fin 12} (hc : e.arg0.toNat = c.val) : Fin.ofNat 12 e.arg0.toNat = c := by
  rw [hc]
  exact Fin.ofNat_val_eq_self c

/-- The ranges that R435 gives a raw frame's identifier. -/
abbrev rawIdentOk (ext : Bool) (ident : Nat) : Prop := if ext then ident < 2 ^ 29 ∧ 0x800 ≤ ident % 4096 else ident < 0x800

/-- The command's own ranges of RAW_SEND. -/
theorem rawOwn_ok {e : CmdEntry} {c : Fin 12} (hc : e.arg0.toNat = c.val) (h7 : e.arg1.toNat ≤ 7)
    (hb : e.arg1.getLsbD 2 = true → e.arg1.getLsbD 1 = true) (hi : rawIdentOk (e.arg1.getLsbD 0) e.arg2.toNat)
    (hl : rawLenOk (e.arg1.getLsbD 1) e.dataLen.toNat = true) :
    (e.arg0.toNat < 12 && e.arg1.toNat ≤ 7 && (e.arg1.getLsbD 1 || !e.arg1.getLsbD 2) && rawLenOk (e.arg1.getLsbD 1) e.dataLen.toNat &&
      (if e.arg1.getLsbD 0 then e.arg2.toNat < 2 ^ 29 && 0x800 ≤ e.arg2.toNat % 4096 else e.arg2.toNat < 0x800)) = true := by
  have h12 : e.arg0.toNat < 12 := hc ▸ c.isLt
  have hbrs : (e.arg1.getLsbD 1 || !e.arg1.getLsbD 2) = true := by
    cases hb2 : e.arg1.getLsbD 2 with
    | true => simp [hb hb2]
    | false => simp
  have hident : (if e.arg1.getLsbD 0 then e.arg2.toNat < 2 ^ 29 && 0x800 ≤ e.arg2.toNat % 4096 else e.arg2.toNat < 0x800 : Bool) = true := by
    unfold rawIdentOk at hi
    split at hi
    · next h => rw [if_pos h, decide_eq_true hi.1, decide_eq_true hi.2, Bool.and_self]
    · next h => rw [if_neg h, decide_eq_true hi]
  rw [decide_eq_true h12, decide_eq_true h7, hbrs, hl, hident]
  rfl

/-- RAW_SEND that passes its checks goes on in execution with its frame listed. -/
theorem State.rawSend_queues {s n : State} {e : CmdEntry} {d : List Byte} {c : Fin 12} {r : BusRec} (hc : e.arg0.toNat = c.val)
    (h7 : e.arg1.toNat ≤ 7) (hb : e.arg1.getLsbD 2 = true → e.arg1.getLsbD 1 = true)
    (hi : rawIdentOk (e.arg1.getLsbD 0) e.arg2.toNat) (hl : rawLenOk (e.arg1.getLsbD 1) e.dataLen.toNat = true)
    (h : s.Starts n 0x40 e true) (hp : s.rawPending c < 32) (hr : s.busRec c = some r) (hraw : r.raw = true)
    (hfd : e.arg1.getLsbD 1 = true → r.fd = true) (hbrs : e.arg1.getLsbD 2 = true → r.brs = true)
    (hx : txLive (s.buses.get c) = true) (hd : d.length = e.dataLen.toNat) :
    s.rawSend e (some d) = State.queue (n.startRunning e) c
      ⟨e.arg1.getLsbD 0, e.arg1.getLsbD 1, e.arg1.getLsbD 2, BitVec.ofNat 29 e.arg2.toNat, d, false, 0xFFFF, none, some e.tag, none⟩ := by
  have hst := h.own_of (rawOwn_ok hc h7 hb hi hl)
  obtain rfl := h.taken
  unfold State.rawSend
  simp only [finOfNat_arg hc]
  rw [command_act hst]
  · rfl
  · have hf : (r.fd || !e.arg1.getLsbD 1) = true := by
      cases hb1 : e.arg1.getLsbD 1 with
      | true => simp [hfd hb1]
      | false => simp
    have hg : (r.brs || !e.arg1.getLsbD 2) = true := by
      cases hb2 : e.arg1.getLsbD 2 with
      | true => simp [hbrs hb2]
      | false => simp
    have hlive : ((s.busRec c).any fun r => r.raw && (r.fd || !e.arg1.getLsbD 1) && (r.brs || !e.arg1.getLsbD 2)) = true := by
      rw [hr, Option.any_some, hraw, hf, hg]
      rfl
    have hroom : decide (32 ≤ (s.takeEntry e).rawPending c) = false := decide_eq_false (Nat.not_le.mpr hp)
    simp [firstBad, -takeEntry_rawPending, hroom, hlive, hx, dataOk, hd, -BitVec.getLsbD_eq_getElem]

/-- RAW_SEND is BUSY with 32 frames pending, else refused for what the channel does not carry. -/
theorem State.rawSend_refused {s n : State} {e : CmdEntry} {d : Option (List Byte)} {c : Fin 12} (hc : e.arg0.toNat = c.val)
    (h3 : e.arg1.toNat ≤ 3) (hi : rawIdentOk (e.arg1.getLsbD 0) e.arg2.toNat)
    (hl : rawLenOk (e.arg1.getLsbD 1) e.dataLen.toNat = true) (h : s.Starts n 0x40 e true)
    (hbad : 32 ≤ s.rawPending c ∨ s.busRec c = none ∨ txLive (s.buses.get c) = false ∨
      ∃ r, s.busRec c = some r ∧ (r.raw = false ∨ e.arg1.getLsbD 1 = true ∧ r.fd = false)) :
    s.rawSend e d = n.answer e .refused (if 32 ≤ s.rawPending c then 0x89 else 0x8E) := by
  have h2 : e.arg1.getLsbD 2 = false := by
    rw [BitVec.getLsbD, Nat.testBit_eq_decide_div_mod_eq]
    exact decide_eq_false (by omega)
  have hst := h.own_of (rawOwn_ok hc (by omega) (fun h => absurd h (h2 ▸ Bool.false_ne_true)) hi hl)
  obtain rfl := h.taken
  unfold State.rawSend
  simp only [finOfNat_arg hc]
  refine command_refused hst ?_
  by_cases hp : 32 ≤ s.rawPending c
  · simp [firstBad, hp]
  · have hdead : (!((s.busRec c).any fun r => r.raw && (r.fd || !e.arg1.getLsbD 1) && (r.brs || !e.arg1.getLsbD 2)) ||
        !txLive (s.buses.get c)) = true := by
      rcases hbad with hb | hb | hb | ⟨r, hr, hb | ⟨hf, hb⟩⟩
      · exact absurd hb hp
      · simp [hb]
      · simp [hb]
      · simp [hr, hb]
      · simp [hr, hb, hf]
    simp only [firstBad, takeEntry_rawPending, takeEntry_busRec, takeEntry_buses, hp, hdead]
    rfl

/-- BUS_RECOVER starts the recovery that policy 2 leaves to the host (R444). -/
theorem State.busRecover_recovers {s n : State} {e : CmdEntry} {c : Fin 12} {r : BusRec} (hc : e.arg0.toNat = c.val)
    (h : s.Starts n 0x41 e true) (hb : (s.buses.get c).state = .busoff) (hr : s.busRec c = some r) (h2 : r.boff = 2) :
    s.busRecover e = { n with
      buses := s.buses.put c { s.buses.get c with state := .recover }
      hi := { n.hi with running := n.hi.running ++ [⟨e, false⟩] } } := by
  have hst := h.own_of (own := decide (e.arg0.toNat < 12)) (decide_eq_true (hc ▸ c.isLt))
  obtain rfl := h.taken
  unfold State.busRecover
  simp only [finOfNat_arg hc]
  rw [command_act hst]
  · rfl
  · simp [firstBad, hb, hr, h2]

theorem State.busRecover_refused {s n : State} {e : CmdEntry} {c : Fin 12} (hc : e.arg0.toNat = c.val)
    (h : s.Starts n 0x41 e true) (hbad : (s.buses.get c).state ≠ .busoff ∨ ∀ r, s.busRec c = some r → r.boff ≠ 2) :
    s.busRecover e = n.answer e .refused 0x8E := by
  have hst := h.own_of (own := decide (e.arg0.toNat < 12)) (decide_eq_true (hc ▸ c.isLt))
  obtain rfl := h.taken
  unfold State.busRecover
  simp only [finOfNat_arg hc]
  refine command_refused hst ?_
  have hdead : ((s.buses.get c).state != .busoff || !((s.busRec c).any fun r => r.boff == 2)) = true := by
    rcases hbad with hb | hb
    · simp [hb]
    · cases hr : s.busRec c with
      | none => simp
      | some r => simp [hb r hr]
  simp only [firstBad, takeEntry_busRec, takeEntry_buses, hdead]
  rfl

/-! Retirements (16 R540). -/

/-- The units of a CLEAR_RETIRED that have a test. -/
def testedUnits (us : List TestUnit) : List TestUnit := us.filter fun u => match u with | .resetInput _ => false | _ => true

/-- The collector with the retirement and the history of some units taken back. -/
def Fc.unretired (f : Fc) (us : List TestUnit) : Fc :=
  { f with retired := f.retired.filter (!us.contains ·), hist := f.hist.filter (!us.contains ·.1), flashDue := true }

/-- CLEAR_RETIRED goes on in execution while the units' tests run. -/
def State.testCleared (s : State) (e : CmdEntry) (tested : List TestUnit) : State :=
  State.each (State.startRunning { s with fc := { s.fc with clearing := some (tested, false) } } e) tested fun s u =>
    s.scheduleTest u (BitVec.ofNat 10 (ownSource u).1) (BitVec.ofNat 8 (ownSource u).2) (ownContext u) true

/-- CLEAR_RETIRED that passes its checks is done at once where no unit has a test. -/
theorem State.clearRetired_clears {s n : State} {e : CmdEntry} {m : Model} (hmod : s.model = some m)
    (h : s.Starts n 0x50 e (clearArgs e)) (ha : s.mod = .active) (h0 : s.seal0 = true) (hc : s.fc.clearing = none)
    (hne : s.namedUnits e ≠ [] ∨ e.arg0 = 0xFF)
    (h11 : ∀ u ∈ s.namedUnits e, ∀ c ∈ State.unitCars m u, (s.modes.get c).mode = 11) :
    s.clearRetired e = if testedUnits (s.namedUnits e) = []
      then State.answer { n with fc := s.fc.unretired (s.namedUnits e) } e .done 0
      else State.testCleared { n with fc := s.fc.unretired (s.namedUnits e) } e (testedUnits (s.namedUnits e)) := by
  obtain rfl := h.taken
  unfold State.clearRetired
  rw [command_act h]
  · rw [takeEntry_namedUnits]
    by_cases ht : testedUnits (s.namedUnits e) = []
    · simp only [if_pos ht]
      exact if_pos (List.isEmpty_iff.mpr ht)
    · simp only [if_neg ht]
      exact if_neg (mt List.isEmpty_iff.mp ht)
  · have hcars : ((s.takeEntry e).model.any fun m => ((s.takeEntry e).namedUnits e).any fun u => (unitCars m u).any fun c =>
        decide (((s.takeEntry e).modes.get c).mode ≠ 11)) = false := by
      change (s.model.any fun m => (s.namedUnits e).any fun u => (unitCars m u).any fun c =>
        decide ((s.modes.get c).mode ≠ 11)) = false
      simpa [hmod] using h11
    have hnone : s.namedUnits e = [] → e.arg0 = 0xFF := fun hn => hne.resolve_left (not_not_intro hn)
    simp only [firstBad, hcars]
    simpa [ha, h0, hc] using hnone

/-- NOP tells T0CNT, or with HRDY low is refused. -/
theorem State.nopCmd_answers {s n : State} {e : CmdEntry} (h : s.Starts n 0x01 e true) :
    s.nopCmd e = if s.hi.hrdy then n.answer e .done 0 s.tick.t0 else n.answer e .refused 0x83 := by
  obtain rfl := h.taken
  have hr : (s.takeEntry e).hi.hrdy = s.hi.hrdy := rfl
  unfold State.nopCmd
  cases hh : s.hi.hrdy with
  | true => exact command_act h (by simp [firstBad, hr, hh])
  | false => exact command_refused h (by simp [firstBad, hr, hh])

/-- BUS_RECOVER in STANDBY is refused after PARAM, before every check of its own. -/
theorem State.busRecover_standby {s : State} {e : CmdEntry} (h1 : s.canStart 0x41 e = true)
    (h2 : paramOk e (e.arg0.toNat < 12) = true) (hm : s.mod = .standby) :
    s.busRecover e = (s.takeEntry e).answer e .refused 0x8B := by
  have hst : ((s.takeEntry e).mod == .standby && !(standbyOps ++ injectOps).contains 0x41) = true := by
    rw [takeEntry_mod, hm]
    rfl
  unfold State.busRecover command
  simp only [h1, firstBad, h2, hst]
  rfl

/-- Settles O48: the effect of each command where its checks pass, and its refusals. -/
theorem plainCommandsAreAnswered : Obligations.PlainCommandsAreAnswered := by
  refine ⟨fun s n e h => congrArg _ (State.nopCmd_answers h), fun s n e p h hp hl => congrArg _ (State.readProposal_reads h hp hl),
    fun s n e h hl => congrArg _ (State.readProposal_refused h hl), ?_,
    fun s n e d c hc h3 hi hl h hbad => congrArg _ (State.rawSend_refused hc h3 hi hl h hbad),
    fun s n e c r hc h hb hr h2 => congrArg _ (State.busRecover_recovers hc h hb hr h2),
    fun s n e c hc h hbad => congrArg _ (State.busRecover_refused hc h hbad), ?_,
    fun s e h1 h2 => congrArg _ (command_param h1 h2 rfl), fun s e h1 h2 hm => congrArg _ (State.busRecover_standby h1 h2 hm)⟩
  · rintro s n e d c r _ _ _ hc h7 rfl rfl rfl hb hi hl h hp hr hraw hfd hbrs hx hd
    exact congrArg _ (State.rawSend_queues hc h7 hb hi hl h hp hr hraw hfd hbrs hx hd)
  · rintro s n e _ m hm h ha h0 hc rfl hne h11
    exact ⟨_, testedUnits (s.namedUnits e), rfl, rfl, congrArg _ (State.clearRetired_clears hm h ha h0 hc hne h11)⟩

end Sys2Proof.Machine
end

section
/-! Replication at the standby (15 R492, R497 to R501): link frames that pass or fail, epochs, snapshot parts and images. -/

namespace Sys2Proof.Machine

open State

/-! Link frames (R492). -/

section link
variable {s t : State} {m : Model} {bs : List Byte} {type lo hi : Nat} {fold : BitVec 32}

/-- A frame that passes changes CV15 alone. -/
theorem State.LinkPasses.eq (h : s.LinkPasses t m bs type lo hi fold) : ∃ v, t = { s with cvs := v } := by
  obtain rfl := h.used
  exact ⟨_, s.useCv_scope 15 true⟩

/-- CV15 goes on unspoilt: its next result is delivered. -/
theorem State.LinkPasses.unspoilt (h : s.LinkPasses t m bs type lo hi fold) (hr : s.isRetired (.cv 15) = false) :
    t.cvSpoilt 15 = false := by
  have hb : (s.cvs.get 15).bad = false := by simpa [State.cvSpoilt, hr] using h.sound
  obtain rfl := h.used
  simp [State.useCv, hr, State.cvSpoilt, State.updCv, hb]

/-- A frame that passes is acted on. -/
theorem State.LinkPasses.onLink_eq (h : s.LinkPasses t m bs type lo hi fold) (bad : State → State) (act : State → Model → State) :
    s.onLink bs type lo hi fold bad act = act t m := by
  obtain ⟨hm, hu, hf, hg, hs, rfl⟩ := h
  simp [State.onLink, hm, hu, hf, hg, hs]

/-- A frame that fails CRC or TAG, or whose CRC CV15 does not deliver, is counted. -/
theorem State.onLink_fails (hm : s.model = some m) (hu : s.linkUp = true) (hf : s.linkForm bs type lo hi = true)
    (hg : s.linkGood m bs fold = false ∨ s.cvSpoilt 15 = true) (bad : State → State) (act : State → Model → State) :
    s.onLink bs type lo hi fold bad act = bad (s.useCv 15 false).linkError := by
  have hok : (s.linkGood m bs fold && !s.cvSpoilt 15) = false := by rcases hg with h | h <;> simp [h]
  simp [State.onLink, hm, hu, hf, hok]

/-- With the link down nothing arrives. -/
theorem State.onLink_down (hu : s.linkUp = false) (bad : State → State) (act : State → Model → State) :
    s.onLink bs type lo hi fold bad act = s := by
  unfold State.onLink
  split
  · rfl
  · simp [hu]

end link

/-! Epochs (R497, R500). -/

/-- Out of CLAIMING a standby follows in its own twin state. -/
theorem State.follows_of {s : State} {x : TwState} (h : s.tw.state = x) (hx : x ≠ .claiming) : s.follows = x := by
  subst h
  exact if_neg hx

/-- A standby that is not claiming becomes UNSYNCED and forgets what it has kept. -/
theorem State.unsync_of {s : State} (h : s.tw.state ≠ .claiming) :
    s.unsync = { s with tw := { s.tw with state := .unsynced, parts := [], kept := [], epochWait := none, install := false } } := by
  simp [State.unsync, State.updTw, h]

/-- What EPOCH_RX makes of an epoch that has passed CRC and TAG: in SYNCED it waits for the boundary, in RESYNC it is kept. -/
def State.acceptEpoch (s : State) (bs : List Byte) (want : BitVec 32) : State :=
  if BitVec.ofNat 32 (fld bs 8 4) ≠ want || s.isRetired (.cv 15) || s.rsiInUse ≠ some (fld bs 20 2) then s.epochFail true
  else if s.follows = .resync then s.updTw fun t => { t with kept := t.kept ++ [bs] }
  else s.updTw fun t => { t with epochWait := some bs }

/-- A standby that follows takes every epoch but those that a snapshot in RESYNC holds already. -/
theorem State.epochRx_follows {s : State} {bs : List Byte} (hm : s.mod = .standby) (hu : s.linkUp = true)
    (hf : s.follows = .synced ∨ s.follows = .resync)
    (hb : s.follows = .resync → 0 < diff32 (BitVec.ofNat 32 (fld bs 8 4)) s.tw.partsBase) :
    s.epochRx bs = s.onLink bs 2 48 49152 (s.epochHave + 1) (·.epochFail true) fun t _ => t.acceptEpoch bs (s.epochHave + 1) := by
  unfold State.epochRx
  rw [if_neg (by simp [hm, hu])]
  rcases hf with hf | hf
  · simp only [hf]
    exact if_neg (by simp)
  · simp only [hf]
    exact if_neg (by simpa using hb hf)

/-- An epoch with the sequence expected and the version in use is taken. -/
theorem State.acceptEpoch_takes {s : State} {bs : List Byte} {want : BitVec 32} (hq : BitVec.ofNat 32 (fld bs 8 4) = want)
    (hr : s.isRetired (.cv 15) = false) (hv : s.rsiInUse = some (fld bs 20 2)) :
    s.acceptEpoch bs want = { s with tw := (if s.follows = .resync then { s.tw with kept := s.tw.kept ++ [bs] }
      else { s.tw with epochWait := some bs }) } := by
  unfold State.acceptEpoch
  rw [if_neg (by simp [hq, hr, hv])]
  split <;> rfl

/-- A standby that follows nothing counts what it discards. -/
theorem State.epochRx_unsynced {s : State} (bs : List Byte) (hm : s.mod = .standby) (hu : s.linkUp = true)
    (h1 : s.follows ≠ .synced) (h2 : s.follows ≠ .resync) :
    s.epochRx bs = { s with tw := { s.tw with epochDisc := s.tw.epochDisc + 1 } } := by
  unfold State.epochRx
  rw [if_neg (by simp [hm, hu])]
  split
  · next h => exact absurd h h1
  · next h => exact absurd h h2
  · rfl

/-- An epoch that fails in SYNCED or RESYNC is discarded, and the standby becomes UNSYNCED (R497). -/
theorem State.epochFail_unsyncs {s : State} (hf : s.tw.state = .synced ∨ s.tw.state = .resync) :
    s.epochFail true = State.raise { s with tw := { s.tw with
      epochDisc := s.tw.epochDisc + 1
      state := .unsynced
      parts := []
      kept := []
      epochWait := none
      install := false } } 0xA1 4 1 0 (s.epochHave + 1).toNat := by
  have hc : s.tw.state ≠ .claiming := by rcases hf with h | h <;> simp [h]
  have hs : s.follows = .synced ∨ s.follows = .resync := hf.imp (State.follows_of · (by decide)) (State.follows_of · (by decide))
  unfold State.epochFail
  simp only [if_true]
  exact (if_pos (by simp only [Bool.or_eq_true, decide_eq_true_eq]; exact hs)).trans
    (congrArg (fun t => State.raise t 0xA1 4 1 0 _) (State.unsync_of hc))

/-! Snapshot parts (R498 to R500). -/

/-- A result of a check-value channel looks at the channels and the retirement map alone. -/
theorem State.useCv_cvs_eq {s t : State} (hf : t.fc = s.fc) (hc : t.cvs = s.cvs) (n : Fin 16) (ok : Bool) :
    (t.useCv n ok).cvs = (s.useCv n ok).cvs := by
  unfold State.useCv State.isRetired
  rw [hf]
  split <;> simp [hc]

/-- A part joins those of the snapshot. -/
def State.withPart (s : State) (p : Nat × List Byte) : State := s.updTw fun t => { t with parts := t.parts ++ [p] }

/-- The whole of a snapshot is judged by CV15. -/
def State.closeSnapshot (s : State) (ok : Bool) : State :=
  if ok then (s.useCv 15 ok).updTw fun t => { t with install := true } else (s.useCv 15 ok).unsync

theorem State.addPart_eq (s : State) (t2 : BitVec 32) (off : Nat) (data : List Byte) :
    s.addPart t2 off data = if (s.withPart (off, data)).tw.parts.length < 32 then s.withPart (off, data)
      else (s.withPart (off, data)).closeSnapshot
        (decide (cv t2 ((s.withPart (off, data)).tw.parts.flatMap (·.2)) = s.tw.partsCrc) && !s.cvSpoilt 15) := rfl

theorem State.closeSnapshot_true (s : State) : s.closeSnapshot true = { s.useCv 15 true with tw := { s.tw with install := true } } := by
  unfold State.closeSnapshot
  rw [if_pos rfl, State.useCv_scope]
  rfl

theorem State.closeSnapshot_false {s : State} (hf : s.tw.state = .resync) : s.closeSnapshot false =
    { s.useCv 15 false with tw := { s.tw with state := .unsynced, parts := [], kept := [], epochWait := none, install := false } } := by
  unfold State.closeSnapshot
  rw [if_neg Bool.false_ne_true, State.useCv_scope, State.unsync_of (by simp [hf])]

/-- A part joins the snapshot; the last completes one that the CRC of part 0 confirms or not. -/
theorem State.addPart_joins {s : State} {off : Nat} {data : List Byte} {all : List (Nat × List Byte)}
    (ha : all = s.tw.parts ++ [(off, data)]) (hv : s.cvSpoilt 15 = false) (hf : s.tw.state = .resync) (t2 : BitVec 32) :
    s.addPart t2 off data = if all.length < 32 then { s with tw := { s.tw with parts := all } }
      else if cv t2 (all.flatMap (·.2)) = s.tw.partsCrc then { s.useCv 15 true with tw := { s.tw with parts := all, install := true } }
      else { s.useCv 15 false with tw := { s.tw with state := .unsynced, parts := [], kept := [], epochWait := none, install := false } } := by
  have hp : (s.withPart (off, data)).tw.parts = all := ha.symm
  have hf' : (s.withPart (off, data)).tw.state = .resync := hf
  have hcv := State.useCv_cvs_eq (s := s) (t := s.withPart (off, data)) rfl rfl 15
  rw [State.addPart_eq, hp, hv, Bool.not_false, Bool.and_true]
  split
  · rw [ha]
    rfl
  · split
    · next hc =>
      rw [decide_eq_true hc, State.closeSnapshot_true, State.useCv_scope, s.useCv_scope, hcv, ha]
      rfl
    · next hc =>
      rw [decide_eq_false hc, State.closeSnapshot_false hf', State.useCv_scope, s.useCv_scope, hcv]
      rfl

/-- The form of a snapshot part that a standby takes (R498). -/
abbrev State.partForm (s : State) (bs : List Byte) : Prop :=
  fld bs 17 1 = 32 ∧ fld bs 16 1 < 32 ∧ bs.length = 48 + fld bs 28 4 ∧ s.rsiInUse = some (fld bs 18 2) ∧ s.isRetired (.cv 15) = false

/-- The twin state of a standby in RESYNC whose snapshot begins with part 0. -/
def Tw.resyncing (t : Tw) (bs : List Byte) : Tw :=
  { t with
    state := .resync
    resyncs := t.resyncs + 1
    parts := []
    kept := []
    epochWait := none
    install := false
    partsT2 := BitVec.ofNat 32 (fld bs 8 4)
    partsBase := BitVec.ofNat 32 (fld bs 20 4)
    partsCrc := BitVec.ofNat 32 (fld bs 32 4) }

/-- Part 0 of the model in force starts the snapshot of an UNSYNCED standby. -/
theorem State.takePart_starts {s : State} {bs : List Byte} (hs : s.tw.state = .unsynced) (h0 : fld bs 16 1 = 0) (hf : s.partForm bs)
    (ho : fld bs 24 4 = 0) (hd : (s.tw.lastHb.any fun h => h.imgDig = s.digest8) = true) :
    s.takePart bs = State.addPart { s with tw := s.tw.resyncing bs } (BitVec.ofNat 32 (fld bs 8 4)) (fld bs 24 4)
      (slice bs 40 (fld bs 28 4)) := by
  obtain ⟨h17, -, hl, hv, hr⟩ := hf
  unfold State.takePart
  simp only [State.follows_of hs (by decide)]
  exact if_pos (by simp [h0, h17, hl, hv, hr, ho, hd, hs])

/-- The next part in RESYNC joins the snapshot. -/
theorem State.takePart_next {s : State} {bs : List Byte} (hs : s.tw.state = .resync) (hi : s.tw.install = false)
    (hn : fld bs 16 1 = s.tw.parts.length) (hf : s.partForm bs) (ht : BitVec.ofNat 32 (fld bs 8 4) = s.tw.partsT2)
    (hb : fld bs 20 4 = s.tw.partsBase.toNat) (hc : fld bs 32 4 = s.tw.partsCrc.toNat)
    (ho : fld bs 24 4 = (s.tw.parts.map (·.2.length)).sum) :
    s.takePart bs = s.addPart s.tw.partsT2 (fld bs 24 4) (slice bs 40 (fld bs 28 4)) := by
  obtain ⟨h17, h32, hl, hv, hr⟩ := hf
  unfold State.takePart
  simp only [State.follows_of hs (by decide), hi, ← ht]
  rw [if_neg Bool.false_ne_true]
  exact if_pos (by simp [hn, hn ▸ h32, h17, hl, hv, hr, ho, hb, hc])

/-- Any other part in RESYNC makes the standby UNSYNCED again (R499). -/
theorem State.takePart_other {s : State} {bs : List Byte} (hs : s.tw.state = .resync) (hi : s.tw.install = false)
    (hn : fld bs 16 1 ≠ s.tw.parts.length) : s.takePart bs = s.unsync := by
  have hf := State.follows_of hs (by decide)
  unfold State.takePart
  simp only [hf, hi]
  rw [if_neg Bool.false_ne_true]
  exact (if_neg (by simp [hn])).trans (if_pos hf)

/-- A part that passes CRC and TAG is taken. -/
theorem State.snapPartRx_eq {s t : State} {m : Model} {bs : List Byte} (hm : s.mod = .standby)
    (h : s.LinkPasses t m bs 3 48 49152 (BitVec.ofNat 32 (fld bs 8 4) <<< 5 ||| BitVec.ofNat 32 (fld bs 16 1))) :
    s.snapPartRx bs = t.takePart bs := by
  unfold State.snapPartRx
  rw [if_neg (not_not_intro hm), h.onLink_eq]

/-! Images (02 R77, 15 R501). -/

/-- The image store after an IMAGE frame that begins an image or goes on with it. -/
def Img.Joined (i g : Img) (off : Nat) (data : List Byte) : Prop :=
  (off = 0 ∧ i.work = none ∧ (∀ p, i.pending = some p → p.origin = .peer ∧ p.applyT2 = none) ∧ g = { i with
      state := .receiving
      pending := none
      linkBuf := data
      linkLen := fld data 8 4
      slots := (match i.pending with | some p => i.slots.put p.slot none | none => i.slots) }) ∨
    0 < off ∧ off = i.linkBuf.length ∧ i.state = .receiving ∧ g = { i with linkBuf := i.linkBuf ++ data }

/-- An image whose LENGTH bytes have come goes to verification. -/
theorem State.imageTake_eq (s : State) {sync : Bool} (hs : sync = s.tw.lastHb.any fun h =>
      h.imgDig = pad 8 (imgDigest (s.img.linkBuf.take s.img.linkLen)) && h.imgDig ≠ s.digest8) :
    imageLinkFrame.take s = { s with img := (if s.img.linkLen ≤ s.img.linkBuf.length then { s.img with
        state := .verifying
        work := some (s.img.linkBuf.take s.img.linkLen, if sync then .sync else .peer)
        linkBuf := []
        linkLen := 0 }
      else s.img) } := by
  subst hs
  unfold imageLinkFrame.take
  dsimp only
  split <;> rfl

/-- A frame of an image that passes CRC and TAG at the standby. -/
theorem State.imageLinkFrame_joins {s t : State} {m : Model} {bs : List Byte} {g : Img} (hm : s.mod = .standby)
    (h : s.LinkPasses t m bs 4 32 4096 (BitVec.ofNat 32 (fld bs 8 4))) (ho : fld bs 8 4 ≠ 0xFFFFFFFF)
    (hg : s.img.Joined g (fld bs 8 4) (slice bs 16 (bs.length - 24))) :
    s.imageLinkFrame bs = imageLinkFrame.take { t with img := g } := by
  unfold State.imageLinkFrame
  rw [if_neg (by simp [hm])]
  dsimp only
  rw [h.onLink_eq]
  obtain ⟨v, rfl⟩ := h.eq
  rw [if_neg ho]
  refine (if_neg (by simp [hm])).trans ?_
  rcases hg with ⟨h0, hw, hp, rfl⟩ | ⟨hpos, hl, hst, rfl⟩
  · refine (if_pos ?_).trans ?_
    · cases hpend : s.img.pending with
      | none => simp [h0, hw]
      | some p => simp [h0, hw, hp p hpend]
    · cases hpend : s.img.pending <;> simp [State.updImg, hpend]
  · refine (if_neg (by simp [Nat.ne_of_gt hpos])).trans ?_
    exact if_pos (by simp [hst, hl])

/-- The frame at offset 0xFFFFFFFF is the standby's answer at the active and the boundary A at the standby. -/
theorem State.imageLinkFrame_answers {s t : State} {m : Model} {bs : List Byte} (ho : fld bs 8 4 = 0xFFFFFFFF)
    (h : s.LinkPasses t m bs 4 32 4096 0xFFFFFFFF) (hm : s.mod = .active ∨ s.mod = .standby) :
    s.imageLinkFrame bs = if s.mod = .active
      then t.peerVerifyResult (BitVec.ofNat 8 (fld (slice bs 16 (bs.length - 24)) 0 4)) ((slice bs 16 (bs.length - 24)).drop 4)
      else t.learnA (BitVec.ofNat 32 (fld (slice bs 16 (bs.length - 24)) 0 4)) (BitVec.ofNat 32 (fld (slice bs 16 (bs.length - 24)) 4 4)) := by
  have h' : s.LinkPasses t m bs 4 32 4096 (BitVec.ofNat 32 (fld bs 8 4)) := by rw [ho]; exact h
  unfold State.imageLinkFrame
  rw [if_neg (by rcases hm with hm | hm <;> simp [hm])]
  dsimp only
  rw [h'.onLink_eq]
  obtain ⟨v, rfl⟩ := h.eq
  exact if_pos ho

/-- Settles O56: the frames by type, and of each type what the standby's twin state makes of it. -/
theorem replicationReachesTheStandby : Obligations.ReplicationReachesTheStandby := by
  refine ⟨fun s t m bs want hm hf hw h hq hb hr hv => congrArg Host.Outcome.next ?_,
    fun s m bs want hm hf hw hmod hu hform hg => congrArg Host.Outcome.next ?_,
    fun s bs hm hu h1 h2 => congrArg _ (State.epochRx_unsynced bs hm hu h1 h2),
    fun s bs h => ⟨congrArg Host.Outcome.next ?_, congrArg Host.Outcome.next ?_⟩,
    fun s t m bs hm hs h h0 h17 ho hl hr hv hd => congrArg Host.Outcome.next ?_,
    fun s t m bs all hm hs hi h hn h32 h17 hl hr hv ht hb hc ho ha => congrArg Host.Outcome.next ?_,
    fun s t m bs hm hs hi h hn => congrArg Host.Outcome.next ?_,
    fun s t m bs data off g sync hm ho h hd hne hg hsync => congrArg Host.Outcome.next ?_,
    fun s t m bs data ho h hd hm => congrArg Host.Outcome.next ?_⟩
  · subst hw
    rw [State.epochRx_follows hm h.up hf (fun hres => hq ▸ hb hres), h.onLink_eq]
    obtain ⟨v, rfl⟩ := h.eq
    exact State.acceptEpoch_takes hq hr hv
  · subst hw
    have hs : s.tw.state = .synced ∨ s.tw.state = .resync := hf.imp_right And.left
    rw [State.epochRx_follows hm hu (hs.imp (State.follows_of · (by decide)) (State.follows_of · (by decide)))
      (fun hres => ?_), State.onLink_fails hmod hu hform hg, State.useCv_scope]
    · exact State.epochFail_unsyncs hs
    · rcases hf with hf | hf
      · exact absurd ((State.follows_of hf (by decide)).symm.trans hres) (by decide)
      · exact hf.2
  · exact if_pos (by rcases h with h | h <;> simp [h])
  · unfold State.snapPartRx
    rcases h with h | h
    · exact if_pos h
    · rw [State.onLink_down h, ite_self]
  · have h' : s.LinkPasses t m bs 3 48 49152 (BitVec.ofNat 32 (fld bs 8 4) <<< 5 ||| BitVec.ofNat 32 (fld bs 16 1)) := by
      rw [h0]
      simpa using h
    rw [State.snapPartRx_eq hm h']
    obtain ⟨v, rfl⟩ := h.eq
    rw [State.takePart_starts (s := { s with cvs := v }) hs h0 ⟨h17, by omega, hl, hv, hr⟩ ho hd, ho]
    rfl
  · rw [State.snapPartRx_eq hm h]
    have hsp := h.unspoilt hr
    obtain ⟨v, rfl⟩ := h.eq
    rw [State.takePart_next (s := { s with cvs := v }) hs hi hn ⟨h17, hn ▸ h32, hl, hv, hr⟩ ht hb hc ho]
    exact State.addPart_joins (s := { s with cvs := v }) ha hsp hs _
  · rw [State.snapPartRx_eq hm h]
    obtain ⟨v, rfl⟩ := h.eq
    rw [State.takePart_other (s := { s with cvs := v }) hs hi hn]
    exact State.unsync_of (by simp [hs])
  · subst ho hd
    rw [State.imageLinkFrame_joins hm h hne hg]
    obtain ⟨v, rfl⟩ := h.eq
    exact State.imageTake_eq _ hsync
  · subst hd
    rw [State.imageLinkFrame_answers ho h hm]
    obtain ⟨v, rfl⟩ := h.eq
    rfl

end Sys2Proof.Machine
end

section
/-! The position ports and the encoder supplies (03): what a sample of pairs 1 and 2 is to a port, what a counting edge and an index
event change, and how the supply chain picks its next member. -/

namespace Sys2Proof.Machine

open State

/-! The levels of a sample after INV. -/

theorem Port.inv_level (p : Port) (i : Nat) : (p.level ^^^ p.cfg.inv).getLsbD i = p.lineWas i := BitVec.getLsbD_xor ..

theorem Port.inv_levels12 (p : Port) (lv : BitVec 2) {i : Nat} (h : i < 2) :
    (p.levels12 lv ^^^ p.cfg.inv).getLsbD i = p.lineNow lv i := by
  have h4 : (4 : BitVec 3).getLsbD i = false := by interval_cases i <;> rfl
  have h3 : i < 3 := by omega
  rw [BitVec.getLsbD_xor, Port.levels12, BitVec.getLsbD_or, BitVec.getLsbD_and, h4, BitVec.getLsbD_setWidth]
  simp [Port.lineNow, h3]

theorem Port.inv_level3 (p : Port) (lv : Bool) : (p.level3 lv ^^^ p.cfg.inv).getLsbD 2 = (lv != p.cfg.inv.getLsbD 2) := by
  cases lv <;> simp [Port.level3]

/-- The port with the levels of a sample of pairs 1 and 2 accepted (R91). -/
def Port.at12 (p : Port) (lv : BitVec 2) : Port := { p with level := p.levels12 lv }

/-- The port with the level of a sample of pair 3 accepted (R91). -/
def Port.at3 (p : Port) (lv : Bool) : Port := { p with level := p.level3 lv }

/-- The port after an illegal transition (R88). -/
def Port.sawIllegal (p : Port) (lv : BitVec 2) : Port :=
  { p.at12 lv with flags := { p.flags with illegal := true }, evIllegal := p.evIllegal + 1 }

/-- The sample of an INDEX_EVENT is the edge that IDX_EDGE selects when pair 3 stood at IDX_EDGE before it and does not after. -/
theorem Port.indexEdge_iff (p : Port) (lv : Bool) :
    p.indexEdge lv = true ↔ p.lineWas 2 = p.cfg.idxEdge ∧ (lv != p.cfg.inv.getLsbD 2) = !p.cfg.idxEdge := by
  rw [Port.indexEdge, Port.inv_level, Port.inv_level3]
  generalize (lv != p.cfg.inv.getLsbD 2) = b
  cases b <;> cases p.cfg.idxEdge <;> simp

/-! What a sample is to the port (R85 to R87). -/

section sample
variable {p : Port} {lv : BitVec 2} {d : Int}

/-- Outside MODE 1 to 3 no sample is anything to the count. -/
theorem Port.mode_cases (p : Port) :
    p.cfg.mode.val = 1 ∨ p.cfg.mode.val = 2 ∨ p.cfg.mode.val = 3 ∨
      (∀ lv d, p.edgeAt lv d = false) ∧ (∀ lv, p.illegalAt lv = false) ∧ ∀ lv, p.edgeKind lv = none := by
  unfold Port.edgeAt Port.illegalAt Port.edgeKind edgeOf
  dsimp only
  split <;> simp_all

/-- A counting edge counts one up or one down. -/
theorem Port.edgeAt_direction (h : p.edgeAt lv d = true) : d = 1 ∨ d = -1 := by
  have step (b : Bool) : (if b then 1 else -1 : Int) = 1 ∨ (if b then 1 else -1 : Int) = -1 := by cases b <;> simp
  rcases p.mode_cases with hm | hm | hm | ⟨he, -⟩
  · simp only [Port.edgeAt, hm, Bool.and_eq_true, decide_eq_true_eq] at h
    exact h.2 ▸ step _
  · simp only [Port.edgeAt, hm, Bool.or_eq_true, Bool.and_eq_true, decide_eq_true_eq] at h
    exact h.imp And.right And.right
  · simp only [Port.edgeAt, hm, Bool.or_eq_true, Bool.and_eq_true, decide_eq_true_eq] at h
    rcases h with ⟨-, rfl⟩ | ⟨-, rfl⟩ <;> exact step _
  · simp [he] at h

/-- The model decodes a sample as the statements' `edgeAt` and `illegalAt` do: in each mode a truth table of the two lines before and
after. -/
theorem Port.edgeKind_iff (p : Port) (lv : BitVec 2) :
    (p.edgeKind lv = some .up ↔ p.edgeAt lv 1 = true) ∧ (p.edgeKind lv = some .down ↔ p.edgeAt lv (-1) = true) ∧
      (p.edgeKind lv = some .illegal ↔ p.illegalAt lv = true) := by
  have h0 := p.inv_levels12 lv (show 0 < 2 by decide)
  have h1 := p.inv_levels12 lv (show 1 < 2 by decide)
  rcases p.mode_cases with hm | hm | hm | ⟨he, hi, hk⟩
  case inr.inr.inr => simp [he, hi, hk]
  all_goals
    simp only [Port.edgeKind, hm, edgeOf, Port.inv_level, h0, h1, Port.edgeAt, Port.illegalAt, Port.rises, Port.changes]
    generalize p.lineWas 0 = a, p.lineWas 1 = b, p.lineNow lv 0 = x, p.lineNow lv 1 = y
    decide +revert

theorem Port.edgeKind_none (hu : p.edgeAt lv 1 = false) (hd : p.edgeAt lv (-1) = false) (hi : p.illegalAt lv = false) :
    p.edgeKind lv = none := by
  obtain ⟨iu, id, ii⟩ := p.edgeKind_iff lv
  cases h : p.edgeKind lv with
  | none => rfl
  | some k =>
    cases k with
    | up => simp [iu.mp h] at hu
    | down => simp [id.mp h] at hd
    | illegal => simp [ii.mp h] at hi

end sample

/-! A counting edge (R85 to R89, R98, R99). -/

/-- A counting edge in direction `d` is a compare hit. -/
def Port.hit (p : Port) (d : Int) : Bool := p.rwc.cmpEn && decide (p.count = p.rwc.cmp) && decide (sgn (s32 p.rwc.spacing) = d)

theorem Port.compare_eq (p : Port) (d : Int) (t : BitVec 32) :
    p.compare d t = { p with
      evCmp := if p.hit d then p.evCmp + 1 else p.evCmp
      hitNow := p.hitNow || p.hit d
      rwc := { p.rwc with cmp := if p.hit d then p.rwc.cmp + p.rwc.spacing else p.rwc.cmp }
      hits := if p.hit d && decide (p.hits.length < 16) then p.hits ++ [(p.count, t)] else p.hits
      flags := { p.flags with cmpOvr := p.flags.cmpOvr || (p.hit d && !decide (p.hits.length < 16)) } } := by
  change (if p.hit d then _ else _) = _
  cases p.hit d
  · simp
  · by_cases hl : p.hits.length < 16 <;> simp [hl]

/-- The window of R95 is watched: of the port, the arming and what the index judged may change. -/
theorem Port.watchWindow_scope (p : Port) :
    p.watchWindow = { p with
      rwc := { p.rwc with idxArm := p.watchWindow.rwc.idxArm }
      entered := p.watchWindow.entered
      resNow := p.watchWindow.resNow
      missEdge := p.watchWindow.missEdge } := by
  unfold Port.watchWindow
  split
  · rfl
  · split
    · rfl
    · split <;> rfl

/-- A port that has counted one in direction `d`, before compare and window. -/
def Port.counted (p : Port) (d : Int) (t : BitVec 32) : Port :=
  { p with
    count := p.count + BitVec.ofInt 32 d
    edgeTs := t
    est := p.est.onEdge t d
    missEdge := false
    flags := { p.flags with wrap := p.flags.wrap || decide ((d = 1 ∧ p.count = 0x7FFFFFFF) ∨ (d = -1 ∧ p.count = 0x80000000)) } }

theorem Port.countEdge_eq (p : Port) {d : Int} (hd : d = 1 ∨ d = -1) (t : BitVec 32) :
    p.countEdge d t = ((p.counted d t).compare d t).watchWindow := by
  rcases hd with rfl | rfl
  · simp [Port.countEdge, Port.counted]
  · simp [Port.countEdge, Port.counted, BitVec.sub_eq_add_neg]

theorem Est.onEdge_eq (e : Est) (t : BitVec 32) (d : Int) :
    e.onEdge t d = if e.moving = false ∨ d ≠ e.dir then { e with moving := true, dir := d, speed := 0, anchorT := t, n := 0, edgeT := t }
      else { e with n := e.n + 1, lastT := t, edgeT := t } := by
  simp [Est.onEdge]

namespace State

variable {s : State} {n : Fin 48} {lv : BitVec 2} {held : Nat} (ts : BitVec 32)

/-! PORT_EDGE: what the port makes of the sample, then the capture units (06 R207, R208). -/

theorem each_updCapu (s : State) (l : List (Fin 4)) (f : Fin 4 → Capu → Capu) :
    s.each l (fun s u => s.updCapu u (f u)) = { s with capus := l.foldl (fun t u => t.upd u (f u)) s.capus } := by
  unfold each
  induction l generalizing s with
  | nil => rfl
  | cons u l ih => rw [List.foldl_cons, ih]; rfl

theorem fireCompare_scope (s : State) (n : Fin 48) : s.fireCompare n = { s with capus := (s.fireCompare n).capus } := by
  rw [fireCompare, each_updCapu]

theorem sampleEdge_scope (s : State) (n : Fin 48) : s.sampleEdge n = { s with capus := (s.sampleEdge n).capus } := by
  rw [sampleEdge, each_updCapu]

theorem takeEdge_scope (s : State) (n : Fin 48) (lv : BitVec 2) (held : Nat) (ts : BitVec 32) :
    s.takeEdge n lv held ts = { s.portEdge n lv held ts with capus := (s.takeEdge n lv held ts).capus } := by
  unfold takeEdge
  dsimp only
  split <;> split
  · rw [sampleEdge_scope, fireCompare_scope]
  · rw [fireCompare_scope]
  · rw [sampleEdge_scope]
  · rfl

/-- Without a count and without a hit no capture unit is touched. -/
theorem takeEdge_uncounted {t : State} {q : Port} (h : s.portEdge n lv held ts = t) (hq : t.ports.get n = q)
    (hc : q.count = (s.ports.get n).count) (he : q.evCmp = (s.ports.get n).evCmp) : s.takeEdge n lv held ts = t := by
  simp [takeEdge, h, hq, hc, he]

theorem updPort_updPort (s : State) (n : Fin 48) (f g : Port → Port) :
    (s.updPort n f).updPort n g = s.updPort n fun p => g (f p) := by
  simp [updPort, Tab.upd]

/-- Whether a port is in service does not depend on what it has seen. -/
theorem portLive_updPort {f : Port → Port} (h : (f (s.ports.get n)).en = (s.ports.get n).en) :
    (s.updPort n f).portLive n = s.portLive n := by
  unfold portLive
  rw [updPort_ports, Tab.get_upd_same, h]
  rfl

/-- The state where port `n` follows the levels of a sample of pairs 1 and 2. -/
def followed (s : State) (n : Fin 48) (lv : BitVec 2) : State := s.updPort n (·.at12 lv)

theorem followed_port (s : State) (n : Fin 48) (lv : BitVec 2) :
    (s.followed n lv).ports.get n = (s.ports.get n).at12 lv := Tab.get_upd_same ..

theorem portEdge_brief (h : held ≤ (s.ports.get n).cfg.filt.toNat) : s.portEdge n lv held ts = s := by
  simp [portEdge, Port.accepts, h]

theorem raise_ports (s : State) (src kind cls : Nat) (ctx : BitVec 32) (detail : Nat) :
    (s.raise src kind cls ctx detail).ports = s.ports := by
  rw [raise_scope]

section accepted
variable (h : (s.ports.get n).cfg.filt.toNat < held)
include h

theorem portEdge_follows (hc : s.portLive n = false ∨ (s.ports.get n).incremental = false ∨ (s.ports.get n).dataFault = true ∨
      (s.ports.get n).edgeKind lv = none) : s.portEdge n lv held ts = s.followed n lv := by
  have hl : (s.followed n lv).portLive n = s.portLive n := portLive_updPort rfl
  unfold followed Port.at12 at hl ⊢
  rcases hc with hc | hc | hc | hc <;> simp [portEdge, Port.accepts, h, hl, hc]

variable (hl : s.portLive n = true) (hi : (s.ports.get n).incremental = true) (hf : (s.ports.get n).dataFault = false)
include hl hi hf

theorem portEdge_counts {k : EdgeKind} (hk : (s.ports.get n).edgeKind lv = some k) :
    s.portEdge n lv held ts = (s.followed n lv).countSample n k ts := by
  have hl' : (s.followed n lv).portLive n = true := (portLive_updPort rfl).trans hl
  unfold followed Port.at12 at hl' ⊢
  simp [portEdge, Port.accepts, h, hl', hi, hf, hk]

/-- A counting edge in direction `d` before DIR counts in the direction DIR gives it. -/
theorem portEdge_edge {d : Int} (hd : (s.ports.get n).edgeAt lv d = true) :
    s.portEdge n lv held ts = s.updPort n fun p => (p.at12 lv).countEdge (if p.cfg.dir then -d else d) ts := by
  obtain ⟨hup, hdown, -⟩ := (s.ports.get n).edgeKind_iff lv
  rcases Port.edgeAt_direction hd with rfl | rfl
  · exact (portEdge_counts ts h hl hi hf (hup.mpr hd)).trans (updPort_updPort ..)
  · exact (portEdge_counts ts h hl hi hf (hdown.mpr hd)).trans (updPort_updPort ..)

/-- An illegal transition is counted and reported. -/
theorem portEdge_illegal (hx : (s.ports.get n).illegalAt lv = true) :
    s.portEdge n lv held ts = (s.updPort n (·.sawIllegal lv)).raise n.val 1 1 (s.ports.get n).latch.count 0 := by
  obtain ⟨-, -, hill⟩ := (s.ports.get n).edgeKind_iff lv
  rw [portEdge_counts ts h hl hi hf (hill.mpr hx), countSample, followed_port, followed, updPort_updPort]
  rfl

end accepted

end State

/-- Settles O22: an accepted edge is one count of the port, and everything else is followed alone. -/
theorem portEdgesCount : Obligations.PortEdgesCount := by
  refine ⟨fun s n lv held ts h => congrArg Host.Outcome.next (State.takeEdge_uncounted ts (State.portEdge_brief ts h) rfl rfl rfl),
    fun s n lv held ts d₀ h hl hi hf hd => ⟨_, rfl, ?_⟩, fun s n lv held ts h hc => congrArg Host.Outcome.next ?_⟩
  · have hdir : (if (s.ports.get n).cfg.dir then -d₀ else d₀) = 1 ∨ (if (s.ports.get n).cfg.dir then -d₀ else d₀) = -1 := by
      rcases Port.edgeAt_direction hd with rfl | rfl <;> cases (s.ports.get n).cfg.dir <;> simp
    rw [State.takeEdge_scope, State.portEdge_edge ts h hl hi hf hd]
    refine ⟨rfl, fun k hk => Tab.get_upd_ne _ _ hk.symm, ?_⟩
    simp only [State.updPort_ports, Tab.get_upd_same]
    rw [Port.countEdge_eq _ hdir, Port.watchWindow_scope, Port.compare_eq]
    exact ⟨rfl, rfl, rfl, rfl, rfl, Est.onEdge_eq .., rfl, rfl, rfl, rfl, rfl⟩
  · have hk := hc.imp_right (Or.imp_right (Or.imp_right fun ⟨hu, hd, hi⟩ => Port.edgeKind_none hu hd hi))
    exact State.takeEdge_uncounted ts (State.portEdge_follows ts h hk) (State.followed_port s n lv) rfl rfl

/-- Settles O23: neither the count nor the hits change, so no capture unit is touched. -/
theorem illegalTransitionLeavesTheCount : Obligations.IllegalTransitionLeavesTheCount := by
  intro s n lv held ts h hl hi hf hx
  have e := State.portEdge_illegal ts h hl hi hf hx
  have hp : (s.portEdge n lv held ts).ports.get n = (s.ports.get n).sawIllegal lv := by
    rw [e, State.raise_ports, State.updPort_ports, Tab.get_upd_same]
  have ht : s.takeEdge n lv held ts = s.portEdge n lv held ts := State.takeEdge_uncounted ts rfl hp rfl rfl
  refine ⟨⟨_, rfl, ?_⟩, congrArg Host.Outcome.next ?_⟩
  · rw [ht, hp]
    exact ⟨rfl, rfl⟩
  · rw [ht, e, Nat.zero_add]
    rfl

/-! The index (R94 to R96). -/

/-- The result that a captured index event leaves (R95): outside in the sample of the count edge that has left the window, else a
result already given stands, else the armed window judges. -/
def Port.indexResult (p : Port) (t : BitVec 32) : Fin 4 :=
  if p.missEdge = true ∧ p.edgeTs = t then 2
  else if p.rwc.idxArm = false ∨ p.resNow ≠ 0 then p.resNow
  else if (diff32 p.count p.rwc.idxExp).natAbs ≤ p.rwc.idxWin.toNat then 1 else 2

/-- The first index event of a T0 is captured and disarms the window (R94, R95). -/
theorem Port.index_first {p : Port} (h : p.capNow = false) (t : BitVec 32) :
    p.index t = { p with
      seenNow := true
      capNow := true
      idxCap := p.count
      idxTs := t
      missEdge := false
      entered := p.entered && !p.rwc.idxArm
      rwc := { p.rwc with idxArm := false }
      resNow := p.indexResult t } := by
  cases ha : p.rwc.idxArm
  · have hr : { p.rwc with idxArm := false } = p.rwc := by rw [← ha]
    simp [Port.index, Port.indexResult, h, ha, hr]
  · by_cases hm : p.missEdge = true ∧ p.edgeTs = t <;> simp [Port.index, Port.indexResult, inIdxWin, h, ha, hm]

/-- A further one is discarded (R96). -/
theorem Port.index_again {p : Port} (h : p.capNow = true) (t : BitVec 32) :
    p.index t = { p with seenNow := true, flags := { p.flags with idxOvr := true } } := by
  simp [Port.index, h]

namespace State

variable {s : State} {n : Fin 48} {lv : Bool} {held : Nat} (ts : BitVec 32)

theorem indexEvent_brief (h : held ≤ (s.ports.get n).cfg.filt.toNat) : s.indexEvent n lv held ts = s := by
  simp [indexEvent, Port.accepts, h]

/-- The state where port `n` follows the level of a sample of pair 3. -/
def followed3 (s : State) (n : Fin 48) (lv : Bool) : State := s.updPort n (·.at3 lv)

theorem indexEvent_accepted (h : (s.ports.get n).cfg.filt.toNat < held) : s.indexEvent n lv held ts =
    if s.portLive n && (s.ports.get n).incremental && !(s.ports.get n).linePair.getLsbD 2 && (s.ports.get n).indexEdge lv then
      (s.followed3 n lv).updPort n (·.index ts) else s.followed3 n lv := by
  have hl : (s.followed3 n lv).portLive n = s.portLive n := portLive_updPort rfl
  rw [← hl]
  exact if_neg (by simp [Port.accepts, h])

theorem indexEvent_follows (h : (s.ports.get n).cfg.filt.toNat < held)
    (hc : s.portLive n = false ∨ (s.ports.get n).incremental = false ∨ (s.ports.get n).linePair.getLsbD 2 = true ∨
      (s.ports.get n).indexEdge lv = false) : s.indexEvent n lv held ts = s.followed3 n lv := by
  rw [indexEvent_accepted ts h]
  rcases hc with hc | hc | hc | hc <;> simp only [hc, Bool.false_and, Bool.and_false, Bool.not_true] <;> rfl

theorem indexEvent_takes (h : (s.ports.get n).cfg.filt.toNat < held) (hl : s.portLive n = true)
    (hi : (s.ports.get n).incremental = true) (hf : (s.ports.get n).linePair.getLsbD 2 = false)
    (hx : (s.ports.get n).indexEdge lv = true) : s.indexEvent n lv held ts = s.updPort n fun p => (p.at3 lv).index ts := by
  rw [indexEvent_accepted ts h, hl, hi, hf, hx]
  exact updPort_updPort ..

end State

/-- Settles O24: an accepted level is an index event of the port or is followed alone. The filter as an operand is log 141's choice, the
standstill judged at the coming latch log 20's. -/
theorem indexAndStandstill : Obligations.IndexAndStandstill := by
  refine ⟨fun s n lv held ts h => congrArg Host.Outcome.next (State.indexEvent_brief ts h),
    fun s n lv held ts h hl hi hf hw hn =>
      ⟨((s.ports.get n).at3 lv).index ts, congrArg Host.Outcome.next ?_, ?_⟩,
    fun s n lv held ts h hc => congrArg Host.Outcome.next ?_, fun s n hi hm hs => congrArg Host.Outcome.next ?_⟩
  · rw [State.indexEvent_takes ts h hl hi hf ((Port.indexEdge_iff _ lv).mpr ⟨hw, hn⟩)]
    rfl
  · cases hc : (s.ports.get n).capNow
    · rw [Port.index_first (p := (s.ports.get n).at3 lv) hc]
      exact ⟨rfl, rfl, rfl, rfl, fun e => absurd (hc.symm.trans e) Bool.false_ne_true, fun _ => ⟨rfl, rfl, rfl, rfl, rfl, rfl⟩⟩
    · rw [Port.index_again (p := (s.ports.get n).at3 lv) hc]
      exact ⟨rfl, rfl, rfl, rfl, fun _ => ⟨rfl, rfl, rfl, rfl, rfl⟩, fun e => absurd (e.symm.trans hc) Bool.false_ne_true⟩
  · have e : s.indexEvent n lv held ts = s.followed3 n lv := by
      refine State.indexEvent_follows ts h (hc.imp_right (Or.imp_right (Or.imp_right fun hx => Bool.eq_false_iff.mpr fun ht => ?_)))
      obtain ⟨hw, hn⟩ := (Port.indexEdge_iff _ lv).mp ht
      rcases hx with hx | hx
      · exact hx hw
      · exact absurd (hx.symm.trans hn) (by simp)
    exact e
  · exact if_pos (by simpa only [hi, hm, Bool.true_and, decide_eq_true_eq] using (show (s.ports.get n).tstop10 ≤ _ from hs))

/-! The supply chain (R113, 12 R417). -/

theorem firstMin_eq_none {α : Type} {lt : α → α → Bool} {l : List α} : firstMin lt l = none ↔ l = [] := by
  cases l with
  | nil => simp [firstMin]
  | cons a l =>
    simp only [firstMin]
    split
    · simp
    · split <;> simp

/-- The first least element under a key is a member with the least key. -/
theorem firstMin_least {α : Type} (key : α → Nat) {l : List α} {a : α} (h : firstMin (fun x y => decide (key x < key y)) l = some a) :
    a ∈ l ∧ ∀ b ∈ l, key a ≤ key b := by
  induction l generalizing a with
  | nil => simp [firstMin] at h
  | cons x l ih =>
    simp only [firstMin] at h
    split at h
    · next e =>
      obtain rfl := Option.some.inj h
      simp [firstMin_eq_none.mp e]
    · next y e =>
      obtain ⟨hy, hl⟩ := ih e
      split at h
      · next hlt =>
        obtain rfl := Option.some.inj h
        exact ⟨.tail _ hy, List.forall_mem_cons.mpr ⟨(of_decide_eq_true hlt).le, hl⟩⟩
      · next hge =>
        obtain rfl := Option.some.inj h
        have hxy : key x ≤ key y := by simpa using hge
        exact ⟨.head _, List.forall_mem_cons.mpr ⟨le_rfl, fun b hb => hxy.trans (hl b hb)⟩⟩

theorem chainKey_inj {i j : ChainItem} (h : chainKey i = chainKey j) : i = j := by
  cases i with
  | group g =>
    cases j with
    | group g' => exact congrArg ChainItem.group (Fin.ext h)
    | trx n => simp only [chainKey] at h; omega
  | trx n =>
    cases j with
    | group g => simp only [chainKey] at h; omega
    | trx n' => exact congrArg ChainItem.trx (Fin.ext (Nat.add_left_cancel h))

/-- SUPPLY_CHAIN_START takes the ready member with the least place in the order of R417. -/
theorem State.nextChain {s : State} {i : ChainItem} (hq : i ∈ s.sup.queue) (hr : s.chainReady i = true)
    (hm : ∀ j ∈ s.sup.queue, s.chainReady j = true → chainKey i ≤ chainKey j) :
    firstMin (fun a b => decide (chainKey a < chainKey b)) (s.sup.queue.filter s.chainReady) = some i := by
  have hi : i ∈ s.sup.queue.filter s.chainReady := List.mem_filter.mpr ⟨hq, hr⟩
  cases e : firstMin (fun a b => decide (chainKey a < chainKey b)) (s.sup.queue.filter s.chainReady) with
  | none => simp [firstMin_eq_none.mp e] at hi
  | some j =>
    obtain ⟨hj, hl⟩ := firstMin_least chainKey e
    obtain ⟨hjq, hjr⟩ := List.mem_filter.mp hj
    exact congrArg some (chainKey_inj (le_antisymm (hl i hi) (hm j hjq hjr)))

/-- Settles O26: the supplies by evaluation, the chain by the choice of its next member. -/
theorem suppliesAndTheChain : Obligations.SuppliesAndTheChain := by
  refine ⟨fun s g h => congrArg Host.Outcome.next ?_, fun s g h h1 => congrArg Host.Outcome.next ?_,
    fun s g hw hq hr hm => congrArg Host.Outcome.next ?_, fun s n hw hq hr hm => congrArg Host.Outcome.next ?_⟩
  · simp [State.supplyOvercurrent, State.groupOff, State.updSup, Tab.upd, h]
  · simp [State.supplySettled, State.updSup, Tab.upd, h, h1]
  · simp only [State.supplyChainStart, hw, State.nextChain hq hr hm]
    rfl
  · simp only [State.supplyChainStart, hw, State.nextChain hq hr hm]
    rfl

end Sys2Proof.Machine
end

section
/-! The health of a car (04 R128, R130, R134, R136): what setting it changes, and what takes it down. -/

namespace Sys2Proof.Machine

open State

/-- The health states in which a car has a position. -/
theorem Health.two_le_rank {h : Health} : 2 ≤ h.rank ↔ h = .valid ∨ h = .degraded := by
  cases h <;> decide

/-- Two changes of one car are one. -/
theorem State.updCar_updCar (s : State) (c : Fin 16) (f g : CarPos → CarPos) :
    (s.updCar c f).updCar c g = s.updCar c fun cp => g (f cp) := by
  simp only [updCar, Tab.upd, Tab.put_put, Tab.get_put_same]

theorem State.finding_cars (s : State) (c : Fin 16) (kind : Nat) (ctx : BitVec 32) (detail : Nat) :
    (s.finding c kind ctx detail).cars = s.cars := by
  rw [finding_scope]

/-- A health changes its car, and, where the car becomes LOST, what is asked of its levee. -/
theorem State.setHealth_scope (s : State) (c : Fin 16) (h : Health) :
    s.setHealth c h = { s with cars := (s.setHealth c h).cars, lv := (s.setHealth c h).lv } := by
  unfold setHealth
  dsimp only
  split <;> rfl

/-- The car whose health is set: T0CNT is kept at a rise (R150), and the start-up is over unless it is LOST. -/
def CarPos.withHealth (cp : CarPos) (h : Health) (t0 : BitVec 32) : CarPos :=
  { cp with
    health := h
    refT0 := if cp.health.rank < 2 && 2 ≤ h.rank then t0 else cp.refT0
    startUp := cp.startUp && (h == .lost) }

theorem State.setHealth_cars (s : State) (c : Fin 16) (h : Health) :
    (s.setHealth c h).cars = s.cars.upd c (·.withHealth h s.tick.t0) := by
  unfold setHealth
  dsimp only
  split <;> rfl

/-- A car that is not LOST falls to LOST with its books kept. -/
theorem CarPos.withHealth_lost (cp : CarPos) (t0 : BitVec 32) : cp.withHealth .lost t0 = { cp with health := .lost } := by
  simp [CarPos.withHealth, Health.rank]

theorem CarPos.withHealth_suspect (cp : CarPos) (t0 : BitVec 32) :
    cp.withHealth .suspect t0 = { cp with health := .suspect, startUp := false } := by
  have h : (Health.suspect == Health.lost) = false := rfl
  simp [CarPos.withHealth, Health.rank, h]

/-- A fall to LOST asks SF1 of the levee (R136). -/
theorem State.setHealth_falls {s : State} {c : Fin 16} (h : (s.cars.get c).health ≠ .lost) :
    s.setHealth c .lost = (s.updCar c fun cp => { cp with health := .lost }).askSf1 c := by
  simp only [← CarPos.withHealth_lost _ s.tick.t0]
  exact if_pos (by simp [h])

/-- A LOST car stays as it is. -/
theorem State.setHealth_stays {s : State} {c : Fin 16} (h : (s.cars.get c).health = .lost) : s.setHealth c .lost = s := by
  have hcp : (s.cars.get c).withHealth .lost s.tick.t0 = s.cars.get c := by
    rw [CarPos.withHealth_lost, ← h]
  have hcars : s.cars.upd c (·.withHealth .lost s.tick.t0) = s.cars := by
    rw [Tab.upd, hcp, Tab.put_get]
  calc s.setHealth c .lost = s.updCar c (·.withHealth .lost s.tick.t0) := if_neg (by simp [h])
    _ = s := by rw [State.updCar, hcars]

theorem State.setHealth_suspect (s : State) (c : Fin 16) :
    s.setHealth c .suspect = s.updCar c fun cp => { cp with health := .suspect, startUp := false } := by
  simp only [← CarPos.withHealth_suspect _ s.tick.t0]
  rfl

/-- Settles O27: each takes the car's health or its absolute source away by the rule of `setHealth` or `failAbs`. -/
theorem positionHealthFalls : Obligations.PositionHealthFalls := by
  refine ⟨fun s c h8 hl => congrArg Host.Outcome.next ?_, fun s c h4 h8 hh => congrArg Host.Outcome.next ?_,
    fun s c h2 hh => ⟨_, congrArg Host.Outcome.next ?_, rfl, State.finding_cars ..⟩,
    fun s m c hm ha hc => congrArg Host.Outcome.next ?_⟩
  · have e : s.fusionDropHealth c = s.setHealth c .lost := by simp [State.fusionDropHealth, h8, hl]
    rw [e, State.setHealth_falls hl]
    rfl
  · have e : s.fusionDropHealth c = s.setHealth c .suspect := by
      simp [State.fusionDropHealth, h4, Nat.not_le.mpr h8, Health.two_le_rank.mpr hh]
    rw [e, State.setHealth_suspect]
    rfl
  · have e : s.tsContradiction c =
        ((s.updCar c fun cp => { cp with tsBad := 0 }).finding c 3 0 0).setHealth c .suspect := by
      simp [State.tsContradiction, h2, Health.two_le_rank.mpr hh]
    rw [e, State.setHealth_suspect]
    rfl
  · have e : s.absSourceFail c = s.failAbs c := by
      simp only [State.absSourceFail, hm]
      exact if_pos (by simpa [ha] using hc)
    rw [e]
    rfl

end Sys2Proof.Machine
end

section
/-! The start of a special run (04 R140 to R144): its car takes the run's steps, its hoist axis is handed a run. -/

namespace Sys2Proof.Machine

open State

theorem State.handRun_cars (s : State) (c : Fin 16) (r : NewRun) : (s.handRun c r).cars = s.cars := rfl

theorem State.handRun_run (s : State) (c : Fin 16) (r : NewRun) : ((s.handRun c r).axes.get (hoist c)).req.run = some r := by
  simp [handRun]

theorem State.handRun_others (s : State) (c : Fin 16) (r : NewRun) {k : Fin 48} (h : k ≠ hoist c) :
    (s.handRun c r).axes.get k = s.axes.get k :=
  Tab.get_upd_ne _ _ h.symm

theorem State.updCar_get (s : State) (c : Fin 16) (f : CarPos → CarPos) : (s.updCar c f).cars.get c = f (s.cars.get c) :=
  Tab.get_upd_same ..

theorem State.updCar_others (s : State) {c d : Fin 16} (f : CarPos → CarPos) (h : d ≠ c) : (s.updCar c f).cars.get d = s.cars.get d :=
  Tab.get_upd_ne _ _ h.symm

/-! Correction runs (R140). -/

/-- The leg of a correction run that starts (R140): towards the upper travel limit. -/
theorem State.startCorrection_eq (s : State) (m : Model) (c : Fin 16) (l : Nat) : s.startCorrection m c l =
    (s.updCar c fun cp => { cp with
      spec := { SpecRun.idle with kind := if cp.spec.kind = .homing then .homing else .correction, leg := 11, landing := l } }).handRun c
      ⟨(carLimits m c).2, .correction, none, none, none⟩ := rfl

theorem State.correctionRun_starts {s : State} {m : Model} {c : Fin 16} (hm : s.model = some m)
    (hd : (s.cars.get c).health = .suspect ∧ (s.cars.get c).spec.kind = .none ∨
      (s.cars.get c).spec.kind = .homing ∧ (s.cars.get c).spec.leg = 9)
    (hr : s.specReady m c = true) (hz : s.dz2 m c = true) : s.correctionRun c =
      s.startCorrection m c (if (s.cars.get c).spec.kind = .homing then (s.cars.get c).spec.landing else (s.cars.get c).landing) := by
  simp only [correctionRun, hm]
  exact if_pos (by simpa [hr, hz] using hd)

/-! Homing (R142). -/

/-- A car that takes a position as its own (log 21): a healthy absolute source keeps the base. -/
def CarPos.assumed (cp : CarPos) (p : Int) : CarPos :=
  let cp := if cp.absOk then { cp with corr := fx p - cp.base, corrTgt := fx p - cp.base }
    else { cp with base := fx p, corr := 0, corrTgt := 0 }
  { cp with slew := 0, pos := p, posFx := fx p }

theorem State.assumePos_eq (s : State) (c : Fin 16) (p : Int) : s.assumePos c p = s.updCar c (·.assumed p) := rfl

theorem CarPos.assumed_health (cp : CarPos) (p : Int) : (cp.assumed p).health = cp.health := by
  unfold CarPos.assumed
  split <;> rfl

/-- The car assumes a position and takes up a special run; its hoist is handed the run's first leg. -/
theorem State.assumed_legRun (s : State) (m : Model) (c : Fin 16) (p : Int) (r : SpecRun) (up : Bool) (k : RunKind) :
    ((s.assumePos c p).updSpec c fun _ => r).legRun m c up k =
      (s.updCar c fun cp => { cp.assumed p with spec := r }).handRun c
        ⟨if up then (carLimits m c).2 else (carLimits m c).1, k, none, none, none⟩ := by
  rw [assumePos_eq, updSpec, updCar_updCar]
  rfl

/-- The car assumes a position at a terminal landing and makes the correction run there. -/
theorem State.assumed_startCorrection (s : State) (m : Model) (c : Fin 16) (p : Int) (r : SpecRun) (l : Nat) :
    ((s.assumePos c p).updSpec c fun _ => r).startCorrection m c l = State.handRun (s.updCar c fun cp => { cp.assumed p with
      spec := { SpecRun.idle with kind := if r.kind = .homing then .homing else .correction, leg := 11, landing := l } }) c
      ⟨(carLimits m c).2, .correction, none, none, none⟩ := by
  rw [startCorrection_eq, assumePos_eq, updSpec, updCar_updCar, updCar_updCar]

/-- A homing run of a LOST car starts: upwards from a terminal switch, else down to look for one (R142). -/
theorem State.homingRun_starts {s : State} {m : Model} {c : Fin 16} (hm : s.model = some m) (hl : (s.cars.get c).health = .lost)
    (hk : (s.cars.get c).spec.kind = .none) (hi : (s.cars.get c).inspect = false)
    (hs : (s.cars.get c).motorOk = true ∨ (s.cars.get c).secOk = true) (hr : s.specReady m c = true) :
    ∃ (p : Int) (r : SpecRun) (k : RunKind),
      s.homingRun c = (s.updCar c fun cp => { cp.assumed p with spec := r }).handRun c
        ⟨if s.carIn m c Role.tsUp = true ∨ s.carIn m c Role.tsDn = true then (carLimits m c).2 else (carLimits m c).1, k, none, none, none⟩ ∧
      r.kind = .homing := by
  have hgo : ¬(!((s.cars.get c).health = .lost && (s.cars.get c).spec.kind = .none && !(s.cars.get c).inspect &&
      ((s.cars.get c).motorOk || (s.cars.get c).secOk) && s.specReady m c)) = true := by
    have hsrc : ((s.cars.get c).motorOk || (s.cars.get c).secOk) = true := by simpa using hs
    simp [hl, hk, hi, hr, hsrc]
  simp only [homingRun, hm]
  rw [if_neg hgo]
  cases hu : s.carIn m c Role.tsUp
  · cases hd : s.carIn m c Role.tsDn
    · exact ⟨_, _, _, assumed_legRun .., rfl⟩
    · cases hz : s.dz2 m c
      · exact ⟨_, _, _, assumed_legRun .., rfl⟩
      · exact ⟨_, _, _, assumed_startCorrection .., rfl⟩
  · exact ⟨_, _, _, assumed_legRun .., rfl⟩

/-! Re-levelling (R144). -/

/-- A car that starts to re-level, which counts at this stop for a minute (R145). -/
def CarPos.relevelling (cp : CarPos) : CarPos :=
  { cp with
    spec := { SpecRun.idle with kind := .relevel, leg := 1, landing := cp.landing }
    relevT1 := 0
    relevels := (0 :: cp.relevels).filter (· ≤ 240000) }

/-- A re-level starts: the sixth of a minute is told by an event (R145), and the hoist is handed the landing's level. -/
theorem State.relevelStart_starts {s : State} {m : Model} {c : Fin 16} (hm : s.model = some m) (ha : s.mod = .active)
    (h4 : 4 ≤ (s.cars.get c).relevT1) (hk : (s.cars.get c).spec.kind = .none) (hd : s.relevelDeviates m c = true) :
    ∃ (h : Hi) (n : Nat), s.relevelStart c = State.handRun { s.updCar c CarPos.relevelling with hi := h, freeCtr := n } c
      ⟨m.level (s.cars.get c).landing, .relevel, none, none, some 3000⟩ := by
  have hgo : (s.mod = .active && 4 ≤ (s.cars.get c).relevT1 && (s.cars.get c).spec.kind = .none && s.relevelDeviates m c) = true := by
    simp [ha, h4, hk, hd]
  simp only [relevelStart, hm]
  rw [if_pos hgo]
  split
  · rw [positionEvent_scope]
    exact ⟨_, _, rfl⟩
  · exact ⟨_, _, rfl⟩

/-- Settles O28: each start changes its car's special run and hands its hoist the run. The legs beyond R140's three and the position that
a LOST car assumes are log 21's choice. -/
theorem specialRunsStart : Obligations.SpecialRunsStart := by
  refine ⟨fun s m c hm hd hr hz => ⟨_, congrArg Host.Outcome.next (State.correctionRun_starts hm hd hr hz), ?_⟩,
    fun s m c hm hl hk hi hs hr => ?_, fun s m c hm ha h4 hk hd => ?_⟩
  · rw [State.startCorrection_eq, State.handRun_cars, State.updCar_get]
    exact ⟨rfl, rfl, rfl, rfl, rfl, rfl, fun _ => State.updCar_others s _, fun _ => State.handRun_others _ c _,
      State.handRun_run ..⟩
  · obtain ⟨p, r, k, e, hkind⟩ := State.homingRun_starts hm hl hk hi hs hr
    refine ⟨_, congrArg Host.Outcome.next e, rfl, ?_, ?_, fun _ => State.updCar_others _ _, fun _ => State.handRun_others _ _ _,
      _, State.handRun_run .., rfl⟩
    · rw [State.handRun_cars, State.updCar_get]
      exact hkind
    · rw [State.handRun_cars, State.updCar_get]
      exact (CarPos.assumed_health ..).trans hl
  · obtain ⟨h, n, e⟩ := State.relevelStart_starts hm ha h4 hk hd
    have hc := congrArg CarPos.spec (State.updCar_get s c CarPos.relevelling)
    exact ⟨_, congrArg Host.Outcome.next e, rfl, congrArg SpecRun.kind hc, congrArg SpecRun.landing hc,
      fun _ => State.updCar_others s _, fun _ => State.handRun_others _ c _, State.handRun_run ..⟩

end Sys2Proof.Machine
end

section
/-! The end of a correction run, of a re-level and of a shaft learning (04 R141, R145, R148). -/

namespace Sys2Proof.Machine

open State

/-! Correction runs (R141). -/

/-- The car at the end of its correction run: its position takes the correction `d` at once, with no slew. -/
def CarPos.corrected (cp : CarPos) (d : Int) : CarPos :=
  { cp with
    corr := cp.corr + d
    corrTgt := cp.corr + d
    slew := 0
    pos := fxRound (cp.base + cp.corr + d)
    posFx := cp.base + cp.corr + d
    spec := SpecRun.idle
    barred := false }

/-- A car whose absolute source is judged by the correction: one beyond the tolerance fails a healthy source (R128). -/
def CarPos.judged (cp : CarPos) (tol : Int) : CarPos :=
  if cp.absOk && tol.natAbs < cp.corr.natAbs then { cp with absOk := false, rejects := 0, series := 0 } else cp

/-- The judgement changes the health of the absolute source and its books. -/
theorem CarPos.judged_eq (cp : CarPos) (tol : Int) : ∃ j n, cp.judged tol =
    { cp with absOk := cp.absOk && !decide (tol.natAbs < cp.corr.natAbs), rejects := j, series := n } := by
  unfold CarPos.judged
  by_cases hf : (cp.absOk && tol.natAbs < cp.corr.natAbs) = true
  · refine ⟨0, 0, ?_⟩
    rw [if_pos hf, (Bool.and_eq_true_iff.mp hf).2, Bool.not_true, Bool.and_false]
  · have hkeep : (cp.absOk && !decide (tol.natAbs < cp.corr.natAbs)) = cp.absOk := by
      cases ha : cp.absOk
      · rfl
      · simpa [ha] using hf
    refine ⟨cp.rejects, cp.series, ?_⟩
    rw [if_neg hf, hkeep]

/-- The car's absolute source judged, with its finding where it fails. -/
def State.judgeAbs (s : State) (c : Fin 16) (tol : Int) : State :=
  if (s.cars.get c).absOk && tol.natAbs < (s.cars.get c).corr.natAbs then s.failAbs c else s

theorem State.failAbs_scope (s : State) (c : Fin 16) : s.failAbs c = { s with
    cars := s.cars.upd c fun cp => { cp with absOk := false, rejects := 0, series := 0 }
    fc := (s.failAbs c).fc, hi := (s.failAbs c).hi, cvs := (s.failAbs c).cvs, pwr := (s.failAbs c).pwr } := by
  unfold failAbs
  dsimp only
  rw [finding_scope]
  rfl

theorem State.judgeAbs_scope (s : State) (c : Fin 16) (tol : Int) : s.judgeAbs c tol = { s with
    cars := s.cars.upd c (·.judged tol)
    fc := (s.judgeAbs c tol).fc, hi := (s.judgeAbs c tol).hi, cvs := (s.judgeAbs c tol).cvs, pwr := (s.judgeAbs c tol).pwr } := by
  unfold judgeAbs
  by_cases hf : ((s.cars.get c).absOk && tol.natAbs < (s.cars.get c).corr.natAbs) = true
  · have hj : (s.cars.get c).judged tol = _ := if_pos hf
    rw [if_pos hf, Tab.upd, hj]
    exact s.failAbs_scope c
  · have hj : (s.cars.get c).judged tol = s.cars.get c := if_neg hf
    rw [if_neg hf, Tab.upd, hj, Tab.put_get]

/-- DZ1 is lost by the ports and the motion source of the car alone. -/
theorem State.dz1Lost_congr {s t : State} {m : Model} {c : Fin 16} (hp : t.ports = s.ports)
    (hs : (t.cars.get c).motSec = (s.cars.get c).motSec) : t.dz1Lost m c = s.dz1Lost m c := by
  unfold dz1Lost motionPort?
  rw [hp, hs]

/-- A correction run whose captures R141 refuses leaves the car LOST. -/
theorem State.correctionRunEnd_refused {s : State} {m : Model} {c : Fin 16} (hm : s.model = some m) (hl : (s.cars.get c).spec.leg = 14)
    (hc : correctionOf m c (m.hoists.get c) (s.cars.get c).spec = none) : s.correctionRunEnd c =
      (s.updCar c fun cp => { cp with spec := SpecRun.idle, barred := false }).setHealth c .lost := by
  simp only [correctionRunEnd, hm]
  rw [if_neg (not_not_intro hl), hc]
  dsimp only
  rw [updSpec, updCar_updCar]

/-- A correction run with a good pair: the correction, the judgement of the absolute source and the health that the sources allow. -/
theorem State.correctionRunEnd_corrects {s : State} {m : Model} {c : Fin 16} {d : Int} (hm : s.model = some m)
    (hl : (s.cars.get c).spec.leg = 14) (hc : correctionOf m c (m.hoists.get c) (s.cars.get c).spec = some d) :
    ∃ t, t = (s.updCar c (·.corrected d)).judgeAbs c (fx (m.hoists.get c).posTolCoarse) ∧
      s.correctionRunEnd c = t.setHealth c (sourcesHealth (t.cars.get c) (fuseIn m c).absP.isSome (t.dz1Lost m c)) := by
  simp only [correctionRunEnd, hm]
  rw [if_neg (not_not_intro hl), hc]
  exact ⟨_, rfl, rfl⟩

/-- After a correction run with a good pair: the car, and what else of the state has changed. -/
theorem State.correctionRunEnd_spec {s : State} {m : Model} {c : Fin 16} {d : Int} (hm : s.model = some m)
    (hl : (s.cars.get c).spec.leg = 14) (hc : correctionOf m c (m.hoists.get c) (s.cars.get c).spec = some d) :
    ∃ (cp : CarPos) (h : Health), cp = ((s.cars.get c).corrected d).judged (fx (m.hoists.get c).posTolCoarse) ∧
      h = sourcesHealth cp (fuseIn m c).absP.isSome (s.dz1Lost m c) ∧
      (s.correctionRunEnd c).cars = s.cars.put c (cp.withHealth h s.tick.t0) ∧
      s.correctionRunEnd c = { s with
        cars := (s.correctionRunEnd c).cars
        fc := (s.correctionRunEnd c).fc
        hi := (s.correctionRunEnd c).hi
        cvs := (s.correctionRunEnd c).cvs
        pwr := (s.correctionRunEnd c).pwr
        lv := (s.correctionRunEnd c).lv } := by
  obtain ⟨t, ht, e⟩ := correctionRunEnd_corrects hm hl hc
  rw [judgeAbs_scope] at ht
  have hcar : t.cars.get c = ((s.cars.get c).corrected d).judged (fx (m.hoists.get c).posTolCoarse) := by
    rw [ht]
    exact (Tab.get_upd_same ..).trans (congrArg (CarPos.judged · _) (updCar_get ..))
  have hsec : (t.cars.get c).motSec = (s.cars.get c).motSec := by
    obtain ⟨j, n, hj⟩ := ((s.cars.get c).corrected d).judged_eq (fx (m.hoists.get c).posTolCoarse)
    rw [hcar, hj]
    rfl
  have hdz : t.dz1Lost m c = s.dz1Lost m c := dz1Lost_congr (by rw [ht]; rfl) hsec
  refine ⟨t.cars.get c, _, hcar, rfl, ?_, ?_⟩
  · rw [e, setHealth_cars, hdz, ht]
    simp [Tab.upd, updCar]
  · rw [e, setHealth_scope, ht]
    rfl

/-! Re-levelling (R145). -/

theorem State.relevelTimeout_stops {s : State} {m : Model} {c : Fin 16} (hm : s.model = some m)
    (hk : (s.cars.get c).spec.kind = .relevel) (hl : (s.cars.get c).spec.leg < 3)
    (hc : s.dz1 m c = false ∨ s.dz2 m c = false ∨ Health.rank (s.cars.get c).health < 2 ∨ 12000 < (s.cars.get c).spec.age) :
    s.relevelTimeout c =
      ((s.updCar c fun cp => { cp with spec := { cp.spec with leg := 3 }, takeOut := true }).finding c 6
        (w32 ((s.cars.get c).pos - m.level (s.cars.get c).spec.landing)) 0).orderStop c := by
  simp only [relevelTimeout, hm]
  exact if_pos (by simpa [hk, hl, or_assoc] using hc)

/-! Shaft learning (R148). -/

section learn
variable {s : State} {m : Model} {c : Fin 16} (hm : s.model = some m) (hk : (s.cars.get c).spec.kind = .learn)
  (hl : (s.cars.get c).spec.leg = 4)
include hm hk hl

theorem State.learnShaftDone_aborts {reason : Nat} (hr : learnResult m c (s.cars.get c).spec = .inr reason) :
    s.learnShaftDone c = s.learnAbort c reason .failed := by
  simp only [learnShaftDone, hm]
  rw [if_neg (by simp [hk, hl]), hr]

/-- A learning with a result: its proposal carries the PROP_ID that the completion tells. -/
theorem State.learnShaftDone_proposes {out : List Learned} (hr : learnResult m c (s.cars.get c).spec = .inl out) :
    ∃ t cnt, t = (s.updSpec c fun _ => SpecRun.idle).addProposal 0x02 c.val 0xFF out.length (out.flatMap (landingBytes m)) ∧
      s.learnShaftDone c = (t.learnEvent c 1 (s.cars.get c).spec.source 0 cnt).finishOp 0x30 c.val .done 0
        (s.addProposal 0x02 c.val 0xFF out.length (out.flatMap (landingBytes m))).img.nextProp := by
  have hid : ((s.updSpec c fun _ => SpecRun.idle).addProposal 0x02 c.val 0xFF out.length (out.flatMap (landingBytes m))).img.nextProp =
      (s.addProposal 0x02 c.val 0xFF out.length (out.flatMap (landingBytes m))).img.nextProp := by
    rw [addProposal_nextProp, addProposal_nextProp]
    rfl
  simp only [learnShaftDone, hm]
  rw [if_neg (by simp [hk, hl]), hr]
  dsimp only
  rw [hid]
  exact ⟨_, _, rfl, rfl⟩

end learn

/-- Settles O29: what each run's end leaves of its car. -/
theorem specialRunsEnd : Obligations.SpecialRunsEnd := by
  refine ⟨fun s m c hm hl hc => congrArg Host.Outcome.next ?_, fun s m c d hm hl hc => ⟨_, rfl, ?_⟩,
    fun s m c hm hk hl hc => congrArg Host.Outcome.next (State.relevelTimeout_stops hm hk hl hc),
    fun s m c reason hm hk hl hr => congrArg Host.Outcome.next (State.learnShaftDone_aborts hm hk hl hr),
    fun s m c out hm hk hl hr => ?_⟩
  · have e : s.correctionRunEnd c = _ := State.correctionRunEnd_refused hm hl hc
    refine e.trans ?_
    by_cases hh : (s.cars.get c).health = .lost
    · rw [State.setHealth_stays (by rw [State.updCar_get]; exact hh), if_pos hh, ← hh]
      rfl
    · rw [State.setHealth_falls (by rw [State.updCar_get]; exact hh), if_neg hh, State.updCar_updCar]
      rfl
  · obtain ⟨cp, h, hcp, hh, hcars, hrest⟩ := State.correctionRunEnd_spec hm hl hc
    obtain ⟨j, n, hj⟩ := ((s.cars.get c).corrected d).judged_eq (fx (m.hoists.get c).posTolCoarse)
    have hcar : (s.correctionRunEnd c).cars.get c = cp.withHealth h s.tick.t0 := by rw [hcars, Tab.get_put_same]
    have hothers (e : Fin 16) (he : e ≠ c) : (s.correctionRunEnd c).cars.get e = s.cars.get e := by
      rw [hcars, Tab.get_put_ne _ _ he.symm]
    rw [hcar, hcp, hj]
    exact ⟨rfl, rfl, rfl, rfl, rfl, rfl, hothers, rfl, hj ▸ hcp ▸ hh, by rw [hrest], by rw [hrest], by rw [hrest], by rw [hrest]⟩
  · obtain ⟨t, cnt, rfl, e⟩ := State.learnShaftDone_proposes hm hk hl hr
    exact ⟨_, cnt, congrArg Host.Outcome.next e, rfl⟩

end Sys2Proof.Machine
end

section
/-! The host's commands on learning and the brake test (04 R146, R148, 07 R250, R253, 10 R343): each through the checks of R467. -/

namespace Sys2Proof.Machine

open State

section takeEntry
variable (s : State) (e : CmdEntry)
@[simp] theorem State.takeEntry_cars : (s.takeEntry e).cars = s.cars := rfl
@[simp] theorem State.takeEntry_axes : (s.takeEntry e).axes = s.axes := rfl
@[simp] theorem State.takeEntry_lv : (s.takeEntry e).lv = s.lv := rfl
@[simp] theorem State.takeEntry_seals : (s.takeEntry e).seals = s.seals := rfl
@[simp] theorem State.takeEntry_learn : (s.takeEntry e).learn = s.learn := rfl
@[simp] theorem State.takeEntry_hoistIdle (c : Fin 16) : (s.takeEntry e).hoistIdle c = s.hoistIdle c := rfl
@[simp] theorem State.takeEntry_lvSrc (m : Model) (c : Fin 16) (l : Lv) : (s.takeEntry e).lvSrc m c l = s.lvSrc m c l := rfl
@[simp] theorem State.takeEntry_learnRefusal (m : Model) (c : Fin 16) : (s.takeEntry e).learnRefusal m c = s.learnRefusal m c := rfl
end takeEntry

/-! LEARN_SHAFT (04 R146). -/

/-- The learn run that starts from a car's present position (R146, R147). -/
def CarPos.learnRun (cp : CarPos) : SpecRun :=
  { SpecRun.idle with kind := .learn, leg := 1, up := true, source := learnSource cp, travel := if cp.absOk then cp.base else cp.fxPos }

section learnShaft
variable {s n : State} {e : CmdEntry} {m : Model} {c : Fin 16} (h : s.StartsFor n 0x30 e true m c)
include h

/-- The learn run starts on its first leg, and the hoist is handed a run to the upper travel limit. -/
theorem State.learnShaft_starts (hr : s.learnRefusal m c = none) : s.learnShaft e =
    ((n.updCar c fun cp => { cp with spec := (n.cars.get c).learnRun }).handRun c
      ⟨(carLimits m c).2, .learn, none, none, none⟩).startRunning e := by
  obtain rfl := h.starts.taken
  refine carCommand_act h ?_
  rw [takeEntry_learnRefusal, hr]
  rfl

theorem State.learnShaft_refused {code : Nat} (hr : s.learnRefusal m c = some code) : s.learnShaft e = n.answer e .refused code := by
  obtain rfl := h.starts.taken
  refine carCommand_refused h ?_
  rw [takeEntry_learnRefusal, hr]
  rfl

end learnShaft

/-! LEARN_DOORS (07 R250). -/

theorem front_ne_rear (c : Fin 16) : front c ≠ rear c := by
  intro h
  have := congrArg Fin.val h
  simp only [front, rear] at this
  omega

theorem maskSides_nodup (c : Fin 16) (mask : Byte) : (maskSides c mask).Nodup :=
  List.Nodup.filter _ (by simp [front_ne_rear])

/-- A landing whose learning begins (R251). -/
def DoorLearn.fresh (l : Nat) : DoorLearn :=
  { landing := l, clean := 0, acc := List.replicate 64 none, opens := [], closes := [], done := false, failed := false }

theorem DoorLearn.fresh_landings {ls : List Nat} {xs : List DoorLearn} (h : xs = ls.map DoorLearn.fresh) :
    xs.map (·.landing) = ls ∧ ∀ x ∈ xs, x.clean = 0 ∧ x.done = false := by
  subst h
  refine ⟨by simp [Function.comp_def, DoorLearn.fresh], fun x hx => ?_⟩
  obtain ⟨l, _, rfl⟩ := List.mem_map.mp hx
  exact ⟨rfl, rfl⟩

/-- Each side of the mask learns each landing of the mask, and the command goes on in execution. -/
theorem State.learnDoors_starts {s n : State} {e : CmdEntry} {m : Model} {c : Fin 16}
    (h : s.StartsFor n 0x31 e (1 ≤ e.arg0.toNat && e.arg0.toNat ≤ 3 && 4 ≤ e.arg1.toNat && e.arg1.toNat ≤ 32 &&
      !(maskLandings e).isEmpty && zeroAt e.param 16 16) m c)
    (hs : ∀ d ∈ maskSides c e.arg0, m.sideFitted c (sideNo d) = true ∧ ∀ l ∈ maskLandings e, m.serves c (sideNo d) l = true)
    (hm : (s.modes.get c).mode = 0 ∨ (s.modes.get c).mode = 11) (hl : s.learn.get c = none) :
    s.learnDoors e = (State.each { n with learn := s.learn.put c (some ⟨e, e.arg1.toNat⟩) } (maskSides c e.arg0) fun s d =>
      s.updSide d fun x => { x with learn := (maskLandings e).map DoorLearn.fresh }).startRunning e := by
  obtain rfl := h.starts.taken
  refine carCommand_act h ?_
  have hfit : ((maskSides c e.arg0).any fun d => !m.sideFitted c (sideNo d)) = false := by
    simpa using fun d hd => (hs d hd).1
  have hserve : ((maskSides c e.arg0).any fun d => (maskLandings e).any fun l => !m.serves c (sideNo d) l) = false := by
    simpa using fun d hd => (hs d hd).2
  have hmode : (!((s.modes.get c).mode == 0 || (s.modes.get c).mode == 11)) = false := by
    rcases hm with hm | hm <;> simp [hm]
  simp [firstBad, hfit, hserve, hmode, hl]

/-! LEARN_CANCEL (04 R148, 07 R253). -/

theorem State.endLearnDoors_idle {s : State} {c : Fin 16} (h : s.learn.get c = none) (st : CplStatus) : s.endLearnDoors c st = s := by
  unfold endLearnDoors
  rw [h]

/-- The end of a door learning takes the command and both sides' learning away; its completion has a free code (log 9). -/
theorem State.endLearnDoors_ends {s : State} {c : Fin 16} {l : DoorLearnCmd} (h : s.learn.get c = some l) (st : CplStatus) :
    ∃ hi, s.endLearnDoors c st = { s with
      learn := s.learn.put c none
      sides := (s.sides.upd (front c) fun x => { x with learn := [] }).upd (rear c) fun x => { x with learn := [] }
      hi := hi
      freeCtr := s.freeCtr + 1 } := by
  unfold endLearnDoors
  rw [h]
  exact ⟨_, finish_scope ..⟩

/-- Whether the car learnt doors or not, it learns none afterwards. -/
theorem State.endLearnDoors_scope (s : State) (c : Fin 16) (st : CplStatus) : ∃ x hi k,
    s.endLearnDoors c st = { s with learn := s.learn.put c none, sides := x, hi := hi, freeCtr := k } := by
  cases h : s.learn.get c with
  | none =>
    rw [endLearnDoors_idle h, ← h, Tab.put_get]
    exact ⟨_, _, _, rfl⟩
  | some l =>
    obtain ⟨hi, e⟩ := endLearnDoors_ends h st
    exact ⟨_, _, _, e⟩

/-- A controlled stop changes its axis and ends what is injected on the lane. -/
theorem State.orderStop_scope (s : State) (c : Fin 16) : s.orderStop c = { s with
    axes := s.axes.upd (hoist c) fun a => if a.state = .idle then a.discard else { a with req := { a.req with cstop := true } }
    lanes := (s.orderStop c).lanes
    capus := (s.orderStop c).capus
    injStat := (s.orderStop c).injStat
    hi := (s.orderStop c).hi } := by
  unfold orderStop
  rw [abortInjection_scope]
  rfl

/-- An aborted learning leaves its car without a special run and stops the hoist. -/
theorem State.learnAbort_scope (s : State) (c : Fin 16) (reason : Nat) (st : CplStatus) : s.learnAbort c reason st = { s with
    cars := s.cars.upd c fun cp => { cp with spec := SpecRun.idle }
    axes := s.axes.upd (hoist c) fun a => if a.state = .idle then a.discard else { a with req := { a.req with cstop := true } }
    lanes := (s.learnAbort c reason st).lanes
    capus := (s.learnAbort c reason st).capus
    injStat := (s.learnAbort c reason st).injStat
    hi := (s.learnAbort c reason st).hi
    freeCtr := (s.learnAbort c reason st).freeCtr } := by
  unfold learnAbort
  dsimp only
  rw [finishOp_scope, learnEvent_scope, orderStop_scope]
  rfl

section learnCancel
variable {s n : State} {e : CmdEntry} {m : Model} {c : Fin 16} (h : s.StartsFor n 0x32 e true m c)
include h

theorem State.learnCancel_shaft (hk : (s.cars.get c).spec.kind = .learn) :
    s.learnCancel e = ((n.learnAbort c 5 .cancelled).endLearnDoors c .cancelled).answer e .done 0 := by
  obtain rfl := h.starts.taken
  refine (carCommand_act h (by simp [firstBad, hk])).trans ?_
  dsimp only
  rw [takeEntry_cars, if_pos hk]

theorem State.learnCancel_doors (hk : (s.cars.get c).spec.kind ≠ .learn) {l : DoorLearnCmd} (hl : s.learn.get c = some l) :
    s.learnCancel e = (n.endLearnDoors c .cancelled).answer e .done 0 := by
  obtain rfl := h.starts.taken
  refine (carCommand_act h (by simp [firstBad, hl])).trans ?_
  dsimp only
  rw [takeEntry_cars, if_neg hk]

theorem State.learnCancel_nothing (hk : (s.cars.get c).spec.kind ≠ .learn) (hl : s.learn.get c = none) :
    s.learnCancel e = n.answer e .refused 0x8A := by
  obtain rfl := h.starts.taken
  exact carCommand_refused h (by simp [firstBad, hk, hl])

end learnCancel

/-! BRAKE_TEST (10 R343). -/

theorem State.brakeTest_starts {s n : State} {e : CmdEntry} {m : Model} {c : Fin 16}
    (h : s.StartsFor n 0x33 e (200 ≤ e.arg1.toNat && e.arg1.toNat ≤ 1500) m c) (hs : s.seals.now.getLsbD 1 = true)
    (hm : (s.modes.get c).mode = 11) (hb : btReady (s.lv.get c) (s.lvSrc m c (s.lv.get c)) = true) (hi : s.hoistIdle c = true)
    (hp : (s.lv.get c).bt.phase = 0) (hr : (s.modes.get c).runCmd = none) (hk : (s.cars.get c).spec.kind = .none) :
    s.brakeTest e = (n.btStart c e.arg1.toNat (some e)).startRunning e := by
  obtain rfl := h.starts.taken
  refine carCommand_act h ?_
  have hseal : (!(s.takeEntry e).seals.now.getLsbD 1) = false := by rw [takeEntry_seals, hs]; rfl
  simp [firstBad, -takeEntry_seals, hseal, hm, hb, hi, hp, hr, hk, -BitVec.getLsbD_eq_getElem]

/-- Settles O51: the effect of each command where its checks pass, and its refusals. The brake test's contactors follow R339's grant
(log 160); NOT_FOUND of LEARN_CANCEL is log 129's. -/
theorem learningAndBrakeTestCommands : Obligations.LearningAndBrakeTestCommands := by
  refine ⟨fun s n e m c h hr => ⟨_, congrArg Host.Outcome.next (State.learnShaft_starts h hr), ?_⟩,
    fun s n e m c code h hr => congrArg Host.Outcome.next (State.learnShaft_refused h hr),
    fun s n e m c h hs hm hl => ⟨_, congrArg Host.Outcome.next (State.learnDoors_starts h hs hm hl), ?_⟩,
    fun s n e m c l h hk hl => ⟨_, congrArg Host.Outcome.next (State.learnCancel_doors h hk hl), ?_⟩,
    fun s n e m c h hk => ⟨_, congrArg Host.Outcome.next (State.learnCancel_shaft h hk), ?_⟩,
    fun s n e m c h hk hl => congrArg Host.Outcome.next (State.learnCancel_nothing h hk hl),
    fun s n e m c h hs hm hb hi hp hr hk => ⟨_, congrArg Host.Outcome.next (State.brakeTest_starts h hs hm hb hi hp hr hk), ?_⟩⟩
  · obtain rfl := h.starts.taken
    have hc := congrArg CarPos.spec (State.updCar_get s c fun cp => { cp with spec := (s.cars.get c).learnRun })
    exact ⟨rfl, rfl, congrArg SpecRun.kind hc, congrArg SpecRun.leg hc, congrArg SpecRun.up hc, fun _ => State.updCar_others _ _,
      fun _ => State.handRun_others _ c _⟩
  · obtain rfl := h.starts.taken
    have hside (d : Fin 32) := State.each_updSide_get { s.takeEntry e with learn := s.learn.put c (some ⟨e, e.arg1.toNat⟩) }
      (maskSides c e.arg0) (fun _ x => { x with learn := (maskLandings e).map DoorLearn.fresh }) (maskSides_nodup c e.arg0) d
    rw [State.each_updSide] at hside ⊢
    refine ⟨rfl, rfl, rfl, fun d hd => ?_, fun d hd => (hside d).trans (if_neg hd)⟩
    exact DoorLearn.fresh_landings (congrArg Side.learn ((hside d).trans (if_pos hd)))
  · obtain rfl := h.starts.taken
    obtain ⟨hi, he⟩ := State.endLearnDoors_ends (s := s.takeEntry e) hl .cancelled
    rw [he]
    refine ⟨rfl, ?_, ?_⟩
    · simp [(front_ne_rear c).symm]
    · simp
  · obtain rfl := h.starts.taken
    obtain ⟨x, hi, k, he⟩ := State.endLearnDoors_scope ((s.takeEntry e).learnAbort c 5 .cancelled) c .cancelled
    rw [he, State.learnAbort_scope]
    refine ⟨?_, fun d hd => ?_, ?_, rfl, rfl, fun ha => ?_⟩
    · simp
    · simp [hd.symm]
    · simp
    · simp [ha]
  · obtain rfl := h.starts.taken
    exact ⟨rfl, rfl, fun d hd => Tab.get_upd_ne _ _ hd.symm, Tab.get_upd_same ..⟩

end Sys2Proof.Machine
end

section
/-! The steps of a hoist run (05 R163, R164): the plan due after the brake lift, its installation, its end, the end of the run after the
brake drop, and a start that fails. -/

namespace Sys2Proof.Machine

open State

/-- An axis whose run starts to move: the plan `g` in force from the position `p` at T0CNT `t0`, and the start's books closed (R163). -/
def Axis.runStarted (a : Axis) (r : NewRun) (t0 : BitVec 32) (p : Int) (g : List Seg × Bool) : Axis :=
  { a.install t0 p 0 g.1 with
    state := .run
    due := false
    fHold := false
    table := g.2
    target := r.target
    held := none
    failures := 0 }

/-- An axis at the end of its plan: the frame held at the plan's last position, the brake drop waited for from `t0` (R163). -/
def Axis.planEnded (a : Axis) (t0 : BitVec 32) : Axis :=
  { a with
    state := .end_
    fHold := true
    endAt := some t0
    landed := a.state == .run
    refPos := (a.segs.getLast?).elim a.refPos (·.endPos)
    refVel := 0
    refAcc := 0 }

/-- An axis whose start has failed: at rest, the pending run given up and the failure counted (R164). -/
def Axis.startFailed (a : Axis) : Axis :=
  { a with
    state := .idle
    fRun := false
    fHold := false
    held := none
    due := false
    failures := a.failures + 1 }

theorem State.comingSlot_iff {s : State} {c : Fin 16} : s.comingSlot c = true ↔ (s.tick.t0 + 1).toNat % 8 = c.val % 8 :=
  decide_eq_true_iff

/-- BRAKE_LIFT after the first MAGNETISED, in the car's slot, the run is due. -/
theorem State.brakeLiftWait_due {s : State} {m : Model} {c : Fin 16} {mag : BitVec 32} (hm : s.model = some m)
    (hmag : (s.axes.get (hoist c)).magAt = some mag) (hs : (s.axes.get (hoist c)).state = .start)
    (hslot : (s.tick.t0 + 1).toNat % 8 = c.val % 8) (hl : (m.hoists.get c).brakeLift * 40 ≤ (s.tick.t0 + 1 - mag).toNat) :
    s.brakeLiftWait c = s.updAxis (hoist c) fun a => { a with due := true } := by
  simp only [brakeLiftWait, hm, hmag]
  exact if_pos (by simp only [hs, comingSlot_iff.mpr hslot, decide_eq_true hl, decide_true, Bool.and_self])

/-- A run that is due latches its gains and starts to move with a plan from the position of this T0. -/
theorem State.installRun_installs {s : State} (m : Model) {c : Fin 16} {r : NewRun} (hr : (s.axes.get (hoist c)).held = some r)
    (hs : (s.axes.get (hoist c)).state = .start) (hd : (s.axes.get (hoist c)).due = true) :
    ∃ g, s.installRun m c = (s.latchGain m (hoist c)).updAxis (hoist c) (·.runStarted r s.tick.t0 (s.cars.get c).pos g) := by
  simp only [installRun, hr]
  rw [if_pos (by simp [hs, hd])]
  exact ⟨_, rfl⟩

/-- At the plan's end the axis enters END and the levee is asked for the brake drop; the car may owe its levelling error. -/
theorem State.planEnd_ends {s : State} {c : Fin 16} (hmv : (s.axes.get (hoist c)).moving = true)
    (hslot : (s.tick.t0 + 1).toNat % 8 = c.val % 8)
    (hl : planLen (s.axes.get (hoist c)).segs ≤ (s.axes.get (hoist c)).tauAt (s.tick.t0 + 1) + 2000) :
    ∃ cars, s.planEnd c = { (s.updAxis (hoist c) (·.planEnded (s.tick.t0 + 1))).updLv c
      fun l => { l with req := { l.req with drop := true } } with cars := cars } := by
  unfold planEnd
  dsimp only
  rw [if_pos (by simp only [hmv, comingSlot_iff.mpr hslot, decide_eq_true hl, Bool.and_self])]
  split
  · exact ⟨_, rfl⟩
  · exact ⟨_, rfl⟩

/-- BRAKE_DROP after the plan's end, in the car's slot, the run ends with its ENERGY record. -/
theorem State.brakeDropWait_ends {s : State} {m : Model} {c : Fin 16} {e : BitVec 32} (hm : s.model = some m)
    (he : (s.axes.get (hoist c)).endAt = some e) (hs : (s.axes.get (hoist c)).state = .end_)
    (hslot : (s.tick.t0 + 1).toNat % 8 = c.val % 8) (hl : (m.hoists.get c).brakeDrop * 40 ≤ (s.tick.t0 + 1 - e).toNat) :
    s.brakeDropWait c =
      (((s.putEnergy m c).updAxis (hoist c) fun a => { a with state := .idle, fRun := false, fHold := false, endAt := none }).updLv c
        fun l => { l with req := { l.req with runEnd := true } }).endRunCmd c (s.axes.get (hoist c)).landed := by
  simp only [brakeDropWait, hm, he]
  exact if_pos (by simp only [hs, comingSlot_iff.mpr hslot, decide_eq_true hl, decide_true, Bool.and_self])

/-- 250 T1 without MAGNETISED the start fails; the third failure in a row holds the car. -/
theorem State.startFailure_fails {s : State} {c : Fin 16} (hs : (s.axes.get (hoist c)).state = .start)
    (hmag : (s.axes.get (hoist c)).magAt = none) (hw : 250 ≤ (s.axes.get (hoist c)).startWait) :
    s.startFailure c = (({ (s.updAxis (hoist c) Axis.startFailed).updLv c fun l => { l with req := { l.req with runEnd := true } } with
      cars := if 3 ≤ (s.axes.get (hoist c)).failures + 1 then
        s.cars.upd c fun cp => { cp with holds := { cp.holds with start := true } } else s.cars } : State).positionEvent c 5
          ((s.axes.get (hoist c)).failures + 1 : Nat)).endRunCmd c false := by
  unfold startFailure
  dsimp only
  rw [if_pos (by simp [hs, hmag, hw])]
  split
  · rfl
  · rfl

/-- Settles O30: each step in its turn, with what it leaves alone. That a step of R163 acts at the computation of the car's slot is
log 20's choice. -/
theorem runStartAndEnd : Obligations.RunStartAndEnd := by
  refine ⟨fun s m c r mag hm _ hmag hs hslot hl => congrArg Host.Outcome.next (State.brakeLiftWait_due hm hmag hs hslot hl),
    fun s t m c r hr hs hd ht => ?_, fun s c hmv hslot hl => ?_,
    fun s m c e hm he hs hslot hl => congrArg Host.Outcome.next (State.brakeDropWait_ends hm he hs hslot hl),
    fun s c hs hmag hw => ⟨_, congrArg Host.Outcome.next (State.startFailure_fails hs hmag hw), rfl, rfl, rfl, rfl⟩⟩
  · obtain ⟨g, e⟩ := State.installRun_installs m hr hs hd
    obtain rfl := ht.trans e
    have haxis : ((s.latchGain m (hoist c)).updAxis (hoist c) (·.runStarted r s.tick.t0 (s.cars.get c).pos g)).axes.get (hoist c) =
        (s.axes.get (hoist c)).runStarted r s.tick.t0 (s.cars.get c).pos g := Tab.get_upd_same ..
    rw [haxis]
    exact ⟨rfl, fun k hk => ⟨Tab.get_upd_ne _ _ hk.symm, Tab.get_upd_ne _ _ hk.symm⟩, rfl, rfl, rfl, rfl, rfl, rfl, rfl,
      congrArg Lane.gain (Tab.get_upd_same ..)⟩
  · obtain ⟨cars, e⟩ := State.planEnd_ends hmv hslot hl
    exact ⟨_, congrArg Host.Outcome.next e, rfl, fun k hk => Tab.get_upd_ne _ _ hk.symm, Tab.get_upd_same .., rfl⟩

end Sys2Proof.Machine
end

section
/-! A door operator's reply, a drive's feedback and a connection whose watchdog has passed (05 R180, R181, 07 R220 to R222, 11 R386). -/

namespace Sys2Proof.Machine

open State

/-- A privileged frame that reaches its node is taken by what its receiver does with it. -/
theorem State.Reaches.onPrivileged {s t : State} {fr : Frame} {cls : Nat} {m : Model} {i : Nat} {r : NodeRec} {c : Conn}
    (h : s.Reaches t fr cls m i r c) {p : NodeRec → Bool} (hp : p r = true) (f : State → Model → Nat → NodeRec → Conn → State) :
    s.onPrivileged fr cls p f = f t m i r c := by
  obtain ⟨hheard, hm, hroom, hbus, ⟨hext, hfd⟩, hcls, hname, hnode, hconn⟩ := h
  simp only [State.onPrivileged, hheard, hm, hroom, hname, hnode, hconn]
  simp [hext, hfd, hcls, hp, Nat.not_le.mpr hbus]

/-- A drive's feedback that passes its checks is kept in its connection and in the energy of the car's run. -/
theorem State.hdvFeedback_takes {s t : State} {fr : Frame} {m : Model} {i : Nat} {r : NodeRec} {c : Conn} (hc : r.car < 16)
    (h : s.Reaches t fr 4 m i r c) (hcls : r.cls = .hdv) (hr : checkReply c fr 0x46 = none) : s.hdvFeedback fr =
      (t.updConn i fun c => { c.accept fr.sof with data := { (c.accept fr.sof).data with
        fbStatus := byteAt fr.data 1
        speedAct := BitVec.ofNat 32 (fld fr.data 4 4)
        torqAct := BitVec.ofNat 16 (fld fr.data 8 2)
        fbFault := BitVec.ofNat 16 (fld fr.data 10 2)
        pDc := BitVec.ofNat 32 (fld fr.data 12 4) } }).updAxis (hoist ⟨r.car, hc⟩) fun a => { a with
          energy := if a.fRun then addEnergy a.energy fr.sof (sfld fr.data 12 4) else { a.energy with lastSof := some fr.sof } } := by
  refine (h.onPrivileged (decide_eq_true hcls) _).trans ?_
  simp only [hr]
  exact dif_pos hc

section reply
variable {s t : State} {fr : Frame} {m : Model} {i : Nat} {r : NodeRec} {c : Conn} {d : Fin 32} (hc : r.car < 16) (hs : r.side < 2)
  (h : s.Reaches t fr 4 m i r c) (hcls : r.cls = .don) (hr : checkReply c fr 0x52 = none) (hd : d.val = 16 * r.side + r.car)
include hc hs h hcls hr hd

/-- An operator's reply that passes FORMAT and TAG is judged by its SEQ at the side that its node names (R221). -/
theorem State.donReply_judged : s.donReply fr =
    if BitVec.ofNat 16 (fld fr.data 2 2) = (t.sides.get d).seqSent || BitVec.ofNat 16 (fld fr.data 2 2) = (t.sides.get d).seqPrev then
      (t.updConn i (·.accept fr.sof)).takeReply m d fr.data fr.sof
    else t.updConn i (·.reject .seq) := by
  have hlt : 16 * r.side + r.car < 32 := by omega
  obtain rfl : d = ⟨16 * r.side + r.car, hlt⟩ := Fin.ext hd
  refine (h.onPrivileged (decide_eq_true hcls) _).trans ?_
  simp only [hr]
  exact dif_pos ⟨hc, hs⟩

theorem State.donReply_taken (hq : BitVec.ofNat 16 (fld fr.data 2 2) = (t.sides.get d).seqSent ∨
    BitVec.ofNat 16 (fld fr.data 2 2) = (t.sides.get d).seqPrev) :
    s.donReply fr = (t.updConn i (·.accept fr.sof)).takeReply m d fr.data fr.sof :=
  (donReply_judged hc hs h hcls hr hd).trans (if_pos (by simpa using hq))

theorem State.donReply_stale (hsent : BitVec.ofNat 16 (fld fr.data 2 2) ≠ (t.sides.get d).seqSent)
    (hprev : BitVec.ofNat 16 (fld fr.data 2 2) ≠ (t.sides.get d).seqPrev) : s.donReply fr = t.updConn i (·.reject .seq) :=
  (donReply_judged hc hs h hcls hr hd).trans (if_neg (by simp [hsent, hprev]))

end reply

/-- A loss of a connection of a car that is not its drive's is counted and found by the car. -/
theorem State.loseConn_of_car (s : State) (i : Nat) {r : NodeRec} (hc : r.car < 16) (hh : r.cls ≠ .hdv) : s.loseConn i r =
    (s.updConn i fun c => { c with state := .lost, based := false, losses := c.losses + 1 }).raise (0xE0 + r.car) 1 2 (BitVec.ofNat 32 i)
      (classCode r.cls) := by
  unfold loseConn
  dsimp only
  rw [dif_pos hc, if_neg hh]

/-- A connection whose watchdog has passed is lost; only a door operator's has a side to fault. -/
theorem State.connectionWatchdog_loses {s : State} {m : Model} {i : Nat} {r : NodeRec} {c : Conn} (hm : s.model = some m)
    (hr : m.nodes[i]? = some r) (hc : s.conns[i]? = some c) (hd : r.cls ≠ .don) (hw : s.watchdogDue r c = true) :
    s.connectionWatchdog i = s.loseConn i r := by
  simp only [connectionWatchdog, hm, hr, hc]
  rw [if_pos hw, dif_neg fun h => hd h.1]

/-- Settles O33: each frame through its checks to what it leaves, and the loss of a connection of a car. -/
theorem operatorAndDriveRepliesAndTheWatchdog : Obligations.OperatorAndDriveRepliesAndTheWatchdog := by
  refine ⟨fun s t fr m i r c hc h hcls hr => congrArg Host.Outcome.next (State.hdvFeedback_takes hc h hcls hr),
    fun s t fr m i r c d hc hs h hcls hr hd hq => ⟨_, congrArg Host.Outcome.next (State.donReply_taken hc hs h hcls hr hd hq), rfl,
      fun e he => Tab.get_upd_ne _ _ he.symm, ?_⟩,
    fun s t fr m i r c d hc hs h hcls hr hd hsent hprev =>
      congrArg Host.Outcome.next (State.donReply_stale hc hs h hcls hr hd hsent hprev),
    fun s m i r c hc hm hr hk hd hh hw => congrArg Host.Outcome.next
      ((State.connectionWatchdog_loses hm hr hk hd hw).trans (State.loseConn_of_car s i hc hh))⟩
  have hside : ((t.updConn i (·.accept fr.sof)).takeReply m d fr.data fr.sof).sides.get d = _ := Tab.get_upd_same ..
  rw [hside]
  exact ⟨rfl, rfl, rfl, rfl, rfl, rfl, rfl, rfl, rfl⟩

end Sys2Proof.Machine
end

section
/-! The control engine (06 R200, R203 to R206, R210 to R212): the stop for a following error, and an injection from its command to its
end. -/

namespace Sys2Proof.Machine

open State

/-! Following error (R200). -/

/-- The fourth computation with FE_OVER reports the finding, holds the car and stops it. -/
theorem State.followingErrorStop_stops {s : State} {c : Fin 16} (hf : 4 ≤ (s.lanes.get (hoist c)).feRun)
    (hst : (s.axes.get (hoist c)).state = .run ∨ (s.axes.get (hoist c)).state = .stopping) (hh : (s.cars.get c).holds.following = false) :
    s.followingErrorStop c = ((s.finding c 7 (w32 (s.lanes.get (hoist c)).fe) c.val).updCar c fun cp =>
      { cp with holds := { cp.holds with following := true } }).orderStop c := by
  unfold State.followingErrorStop
  exact if_pos (by simpa [hf, hh] using hst)

/-- Settles O31. That the stop ends an injection of the lane is part of `State.orderStop` (R205). -/
theorem followingErrorAndFeedback : Obligations.FollowingErrorAndFeedback :=
  fun _ _ hf hst hh => ⟨_, congrArg Host.Outcome.next (State.followingErrorStop_stops hf hst hh), rfl⟩

/-! The capture unit of an identification (R210). -/

/-- The capture units when an identification takes one, or none. -/
def unitTaken (t : Tab 4 Capu) : Option (Fin 4) → Tab 4 Capu
  | some u => t.put u { t.get u with state := 6, taken := [], samples := [] }
  | none => t

/-- The capture units when the identification that took one ends. -/
def unitFreed (t : Tab 4 Capu) : Option (Fin 4) → Tab 4 Capu
  | some u => t.put u { t.get u with state := 0, taken := [] }
  | none => t

theorem unitFreed_state (t : Tab 4 Capu) (u : Fin 4) : ((unitFreed t (some u)).get u).state = 0 := by
  simp [unitFreed]

/-! The end of an injection (R205). -/

/-- The lane, the unit of an identification and CE_INJ_STAT when injection `j` of lane `k` has ended. -/
def State.injectionEnded (s : State) (k : Fin 48) (j : Inject) (code : Nat) : State :=
  { s with
    lanes := s.lanes.put k { s.lanes.get k with injection := none }
    capus := unitFreed s.capus j.identify
    injStat := ⟨BitVec.ofNat 6 k.val, BitVec.ofNat 8 code, BitVec.ofNat 16 (min j.i 65535)⟩ }

theorem State.injectionEnded_injection (s : State) (k : Fin 48) (j : Inject) (code : Nat) :
    ((s.injectionEnded k j code).lanes.get k).injection = none := by
  simp [State.injectionEnded]

/-- The end of a lane's injection clears it and completes its command. -/
theorem State.endInjection_ends {s : State} {k : Fin 48} {j : Inject} (hj : (s.lanes.get k).injection = some j) (code : Nat)
    (st : CplStatus) (result : BitVec 32) :
    s.endInjection k code st result = (s.injectionEnded k j code).finish j.e st code result := by
  unfold State.endInjection State.injectionEnded
  rw [hj]
  cases hi : j.identify with
  | none => simp only [hi]; rfl
  | some u => simp only [hi]; rfl

theorem State.abortInjection_ends {s : State} {k : Fin 48} {j : Inject} (hj : (s.lanes.get k).injection = some j) (code : Nat) :
    s.abortInjection k code = (s.injectionEnded k j code).finish j.e .aborted code := State.endInjection_ends hj code .aborted 0

/-! INJECT, IDENTIFY and INJECT_ABORT (R203, R205, R210). -/

theorem unitAt_val {n : Nat} (k : Fin n) (f : Fin n → TestUnit) : unitAt n k.val f = some (f k) := dif_pos k.isLt

section start
variable {s : State} {e : CmdEntry} {b : Bool}

/-- A block that no row of R205 refuses goes to its lane, and its command goes on in execution. -/
theorem State.startInject_starts {m : Model} {k : Fin 48} (hm : s.model = some m) (hk : fld e.param 0 1 = k.val)
    (hc : s.injectCode m k e b = none) {u : Option (Fin 4)} (hu : (if b then s.freeCapu else none) = u) :
    s.startInject e b = { s with
      lanes := s.lanes.put k { s.lanes.get k with injection := some (injectOf e u (s.lanes.get k).set) }
      capus := unitTaken s.capus u
      injStat := ⟨BitVec.ofNat 6 k.val, 1, 0⟩
      hi := { s.hi with running := s.hi.running ++ [⟨e, false⟩] } } := by
  unfold State.startInject
  simp only [hm, hk, unitAt_val, hc, hu]
  rw [← hm]
  cases u <;> rfl

/-- A block that a row refuses leaves its code in CE_INJ_STAT and in the completion. -/
theorem State.startInject_refused {m : Model} {k : Fin 48} {code : Nat} (hm : s.model = some m) (hk : fld e.param 0 1 = k.val)
    (hc : s.injectCode m k e b = some code) :
    s.startInject e b = State.answer { s with injStat := ⟨BitVec.ofNat 6 k.val, BitVec.ofNat 8 code, 0⟩ } e .refused code := by
  unfold State.startInject
  simp only [hm, hk, unitAt_val, hc]

/-- A block that names no lane, or comes without a model, is refused and leaves the lane of CE_INJ_STAT. -/
theorem State.startInject_nowhere (h : 48 ≤ fld e.param 0 1 ∨ s.model = none) {code : Nat}
    (hc : code = if 48 ≤ fld e.param 0 1 then 0x12 else 0x13) :
    s.startInject e b = State.answer { s with injStat := { s.injStat with result := BitVec.ofNat 8 code } } e .refused code := by
  subst hc
  unfold State.startInject
  by_cases hk : 48 ≤ fld e.param 0 1
  · have hu : unitAt 48 (fld e.param 0 1) .lane = none := dif_neg (Nat.not_lt.mpr hk)
    dsimp only
    rw [hu, if_pos hk]
    cases s.model <;> rfl
  · have hm : s.model = none := h.resolve_left hk
    have hu : unitAt 48 (fld e.param 0 1) .lane = some (.lane ⟨fld e.param 0 1, by omega⟩) := dif_pos (by omega)
    simp only [hm, hu, if_neg hk]
    rfl

end start

theorem State.injectCmd_starts {s n : State} {e : CmdEntry} (h : s.Starts n 0x34 e true) : s.injectCmd e = n.startInject e false :=
  command_act h rfl

theorem State.identifyCmd_starts {s n : State} {e : CmdEntry} (h : s.Starts n 0x36 e true) : s.identifyCmd e = n.startInject e true :=
  command_act h rfl

/-- Both commands start their block with the choice of a unit that their opcode makes. -/
theorem State.exec_startInject {s n : State} {e : CmdEntry} {op : Nat} {b : Bool} {cmd : Instr}
    (hcmd : b = false ∧ op = 0x34 ∧ cmd = .inject e ∨ b = true ∧ op = 0x36 ∧ cmd = .identify e) (h : s.Starts n op e true) :
    exec cmd s = .next (n.startInject e b) := by
  rcases hcmd with ⟨rfl, rfl, rfl⟩ | ⟨rfl, rfl, rfl⟩
  · exact congrArg Host.Outcome.next (State.injectCmd_starts h)
  · exact congrArg Host.Outcome.next (State.identifyCmd_starts h)

@[simp] theorem State.takeEntry_lanes (s : State) (e : CmdEntry) : (s.takeEntry e).lanes = s.lanes := rfl

section abort
variable {s n : State} {e : CmdEntry} {k : Fin 48} (hk : e.arg0.toNat = k.val)
include hk

theorem injectAbort_lane : Fin.ofNat 48 e.arg0.toNat = k := by
  rw [hk]
  exact Fin.ofNat_val_eq_self k

variable (h : s.Starts n 0x35 e true)
include h

theorem injectAbort_own : s.Starts n 0x35 e (e.arg0.toNat < 48) := h.own_of (by simp [hk])

theorem State.injectAbort_ends {j : Inject} (hj : (s.lanes.get k).injection = some j) :
    s.injectAbort e = ((n.injectionEnded k j 0x23).finish j.e .aborted 0x23).answer e .done 0 := by
  obtain rfl := h.taken
  unfold State.injectAbort
  dsimp only
  rw [injectAbort_lane hk, command_act (injectAbort_own hk h) (by simp [firstBad, hj])]
  exact congrArg (State.answer · e .done 0) (State.abortInjection_ends (s := s.takeEntry e) hj 0x23)

theorem State.injectAbort_nothing (hj : (s.lanes.get k).injection = none) : s.injectAbort e = n.answer e .refused 0x8A := by
  obtain rfl := h.taken
  unfold State.injectAbort
  dsimp only
  rw [injectAbort_lane hk, command_refused (injectAbort_own hk h) (code := 0x8A) (by simp [firstBad, hj])]
  rfl

end abort

/-! The start of an injection (R203, R206, R208). -/

/-- Fire each capture unit that a condition names. -/
def State.fireWhere (s : State) (p : Fin 4 → Capu → Bool) : State :=
  s.each (idx 4) fun s u => s.updCapu u fun c => if p u c then { c with fired := true } else c

theorem State.fireWhere_scope (s : State) (p : Fin 4 → Capu → Bool) : s.fireWhere p = { s with capus := (s.fireWhere p).capus } := by
  rw [State.fireWhere, each_updCapu]

/-- A unit has fired when it had before or the condition names it. -/
theorem State.fireWhere_unit (s : State) (p : Fin 4 → Capu → Bool) (u : Fin 4) : (s.fireWhere p).capus.get u =
    { s.capus.get u with fired := (s.capus.get u).fired || p u (s.capus.get u) } := by
  rw [State.fireWhere, each_updCapu]
  refine (foldl_upd_get _ (idx 4) s.capus u (idx_nodup 4)).trans ?_
  rw [if_pos (mem_idx u)]
  cases hp : p u (s.capus.get u) <;> simp

/-- The units that wait for an injection on their lane. -/
def waitsOnLane (k : Fin 48) (_ : Fin 4) (c : Capu) : Bool := waits c 1 && c.rwc.rate = 0 && c.rwc.unitSel.toNat = k.val

/-- The units of a block's mask that wait for an injection. -/
def waitsInMask (mask : BitVec 4) (u : Fin 4) (c : Capu) : Bool := waits c 1 && mask.getLsbD u.val

theorem fired_by_either (f w r q m : Bool) : (f || (w && r && q) || (w && m)) = (f || (w && (r && q || m))) := by
  rw [Bool.or_assoc, Bool.and_assoc, ← Bool.and_or_distrib_left]

/-- In RUN the injection starts with the set then in force and fires the units that wait for it. -/
theorem State.injectionStart_starts {s : State} {k : Fin 48} {j : Inject} (hj : (s.lanes.get k).injection = some j)
    (hs : j.started = false) (hr : (s.axes.get k).state = .run) :
    s.injectionStart k = ((s.updLane k fun l => { l with injection := some { j with started := true, set0 := l.set } }).fireWhere
      (waitsOnLane k)).fireWhere (waitsInMask j.capu) := by
  unfold State.injectionStart
  rw [hj]
  exact if_pos (by simp [hs, hr])

/-- Without an injection or out of RUN nothing starts. -/
theorem State.injectionStart_idle {s : State} {k : Fin 48} (h : (s.lanes.get k).injection = none ∨ (s.axes.get k).state ≠ .run) :
    s.injectionStart k = s := by
  unfold State.injectionStart
  cases hj : (s.lanes.get k).injection with
  | none => rfl
  | some j =>
    have hr : (s.axes.get k).state ≠ .run := h.resolve_left (by simp [hj])
    exact if_neg (by simp [hr])

/-! The proposal of an identification (R212). -/

/-- The proposal of an identification that stands, with its event. -/
def State.identified (s : State) (k : Fin 48) (g : GainRec) (mass : Int) : State :=
  (s.addProposal 0x0F (laneCar k).val (if isHoist k then 0xFF else sideNo (laneSide k)) 1 (gainBytes g)).learnEvent (laneCar k) 4 0 0 mass

theorem State.identified_scope (s : State) (k : Fin 48) (g : GainRec) (mass : Int) : s.identified k g mass = { s with
    img := (s.identified k g mass).img
    cvs := (s.identified k g mass).cvs
    hi := (s.identified k g mass).hi
    freeCtr := (s.identified k g mass).freeCtr } := by
  unfold State.identified
  rw [learnEvent_scope, addProposal_scope]

/-- A proposal stands in the list under the next number. -/
theorem State.addProposal_mem (s : State) (kind car side count : Nat) (payload : List Byte) :
    ∃ p ∈ (s.addProposal kind car side count payload).img.props, p.id = s.img.nextProp + 1 ∧ p.kind = BitVec.ofNat 8 kind := by
  unfold State.addProposal
  dsimp only
  rw [event_scope]
  exact ⟨_, List.mem_append_right _ (List.mem_singleton_self _), rfl, rfl⟩

theorem State.identified_img (s : State) (k : Fin 48) (g : GainRec) (mass : Int) :
    (s.identified k g mass).img.nextProp = s.img.nextProp + 1 ∧
      ∃ p ∈ (s.identified k g mass).img.props, p.id = s.img.nextProp + 1 ∧ p.kind = 0x0F := by
  unfold State.identified
  rw [learnEvent_scope]
  exact ⟨addProposal_nextProp .., State.addProposal_mem ..⟩

/-! The completion, the timeout and the fit (R205, R211, R212). -/

section ends
variable {s : State} {k : Fin 48} {j : Inject} (hj : (s.lanes.get k).injection = some j)
include hj

/-- An injection of its own ends after DURATION computations. -/
theorem State.injectionComplete_ends (hs : j.started = true) (hd : j.dur ≤ j.i) (hi : j.identify = none) :
    s.injectionComplete k = (s.injectionEnded k j 0x02).finish j.e .done 0x02 := by
  unfold State.injectionComplete
  rw [hj]
  dsimp only
  rw [if_pos (by simp [hs, hd]), hi]
  exact State.endInjection_ends hj _ _ _

/-- One that identifies stays on its lane until its fit. -/
theorem State.injectionComplete_waits (hs : j.started = true) (hd : j.dur ≤ j.i) {u : Fin 4} (hi : j.identify = some u) :
    s.injectionComplete k = { s with injStat := ⟨BitVec.ofNat 6 k.val, 0x02, BitVec.ofNat 16 (min j.i 65535)⟩ } := by
  unfold State.injectionComplete
  rw [hj]
  dsimp only
  rw [if_pos (by simp [hs, hd]), hi]

theorem State.injectionWaitTimeout_aborts (hs : j.started = false) (hw : 30000 ≤ j.wait) :
    s.injectionWaitTimeout k = (s.injectionEnded k j 0x22).finish j.e .aborted 0x22 := by
  unfold State.injectionWaitTimeout
  rw [hj]
  dsimp only
  rw [if_pos (by simp [hs, hw])]
  exact State.abortInjection_ends hj 0x22

section fit
variable {m : Model} {u : Fin 4} (hm : s.model = some m) (hu : j.identify = some u) (hs : j.started = true) (hd : j.dur ≤ j.i)
include hm hu hs hd

theorem State.identifyFit_rejects
    (hp : identifyProposal (s.laneRec m k) (isHoist k) j.set0 (s.capus.get u).taken = none) :
    s.identifyFit k = ((s.learnEvent (laneCar k) 5 0 6 0).injectionEnded k j 0x30).finish j.e .failed 0x30 := by
  have hl : ((s.learnEvent (laneCar k) 5 0 6 0).lanes.get k).injection = some j := by rw [learnEvent_scope]; exact hj
  unfold State.identifyFit
  simp only [hm, hj, hu, hp]
  rw [if_neg (by simp [hs, hd])]
  exact State.endInjection_ends hl _ _ _

theorem State.identifyFit_proposes {g : GainRec} {mass : Int}
    (hp : identifyProposal (s.laneRec m k) (isHoist k) j.set0 (s.capus.get u).taken = some (g, mass)) :
    s.identifyFit k = ((s.identified k g mass).injectionEnded k j 0x02).finish j.e .done 0x02 (s.img.nextProp + 1) := by
  have hl : ((s.identified k g mass).lanes.get k).injection = some j := by rw [State.identified_scope]; exact hj
  unfold State.identifyFit
  simp only [hm, hj, hu, hp, addProposal_nextProp]
  rw [if_neg (by simp [hs, hd])]
  exact State.endInjection_ends hl _ _ _

end fit
end ends

/-- Settles O52: the commands through the checks of R205, and each end of an injection. That both the units of the mask and the armed
units on its lane start with an injection is log 39's reading of R203 and R208. -/
theorem injectionsRunAndEnd : Obligations.InjectionsRunAndEnd := by
  refine ⟨fun s n e m k h hm hk hc => ?_, fun s n e m k code op b cmd hcmd h hm hk hc => ?_, fun s n e op cmd hcmd h hno => ⟨_, rfl, ?_⟩,
    fun s n e m k u h hm hk hc hu => ?_, fun s n e k j hk h hj => ?_, fun s n e k hk h hj => ?_, fun s k j hj hs hr => ?_,
    fun s k h => congrArg Host.Outcome.next (State.injectionStart_idle h), fun s k j hj hs hd => ?_, fun s k j hj hs hw => ?_,
    fun s m k j u hm hj hu hs hd => ?_⟩
  case refine_1 =>
    obtain rfl := h.taken
    exact congrArg Host.Outcome.next ((State.injectCmd_starts h).trans (State.startInject_starts (s := s.takeEntry e) (b := false) hm hk hc rfl))
  case refine_2 =>
    obtain rfl := h.taken
    rw [State.exec_startInject hcmd h, State.startInject_refused (s := s.takeEntry e) hm hk hc]
  case refine_3 =>
    obtain rfl := h.taken
    have hcmd' : ∃ b, b = false ∧ op = 0x34 ∧ cmd = .inject e ∨ b = true ∧ op = 0x36 ∧ cmd = .identify e :=
      hcmd.elim (fun h => ⟨false, .inl ⟨rfl, h⟩⟩) fun h => ⟨true, .inr ⟨rfl, h⟩⟩
    obtain ⟨b, hb⟩ := hcmd'
    rw [State.exec_startInject hb h, State.startInject_nowhere (s := s.takeEntry e) hno rfl]
    rfl
  case refine_4 =>
    obtain rfl := h.taken
    exact congrArg Host.Outcome.next ((State.identifyCmd_starts h).trans (State.startInject_starts (s := s.takeEntry e) (b := true) hm hk hc hu))
  case refine_5 =>
    refine (congrArg Host.Outcome.next (State.injectAbort_ends hk h hj)).trans ?_
    obtain rfl := h.taken
    unfold State.injectionEnded
    cases j.identify <;> rfl
  case refine_6 => exact congrArg Host.Outcome.next (State.injectAbort_nothing hk h hj)
  case refine_7 =>
    refine ⟨_, congrArg Host.Outcome.next (State.injectionStart_starts hj hs hr), ?_, ?_, fun u => ?_⟩
    · rw [State.fireWhere_scope, State.fireWhere_scope]
      rfl
    · rw [State.fireWhere_scope, State.fireWhere_scope]
      rfl
    · rw [State.fireWhere_unit, State.fireWhere_unit]
      exact congrArg (fun b => { s.capus.get u with fired := b }) (fired_by_either ..)
  case refine_8 =>
    cases hi : j.identify with
    | none =>
      refine (congrArg Host.Outcome.next (State.injectionComplete_ends hj hs hd hi)).trans ?_
      simp only [State.injectionEnded, hi]
      rfl
    | some u => exact congrArg Host.Outcome.next (State.injectionComplete_waits hj hs hd hi)
  case refine_9 =>
    refine (congrArg Host.Outcome.next (State.injectionWaitTimeout_aborts hj hs hw)).trans ?_
    unfold State.injectionEnded
    cases j.identify <;> rfl
  case refine_10 =>
    cases hp : identifyProposal (s.laneRec m k) (isHoist k) j.set0 (s.capus.get u).taken with
    | none =>
      refine ⟨_, false, rfl, congrArg Host.Outcome.next (State.identifyFit_rejects hj hm hu hs hd hp), ?_,
        State.injectionEnded_injection .., ?_, rfl, fun _ => ?_, nofun⟩
      · rw [learnEvent_scope]
        rfl
      · simp only [State.injectionEnded, hu]
        exact unitFreed_state _ u
      · rw [learnEvent_scope]
        rfl
    | some p =>
      obtain ⟨g, mass⟩ := p
      refine ⟨_, true, rfl, congrArg Host.Outcome.next (State.identifyFit_proposes hj hm hu hs hd hp), ?_,
        State.injectionEnded_injection .., ?_, rfl, nofun, fun _ => State.identified_img s k g mass⟩
      · rw [State.identified_scope]
        rfl
      · simp only [State.injectionEnded, hu]
        exact unitFreed_state _ u

end Sys2Proof.Machine
end

section
/-! The capture units (06 R207 to R214, 18 R582): the write of CAPU_CTRL, the trigger, and the delivery of a block. -/

namespace Sys2Proof.Machine

open State

/-! CAPU_CTRL_WRITE (R214, R582): the shadow, EN and COMMIT in turn. -/

/-- The shadow with the RWC fields of a CAPU_CTRL word. -/
def CapuRwc.ctrl (r : CapuRwc) (v : BitVec 32) : CapuRwc :=
  { r with
    arm := bit v 2
    stream := bit v 3
    rate := Fin.ofNat 4 (bits v 5 4)
    trig := Fin.ofNat 8 (bits v 8 6)
    decim := BitVec.ofNat 8 (bits v 23 16) }

/-- A unit whose EN is written: 0 stops one that no identification has taken. -/
def Capu.writeEn (c : Capu) (en : Bool) : Capu :=
  if en then { c with en := true }
  else if c.state = 6 then { c with en := false }
  else { c with en := false, state := 0, samples := [], fired := false, rwc := { c.rwc with arm := false } }

/-- A unit whose COMMIT is written: shadow `sh` waits for its boundary, or COMMIT_ERR where an identification has the unit. -/
def Capu.writeCommit (c : Capu) (commit : Bool) (sh : CapuRwc) : Capu :=
  if commit then if c.state = 6 then { c with commitErr := true } else { c with commit := some sh } else c

theorem Capu.writeEn_keeps {c : Capu} {en : Bool} (h : en = true ∨ c.state = 6) : c.writeEn en = { c with en := en } := by
  cases en with
  | true => rfl
  | false => exact if_pos (h.resolve_left Bool.false_ne_true)

theorem Capu.writeEn_stops {c : Capu} (h : c.state ≠ 6) :
    c.writeEn false = { c with en := false, state := 0, samples := [], fired := false, rwc := { c.rwc with arm := false } } := if_neg h

/-- Stopping a unit neither takes it for an identification nor frees it from one. -/
theorem Capu.writeEn_taken (c : Capu) (en : Bool) : (c.writeEn en).state = 6 ↔ c.state = 6 := by
  by_cases h : en = true ∨ c.state = 6
  · rw [Capu.writeEn_keeps h]
  · obtain ⟨he, hs⟩ := not_or.mp h
    obtain rfl := Bool.eq_false_of_not_eq_true he
    rw [Capu.writeEn_stops hs]
    simpa using hs

theorem Capu.writeEn_frame (c : Capu) (en : Bool) : c.writeEn en = { c with
    en := en
    state := (c.writeEn en).state
    samples := (c.writeEn en).samples
    fired := (c.writeEn en).fired
    rwc := (c.writeEn en).rwc } := by
  unfold Capu.writeEn
  cases en with
  | true => rfl
  | false =>
    rw [if_neg Bool.false_ne_true]
    split <;> rfl

theorem Capu.writeCommit_eq (c : Capu) (commit : Bool) (sh : CapuRwc) : c.writeCommit commit sh = { c with
    commit := if commit && c.state ≠ 6 then some sh else c.commit
    commitErr := c.commitErr || (commit && c.state == 6) } := by
  unfold Capu.writeCommit
  cases commit with
  | false => simp
  | true => by_cases h : c.state = 6 <;> simp [h]

/-- A unit whose shadow takes a CAPU_CTRL word. -/
def Capu.writeShadow (c : Capu) (v : BitVec 32) : Capu := { c with shadow := c.shadow.ctrl v }

/-- A unit after the write of CAPU_CTRL. -/
def Capu.writeCtrl (c : Capu) (v : BitVec 32) : Capu := ((c.writeShadow v).writeEn (bit v 0)).writeCommit (bit v 1) (c.shadow.ctrl v)

/-- COMMIT is judged by the unit as it was: the write of EN does not touch what COMMIT does. -/
theorem Capu.writeCtrl_eq (c : Capu) (v : BitVec 32) : c.writeCtrl v = { (c.writeShadow v).writeEn (bit v 0) with
    commit := if bit v 1 && c.state ≠ 6 then some (c.shadow.ctrl v) else c.commit
    commitErr := c.commitErr || (bit v 1 && c.state == 6) } := by
  have ht : ((c.writeShadow v).writeEn (bit v 0)).state = 6 ↔ c.state = 6 := Capu.writeEn_taken ..
  have hf := Capu.writeEn_frame (c.writeShadow v) (bit v 0)
  rw [Capu.writeCtrl, Capu.writeCommit_eq, beq_eq_decide, beq_eq_decide]
  simp only [ht, congrArg Capu.commit hf, congrArg Capu.commitErr hf, ne_eq]
  rfl

theorem State.capuCtrlWrite_writes {s : State} (h : s.hostUp = true) (u : Fin 4) (v : BitVec 32) :
    s.capuCtrlWrite u v = s.updCapu u (·.writeCtrl v) := by
  unfold State.capuCtrlWrite
  rw [h]
  rfl

/-! CAPU_TRIGGER (R208). -/

theorem State.capuTrigger_records {s : State} {u : Fin 4} (he : (s.capus.get u).en = true) (hs : (s.capus.get u).state = 2)
    (hf : (s.capus.get u).fired = true) : s.capuTrigger u =
      { s with capus := s.capus.put u { s.capus.get u with state := 3, fired := false, count := 0, trigT0 := s.tick.t0 } } := by
  unfold State.capuTrigger State.updCapu Tab.upd
  dsimp only
  rw [if_pos (by simp [he, hs, hf])]

theorem State.capuTrigger_waits {s : State} {u : Fin 4}
    (h : (s.capus.get u).en = false ∨ (s.capus.get u).state ≠ 2 ∨ (s.capus.get u).fired = false) : s.capuTrigger u = s := by
  unfold State.capuTrigger State.updCapu Tab.upd
  dsimp only
  rw [if_neg (by rcases h with h | h | h <;> simp [h]), Tab.put_get]

/-! CAPU_BLOCK_DELIVER (R208, R209, 14 R480). -/

/-- A unit has a block to give: it delivers, or it streams and holds a full block. -/
def Capu.hasBlock (c : Capu) : Prop :=
  c.state = 4 ∨ c.state = 3 ∧ c.rwc.stream = true ∧ 4064 / recSize c.rwc ≤ c.samples.length

/-- The samples of the next block. -/
def Capu.blockLen (c : Capu) : Nat := min (4064 / recSize c.rwc) c.samples.length

/-- The next block is the last one. -/
def Capu.blockEnds (c : Capu) : Bool := c.state == 4 && (c.samples.drop c.blockLen).isEmpty

/-- The next block of unit `u`. -/
def Capu.block (u : Fin 4) (c : Capu) : List Byte :=
  capBlock u.val c.rwc.rate.val (b2n (c.blockSeq = 0) + 2 * b2n c.blockEnds + 4 * b2n (c.dropped ≠ 0)) c.blockSeq c.trigT0
    c.rwc.sig.toNat (recSize c.rwc) c.blockLen c.dropped (c.samples.take c.blockLen).flatten

/-- The unit after its next block has gone to the ring, or has been dropped. -/
def Capu.afterBlock (c : Capu) (ok : Bool) : Capu :=
  { c with
    samples := c.samples.drop c.blockLen
    blockSeq := c.blockSeq + 1
    dropped := if ok then 0 else c.dropped + 1
    drop := if ok then c.drop else c.drop + 1
    ovr := c.ovr || !ok
    state := if c.blockEnds then 5 else c.state
    rwc := if c.blockEnds then { c.rwc with arm := false } else c.rwc }

theorem Capu.afterBlock_taken (c : Capu) : c.afterBlock true = { c with
    samples := c.samples.drop c.blockLen
    blockSeq := c.blockSeq + 1
    dropped := 0
    state := if c.blockEnds then 5 else c.state
    rwc := { c.rwc with arm := c.rwc.arm && !c.blockEnds } } := by
  cases h : c.blockEnds <;> simp [Capu.afterBlock, h]

theorem Capu.afterBlock_dropped (c : Capu) : c.afterBlock false = { c with
    samples := c.samples.drop c.blockLen
    blockSeq := c.blockSeq + 1
    dropped := c.dropped + 1
    drop := c.drop + 1
    ovr := true
    state := if c.blockEnds then 5 else c.state
    rwc := { c.rwc with arm := c.rwc.arm && !c.blockEnds } } := by
  cases h : c.blockEnds <;> simp [Capu.afterBlock, h]

/-- A block offered to the CAP ring; a derated module drops it without counting it at the ring (17 R573). -/
def State.offerCap (s : State) (b : List Byte) : State × Bool := if s.pwr.derate then (s, false) else s.putCap b

theorem State.offerCap_takes {s : State} (hd : s.pwr.derate = false) (hr : s.ringsRun = true) (hroom : ringRoom (s.hi.rings.get 5) ≠ 0)
    (ht : tagFree s.hi .cap = true) (b : List Byte) : s.offerCap b =
      ({ s with hi := useTag { s.hi with rings := s.hi.rings.put 5 (ringPut (s.hi.rings.get 5) b) } .cap }, true) := by
  unfold State.offerCap State.putCap
  rw [if_neg (by simp [hd]), if_pos (by simp [hr, hroom, ht])]
  rfl

theorem State.offerCap_drops {s : State}
    (h : s.pwr.derate = true ∨ s.ringsRun = false ∨ ringRoom (s.hi.rings.get 5) = 0 ∨ tagFree s.hi .cap = false) (b : List Byte) :
    s.offerCap b = ({ s with hi := { s.hi with capDrop := if s.pwr.derate then s.hi.capDrop else s.hi.capDrop + 1 } }, false) := by
  unfold State.offerCap State.putCap
  cases hd : s.pwr.derate with
  | true => rfl
  | false =>
    have hno : s.ringsRun = false ∨ ringRoom (s.hi.rings.get 5) = 0 ∨ tagFree s.hi .cap = false := h.resolve_left (by simp [hd])
    rw [if_neg Bool.false_ne_true, if_neg (by rcases hno with h | h | h <;> simp [h])]
    rfl

theorem State.offerCap_capus (s : State) (b : List Byte) : (s.offerCap b).1.capus = s.capus := by
  unfold State.offerCap State.putCap
  split
  · rfl
  · split <;> rfl

/-- The model's own test of a block. -/
theorem Capu.hasBlock_iff (c : Capu) : c.hasBlock ↔
    (c.state = 4 || (c.state = 3 && c.rwc.stream && 4064 / recSize c.rwc ≤ c.samples.length)) = true := by
  simp [Capu.hasBlock, and_assoc]

theorem State.updCapu_of_capus {s t : State} (h : t.capus = s.capus) (u : Fin 4) (f : Capu → Capu) :
    t.updCapu u f = { t with capus := s.capus.put u (f (s.capus.get u)) } := by
  rw [State.updCapu, Tab.upd, h]

/-- A unit with a block offers it to the ring and goes on without its samples. -/
theorem State.capuBlockDeliver_offers {s : State} {u : Fin 4} (h : (s.capus.get u).hasBlock) :
    s.capuBlockDeliver u =
      { (s.offerCap ((s.capus.get u).block u)).1 with
        capus := s.capus.put u ((s.capus.get u).afterBlock (s.offerCap ((s.capus.get u).block u)).2) } := by
  have hb := (Capu.hasBlock_iff _).mp h
  unfold State.capuBlockDeliver
  dsimp only
  rw [if_neg (by rw [hb]; decide)]
  exact State.updCapu_of_capus (State.offerCap_capus s ((s.capus.get u).block u)) u _

theorem State.capuBlockDeliver_idle {s : State} {u : Fin 4} (h : ¬ (s.capus.get u).hasBlock) : s.capuBlockDeliver u = s := by
  unfold State.capuBlockDeliver
  exact if_pos (by rw [Bool.not_eq_true', ← Bool.not_eq_true, ← Capu.hasBlock_iff]; exact h)

/-! The fields of a block (14 R480). -/

theorem fld_head {n x : Nat} {r : List Byte} : fld (leBytes n x ++ r) 0 n = x % 256 ^ n := by
  rw [← leNat_leBytes]
  simp [fld, slice]

theorem fld_skip {m x off n : Nat} {r : List Byte} : fld (leBytes m x ++ r) (m + off) n = fld r off n := by
  have h : (leBytes m x ++ r).drop (m + off) = r.drop off := by
    rw [← List.drop_drop, List.drop_left' (leBytes_length m x)]
  rw [fld, fld, slice, slice, h]

theorem pad_length (n : Nat) (bs : List Byte) : (pad n bs).length = n := by
  rw [pad, List.length_take, List.length_append, List.length_replicate]
  omega

section block
variable (source rate flags : Nat) (seq trig : BitVec 32) (sig size count : Nat) (dropped : BitVec 32) (body : List Byte)

theorem capBlock_length : (capBlock source rate flags seq trig sig size count dropped body).length = 4096 := by
  simp only [capBlock, List.length_append, leBytes_length, pad_length]

theorem capBlock_source : fld (capBlock source rate flags seq trig sig size count dropped body) 0 1 = source % 256 := by
  simp only [capBlock, List.append_assoc]
  exact fld_head

theorem capBlock_seq : fld (capBlock source rate flags seq trig sig size count dropped body) 4 4 = seq.toNat := by
  simp only [capBlock, List.append_assoc]
  calc _ = seq.toNat % 256 ^ 4 := (fld_skip (off := 3)).trans <| (fld_skip (off := 2)).trans <| (fld_skip (off := 0)).trans fld_head
    _ = seq.toNat := Nat.mod_eq_of_lt seq.isLt

theorem capBlock_count : fld (capBlock source rate flags seq trig sig size count dropped body) 16 2 = count % 65536 := by
  simp only [capBlock, List.append_assoc]
  exact (fld_skip (off := 15)).trans <| (fld_skip (off := 14)).trans <| (fld_skip (off := 12)).trans <| (fld_skip (off := 8)).trans <|
    (fld_skip (off := 4)).trans <| (fld_skip (off := 2)).trans <| (fld_skip (off := 0)).trans fld_head

end block

/-- Settles O53: the write by its three parts, the trigger, and the block that the ring takes or that is dropped. That nothing is done
before the trigger and without a block is log 2's choice, that COMMIT takes the whole shadow is log 170's reading of R582; a derated
module delivers no block (17 R573). -/
theorem captureUnitsRecordAndDeliver : Obligations.CaptureUnitsRecordAndDeliver := by
  refine ⟨fun s u v c hh hc => ⟨_, c.shadow.ctrl v, rfl, congrArg Host.Outcome.next (State.capuCtrlWrite_writes hh u v), rfl,
      fun w hw => Tab.get_upd_ne _ _ hw.symm, ?_⟩,
    fun s u he hs hf => congrArg Host.Outcome.next (State.capuTrigger_records he hs hf),
    fun s u h => ⟨_, congrArg Host.Outcome.next (State.capuTrigger_waits h), rfl, fun _ => rfl⟩,
    fun s u c hc hb hd hr hroom ht => ?_, fun s u c hc hb hno => ?_, fun s u h4 h3 => ?_⟩
  case refine_1 =>
    subst hc
    have hu : (s.updCapu u (·.writeCtrl v)).capus.get u = (s.capus.get u).writeCtrl v := Tab.get_upd_same ..
    have hf := Capu.writeEn_frame ((s.capus.get u).writeShadow v) (bit v 0)
    rw [hu, Capu.writeCtrl_eq]
    refine ⟨congrArg Capu.shadow hf, congrArg Capu.en hf, fun hk => ?_, fun he hs => ?_, rfl, rfl⟩
    · rw [Capu.writeEn_keeps (c := (s.capus.get u).writeShadow v) hk]
      exact ⟨rfl, rfl, rfl⟩
    · rw [he, Capu.writeEn_stops (c := (s.capus.get u).writeShadow v) hs]
      exact ⟨rfl, rfl, rfl, rfl⟩
  case refine_2 =>
    subst hc
    refine ⟨(s.capus.get u).block u, (s.capus.get u).blockLen, (s.capus.get u).blockEnds, rfl, rfl, capBlock_length .., ?_, capBlock_seq ..,
      capBlock_count .., ?_⟩
    · exact (capBlock_source ..).trans (Nat.mod_eq_of_lt (by omega))
    · refine congrArg Host.Outcome.next ((State.capuBlockDeliver_offers hb).trans ?_)
      rw [State.offerCap_takes hd hr hroom ht, Capu.afterBlock_taken]
  case refine_3 =>
    subst hc
    refine ⟨(s.capus.get u).blockLen, (s.capus.get u).blockEnds, rfl, rfl, ?_⟩
    refine congrArg Host.Outcome.next ((State.capuBlockDeliver_offers hb).trans ?_)
    rw [State.offerCap_drops hno, Capu.afterBlock_dropped]
  case refine_4 =>
    have hb : ¬ (s.capus.get u).hasBlock := by
      rintro (h | ⟨hs, hst, hl⟩)
      · exact h4 h
      · rcases h3 with h | h | h
        · exact h hs
        · simp [h] at hst
        · omega
    exact congrArg Host.Outcome.next (State.capuBlockDeliver_idle hb)

end Sys2Proof.Machine
end

section
/-! The timers of a door side (07 R230, R244, R248, R253, R316): what a change of a side's state leaves, then each command when it is
due. -/

namespace Sys2Proof.Machine

open State

section side
variable (s : State) (m : Model) (d : Fin 32)

theorem State.updSide_updSide (f g : Side → Side) : (s.updSide d f).updSide d g = s.updSide d (g ∘ f) := by
  simp [updSide, Tab.upd]

theorem State.updSide_get (f : Side → Side) : (s.updSide d f).sides.get d = f (s.sides.get d) := Tab.get_upd_same ..

theorem State.updSide_others {e : Fin 32} (f : Side → Side) (h : e ≠ d) : (s.updSide d f).sides.get e = s.sides.get e :=
  Tab.get_upd_ne _ _ h.symm

/-- A side in a state that is neither FAULT nor NUDGING: no event, no buzzer, and in UNREF no reference (R228). -/
def Side.entered (n : DoorState) (x : Side) : Side := { x with state := n, buzzer := false, ref := n ≠ .unref && x.ref }

theorem State.setSide_enters {n : DoorState} (hf : n ≠ .fault) (hn : n ≠ .nudging) : s.setSide m d n = s.updSide d (.entered n) := by
  have hb : (n == .nudging) = false := by simpa using hn
  simp only [setSide, hf, hb, decide_false, Bool.false_and, Bool.false_eq_true, if_false]
  rfl

theorem State.doorEvent_scope (kind : Nat) (v : Int) :
    s.doorEvent d kind v = { s with hi := (s.doorEvent d kind v).hi, freeCtr := s.freeCtr + 1 } := by
  unfold doorEvent
  rw [event4_scope]

/-- Entry to FAULT may be an event; the side has no buzzer. -/
theorem State.setSide_fault_scope : s.setSide m d .fault = { s with
    sides := s.sides.upd d (.entered .fault)
    hi := (s.setSide m d .fault).hi
    freeCtr := (s.setSide m d .fault).freeCtr } := by
  unfold setSide
  dsimp only
  split
  · rw [doorEvent_scope]
    rfl
  · rfl

/-- An event reads no side. -/
theorem State.event_updSide (f : Side → Side) (ty car : Nat) (data : List Byte) :
    (s.updSide d f).event ty car data = (s.event ty car data).updSide d f := by
  have hhi : ((s.updSide d f).event ty car data).hi = (s.event ty car data).hi := by
    simp only [event, putEvent, drainEvt, apply_ite State.hi]
    rfl
  rw [event_scope, hhi, s.event_scope]
  rfl

/-- A DOOR event reads its side's landing and no other part of a side (14 R473). -/
theorem State.doorEvent_updSide {f : Side → Side} (hf : ∀ x, (f x).landing = x.landing) (kind : Nat) (v : Int) :
    (s.updSide d f).doorEvent d kind v = (s.doorEvent d kind v).updSide d f := by
  unfold doorEvent event4
  rw [updSide_get, hf]
  exact s.event_updSide ..

theorem State.doorRun_run (x : Int) (k : RunKind) :
    ((s.doorRun d x k).axes.get (doorAxis d)).req.run = some ⟨x, k, none, none, none⟩ := by
  simp [doorRun]

theorem State.doorRun_others (x : Int) (k : RunKind) {a : Fin 48} (h : a ≠ doorAxis d) :
    (s.doorRun d x k).axes.get a = s.axes.get a :=
  Tab.get_upd_ne _ _ h.symm

/-! DOOR_REOPEN (R230). -/

/-- A side whose opening run begins at a landing. -/
def Side.opening (l : Nat) (x : Side) : Side := { x with landing := some l, closeAge := 0, openRun := 0, openT1 := 0 }

theorem State.openSide_opens (k : RunKind) : s.openSide m d k =
    (s.updSide d (Side.entered .opening ∘ Side.opening (s.cars.get (sideCar d)).landing)).doorRun d (m.doors.get d).openPos k := by
  unfold openSide
  refine (setSide_enters (n := .opening) _ _ _ nofun nofun).trans ?_
  exact congrArg (fun t : State => t.doorRun d (m.doors.get d).openPos k) (updSide_updSide ..)

/-! LOCK_TIMEOUT (R244). -/

/-- A lock failure counted on its side, the third at a stop marked. -/
def Side.lockFailed (x : Side) : Side :=
  { x with lockFail := x.lockFail + 1, lockFails := x.lockFails + 1, lockRev := 3 ≤ x.lockFails + 1 }

/-- A side whose reversal has a cause that is neither an obstruction nor a demand. -/
def Side.reversed (cause : Nat) (x : Side) : Side :=
  { x with lastCause := cause, reversals := x.reversals + 1, stopRev := satInc x.stopRev 255, forceRun := 0, cleanRun := false,
           reqRev := none }

theorem State.reverseSide_reverses {cause : Nat} (hc : 6 < cause) (hn : (s.sides.get d).state ≠ .nudging) : s.reverseSide m d cause =
    (s.updSide d (Side.entered .reversing ∘ Side.reversed cause)).doorRun d (m.doors.get d).openPos .normal := by
  have h5 : ¬ cause ≤ 5 := by omega
  have h6 : cause ≠ 6 := by omega
  unfold reverseSide
  simp only [h5, h6, hn, decide_false, Bool.false_and, Bool.false_eq_true, if_false]
  refine (setSide_enters (n := .reversing) _ _ _ nofun nofun).trans ?_
  exact congrArg (fun t : State => t.doorRun d (m.doors.get d).openPos .normal) (updSide_updSide ..)

/-! HOMING_CLOSE_FAILURE (R248). -/

theorem State.doorHaltReq_scope : s.doorHaltReq d = { s with
    axes := s.axes.upd (doorAxis d) fun a => { a with req := { a.req with istop := true } }
    lanes := (s.doorHaltReq d).lanes
    capus := (s.doorHaltReq d).capus
    injStat := (s.doorHaltReq d).injStat
    hi := (s.doorHaltReq d).hi } := by
  unfold doorHaltReq
  rw [abortInjection_scope]
  rfl

theorem State.doorFinding_scope : s.doorFinding d = { s with
    fc := (s.doorFinding d).fc
    hi := (s.doorFinding d).hi
    cvs := (s.doorFinding d).cvs
    pwr := (s.doorFinding d).pwr } := by
  unfold doorFinding
  rw [finding_scope]

/-- A homing failure counted on its side, whose demand to open ends. -/
def Side.homeFailed (x : Side) : Side := { x with homeFails := x.homeFails + 1, openDem := false }

/-- A side that a homing failure stops: its first leaves it in UNREF. -/
def State.homingStopped : State := ((s.updSide d .homeFailed).doorHaltReq d).updSide d (.entered .unref)

theorem State.homingStopped_scope : s.homingStopped d = { s with
    sides := s.sides.upd d (Side.entered .unref ∘ Side.homeFailed)
    axes := s.axes.upd (doorAxis d) fun a => { a with req := { a.req with istop := true } }
    lanes := (s.homingStopped d).lanes
    capus := (s.homingStopped d).capus
    injStat := (s.homingStopped d).injStat
    hi := (s.homingStopped d).hi } := by
  unfold homingStopped
  rw [doorHaltReq_scope]
  simp [updSide, Tab.upd]

end side

section due
variable {s : State} {m : Model} {d : Fin 32} (hm : s.model = some m)
include hm

theorem State.doorReopen_opens (hs : (s.sides.get d).state = .stopped) (ho : (s.sides.get d).opObst = 1)
    (ht : 500 ≤ (s.t1Now - (s.sides.get d).stopT1).toNat) : s.doorReopen d = s.openSide m d .ref := by
  unfold doorReopen
  rw [hm]
  exact if_pos (by simp only [hs, ho, ht, decide_true, Bool.and_self])

theorem State.lockTimeout_reverses (hs : (s.sides.get d).state = .locking) (ha : 1000 ≤ (s.sides.get d).lockAge)
    (hl : s.lockMade d = false) : s.lockTimeout d =
      ((s.doorEvent d 3 ((s.sides.get d).lockFails + 1)).updSide d
        (Side.entered .reversing ∘ Side.reversed 7 ∘ Side.lockFailed)).doorRun d (m.doors.get d).openPos .normal := by
  have hside : ((s.doorEvent d 3 ((s.sides.get d).lockFails + 1)).sides.get d).state = .locking := by
    rw [doorEvent_scope]
    exact hs
  unfold lockTimeout
  rw [hm]
  refine (if_pos (by simp [hs, ha, hl])).trans ?_
  have hfail := doorEvent_updSide s d (f := Side.lockFailed) (fun _ => rfl) 3 ((s.sides.get d).lockFails + 1)
  refine (congrArg (fun t : State => t.reverseSide m d 7) hfail).trans ((reverseSide_reverses _ _ _ (by decide) ?_).trans ?_)
  · rw [updSide_get, Side.lockFailed, hside]
    nofun
  · rw [updSide_updSide]
    rfl

section homing
variable (hs : (s.sides.get d).state = .homing) (hp : 500 ≤ (s.sides.get d).planEnd) (hc : (s.sides.get d).contact = false)
include hs hp hc

theorem State.homingCloseFailure_stops (hf : (s.sides.get d).homeFails = 0) : s.homingCloseFailure d = s.homingStopped d := by
  unfold homingCloseFailure
  rw [hm]
  refine (if_pos (by simp [hs, hp, hc])).trans ((if_neg (by omega)).trans ?_)
  exact setSide_enters (n := .unref) _ _ _ nofun nofun

theorem State.homingCloseFailure_faults (hf : (s.sides.get d).homeFails ≠ 0) :
    s.homingCloseFailure d = ((s.homingStopped d).setSide m d .fault).doorFinding d := by
  unfold homingCloseFailure
  rw [hm]
  refine (if_pos (by simp [hs, hp, hc])).trans ((if_pos (by omega)).trans ?_)
  exact congrArg (fun t : State => (t.setSide m d .fault).doorFinding d) (setSide_enters (n := .unref) _ _ _ nofun nofun)

/-- What every failure does to its side and its axis. -/
theorem State.homingCloseFailure_side : (s.homingCloseFailure d).sides = s.sides.upd d (fun x =>
      Side.entered (if x.homeFails = 0 then .unref else .fault) { x.homeFailed with ref := false }) ∧
    (s.homingCloseFailure d).axes = s.axes.upd (doorAxis d) fun a => { a with req := { a.req with istop := true } } := by
  by_cases hf : (s.sides.get d).homeFails = 0
  · rw [homingCloseFailure_stops hm hs hp hc hf, homingStopped_scope]
    simp [Tab.upd, hf, Side.entered]
  · rw [homingCloseFailure_faults hm hs hp hc hf, doorFinding_scope, setSide_fault_scope, homingStopped_scope]
    simp [Tab.upd, hf, Side.entered]

end homing
end due

/-! DWELL_EXPIRY (09 R316). -/

theorem carSides_nodup (m : Model) (c : Fin 16) : (carSides m c).Nodup := by
  unfold carSides
  split <;> simp [front_ne_rear]

/-- An OPEN side whose dwell has run out is asked to close. -/
def Side.dwellEnded (x : Side) : Side := if x.state = .open_ ∧ x.dwell = some 0 then { x with closeDem := true } else x

theorem State.dwellExpiry_asks {s : State} {m : Model} {c : Fin 16} (ha : s.mod = .active) (hm : s.model = some m) :
    s.dwellExpiry c = s.each (carSides m c) fun s d => s.updSide d .dwellEnded := by
  unfold dwellExpiry
  rw [if_neg (not_not_intro ha), hm]
  refine congrArg (s.each (carSides m c)) (funext₂ fun t d => ?_)
  by_cases h : (t.sides.get d).state = .open_ ∧ (t.sides.get d).dwell = some 0
  · simp [updSide, Tab.upd, Side.dwellEnded, h]
  · simp [updSide, Tab.upd, Side.dwellEnded, h]

/-! DOOR_LEARN_DONE (R253). -/

/-- The landings that a car's sides learn, each with its side. -/
def State.learning (s : State) (c : Fin 16) : List (Fin 32 × DoorLearn) :=
  [front c, rear c].flatMap fun d => (s.sides.get d).learn.map fun l => (d, l)

theorem State.learning_snd (s : State) (c : Fin 16) :
    (s.learning c).map (·.2) = (s.sides.get (front c)).learn ++ (s.sides.get (rear c)).learn := by
  simp [learning, Function.comp_def]

/-- No door of a car learns. -/
def State.forgetLearning (s : State) (c : Fin 16) : State := { s with
  learn := s.learn.put c none
  sides := (s.sides.upd (front c) fun x => { x with learn := [] }).upd (rear c) fun x => { x with learn := [] } }

/-- Every landing and side done: the maps and the times are proposed, the learning ends, and the command is DONE with the maps' PROP_ID. -/
theorem State.doorLearnDone_proposes {s : State} {m : Model} {c : Fin 16} {cmd : DoorLearnCmd} (hm : s.model = some m)
    (hl : s.learn.get c = some cmd) (hne : (s.sides.get (front c)).learn ++ (s.sides.get (rear c)).learn ≠ [])
    (hall : ((s.sides.get (front c)).learn ++ (s.sides.get (rear c)).learn).all (·.done) = true) :
    ∃ side n maps k times t, t = (s.addProposal 0x0B c.val side n maps).addProposal 0x0C c.val side k times ∧ s.doorLearnDone c =
      ((t.forgetLearning c).learnEvent c 3 0 0 0).finish cmd.e .done 0 (s.addProposal 0x0B c.val side n maps).img.nextProp := by
  rw [← learning_snd] at hne hall
  have hnone : ¬ ((s.learning c).isEmpty || (s.learning c).any (!·.2.done)) = true := by
    have hdone : (s.learning c).any (!·.2.done) = false := by simpa using hall
    simpa [hdone] using hne
  unfold doorLearnDone
  rw [hm, hl]
  exact ⟨_, _, _, _, _, _, rfl, (if_neg hnone).trans rfl⟩

theorem State.addProposal_twice_scope {s t : State} {kind car side n kind' car' side' n' : Nat} {p p' : List Byte}
    (h : t = (s.addProposal kind car side n p).addProposal kind' car' side' n' p') :
    t = { s with img := t.img, cvs := t.cvs, hi := t.hi, freeCtr := s.freeCtr + 1 + 1 } ∧ t.img.nextProp = s.img.nextProp + 2 := by
  subst h
  refine ⟨(addProposal_scope ..).trans ?_, ?_⟩
  · rw [s.addProposal_scope]
  · rw [addProposal_nextProp, addProposal_nextProp, BitVec.add_assoc]
    rfl

/-- Settles O34: each command when it is due, then the side's and its axis's entries one by one. A lock failure's finding waits for the
end of its reversal (log 83). -/
theorem doorTimersActOnTheirSide : Obligations.DoorTimersActOnTheirSide := by
  refine ⟨fun s m d hm hs ho ht => ?_,
    fun s m d hm hs ha hl => ⟨_, congrArg Host.Outcome.next (State.lockTimeout_reverses hm hs ha hl), ?_⟩,
    fun s m d hm hs hp hc => ⟨_, rfl, fun hf => ?_, ?_⟩,
    fun s m c ha hm => ⟨_, congrArg Host.Outcome.next (State.dwellExpiry_asks ha hm), ?_, fun d => ?_⟩,
    fun s m c cmd hm hl hne hall => ?_⟩
  case refine_1 =>
    refine congrArg Host.Outcome.next ((State.doorReopen_opens hm hs ho ht).trans ?_)
    rw [State.openSide_opens]
    rfl
  case refine_2 =>
    rw [State.doorEvent_scope]
    have hx := State.updSide_get s d (Side.entered .reversing ∘ Side.reversed 7 ∘ Side.lockFailed)
    exact ⟨rfl, congrArg Side.state hx, congrArg Side.lastCause hx, congrArg Side.reversals hx, congrArg Side.lockFails hx,
      congrArg Side.lockRev hx, fun _ => State.updSide_others s d _, fun _ => State.doorRun_others _ d _ _,
      State.doorRun_run ..⟩
  case refine_3 =>
    rw [State.homingCloseFailure_stops hm hs hp hc hf, State.homingStopped_scope]
  case refine_4 =>
    obtain ⟨htick, -, hpending, hmodel⟩ := State.homingCloseFailure_keeps s d
    obtain ⟨hsides, haxes⟩ := State.homingCloseFailure_side hm hs hp hc
    rw [hsides, haxes, Tab.get_upd_same, Tab.get_upd_same]
    exact ⟨rfl, Bool.and_false _, rfl, rfl, htick, hmodel, hpending, fun _ he => Tab.get_upd_ne _ _ he.symm,
      fun _ hk => Tab.get_upd_ne _ _ hk.symm, rfl⟩
  case refine_5 => rw [State.each_updSide]
  case refine_6 =>
    rw [State.each_updSide_get _ _ _ (carSides_nodup m c)]
    by_cases hd : d ∈ carSides m c
    · simp [hd, Side.dwellEnded]
    · simp [hd]
  case refine_7 =>
    obtain ⟨side, n, maps, k, times, t, ht, he⟩ := State.doorLearnDone_proposes hm hl hne hall
    obtain ⟨hs, hp⟩ := State.addProposal_twice_scope ht
    refine ⟨_, congrArg Host.Outcome.next he, ?_⟩
    rw [finish_scope, learnEvent_scope, forgetLearning, hs]
    refine ⟨rfl, hp, ?_, ?_, fun d hf hr => ?_⟩
    · simp [(front_ne_rear c).symm]
    · simp
    · simp [hf.symm, hr.symm]

end Sys2Proof.Machine
end

section
/-! The host's commands on runs and doors (14 R468, R469, 07 R230): each through the checks of R467. -/

namespace Sys2Proof.Machine

open State

section takeEntry
variable (s : State) (e : CmdEntry) (m : Model)
@[simp] theorem State.takeEntry_sides : (s.takeEntry e).sides = s.sides := rfl
@[simp] theorem State.takeEntry_carStill (c : Fin 16) : (s.takeEntry e).carStill m c = s.carStill m c := rfl
@[simp] theorem State.takeEntry_doorsClosed (c : Fin 16) : (s.takeEntry e).doorsClosed m c = s.doorsClosed m c := rfl
@[simp] theorem State.takeEntry_hoistAtRest (c : Fin 16) : (s.takeEntry e).hoistAtRest c = s.hoistAtRest c := rfl
@[simp] theorem State.takeEntry_openPlace (d : Fin 32) : (s.takeEntry e).openPlace m d = s.openPlace m d := rfl
@[simp] theorem State.takeEntry_openValid (d : Fin 32) : (s.takeEntry e).openValid m d = s.openValid m d := rfl
@[simp] theorem State.takeEntry_donConn? (d : Fin 32) : (s.takeEntry e).donConn? m d = s.donConn? m d := rfl
end takeEntry

/-! RUN (R468). -/

/-- The run of a RUN command: to the landing's level, from the landing in whose zone the car stands. -/
def State.commandedRun (s : State) (m : Model) (c : Fin 16) (l : Nat) : NewRun :=
  let from_ := s.zoneLanding m c
  { target := m.level l, kind := .normal, from_ := if from_ = 0xFF then none else some from_, dest := some l, cap := none }

theorem State.runCmd_hands {s n : State} {e : CmdEntry} {m : Model} {c : Fin 16} (h : s.StartsFor n 0x23 e true m c)
    (hl : e.arg0.toNat ∈ m.servedLandings c) (hmode : (s.modes.get c).mode = 11) (hs : s.carStill m c = true)
    (hd : s.doorsClosed m c = true) (hh : 2 ≤ Health.rank (s.cars.get c).health) (hr : (s.modes.get c).runCmd = none)
    (hi : s.hoistIdle c = true) (hk : (s.cars.get c).spec.kind = .none) (hp : (s.lv.get c).bt.phase = 0) :
    s.runCmd e = (((n.handRun c (n.commandedRun m c e.arg0.toNat)).updAxis (hoist c) fun a => { a with landed := false }).updMode c
      fun md => { md with runCmd := some e }).startRunning e := by
  obtain rfl := h.starts.taken
  refine carCommand_act h ?_
  have hlow : ¬ Health.rank (s.cars.get c).health < 2 := by omega
  simp [firstBad, hl, hmode, hs, hd, hlow, hr, hi, hk, hp]

/-! DOOR (R468, R469). -/

section door
variable {s n : State} {e : CmdEntry} {m : Model} {c : Fin 16}
  (h : s.StartsFor n 0x24 e (1 ≤ e.arg0.toNat && e.arg0.toNat ≤ 3 && e.arg1.toNat ≤ 1) m c)
include h

theorem State.doorCmd_joins (hs : ∀ d ∈ maskSides c e.arg0, m.sideFitted c (sideNo d) = true ∧ (s.sides.get d).state ≠ .fault ∧
      (s.sides.get d).state ≠ .stopped ∧ (e.arg1 = 0 → s.openPlace m d = true ∧ s.openValid m d = true))
    (hmode : doorMode (s.modes.get c) = true) (hr : s.hoistAtRest c = true) (hd : (s.modes.get c).doorCmd = []) :
    s.doorCmd e = (n.updMode c fun md => { md with doorCmd := md.doorCmd ++ [(e, e.arg1.toNat)] }).startRunning e := by
  obtain rfl := h.starts.taken
  refine carCommand_act h ?_
  simp only [forall_and] at hs
  obtain ⟨hfit, hfault, hstop, hplace, hvalid⟩ := hs
  have hunfit : ((maskSides c e.arg0).any fun d => !m.sideFitted c (sideNo d)) = false := by simpa using hfit
  have hstuck : ((maskSides c e.arg0).any fun d => (s.sides.get d).state == .fault || (s.sides.get d).state == .stopped) = false := by
    simpa using fun d hd => ⟨hfault d hd, hstop d hd⟩
  have hout : (e.arg1 == 0 && (maskSides c e.arg0).any (!s.openPlace m ·)) = false := by
    simpa using fun h0 d hd => hplace d hd h0
  have hinvalid : (e.arg1 == 0 && (maskSides c e.arg0).any (!s.openValid m ·)) = false := by
    simpa using fun h0 d hd => hvalid d hd h0
  simp only [firstBad, takeEntry_sides, takeEntry_modes, takeEntry_hoistAtRest, takeEntry_openPlace, takeEntry_openValid, hunfit, hstuck,
    hout, hinvalid, hmode, hr, hd]
  simp

/-- The place is judged before the mode (R469). -/
theorem State.doorCmd_outside (hfit : ∀ d ∈ maskSides c e.arg0, m.sideFitted c (sideNo d) = true) (h0 : e.arg1 = 0)
    {d : Fin 32} (hd : d ∈ maskSides c e.arg0) (hp : s.openPlace m d = false) :
    s.doorCmd e = n.answer e .refused 0x86 := by
  obtain rfl := h.starts.taken
  refine carCommand_refused h ?_
  have hunfit : ((maskSides c e.arg0).any fun d => !m.sideFitted c (sideNo d)) = false := by simpa using hfit
  have hout : (maskSides c e.arg0).any (!s.openPlace m ·) = true := List.any_eq_true.mpr ⟨d, hd, by rw [hp]; rfl⟩
  simp only [firstBad, takeEntry_openPlace, hunfit, hout, h0]
  simp

end door

/-! DOOR_RESET (07 R230). -/

theorem State.doorReset_unrefs {s n : State} {e : CmdEntry} {m : Model} {c : Fin 16} {d : Fin 32} {i : Nat} {k : Conn}
    (h : s.StartsFor n 0x25 e (e.arg0.toNat ≤ 1) m c) (hd : d = if e.arg0 = 0 then front c else rear c)
    (hfit : m.sideFitted c (sideNo d) = true) (hs : (s.sides.get d).state = .fault) (hc : s.donConn? m d = some (i, k))
    (hu : connUp k = true) (hready : (s.sides.get d).nStatus.getLsbD 0 = true) (hfault : (s.sides.get d).nStatus.getLsbD 1 = false) :
    s.doorReset e = (n.setSide m d .unref).answer e .done 0 := by
  subst hd
  obtain rfl := h.starts.taken
  refine carCommand_act h ?_
  simp only [firstBad, takeEntry_sides, takeEntry_donConn?, hfit, hs, hc, hready, hfault, Option.any_some, hu]
  simp

/-- Settles O50: the effect of each command where its checks pass, and POSITION before the mode is judged. DOOR joins its car's demands
and ends with the door's move (log 111). -/
theorem runsAndDoorsAreCommanded : Obligations.RunsAndDoorsAreCommanded := by
  refine ⟨fun s n e m c h hl hmode hs hd hh hr hi hk hp =>
      ⟨_, congrArg Host.Outcome.next (State.runCmd_hands h hl hmode hs hd hh hr hi hk hp), ?_⟩,
    fun s n e m c h hs hmode hr hd => congrArg Host.Outcome.next ((State.doorCmd_joins h hs hmode hr hd).trans ?_),
    fun s n e m c d h h0 hfit hd hp => congrArg Host.Outcome.next (State.doorCmd_outside h hfit h0 hd hp),
    fun s n e m c d i k h hd hfit hs hc hu hready hfault =>
      congrArg Host.Outcome.next ((State.doorReset_unrefs h hd hfit hs hc hu hready hfault).trans ?_)⟩
  · obtain rfl := h.starts.taken
    refine ⟨rfl, rfl, rfl, fun a ha => ?_, (s.takeEntry e).commandedRun m c e.arg0.toNat, ?_, rfl, rfl, rfl⟩
    · exact (Tab.get_upd_ne _ _ ha.symm).trans (State.handRun_others _ c _ ha)
    · exact (congrArg (fun a : Axis => a.req.run) (Tab.get_upd_same ..)).trans (State.handRun_run ..)
  · obtain rfl := h.starts.taken
    simp [updMode, Tab.upd, startRunning, hd]
  · obtain rfl := h.starts.taken
    rw [State.setSide_enters (n := .unref) _ _ _ nofun nofun]
    rfl

end Sys2Proof.Machine
end

section
/-! A hall or destination call that is asked for (08 R258 to R263): the call that it opens, the pending calls that it joins, and what
becomes of it. -/

namespace Sys2Proof.Machine

open State

/-- The kind that a KIND code from 1 to 3 asks for (R260). -/
def Asked.callKind (q : Asked) : CallKind := if q.kind = 1 then .up else if q.kind = 2 then .down else .dest

/-- The OPEN call that an accepted request becomes in a slot. -/
def Asked.opened (q : Asked) (m : Model) (slot : Nat) (t0 : BitVec 32) : Call :=
  { slot := slot, kind := q.callKind, access := q.access, origin := q.origin, side := resolveSide m q.side q.origin, dest := q.dest,
    pax := q.pax, allow := q.allow, ref := q.ref, source := q.source, regT0 := t0, state := .open_, car := none, again := false,
    announce := 0, reopen := none, more := [] }

@[simp] theorem Asked.opened_slot (q : Asked) (m : Model) (slot : Nat) (t0 : BitVec 32) : (q.opened m slot t0).slot = slot := rfl

/-- A call enters the books with its event (R258, R298). -/
def State.openCall (s : State) (x : Call) : State := (s.updDsx fun d => { d with calls := d.calls ++ [x] }).callNote x 0 0

/-- A pending call that the request merges into: a hall call of its kind at its landing side (R262). -/
def Asked.joins (q : Asked) (m : Model) (x : Call) : Bool :=
  q.callKind ≠ .dest && x.kind = q.callKind && x.origin = q.origin && x.side = resolveSide m q.side q.origin

theorem resolveSide_given (m : Model) {side : Nat} (h : side ≠ 0xFF) (origin : Nat) : resolveSide m side origin = side := if_pos h

theorem CallKind.code_eq_iff {k : CallKind} {q : Asked} (h : q.kind = 1 ∨ q.kind = 2) : k = q.callKind ↔ k.code = q.kind := by
  rcases h with h | h <;> cases k <;> simp [Asked.callKind, CallKind.code, h]

theorem Asked.callKind_hall {q : Asked} (h : q.kind = 1 ∨ q.kind = 2) : q.callKind ≠ .dest := by
  rcases h with h | h <;> simp [Asked.callKind, h]

/-- A request of a hall call for a side by its number joins the calls of its kind, landing and side. -/
theorem Asked.joins_iff {q : Asked} (m : Model) {x : Call} (hk : q.kind = 1 ∨ q.kind = 2) (hs : q.side ≠ 0xFF) :
    q.joins m x = true ↔ x.kind.code = q.kind ∧ x.origin = q.origin ∧ x.side = q.side := by
  simp only [Asked.joins, resolveSide_given m hs, Bool.and_eq_true, decide_eq_true_iff, CallKind.code_eq_iff hk, Asked.callKind_hall hk,
    not_false_eq_true, ne_eq, true_and, and_assoc]

/-- It joins no destination call and no call of another kind, landing or side. -/
theorem Asked.joins_other {q : Asked} (m : Model) {x : Call} (hk : q.kind = 1 ∨ q.kind = 2) (hs : q.side ≠ 0xFF)
    (hx : x.kind = .dest ∨ x.kind.code ≠ q.kind ∨ x.origin ≠ q.origin ∨ x.side ≠ q.side) : q.joins m x = false := by
  refine Bool.eq_false_iff.mpr fun hj => ?_
  obtain ⟨hcode, horigin, hside⟩ := (Asked.joins_iff m hk hs).mp hj
  rcases hx with hd | hn | hn | hn
  · exact Asked.callKind_hall hk (((CallKind.code_eq_iff hk).mpr hcode).symm.trans hd)
  · exact hn hcode
  · exact hn horigin
  · exact hn hside

/-- A destination call merges into none. -/
theorem Asked.joins_dest {q : Asked} (m : Model) (x : Call) (hk : q.kind = 3) : q.joins m x = false := by
  simp [Asked.joins, Asked.callKind, hk]

section register
variable {s : State} {m : Model} {q : Asked}

theorem State.registerCall_refuses {code : Nat} (h : callCode m q = some code) :
    s.registerCall m q = (s.refuseCall q code, .inl code) := by
  simp only [registerCall, h]

theorem State.registerCall_merges {x : Call} (h : callCode m q = none) (hx : s.dsx.calls.find? (q.joins m) = some x) :
    s.registerCall m q = (s.updCall x.slot fun y => { y with more := addRef y.ref y.more q.ref }, .inr x.slot) := by
  simp only [registerCall, h]
  split
  next y hy =>
    cases hy.symm.trans hx
    rfl
  next hy => cases hy.symm.trans hx

/-- A request that joins no call takes the lowest free slot. -/
theorem State.registerCall_opens (h : callCode m q = none) (hx : ∀ x ∈ s.dsx.calls, q.joins m x = false) (hf : s.freeSlot < 512) :
    s.registerCall m q =
      (if q.callKind = .dest then s.openCall (q.opened m s.freeSlot s.tick.t0)
        else (s.openCall (q.opened m s.freeSlot s.tick.t0)).serveAtOnce m (q.opened m s.freeSlot s.tick.t0), .inr s.freeSlot) := by
  have hnone : s.dsx.calls.find? (q.joins m) = none := List.find?_eq_none.mpr fun x hm => Bool.eq_false_iff.mp (hx x hm)
  simp only [registerCall, h]
  split
  next y hy => cases hy.symm.trans hnone
  next => exact if_neg (Nat.not_le.mpr hf)

theorem State.updCall_id (s : State) (slot : Nat) {f : Call → Call} (h : ∀ x, f x = x) : s.updCall slot f = s := by
  obtain rfl : f = id := funext h
  simp [updCall, updDsx]

/-- A request without a HOST_REF leaves nothing with the call it merges into. -/
theorem State.registerCall_merges_silently (h : callCode m q = none) (hr : q.ref = 0) {x : Call} (hx : x ∈ s.dsx.calls)
    (hj : q.joins m x = true) : (s.registerCall m q).1 = s := by
  obtain ⟨y, hy⟩ := Option.isSome_iff_exists.mp (List.find?_isSome.mpr ⟨x, hx, hj⟩)
  rw [registerCall_merges h hy]
  exact s.updCall_id y.slot fun z => by simp [addRef, hr]

end register

end Sys2Proof.Machine
end

section
/-! The frames HALL_CALL, DEST_CALL and CAR_CALL (08 R294, R296, R297): through the checks to the request that each makes. -/

namespace Sys2Proof.Machine

open State

/-- A frame that is heard changes its channel alone (13 R436). -/
theorem State.hear_eq {s t : State} {fr : Frame} (h : s.hear fr = some t) : ∃ b, t = { s with buses := b } := by
  unfold hear at h
  dsimp only at h
  split at h
  · cases h
  · split at h <;> exact ⟨_, (Option.some.inj h).symm⟩

/-- A fixture frame that reaches its node is taken by what its receiver does with it. -/
theorem State.ReachesFixture.onFixture {s t : State} {fr : Frame} {fn : Nat} {m : Model} {i : Nat} {r : NodeRec} {c : Conn}
    (h : s.ReachesFixture t fr fn m i r c) (f : State → Model → Nat → NodeRec → Conn → State) : s.onFixture fr fn f = f t m i r c := by
  obtain ⟨hheard, hm, hroom, hbus, ⟨hext, hfd, htop⟩, hfn, hname, hnode, hconn⟩ := h
  simp only [State.onFixture, hheard, hm, hroom, hname, hnode, hconn]
  simp [hext, hfd, htop, hfn, Nat.not_lt.mpr hbus, -Nat.reducePow]

/-- What a HALL_CALL of a fixture asks for (R294). -/
def Asked.ofHall (i : Nat) (r : NodeRec) (b : List Byte) : Asked :=
  { kind := (byteAt b 1).toNat, access := bitAt b 2 0, origin := r.addr.toNat / 128 % 128, side := b2n (bitAt b 2 1), dest := 0xFF,
    pax := 0, allow := 0, ref := 0, source := .lfn i (BitVec.ofNat 16 (fld b 4 2)) }

theorem Asked.ofHall_kind (i : Nat) (r : NodeRec) {b : List Byte} (h : byteAt b 1 = 1 ∨ byteAt b 1 = 2) :
    (Asked.ofHall i r b).kind = 1 ∨ (Asked.ofHall i r b).kind = 2 :=
  h.imp (congrArg BitVec.toNat) (congrArg BitVec.toNat)

/-- What a DEST_CALL of a fixture asks for (R294). -/
def Asked.ofDest (i : Nat) (r : NodeRec) (b : List Byte) : Asked :=
  { kind := 3, access := bitAt b 2 0, origin := r.addr.toNat / 128 % 128, side := b2n (bitAt b 2 1), dest := (byteAt b 1).toNat,
    pax := (byteAt b 3).toNat, allow := 0, ref := 0, source := .lfn i (BitVec.ofNat 16 (fld b 4 2)) }

/-- A flag bit is no SIDE of 0xFF. -/
theorem b2n_ne_anySide (b : Bool) : b2n b ≠ 0xFF := by cases b <;> decide

section fixture
variable {s t : State} {fr : Frame} {m : Model} {i : Nat} {r : NodeRec} {c a : Conn}

theorem State.hallCall_rejects {e : Rej} (h : s.ReachesFixture t fr 0x10 m i r c)
    (hk : checkCall c fr (tagF c.key 0x48 fr.ident.toNat (fr.data.take 12)) = .error e) :
    s.hallCall fr = t.updConn i (·.reject e) := by
  refine (h.onFixture _).trans ?_
  simp only [hk]

/-- A HALL_CALL whose checks and layout pass registers what it asks for. -/
theorem State.hallCall_registers (h : s.ReachesFixture t fr 0x10 m i r c)
    (hk : checkCall c fr (tagF c.key 0x48 fr.ident.toNat (fr.data.take 12)) = .ok a) (hmod : t.mod = .active)
    (hkind : byteAt fr.data 1 = 1 ∨ byteAt fr.data 1 = 2) (hflags : (byteAt fr.data 2).toNat ≤ 3) (hres : byteAt fr.data 3 = 0)
    (hz : zeroAt fr.data 6 6 = true) :
    s.hallCall fr = ((t.updConn i fun _ => a).registerCall m (Asked.ofHall i r fr.data)).1 := by
  refine (h.onFixture _).trans ?_
  simp only [hk, updConn_mod, hmod]
  refine (if_neg (not_not_intro rfl)).trans (if_neg ?_)
  rcases hkind with hkind | hkind <;> simp [Nat.not_lt.mpr hflags, hres, hz, hkind]

/-- A DEST_CALL whose checks and layout pass registers what it asks for and is answered with ALLOCATION. -/
theorem State.destCall_registers {n : State} {res : Nat ⊕ Nat} (h : s.ReachesFixture t fr 0x11 m i r c)
    (hk : checkCall c fr (tagF c.key 0x44 fr.ident.toNat (fr.data.take 12)) = .ok a) (hmod : t.mod = .active)
    (hflags : (byteAt fr.data 2).toNat ≤ 3) (hz : zeroAt fr.data 6 6 = true)
    (hr : (t.updConn i fun _ => a).registerCall m (Asked.ofDest i r fr.data) = (n, res)) :
    s.destCall fr = n.sendAllocation m i (res.elim id fun _ => 0) 0xFF (b2n (bitAt fr.data 2 1)) (BitVec.ofNat 16 (fld fr.data 4 2))
      (byteAt fr.data 1).toNat (some fr.sof) := by
  refine (h.onFixture _).trans ?_
  have hgood : (decide (3 < (byteAt fr.data 2).toNat) || !zeroAt fr.data 6 6) = false := by simp [Nat.not_lt.mpr hflags, hz]
  simp only [Asked.ofDest] at hr
  simp only [hk, updConn_mod, hmod, hgood]
  refine (if_neg (not_not_intro rfl)).trans ?_
  simp only [Bool.false_eq_true, if_false, hr]
  cases res <;> rfl

end fixture

section car
variable {s t : State} {fr : Frame} {m : Model} {i : Nat} {r : NodeRec} {c a : Conn} (hc : r.car < 16) (h : s.Reaches t fr 5 m i r c)
  (hcls : r.cls = .ctn) (hk : checkCall c fr (tag4 c.key 0x4B fr.ident.toNat (fr.data.take 12)) = .ok a) (hmod : t.mod = .active)
  (hflags : (byteAt fr.data 2).toNat ≤ 1) (hz : zeroAt fr.data 6 6 = true)
include h hcls hk hmod hflags hz

/-- A CAR_CALL with KIND 1 whose checks and layout pass registers its landing. -/
theorem State.carCall_registers (hkind : byteAt fr.data 1 = 1) : s.carCall fr =
    ((t.updConn i fun _ => a).registerCarCall m ⟨r.car, hc⟩ (byteAt fr.data 3).toNat (bitAt fr.data 2 0) 0 false).1 := by
  refine (h.onPrivileged (decide_eq_true hcls) _).trans ?_
  simp only [hk, updConn_mod, hmod]
  refine (dif_pos ⟨hc, trivial⟩).trans ((if_neg ?_).trans (if_pos hkind))
  simp [Nat.not_lt.mpr hflags, hz, hkind]

/-- A CAR_CALL with KIND 2 that DISPATCH and the car permit ends the call of its landing. -/
theorem State.carCall_cancels {x : CarCall} (hkind : byteAt fr.data 1 = 2) (hd : m.dispatch.ctnCancel = true)
    (hallow : t.carCallAllowed ⟨r.car, hc⟩ false = true) (h5 : (t.modes.get ⟨r.car, hc⟩).mode ≠ 5)
    (hx : (t.dsx.carCalls.get ⟨r.car, hc⟩).find? (fun x => x.landing = (byteAt fr.data 3).toNat) = some x) :
    s.carCall fr = (t.updConn i fun _ => a).dropCarCall ⟨r.car, hc⟩ x 5 := by
  have hallow' : (t.updConn i fun _ => a).carCallAllowed ⟨r.car, hc⟩ false = true := hallow
  refine (h.onPrivileged (decide_eq_true hcls) _).trans ?_
  simp only [hk, updConn_mod, hmod]
  refine (dif_pos ⟨hc, trivial⟩).trans ((if_neg ?_).trans ((if_neg ?_).trans ((if_neg ?_).trans ((if_neg h5).trans ?_))))
  · simp [Nat.not_lt.mpr hflags, hz, hkind]
  · simp [hkind]
  · simp [hd, hallow']
  · simp only [updConn_dsx, hx]

end car

/-- A car call of a landing that the car serves and its class permits joins the car's calls (R262). -/
theorem State.registerCarCall_joins {s : State} {m : Model} {c : Fin 16} {l : Nat} {host : Bool} (access : Bool) (ref : BitVec 32)
    (hp : m.present c = true) (hl : l < m.landings.length) (hv : m.served c l = true) (ha : s.carCallAllowed c host = true)
    (h5 : (s.modes.get c).mode ≠ 5) (hroom : (s.dsx.carCalls.get c).length < 128) (hnew : ∀ x ∈ s.dsx.carCalls.get c, x.landing ≠ l) :
    s.registerCarCall m c l access ref host =
      ((s.updDsx fun d => { d with carCalls := d.carCalls.upd c (· ++ [⟨l, s.tick.t0, access, ref, host, []⟩]) }).callEvent
        4 1 0xFF l (some c) 0 (carCallSlot c l) ref (if host then 0 else 2), .inr (carCallSlot c l)) := by
  have hany : ((s.dsx.carCalls.get c).any (·.landing = l)) = false := by simpa using hnew
  unfold registerCarCall
  simp only [hp, hv, ha, hany, h5, Nat.not_le.mpr hl, Nat.not_le.mpr hroom]
  rfl

/-- Settles O35: each frame through its checks to its request, and each request to what it leaves. That REG_T0 is T0CNT at the
acceptance is log 76's choice, the order of the codes of R261 log 28's. -/
theorem callsFromTheNodes : Obligations.CallsFromTheNodes := by
  refine ⟨?hall, ?merged, ?refused, ?dest, ?cancel, ?car, fun s t fr m i r c e h hk => congrArg Host.Outcome.next (hallCall_rejects h hk)⟩
  case hall =>
    rintro s t fr m i r c a q h hk hmod hkind hflags hres hz rfl hcode hnew hfree
    have hhall := Asked.ofHall_kind i r hkind
    obtain ⟨b, rfl⟩ := hear_eq h.heard
    have hcall := hallCall_registers h hk hmod hkind hflags hres hz
    have hopen := registerCall_opens (s := State.updConn { s with buses := b } i fun _ => a) (q := Asked.ofHall i r fr.data) hcode
      (fun x hx => Asked.joins_other m hhall (b2n_ne_anySide _) (hnew x hx)) hfree
    rw [if_neg (Asked.callKind_hall hhall)] at hopen
    exact ⟨(Asked.ofHall i r fr.data).opened m s.freeSlot s.tick.t0, Asked.opened_slot .., (CallKind.code_eq_iff hhall).mp rfl, rfl,
      resolveSide_given m (b2n_ne_anySide _) _, rfl, rfl, rfl, rfl, rfl,
      congrArg Host.Outcome.next (hcall.trans (congrArg Prod.fst hopen))⟩
  case merged =>
    intro s t fr m i r c a x h hk hmod hkind hflags hres hz hcode hx hxk hxo hxs
    have hhall := Asked.ofHall_kind i r hkind
    obtain ⟨b, rfl⟩ := hear_eq h.heard
    have hcall := hallCall_registers h hk hmod hkind hflags hres hz
    exact congrArg Host.Outcome.next (hcall.trans (registerCall_merges_silently hcode rfl hx
      ((Asked.joins_iff m hhall (b2n_ne_anySide _)).mpr ⟨hxk, hxo, hxs⟩)))
  case refused =>
    rintro s t fr m i r c a q code h hk hmod hflags hz rfl hcode
    obtain ⟨b, rfl⟩ := hear_eq h.heard
    have hcall := destCall_registers h hk hmod hflags hz (registerCall_refuses hcode)
    exact ⟨_, rfl, congrArg Host.Outcome.next hcall⟩
  case dest =>
    rintro s t fr m i r c a q h hk hmod hflags hz rfl hcode hfree
    obtain ⟨b, rfl⟩ := hear_eq h.heard
    have hcall := destCall_registers h hk hmod hflags hz (registerCall_opens hcode (fun x _ => Asked.joins_dest m x rfl) hfree)
    exact ⟨(Asked.ofDest i r fr.data).opened m s.freeSlot s.tick.t0, Asked.opened_slot .., rfl, rfl,
      resolveSide_given m (b2n_ne_anySide _) _, rfl, rfl, rfl, rfl, rfl, rfl, rfl, congrArg Host.Outcome.next hcall⟩
  case cancel =>
    intro s t fr m i r c a hc x h hcls hk hmod hkind hflags hz hd hallow h5 hx
    obtain ⟨b, rfl⟩ := hear_eq h.heard
    have hcall := carCall_cancels hc h hcls hk hmod hflags hz hkind hd hallow h5 hx
    exact congrArg Host.Outcome.next hcall
  case car =>
    intro s t fr m i r c a hc h hcls hk hmod hkind hflags hz hp hl hv hallow h5 hroom hnew
    obtain ⟨b, rfl⟩ := hear_eq h.heard
    have hcall := carCall_registers hc h hcls hk hmod hflags hz hkind
    have hjoin := registerCarCall_joins (s := State.updConn { s with buses := b } i fun _ => a) (c := ⟨r.car, hc⟩) (host := false)
      (bitAt fr.data 2 0) 0 hp hl hv hallow h5 hroom hnew
    exact ⟨_, rfl, congrArg Host.Outcome.next (hcall.trans (congrArg Prod.fst hjoin))⟩

end Sys2Proof.Machine
end

section
/-! The CALL ring's entries and their completions (14 R464, R471). -/

namespace Sys2Proof.Machine

open State

section entry
variable {s n : State} {m : Model} {b : List Byte} {l : List (List Byte)} (hb : s.hi.calls = b :: l)
include hb

/-- In ACTIVE an entry is answered as its record is judged. -/
theorem State.callEntry_active (hm : s.model = some m) (ha : s.mod = .active) {res : Nat ⊕ Nat}
    (hr : State.callRecord { s with hi := { s.hi with calls := l } } m b = (n, res)) :
    s.callEntry = res.elim (fun code => n.callAnswer b .refused code 0) fun slot => n.callAnswer b .done 0 (BitVec.ofNat 32 slot) := by
  have hr' : (s.updHi fun h => { h with calls := l }).callRecord m b = (n, res) := hr
  simp only [callEntry, hb, updHi_model, hm, updHi_mod, ha, hr']
  cases res <;> rfl

/-- Outside ACTIVE an entry is refused unread, whether or not a model is in force. -/
theorem State.callEntry_refused (ha : s.mod ≠ .active) :
    s.callEntry = (s.updHi fun h => { h with calls := l }).callAnswer b .refused (if s.mod = .standby then 0x8B else 0x83) 0 := by
  simp only [callEntry, hb, updHi_model, updHi_mod]
  split
  · by_cases hs : s.mod = .standby
    · exact (if_pos hs).trans (by rw [if_pos hs])
    · exact (if_neg hs).trans ((if_pos ha).trans (by rw [if_neg hs]))
  · rfl

end entry

/-- Settles O36: in ACTIVE by the record's judgment, elsewhere by the state alone. -/
theorem callEntriesAreAnswered : Obligations.CallEntriesAreAnswered := by
  refine ⟨fun s n m b l slot hb hm ha hr => congrArg Host.Outcome.next (callEntry_active hb hm ha hr),
    fun s n m b l code hb hm ha hr => congrArg Host.Outcome.next (callEntry_active hb hm ha hr),
    fun s b l hb ha => congrArg Host.Outcome.next ((callEntry_refused hb ha).trans ?_)⟩
  by_cases hs : s.mod = .standby
  · rw [if_pos hs, if_pos hs]
    rfl
  · rw [if_neg hs, if_neg hs]
    rfl

end Sys2Proof.Machine
end

section
/-! The host's commands on modes and dispatch holds (09 R309, R310, 14 R468): each through the checks of R467. -/

namespace Sys2Proof.Machine

open State

section takeEntry
variable (s : State) (e : CmdEntry) (m : Model) (c : Fin 16)
@[simp] theorem State.takeEntry_quietM3 : (s.takeEntry e).quietM3 m c = s.quietM3 m c := rfl
@[simp] theorem State.takeEntry_groupIn (role : Nat) : (s.takeEntry e).groupIn m c role = s.groupIn m c role := rfl
@[simp] theorem State.takeEntry_holdPersists : (s.takeEntry e).holdPersists m c = s.holdPersists m c := rfl
end takeEntry

/-- Taking the entry leaves the modes as they were. -/
theorem State.StartsFor.updMode {s n : State} {op : Nat} {e : CmdEntry} {own : Bool} {m : Model} {c : Fin 16}
    (h : s.StartsFor n op e own m c) (f : Mode → Mode) :
    n.updMode c f = { n with modes := s.modes.put c (f (s.modes.get c)) } := by
  obtain rfl := h.starts.taken
  rfl

theorem State.countRefused_counts {e : CmdEntry} {c : Fin 16} (h : carOf? e = some c) (s : State) :
    s.countRefused e = s.updMode c fun md => { md with refused := md.refused + 1 } := by
  unfold countRefused
  rw [h]

/-! SET_MODE (R309). -/

/-- The host may request the mode, and HOST_ALLOW of the car's policy permits it (R309). -/
def Model.hostMay (m : Model) (c : Fin 16) (mode : Nat) : Bool :=
  hostModes.contains mode && (m.policy? c).any fun p => p.hostAllow.getLsbD mode

theorem Model.hostMay_iff (m : Model) (c : Fin 16) (mode : Nat) :
    m.hostMay c mode = true ↔ mode ∈ hostModes ∧ ∃ r, m.policy? c = some r ∧ r.hostAllow.getLsbD mode = true := by
  rw [hostMay, Bool.and_eq_true, List.contains_iff_mem, Option.any_eq_true]

section setMode
variable {s n : State} {e : CmdEntry} {m : Model} {c : Fin 16} (h : s.StartsFor n 0x20 e (e.arg0.toNat ≤ 11) m c)
include h

theorem State.setModeCmd_registers (h0 : e.arg0.toNat ≠ 0) (hmay : m.hostMay c e.arg0.toNat = true)
    (hservice : e.arg0.toNat = 11 → s.seal0 = true ∧ s.quietM3 m c = true) :
    s.setModeCmd e = (n.updMode c fun md => { md with
      host := md.host ||| (1 <<< e.arg0.toNat), setCmds := md.setCmds ++ [(e, e.arg0.toNat, 0)] }).startRunning e := by
  obtain rfl := h.starts.taken
  refine (carCommand_act h ?_).trans (by simp only [if_neg h0])
  rw [Model.hostMay] at hmay
  rw [hmay, takeEntry_seal0, takeEntry_quietM3]
  by_cases h11 : e.arg0.toNat = 11
  · obtain ⟨hseal, hquiet⟩ := hservice h11
    simp [firstBad, hseal, hquiet]
  · simp [firstBad, h11]

/-- M0 is never checked against HOST_ALLOW (R309). -/
theorem State.setModeCmd_withdraws (h0 : e.arg0.toNat = 0) : s.setModeCmd e =
    (n.updMode c fun md => { md with host := 0, setCmds := md.setCmds ++ [(e, 0, 0)] }).startRunning e := by
  obtain rfl := h.starts.taken
  refine (carCommand_act h ?_).trans (by simp only [h0, if_true])
  simp [firstBad, h0]

theorem State.setModeCmd_policy (h0 : e.arg0.toNat ≠ 0) (hmay : m.hostMay c e.arg0.toNat = false) :
    s.setModeCmd e = (n.updMode c fun md => { md with refused := md.refused + 1 }).answer e .refused 0x40 := by
  obtain rfl := h.starts.taken
  refine (carCommand_refused h ?_).trans (by rw [countRefused_counts h.car])
  rw [Model.hostMay] at hmay
  rw [hmay]
  simp [firstBad, h0]

/-- SEAL is judged before NOT_QUIET. -/
theorem State.setModeCmd_service (h11 : e.arg0.toNat = 11) (hmay : m.hostMay c 11 = true)
    (hbad : s.seal0 = false ∨ s.quietM3 m c = false) : s.setModeCmd e =
      (n.updMode c fun md => { md with refused := md.refused + 1 }).answer e .refused (if s.seal0 then 0x41 else 0x42) := by
  obtain rfl := h.starts.taken
  refine (carCommand_refused h ?_).trans (by rw [countRefused_counts h.car])
  rw [Model.hostMay] at hmay
  rw [h11, hmay, takeEntry_seal0, takeEntry_quietM3]
  cases hseal : s.seal0 with
  | false => simp [firstBad]
  | true =>
    have hquiet : s.quietM3 m c = false := hbad.resolve_left (by simp [hseal])
    simp [firstBad, hquiet]

end setMode

/-! CLEAR_MODE (R309, 10 R359). -/

theorem State.startTests_scope (s : State) (c : Fin 16) : s.startTests c = { s with
    coreTest := (s.startTests c).coreTest
    lv := s.lv.upd c fun l => { l with tests := StartTests.first }
    freeCtr := s.freeCtr + 1 } := rfl

section clearMode
variable {s n : State} {e : CmdEntry} {m : Model} {c : Fin 16}
  (h : s.StartsFor n 0x21 e (e.arg0.toNat = 3 || e.arg0.toNat = 8) m c)
include h

theorem State.clearModeCmd_seismic (h8 : e.arg0.toNat = 8) (hg : s.groupIn m c 0x14 = false) :
    s.clearModeCmd e = (n.updMode c fun md => { md with clear8 := true }).answer e .done 0 := by
  obtain rfl := h.starts.taken
  refine (carCommand_act h ?_).trans (by simp only [h8, if_true])
  simp [firstBad, h8, hg]

theorem State.clearModeCmd_noHold (h3 : e.arg0.toNat = 3) (hh : (s.modes.get c).hold = false) :
    s.clearModeCmd e = n.answer e .done 0 := by
  obtain rfl := h.starts.taken
  refine (carCommand_act h ?_).trans (by simp [h3, hh])
  simp [firstBad, h3, hh]

theorem State.clearModeCmd_endsHold (h3 : e.arg0.toNat = 3) (hh : (s.modes.get c).hold = true) (hp : s.holdPersists m c = false) :
    s.clearModeCmd e = (((n.updMode c fun md => { md with hold := false }).updLv c fun l =>
      { l with hold := false, holdCause := 0 }).startTests c).answer e .done 0 := by
  obtain rfl := h.starts.taken
  refine (carCommand_act h ?_).trans (by simp [h3, hh])
  simp [firstBad, h3, hp]

theorem State.clearModeCmd_stillActive (hbad : e.arg0.toNat = 8 ∧ s.groupIn m c 0x14 = true ∨
      e.arg0.toNat = 3 ∧ (s.modes.get c).hold = true ∧ s.holdPersists m c = true) :
    s.clearModeCmd e = (n.updMode c fun md => { md with refused := md.refused + 1 }).answer e .refused 0x43 := by
  obtain rfl := h.starts.taken
  refine (carCommand_refused h ?_).trans (by rw [countRefused_counts h.car])
  obtain ⟨h8, hg⟩ | ⟨h3, hh, hp⟩ := hbad
  · simp [firstBad, h8, hg]
  · simp [firstBad, h3, hh, hp]

end clearMode

/-! CLEAR_DISPATCH_HOLD (R468, 07 R243). -/

/-- A side without its door hold; the counts of a side that was held start anew (R243). -/
def Side.unheld (x : Side) : Side := if x.held then { x with held := false, timer := none, stopRev := 0, nudgeRev := 0 } else x

@[simp] theorem Side.unheld_held (x : Side) : x.unheld.held = false := by
  unfold unheld
  cases hx : x.held <;> simp [hx]

@[simp] theorem Side.unheld_state (x : Side) : x.unheld.state = x.state := by
  unfold unheld
  split <;> rfl

section clearHold
variable {s n : State} {e : CmdEntry} {m : Model} {c : Fin 16} (h : s.StartsFor n 0x22 e true m c)
include h

theorem State.clearDispatchHold_clears
    (hh : heldOut (s.cars.get c).holds = true ∨ ∃ d ∈ carSides m c, (s.sides.get d).held = true) :
    s.clearDispatchHold e = ((n.updCar c fun cp => { cp with holds := ⟨false, false, false, false, false⟩ }).each [front c, rear c]
      fun s d => s.updSide d Side.unheld).answer e .done 0 := by
  obtain rfl := h.starts.taken
  refine carCommand_act h ?_
  obtain hcar | ⟨d, hd, hside⟩ := hh
  · simp [firstBad, hcar]
  · have hany : ((carSides m c).any fun d => (s.sides.get d).held) = true := List.any_eq_true.mpr ⟨d, hd, hside⟩
    simp only [firstBad, takeEntry_sides, hany]
    simp

theorem State.clearDispatchHold_nothing (hcar : heldOut (s.cars.get c).holds = false)
    (hsides : ∀ d ∈ carSides m c, (s.sides.get d).held = false) : s.clearDispatchHold e = n.answer e .refused 0x8A := by
  obtain rfl := h.starts.taken
  refine carCommand_refused h ?_
  have hnone : ((carSides m c).any fun d => (s.sides.get d).held) = false := by simpa using hsides
  simp only [firstBad, takeEntry_cars, takeEntry_sides, hcar, hnone]
  simp

end clearHold

/-- Settles O49: the effect of each command where its checks pass, and its refusals. That the three need ACTIVE is log 122's choice, the
restart of the tests log 45's, and CLEAR_MODE(3) DONE without a hold, NOT_FOUND and the count of the refusals are log 129's. -/
theorem modeCommandsActOnTheRequests : Obligations.ModeCommandsActOnTheRequests := by
  refine ⟨fun s n e m c r h hmode hservice hr hallow => congrArg Host.Outcome.next ((State.setModeCmd_registers h ?_
      ((m.hostMay_iff c _).mpr ⟨hmode, r, hr, hallow⟩) fun h11 => hservice (BitVec.eq_of_toNat_eq h11)).trans ?_),
    fun s n e m c h h0 => congrArg Host.Outcome.next ((State.setModeCmd_withdraws h (congrArg BitVec.toNat h0)).trans ?_),
    fun s n e m c h h0 hno => congrArg Host.Outcome.next
      ((State.setModeCmd_policy h (fun h' => h0 (BitVec.eq_of_toNat_eq h')) ?_).trans ?_),
    fun s n e m c r h h11 hr hallow hbad => congrArg Host.Outcome.next
      ((State.setModeCmd_service h h11 ((m.hostMay_iff c 11).mpr ⟨by decide, r, hr, hallow⟩) hbad).trans ?_),
    fun s n e m c h h8 => congrArg Host.Outcome.next ?_,
    fun s n e m c h h3 hno => congrArg Host.Outcome.next ?_,
    fun s n e m c h h3 hh hp => ⟨_, congrArg Host.Outcome.next
      (State.clearModeCmd_endsHold h (congrArg BitVec.toNat h3) hh hp), ?_⟩,
    fun s n e m c h hh => ⟨_, congrArg Host.Outcome.next (State.clearDispatchHold_clears h hh), ?_⟩,
    fun s n e m c h hcar hsides => congrArg Host.Outcome.next (State.clearDispatchHold_nothing h hcar hsides)⟩
  · exact ne_of_mem_of_not_mem hmode (by decide)
  · rw [h.updMode]
    rfl
  · rw [h.updMode]
    rfl
  · rw [Bool.eq_false_iff, Ne, Model.hostMay_iff]
    rintro ⟨hmode, r, hr, hallow⟩
    obtain hout | hdeny := hno
    · exact hout hmode
    · exact Bool.false_ne_true ((hdeny r hr).symm.trans hallow)
  · rw [h.updMode]
  · rw [h.updMode]
  · have h8' : e.arg0.toNat = 8 := congrArg BitVec.toNat h8
    rw [← h.updMode fun md => { md with refused := md.refused + 1 }, ← h.updMode fun md => { md with clear8 := true }]
    cases hg : s.groupIn m c 0x14 with
    | true => exact State.clearModeCmd_stillActive h (.inl ⟨h8', hg⟩)
    | false => exact State.clearModeCmd_seismic h h8' hg
  · have h3' : e.arg0.toNat = 3 := congrArg BitVec.toNat h3
    rw [← h.updMode fun md => { md with refused := md.refused + 1 }]
    cases hh : (s.modes.get c).hold with
    | true => exact State.clearModeCmd_stillActive h (.inr ⟨h3', hh, hno.resolve_left (by simp [hh])⟩)
    | false => exact State.clearModeCmd_noHold h h3' hh
  · obtain rfl := h.starts.taken
    rw [State.startTests_scope]
    refine ⟨rfl, ?_, ?_, ?_, fun d hd => ?_⟩
    · simp
    · simp
    · simp
    · simp [hd.symm]
  · obtain rfl := h.starts.taken
    have hside (d : Fin 32) := State.each_updSide_get
      ((s.takeEntry e).updCar c fun cp => { cp with holds := ⟨false, false, false, false, false⟩ }) [front c, rear c]
      (fun _ => Side.unheld) (by simp [front_ne_rear]) d
    rw [State.each_updSide] at hside ⊢
    refine ⟨rfl, rfl, fun d => ?_, ?_, ?_⟩
    · rw [hside d]
      split <;> simp
    · rw [hside (front c)]
      simp
    · rw [hside (rear c)]
      simp

end Sys2Proof.Machine
end
section
/-! The brake-holding test (10 R342, R343): an automatic start and its retry, the end of a phase, the pass and the overdue event. -/

namespace Sys2Proof.Machine

open State

theorem State.updLv_get (s : State) (c : Fin 16) (f : Lv → Lv) : (s.updLv c f).lv.get c = f (s.lv.get c) := Tab.get_upd_same ..

theorem State.updLv_others (s : State) {c d : Fin 16} (f : Lv → Lv) (h : d ≠ c) : (s.updLv c f).lv.get d = s.lv.get d :=
  Tab.get_upd_ne _ _ h.symm

theorem State.leveeEvent_scope (s : State) (c : Fin 16) (kind d1 : Nat) (v : Int) :
    s.leveeEvent c kind d1 v = { s with hi := (s.leveeEvent c kind d1 v).hi, freeCtr := s.freeCtr + 1 } := event4_scope ..

/-! The result of the circuit under test. -/

theorem btResult_circuit (b : BrakeTest) (r : Fin 4) :
    (if b.circuit = 1 then (btResult b r).res1 else (btResult b r).res2) = r := by
  unfold btResult
  split <;> rfl

theorem btResult_scope (b : BrakeTest) (r : Fin 4) :
    btResult b r = { b with res1 := (btResult b r).res1, res2 := (btResult b r).res2 } := by
  unfold btResult
  split <;> rfl

/-- A passed circuit 1: the brakes fall for the steps of circuit 2. -/
def Lv.firstPassed (h : HoistRec) (l : Lv) : Lv :=
  { l with
    brk1 := false, brk2 := false, wBrk2 := FbWatch.restart (dropWindow h)
    bt := { btResult l.bt 1 with phase := 4, circuit := 2, age := 0 } }

/-- A passed test: the brakes fall, the run's end is told, and the command that asked for the test leaves its torque (log 159). -/
def Lv.testPassed (h : HoistRec) (l : Lv) : Lv :=
  { l with
    brk1 := false, brk2 := false, wBrk1 := FbWatch.restart (dropWindow h), req := { l.req with runEnd := true }
    holdCause := if l.bt.e.isSome && l.holdCause = 0x0A then 0 else l.holdCause
    bt := { btResult l.bt 1 with
      phase := 0, ageT0 := 0, overdue := false, e := none, retry := none
      torq := if l.bt.e.isSome then BitVec.ofInt 16 l.bt.torque else l.bt.torq } }

theorem Lv.testPassed_maxSlip (h : HoistRec) (l : Lv) : (l.testPassed h).bt.maxSlip = l.bt.maxSlip := by
  simp only [testPassed]
  rw [btResult_scope]

/-- The test has passed and is reported, with the largest slip seen. -/
def State.testPassed (s : State) (m : Model) (c : Fin 16) : State :=
  (s.updLv c (Lv.testPassed (m.hoists.get c))).leveeEvent c 5 0 (s.lv.get c).bt.maxSlip

theorem State.testPassed_scope (s : State) (m : Model) (c : Fin 16) : s.testPassed m c = { s with
    lv := s.lv.upd c (Lv.testPassed (m.hoists.get c))
    hi := (s.testPassed m c).hi
    freeCtr := s.freeCtr + 1 } := by
  unfold testPassed
  rw [leveeEvent_scope]
  rfl

theorem State.testPassed_get (s : State) (m : Model) (c : Fin 16) :
    (s.testPassed m c).lv.get c = (s.lv.get c).testPassed (m.hoists.get c) := by
  rw [testPassed_scope]
  exact Tab.get_upd_same ..

/-- The result word of a passed test. -/
theorem State.testPassed_word (s : State) (m : Model) (c : Fin 16) : ((s.testPassed m c).lv.get c).bt.word =
    pk [(0, 2, ((s.testPassed m c).lv.get c).bt.res1.val), (2, 2, ((s.testPassed m c).lv.get c).bt.res2.val),
      (16, 16, min (s.lv.get c).bt.maxSlip 65535)] := by
  rw [BrakeTest.word, testPassed_get, Lv.testPassed_maxSlip]

/-- A car where R343 lets an automatic test begin. -/
structure State.BtStarts (s : State) (m : Model) (c : Fin 16) : Prop where
  active : s.mod = .active
  mode   : (s.modes.get c).mode = 3
  phase  : (s.lv.get c).bt.phase = 0
  ready  : btReady (s.lv.get c) (s.lvSrc m c (s.lv.get c)) = true
  idle   : s.hoistIdle c = true
  out    : s.carParked m c = false

section
variable {s : State} {m : Model} {c : Fin 16}

theorem State.btAuto_starts (h : s.BtStarts m c) : s.btAuto m c = s.btStart c (s.lv.get c).bt.torq.toInt none := by
  obtain ⟨hmod, hmode, hphase, hready, hidle, hout⟩ := h
  exact if_pos (by simp [hmod, hmode, hphase, hready, hidle, hout])

variable (hm : s.model = some m)
include hm

/-- At a T2 boundary, the last pass a day old and no retry pending, it turns on the kept torque. -/
theorem State.brakeTestAuto_due (ha : day ≤ (s.lv.get c).bt.ageT0) (h2 : s.tick.t0.toNat % 256 = 0) (hr : (s.lv.get c).bt.retry = none) :
    s.brakeTestAuto c = if (s.lv.get c).bt.torq = 0 then
        if day ≤ (s.lv.get c).bt.noTorq then (s.updLv c fun l => { l with bt := { l.bt with noTorq := 0 } }).leveeEvent c 3 0 0 else s
      else s.btAuto m c := by
  unfold brakeTestAuto
  rw [hm]
  exact if_neg (by simp [Nat.not_lt.mpr ha, h2, hr])

theorem State.brakeTestRetry_over (hr : (s.lv.get c).bt.retry = some 0) : s.brakeTestRetry c = s.btAuto m c := by
  unfold brakeTestRetry
  rw [hm]
  exact if_pos hr

variable (ha : 6000 ≤ (s.lv.get c).bt.age)
include ha

theorem State.brakeTestPhaseEnd_turns (hp : (s.lv.get c).bt.phase = 2 ∨ (s.lv.get c).bt.phase = 5) : s.brakeTestPhaseEnd c =
    s.updLv c fun l => { l with bt := { l.bt with phase := (s.lv.get c).bt.phase + 1, age := 0 } } := by
  unfold brakeTestPhaseEnd
  rw [hm]
  exact (if_neg (Nat.not_lt.mpr ha)).trans (if_pos (by simpa using hp))

theorem State.brakeTestPhaseEnd_firstPasses (hp : (s.lv.get c).bt.phase = 3) :
    s.brakeTestPhaseEnd c = s.updLv c (Lv.firstPassed (m.hoists.get c)) := by
  unfold brakeTestPhaseEnd
  rw [hm]
  exact (if_neg (Nat.not_lt.mpr ha)).trans ((if_neg (by simp [hp])).trans (if_pos hp))

theorem State.brakeTestPhaseEnd_passes (hp : (s.lv.get c).bt.phase = 6) :
    s.brakeTestPhaseEnd c = match (s.lv.get c).bt.e with
      | some e => (s.testPassed m c).finish e .done 0
          (pk [(0, 2, ((s.testPassed m c).lv.get c).bt.res1.val), (2, 2, ((s.testPassed m c).lv.get c).bt.res2.val),
            (16, 16, min (s.lv.get c).bt.maxSlip 65535)])
      | none => s.testPassed m c := by
  rw [← State.testPassed_word]
  unfold brakeTestPhaseEnd
  rw [hm]
  exact (if_neg (Nat.not_lt.mpr ha)).trans ((if_neg (by simp [hp])).trans ((if_neg (by simp [hp])).trans (if_pos hp)))

end

theorem State.brakeTestOverdue_raises {s : State} {c : Fin 16} (ha : 2 * day ≤ (s.lv.get c).bt.ageT0)
    (ho : (s.lv.get c).bt.overdue = false) :
    s.brakeTestOverdue c = (s.updLv c fun l => { l with bt := { l.bt with overdue := true } }).leveeEvent c 4 0 0 :=
  if_pos (by simp [ha, ho])

/-- Settles O38. That the contactors wait for R339 is log 160's choice, the result word of an M11 test log 159's. -/
theorem brakeTestsRun : Obligations.BrakeTestsRun := by
  refine ⟨fun s m c hm ha h2 hr ht hmod hmode hphase hready hidle hout => congrArg Host.Outcome.next ?_,
    fun s m c hm ha h2 hr ht hn => congrArg Host.Outcome.next ?_,
    fun s m c hm hr hmod hmode hphase hready hidle hout => congrArg Host.Outcome.next ?_,
    fun s m c hm ha hp => congrArg Host.Outcome.next (State.brakeTestPhaseEnd_turns hm ha hp),
    fun s m c hm ha hp => ⟨_, congrArg Host.Outcome.next (State.brakeTestPhaseEnd_firstPasses hm ha hp), rfl,
      fun _ => State.updLv_others s _, ?_⟩,
    fun s m c hm ha hp => ⟨s.testPassed m c, congrArg Host.Outcome.next (State.brakeTestPhaseEnd_passes hm ha hp), ?_⟩,
    fun s c ha ho => congrArg Host.Outcome.next (State.brakeTestOverdue_raises ha ho)⟩
  · rw [State.brakeTestAuto_due hm ha h2 hr, if_neg ht, State.btAuto_starts ⟨hmod, hmode, hphase, hready, hidle, hout⟩]
    dsimp only
    rw [hr]
    rfl
  · rw [State.brakeTestAuto_due hm ha h2 hr, if_pos ht]
    exact if_pos hn
  · rw [State.brakeTestRetry_over hm hr, State.btAuto_starts ⟨hmod, hmode, hphase, hready, hidle, hout⟩]
    rfl
  · rw [State.updLv_get]
    exact ⟨rfl, rfl, rfl, btResult_circuit .., rfl, rfl⟩
  · rw [State.testPassed_get]
    refine ⟨?_, fun d hd => ?_, rfl, rfl, rfl, rfl, btResult_circuit .., rfl, rfl, rfl, rfl⟩
    · rw [State.testPassed_scope]
    · rw [State.testPassed_scope]
      exact Tab.get_upd_ne _ _ hd.symm

end Sys2Proof.Machine
end
section
/-! The causes that a command row of its own raises (10 R326, R329, R340, R341, R348). -/

namespace Sys2Proof.Machine

open State

/-! Which parts of the state the steps of a demand change. -/

theorem State.fireSf1_scope (s : State) (c : Fin 16) : s.fireSf1 c = { s with capus := (s.fireSf1 c).capus } := by
  unfold fireSf1
  split
  · rfl
  · exact each_inv s (fun t => t = { s with capus := t.capus }) _ (fun t u h => by rw [h]; rfl) _ rfl

/-- A reported cause goes to the fault collector, cause 0x41 to the host as an event. -/
theorem State.reportCause_scope (s : State) (c : Fin 16) (code : Nat) : s.reportCause c code = { s with
    fc := (s.reportCause c code).fc
    hi := (s.reportCause c code).hi
    cvs := (s.reportCause c code).cvs
    pwr := (s.reportCause c code).pwr
    freeCtr := (s.reportCause c code).freeCtr } := by
  unfold reportCause
  split
  · rw [leveeEvent_scope]
  · rw [finding_scope]

theorem State.abortRaw_scope (s : State) (a b : List TxFrame) : s.abortRaw a b = { s with
    hi := (s.abortRaw a b).hi
    freeCtr := (s.abortRaw a b).freeCtr } := by
  refine each_inv s (fun t => t = { s with hi := t.hi, freeCtr := t.freeCtr }) _ (fun t tag h => ?_) _ rfl
  dsimp only
  split
  · exact h
  · rw [finish_scope, h]
    rfl

theorem State.queue_scope (s : State) (n : Fin 12) (f : TxFrame) : s.queue n f = { s with
    buses := (s.queue n f).buses
    hi := (s.queue n f).hi
    freeCtr := (s.queue n f).freeCtr } := by
  unfold queue
  split
  · rfl
  · dsimp only
    rw [abortRaw_scope]
    rfl

theorem State.sendSafety_scope (s : State) (m : Model) (i ftype : Nat) (payload : List Byte) (cyclic : Bool) :
    s.sendSafety m i ftype payload cyclic = { s with
      conns := (s.sendSafety m i ftype payload cyclic).conns
      cvs := (s.sendSafety m i ftype payload cyclic).cvs
      buses := (s.sendSafety m i ftype payload cyclic).buses
      hi := (s.sendSafety m i ftype payload cyclic).hi
      freeCtr := (s.sendSafety m i ftype payload cyclic).freeCtr } := by
  unfold sendSafety
  split
  · split
    · rw [useCv_scope]
    · dsimp only [send]
      rw [queue_scope, useCv_scope]
      rfl
  · rfl

theorem State.dropOutputs_scope (s : State) (c : Fin 16) : s.dropOutputs c = { s with pol := (s.dropOutputs c).pol } := by
  refine each_inv s (fun t => t = { s with pol := t.pol }) _ (fun t i h => ?_) _ rfl
  dsimp only
  split
  · unfold switchOff
    rw [h]
    rfl
  · exact h

/-- The car's HDV takes the torque-removal frame: the module drives it. -/
def State.tellsHdv (s : State) (m : Model) (c : Fin 16) : Bool := s.drives && (m.node? c .hdv).isSome

/-- The debt of R336 is paid whether a frame goes or not. -/
theorem State.sendTorqueOff_scope (s : State) (m : Model) (c : Fin 16) : s.sendTorqueOff m c = { s with
    lv := s.lv.upd c fun l => { l with tqFrame := false, tqSent := s.tellsHdv m c || l.tqSent }
    conns := (s.sendTorqueOff m c).conns
    cvs := (s.sendTorqueOff m c).cvs
    buses := (s.sendTorqueOff m c).buses
    hi := (s.sendTorqueOff m c).hi
    freeCtr := (s.sendTorqueOff m c).freeCtr } := by
  unfold sendTorqueOff tellsHdv
  cases m.node? c .hdv with
  | none => simp [updLv]
  | some i =>
    cases hd : s.drives with
    | false => simp [updLv]
    | true =>
      dsimp only
      rw [if_pos rfl, sendSafety_scope]
      simp [updLv]

theorem State.sendTorqueOff_buses {s : State} (h : s.drives = false) (m : Model) (c : Fin 16) :
    (s.sendTorqueOff m c).buses = s.buses := by
  unfold sendTorqueOff
  split
  · rw [if_neg (by simp [h])]
    rfl
  · rfl

/-- The levee of a car whose owed frame is paid. -/
def Lv.paid (tells : Bool) (l : Lv) : Lv := { l with tqFrame := false, tqSent := l.tqFrame && tells || l.tqSent }

theorem Lv.paid_of_none {l : Lv} (h : l.tqFrame = false) (tells : Bool) : l.paid tells = l := by
  obtain ⟨⟩ := l
  simp_all [paid]

/-- An owed frame goes out in the T0 of the cause. -/
def State.payFrame (s : State) (m : Model) (c : Fin 16) : State := if (s.lv.get c).tqFrame then s.sendTorqueOff m c else s

theorem State.payFrame_scope (s : State) (m : Model) (c : Fin 16) : s.payFrame m c = { s with
    lv := s.lv.upd c (Lv.paid (s.tellsHdv m c))
    conns := (s.payFrame m c).conns
    cvs := (s.payFrame m c).cvs
    buses := (s.payFrame m c).buses
    hi := (s.payFrame m c).hi
    freeCtr := (s.payFrame m c).freeCtr } := by
  unfold payFrame
  cases h : (s.lv.get c).tqFrame with
  | false =>
    rw [if_neg Bool.false_ne_true, Tab.upd, Lv.paid_of_none h, Tab.put_get]
  | true =>
    rw [if_pos rfl, sendTorqueOff_scope]
    simp [Tab.upd, Lv.paid, h]

theorem State.payFrame_buses {s : State} {m : Model} {c : Fin 16} (h : (s.lv.get c).tqFrame = false ∨ s.drives = false) :
    (s.payFrame m c).buses = s.buses := by
  unfold payFrame
  split
  · next ho => exact sendTorqueOff_buses (h.resolve_left (by simp [ho])) m c
  · rfl

/-! The levee of a car that had no cause. -/

/-- The causes that the rows raise. -/
def rowCauses : List Nat := [0x03, 0x05, 0x06, 0x30, 0x51]

theorem rowCauses_alone {code : Nat} (h : code ∈ rowCauses) :
    sortBy (fun a b => decide (a ≤ b)) ([code] ++ (tripList (tripAdd 0 [code])).filter (!List.contains [code] ·)) = [code] := by
  revert h code
  decide

theorem rowCauses_trip {code : Nat} (h : code ∈ rowCauses) : ∀ b < 8, tripBit code = some b → (tripAdd 0 [code]).getLsbD b = true := by
  revert h code
  decide

theorem tripBit_lt {code b : Nat} (h : tripBit code = some b) : b < 8 := (List.findIdx?_eq_some_iff_findIdx_eq.mp h).1

/-- The books of a demand that one cause starts at a T0. -/
def Lv.demandedBy (t0 : BitVec 32) (code : Nat) (l : Lv) : Lv :=
  { l with
    causes := [code], trip := tripAdd 0 [code], demand := true, first := BitVec.ofNat 8 code
    last := if l.lastT0 = t0 then BitVec.ofNat 8 (max code l.last.toNat) else BitVec.ofNat 8 code
    lastT0 := t0, demandT0 := t0, vd := l.speed.natAbs, dir := sgn l.speed, k := 0, env := sf1Env l.speed.natAbs 0
    immediate := !kindM l.vmode code, acted := false, demands := l.demands + 1 }

theorem State.Undemanded.activeCauses {s : State} {c : Fin 16} (h : s.Undemanded c) {code : Nat} (hc : code ∈ rowCauses) :
    State.activeCauses (s.lv.get c) [code] = [code] := by
  unfold State.activeCauses
  rw [h.trip]
  exact rowCauses_alone hc

theorem State.Undemanded.recordDemand {s : State} {c : Fin 16} (h : s.Undemanded c) {code : Nat} (hc : code ∈ rowCauses) :
    State.recordDemand s.tick.t0 (s.lv.get c) [code] = (s.lv.get c).demandedBy s.tick.t0 code := by
  have h50 : code ≠ 0x50 := by rintro rfl; revert hc; decide
  unfold State.recordDemand Lv.demandedBy
  simp only [h.activeCauses hc, h.causes, h.demand, h.trip]
  simp [Ne.symm h50]

/-- What R336 leaves of the books: torque, its watches, the stop and the frame alone are decided. -/
theorem actDemand_scope (h : HoistRec) {l : Lv} (hc : l.causes ≠ []) : actDemand h l = { l with
    mc := (actDemand h l).mc, brk1 := (actDemand h l).brk1, brk2 := (actDemand h l).brk2, torqueOff := (actDemand h l).torqueOff
    tqAge := (actDemand h l).tqAge, tqSent := (actDemand h l).tqSent, tqFrame := (actDemand h l).tqFrame
    stoSeen := (actDemand h l).stoSeen, stoRaised := (actDemand h l).stoRaised, mstop := (actDemand h l).mstop
    acted := (actDemand h l).acted
    wMc := (actDemand h l).wMc, wBrk1 := (actDemand h l).wBrk1, wBrk2 := (actDemand h l).wBrk2 } := by
  have he : l.causes.isEmpty = false := by simpa using hc
  unfold actDemand
  simp only [he, Bool.and_false, Bool.false_and, Bool.false_eq_true, if_false]
  split
  · rfl
  · split <;> rfl

/-- R336 acts at once: the car is still, or the cause immediate. -/
theorem actDemand_removes (h : HoistRec) {l : Lv} (hd : l.demand = true) (ha : l.acted = false)
    (ho : l.torqueOff = false) (hs : l.still = true ∨ l.immediate = true) :
    (actDemand h l).torqueOff = true ∧ (actDemand h l).mc = false ∧ (actDemand h l).brk1 = false ∧ (actDemand h l).brk2 = false ∧
      (actDemand h l).mstop = false ∧ (actDemand h l).tqFrame = true ∧ (actDemand h l).tqSent = false := by
  have hoff : (l.demand && !l.acted && (l.still || l.immediate)) = true := by
    rw [hd, ha]
    simpa using hs
  simp [actDemand, dropTorque, ho, hoff]

/-- A monitored stop of a moving car keeps the torque. -/
theorem actDemand_stops (h : HoistRec) {l : Lv} (hd : l.demand = true) (ho : l.torqueOff = false)
    (hs : l.still = false) (hi : l.immediate = false) : actDemand h l = { l with mstop := true } := by
  simp [actDemand, hd, ho, hs, hi]

/-- The levee of a car when a cause has been decided on. -/
def State.decided (s : State) (m : Model) (c : Fin 16) (code : Nat) : Lv :=
  actDemand (m.hoists.get c) ((s.lv.get c).demandedBy s.tick.t0 code)

theorem State.decided_scope (s : State) (m : Model) (c : Fin 16) (code : Nat) :
    s.decided m c code = { (s.lv.get c).demandedBy s.tick.t0 code with
      mc := (s.decided m c code).mc, brk1 := (s.decided m c code).brk1, brk2 := (s.decided m c code).brk2
      torqueOff := (s.decided m c code).torqueOff, tqAge := (s.decided m c code).tqAge, tqSent := (s.decided m c code).tqSent
      tqFrame := (s.decided m c code).tqFrame, stoSeen := (s.decided m c code).stoSeen, stoRaised := (s.decided m c code).stoRaised
      mstop := (s.decided m c code).mstop, acted := (s.decided m c code).acted
      wMc := (s.decided m c code).wMc, wBrk1 := (s.decided m c code).wBrk1, wBrk2 := (s.decided m c code).wBrk2 } :=
  actDemand_scope (m.hoists.get c) (List.cons_ne_nil code [])

theorem State.Undemanded.raiseCause_eq {s : State} {c : Fin 16} (h : s.Undemanded c) (m : Model) (code : Nat) :
    s.raiseCause m c code = ((s.decide_ m c [code]).payFrame m c).dropOutputs c := by
  unfold raiseCause
  dsimp only
  rw [h.causes]
  rfl

section
variable {s : State} {c : Fin 16} {code : Nat} (h : s.Undemanded c) (hc : code ∈ rowCauses)
include h hc

/-- The new demand fires the capture units that wait for one, stands in the car's levee and is reported. -/
theorem State.Undemanded.decide_eq (m : Model) : ∃ r,
    s.decide_ m c [code] = ((s.fireSf1 c).updLv c fun _ => { s.decided m c code with req := r }).reportCause c code := by
  have hlet (p : Bool) (l : Lv) : (if p then { l with req := { l.req with sf1 := false } } else l) =
      { l with req := if p then { l.req with sf1 := false } else l.req } := by cases p <;> rfl
  unfold decide_
  simp only [h.recordDemand hc, h.activeCauses hc, h.causes, h.demand, hlet]
  exact ⟨_, rfl⟩

theorem State.Undemanded.decide_scope (m : Model) : ∃ r, s.decide_ m c [code] = { s with
    lv := s.lv.put c { s.decided m c code with req := r }
    capus := (s.decide_ m c [code]).capus
    fc := (s.decide_ m c [code]).fc
    hi := (s.decide_ m c [code]).hi
    cvs := (s.decide_ m c [code]).cvs
    pwr := (s.decide_ m c [code]).pwr
    freeCtr := (s.decide_ m c [code]).freeCtr } := by
  obtain ⟨r, hd⟩ := h.decide_eq hc m
  refine ⟨r, ?_⟩
  rw [hd, reportCause_scope, fireSf1_scope]
  rfl

/-- A row's cause changes the car's levee as decided, and the owed frame is paid. -/
theorem State.Undemanded.raiseCause_scope (m : Model) : ∃ r, s.raiseCause m c code = { s with
    lv := s.lv.put c (({ s.decided m c code with req := r } : Lv).paid (s.tellsHdv m c))
    capus := (s.raiseCause m c code).capus
    fc := (s.raiseCause m c code).fc
    hi := (s.raiseCause m c code).hi
    cvs := (s.raiseCause m c code).cvs
    pwr := (s.raiseCause m c code).pwr
    pol := (s.raiseCause m c code).pol
    conns := (s.raiseCause m c code).conns
    buses := (s.raiseCause m c code).buses
    freeCtr := (s.raiseCause m c code).freeCtr } := by
  obtain ⟨r, hd⟩ := h.decide_scope hc m
  refine ⟨r, ?_⟩
  rw [h.raiseCause_eq, dropOutputs_scope, payFrame_scope, hd]
  simp [Tab.upd, tellsHdv, drives, leased]

theorem State.Undemanded.raiseCause_get (m : Model) : ∃ r,
    (s.raiseCause m c code).lv.get c = ({ s.decided m c code with req := r } : Lv).paid (s.tellsHdv m c) := by
  obtain ⟨r, ht⟩ := h.raiseCause_scope hc m
  refine ⟨r, ?_⟩
  rw [congrArg State.lv ht, Tab.get_put_same]

theorem State.Undemanded.raiseCause_buses (m : Model) (hb : (s.decided m c code).tqFrame = false ∨ s.drives = false) :
    (s.raiseCause m c code).buses = s.buses := by
  obtain ⟨r, hd⟩ := h.decide_scope hc m
  rw [h.raiseCause_eq, dropOutputs_scope]
  change ((s.decide_ m c [code]).payFrame m c).buses = s.buses
  generalize s.decide_ m c [code] = u at hd
  have hf : (u.lv.get c).tqFrame = (s.decided m c code).tqFrame := by
    rw [hd]
    simp
  have hr : u.drives = s.drives := by
    rw [hd]
    rfl
  have hu : u.buses = s.buses := by rw [hd]
  exact (payFrame_buses (by rwa [hf, hr])).trans hu

/-- The demand has started as R331 to R336 give it, and no mode changes. -/
theorem State.Undemanded.raiseCause_demanded {m : Model} (hm : s.model = some m) (hf : (s.lv.get c).tqFrame = false) :
    s.Demanded (s.raiseCause m c code) c code ∧ (s.raiseCause m c code).modes = s.modes := by
  obtain ⟨r, ht⟩ := h.raiseCause_scope hc m
  obtain ⟨q, hg⟩ := h.raiseCause_get hc m
  refine ⟨⟨?_, ?_, fun b hb => ?_, fun ho hs => ?_, fun ho hs hi => ?_, ?_, fun d hd => ?_, ?_⟩, ?_⟩
  · rw [hg, decided_scope]
    exact ⟨rfl, rfl⟩
  · rw [hg, decided_scope]
    exact ⟨rfl, rfl, rfl, rfl, rfl, rfl, rfl⟩
  · rw [hg, decided_scope]
    exact rowCauses_trip hc b (tripBit_lt hb) hb
  · obtain ⟨h1, h2, h3, h4, h5, h6, h7⟩ : (s.decided m c code).torqueOff = true ∧ _ :=
      actDemand_removes (m.hoists.get c) (l := (s.lv.get c).demandedBy s.tick.t0 code) rfl rfl ho
        (hs.imp id fun hi => by simp [Lv.demandedBy, hi])
    rw [hg]
    refine ⟨h1, h2, h3, h4, h5, ?_, fun hr => h.raiseCause_buses hc m (.inr hr)⟩
    simp only [Lv.paid, decided, h6, h7, hm, tellsHdv, Bool.true_and, Bool.or_false, Option.bind_some]
  · have hd : s.decided m c code = { (s.lv.get c).demandedBy s.tick.t0 code with mstop := true } :=
      actDemand_stops (m.hoists.get c) rfl ho hs (by simp [Lv.demandedBy, hi])
    rw [hg, h.raiseCause_buses hc m (.inl (by rw [hd]; exact hf)), hd]
    exact ⟨rfl, ho, rfl, rfl, rfl, rfl⟩
  · rw [hg, decided_scope]
    exact ⟨rfl, rfl, rfl⟩
  · rw [ht]
    exact Tab.get_put_ne _ _ hd.symm
  · rw [ht]
    exact ⟨rfl, rfl, rfl, rfl, rfl, rfl, rfl, rfl⟩
  · rw [ht]

theorem State.Undemanded.raiseCause_sources (m : Model) :
    ((s.raiseCause m c code).lv.get c).locks = (s.lv.get c).locks ∧ ((s.raiseCause m c code).lv.get c).stopD = (s.lv.get c).stopD ∧
      ((s.raiseCause m c code).lv.get c).inspD = (s.lv.get c).inspD ∧
      ((s.raiseCause m c code).lv.get c).discreps = (s.lv.get c).discreps := by
  obtain ⟨r, hg⟩ := h.raiseCause_get hc m
  rw [hg, decided_scope]
  exact ⟨rfl, rfl, rfl, rfl⟩

end

/-- A service hold on a levee cause sets its own two fields and the mode's hold. -/
theorem State.serviceHold_scope (s : State) (c : Fin 16) {cause : Nat} (h : cause ≠ 0xF1) : s.serviceHold c cause = { s with
    modes := s.modes.put c { s.modes.get c with hold := true }
    lv := s.lv.put c { s.lv.get c with
      hold := true
      holdCause := if (s.lv.get c).holdCause = 0x0A then 0x0A else BitVec.ofNat 8 cause } } := by
  unfold serviceHold
  simp only [h, if_false]
  rfl

/-- The service hold leaves the demand as it started. -/
theorem State.Demanded.serviceHold {s t : State} {c : Fin 16} {code : Nat} (h : s.Demanded t c code) {cause : Nat} (hc : cause ≠ 0xF1) :
    s.Demanded (t.serviceHold c cause) c code := by
  obtain ⟨h1, h2, h3, h4, h5, h6, h7, h8⟩ := h
  rw [serviceHold_scope t c hc]
  refine ⟨?_, ?_, ?_, ?_, ?_, ?_, fun d hd => (Tab.get_put_ne _ _ hd.symm).trans (h7 d hd), h8⟩ <;> simp only [Tab.get_put_same]
  exacts [h1, h2, h3, h4, h5, h6]

/-! A discrepancy latches its source. -/

/-- A levee that has latched and counted a source's discrepancy (R326). -/
def Lv.discrepant (k : DualSource) (l : Lv) : Lv :=
  { setDual l { (dualOf l k).1 with latched := true, sawDem := false, sawNon := false } k with discreps := l.discreps + 1 }

theorem Lv.discrepant_scope (k : DualSource) (l : Lv) : l.discrepant k = { l with
    locks := (l.discrepant k).locks, stopD := (l.discrepant k).stopD, inspD := (l.discrepant k).inspD, discreps := l.discreps + 1 } := by
  cases k <;> rfl

theorem Lv.discrepant_latched (k : DualSource) (l : Lv) : (dualOf (l.discrepant k) k).1.latched = true := by
  cases k <;> simp [discrepant, dualOf, setDual]

theorem dualOf_congr {l l' : Lv} (h1 : l.locks = l'.locks) (h2 : l.stopD = l'.stopD) (h3 : l.inspD = l'.inspD) (k : DualSource) :
    dualOf l k = dualOf l' k := by
  cases k <;> simp only [dualOf, h1, h2, h3]

section
variable {s t : State} {c : Fin 16} {k : DualSource}

theorem State.Undemanded.discrepant (h : s.Undemanded c) : (s.updLv c (Lv.discrepant k)).Undemanded c := by
  obtain ⟨hc, hd, ht⟩ := h
  constructor <;> rw [updLv_get, Lv.discrepant_scope]
  exacts [hc, hd, ht]

/-- A demand that starts from the latched source starts as from before it. -/
theorem State.Demanded.of_discrepant {code : Nat} (h : (s.updLv c (Lv.discrepant k)).Demanded t c code) : s.Demanded t c code := by
  obtain ⟨h1, h2, h3, h4, h5, h6, h7, h8⟩ := h
  rw [updLv_get, Lv.discrepant_scope] at h2 h4 h5 h6
  exact ⟨h1, h2, h3, h4, h5, h6, fun d hd => (h7 d hd).trans (updLv_others s _ hd), h8⟩

theorem State.discrepancy_latches {m : Model} (hm : s.model = some m)
    (hd : discT0 m c (dualOf (s.lv.get c) k).2 < (dualOf (s.lv.get c) k).1.disagree) (hl : (dualOf (s.lv.get c) k).1.latched = false) :
    s.discrepancy c k = (s.updLv c (Lv.discrepant k)).raiseCause m c 0x51 := by
  unfold discrepancy
  rw [hm]
  exact if_pos ((Bool.and_eq_true _ _).mpr ⟨decide_eq_true hd, congrArg not hl⟩)

end

/-! The rows, of a car that owes no torque-removal frame. -/

section
variable {s : State} {m : Model} {c : Fin 16} (hm : s.model = some m) (h : s.Undemanded c) (hf : (s.lv.get c).tqFrame = false)
include hm h hf

theorem xchkFail_demands (hx : 8 ≤ (s.lv.get c).xRun) :
    ∃ t, exec (.xchkFail c) s = .next t ∧ s.Demanded t c 0x03 ∧ t.modes = s.modes := by
  have e : s.xchkFail c = s.raiseCause m c 0x03 := by simp [State.xchkFail, hm, hx, h.causes]
  exact ⟨_, congrArg Host.Outcome.next e, h.raiseCause_demanded (by decide) hm hf⟩

theorem overspeed_demands (ho : 2 ≤ (s.lv.get c).osRun) :
    ∃ t, exec (.overspeed c) s = .next t ∧ s.Demanded t c 0x30 ∧ t.modes = s.modes := by
  have e : s.overspeed c = s.raiseCause m c 0x30 := by simp [State.overspeed, hm, ho, h.causes]
  exact ⟨_, congrArg Host.Outcome.next e, h.raiseCause_demanded (by decide) hm hf⟩

/-- A cause that holds the car besides. -/
theorem State.Undemanded.raiseCause_holds {code : Nat} (hc : code ∈ rowCauses) (h1 : code ≠ 0xF1) :
    s.Demanded ((s.raiseCause m c code).serviceHold c code) c code ∧
      (((s.raiseCause m c code).serviceHold c code).lv.get c).hold = true ∧
      ((s.raiseCause m c code).serviceHold c code).modes = s.modes.put c { s.modes.get c with hold := true } := by
  obtain ⟨hd, hmodes⟩ := h.raiseCause_demanded hc hm hf
  refine ⟨hd.serviceHold h1, ?_, ?_⟩ <;> rw [State.serviceHold_scope _ c h1]
  · rw [Tab.get_put_same]
  · rw [hmodes]

theorem contactorFbTimeout_demands (hw : (s.lv.get c).wMc.due = true) :
    ∃ t, exec (.contactorFbTimeout c) s = .next t ∧ s.Demanded t c 0x06 ∧ (t.lv.get c).hold = true ∧
      t.modes = s.modes.put c { s.modes.get c with hold := true } := by
  have e : s.contactorFbTimeout c = (s.raiseCause m c 0x06).serviceHold c 0x06 := by simp [State.contactorFbTimeout, hm, hw, h.causes]
  exact ⟨_, congrArg Host.Outcome.next e, h.raiseCause_holds hm hf (by decide) (by decide)⟩

theorem brakeFbTimeout_demands (k : Fin 2) (hw : (if k = 0 then (s.lv.get c).wBrk1 else (s.lv.get c).wBrk2).due = true) :
    ∃ t, exec (.brakeFbTimeout c k) s = .next t ∧ s.Demanded t c 0x05 ∧ (t.lv.get c).hold = true ∧
      t.modes = s.modes.put c { s.modes.get c with hold := true } := by
  have e : s.brakeFbTimeout c k = (s.raiseCause m c 0x05).serviceHold c 0x05 := by simp [State.brakeFbTimeout, hm, hw, h.causes]
  exact ⟨_, congrArg Host.Outcome.next e, h.raiseCause_holds hm hf (by decide) (by decide)⟩

theorem discrepancy_demands (k : DualSource) (hd : discT0 m c (dualOf (s.lv.get c) k).2 < (dualOf (s.lv.get c) k).1.disagree)
    (hl : (dualOf (s.lv.get c) k).1.latched = false) :
    ∃ t, exec (.discrepancy c k) s = .next t ∧ s.Demanded t c 0x51 ∧ (dualOf (t.lv.get c) k).1.latched = true ∧
      (t.lv.get c).discreps = (s.lv.get c).discreps + 1 ∧ t.modes = s.modes := by
  have hu : (s.updLv c (Lv.discrepant k)).Undemanded c := h.discrepant
  have hf' : ((s.updLv c (Lv.discrepant k)).lv.get c).tqFrame = false := by
    rw [State.updLv_get, Lv.discrepant_scope]
    exact hf
  obtain ⟨hdem, hmodes⟩ := hu.raiseCause_demanded (code := 0x51) (by decide) hm hf'
  obtain ⟨h1, h2, h3, h4⟩ := hu.raiseCause_sources (code := 0x51) (by decide) m
  refine ⟨_, congrArg Host.Outcome.next (State.discrepancy_latches hm hd hl), hdem.of_discrepant, ?_, ?_, hmodes⟩
  · rw [dualOf_congr h1 h2 h3, State.updLv_get]
    exact Lv.discrepant_latched ..
  · rw [h4, State.updLv_get, Lv.discrepant_scope]

end

/-- STO_MISSING, owed frame or not. -/
theorem stoMissing_holds {s : State} {m : Model} {c : Fin 16} {i : Nat} (hm : s.model = some m) (hi : m.node? c .hdv = some i)
    (ho : (s.lv.get c).torqueOff = true) (hs : (s.lv.get c).tqSent = true) (hn : (s.lv.get c).stoSeen = false)
    (hr : (s.lv.get c).stoRaised = false) (ha : 16 ≤ (s.lv.get c).tqAge) : ∃ n : State,
    n = State.raise { s with lv := s.lv.put c { s.lv.get c with stoRaised := true } } (0xE0 + c.val) 2 2 (BitVec.ofNat 32 i) 0 ∧
      exec (.stoMissing c) s = .next (n.serviceHold c 0xE2) := by
  have hnode : ((s.model.bind fun m => m.node? c .hdv).getD 0) = i := by simp [hm, hi]
  refine ⟨_, rfl, congrArg Host.Outcome.next ((if_pos (by simp [ho, hs, hn, hr, ha])).trans ?_)⟩
  dsimp only [State.updLv_model]
  rw [hnode]
  rfl

end Sys2Proof.Machine
end

section
/-! No frame stays owed (10 R336): the levee's work of a T0 ends with the frames it owes, and so does a cause raised by a row. -/

namespace Sys2Proof.Machine

open State

theorem State.sendTorqueOff_pays (s : State) (m : Model) (c : Fin 16) : ((s.sendTorqueOff m c).lv.get c).tqFrame = false := by
  rw [sendTorqueOff_scope, Tab.get_upd_same]

theorem State.sendSafety_lv (s : State) (m : Model) (i ftype : Nat) (payload : List Byte) (cyclic : Bool) :
    (s.sendSafety m i ftype payload cyclic).lv = s.lv := by
  rw [sendSafety_scope]

theorem State.sendSync_lv (s : State) (m : Model) (c : Fin 16) : (s.sendSync m c).lv = s.lv :=
  each_keeps s (·.lv) _ (fun t i => t.sendSafety_lv m i 0x12 [] true) _

theorem State.lvFrames_pays (s : State) (m : Model) (c : Fin 16) : ((s.lvFrames m c).lv.get c).tqFrame = false := by
  unfold lvFrames
  extract_lets inSlot l t byHdv
  have ht : (t.lv.get c).tqFrame = false := by
    unfold t
    split
    · exact sendTorqueOff_pays ..
    · next h => simp_all [l]
  clear_value t
  split
  · exact ht
  · split
    · exact ht
    · extract_lets u
      have hu : u.lv = t.lv := by
        unfold u
        split
        · exact sendSafety_lv ..
        · rfl
      clear_value u
      split
      · rw [updTw_lv, sendSync_lv, hu]
        exact ht
      · rw [hu]
        exact ht

theorem State.Undemanded.raiseCause_pays {s : State} {c : Fin 16} (h : s.Undemanded c) {code : Nat} (hc : code ∈ rowCauses) (m : Model) :
    ((s.raiseCause m c code).lv.get c).tqFrame = false := by
  obtain ⟨r, hg⟩ := h.raiseCause_get hc m
  exact congrArg Lv.tqFrame hg

end Sys2Proof.Machine
end

section
/-! A cause that comes while a torque-removal frame is still owed (10 R331, R336). -/

namespace Sys2Proof.Machine

open State

/-- A moving car of a module in service, eight T0 over the cross-check's limit and with a torque-removal frame still owed. -/
def State.frameOwed : State := State.small.updLv 0 fun l => { l with xRun := 8, tqFrame := true }

theorem State.frameOwed_undemanded : State.frameOwed.Undemanded 0 := ⟨rfl, rfl, rfl⟩

/-- The cause begins the monitored stop, which keeps the torque; yet the owed frame is listed on the HDV's bus. -/
theorem State.frameOwed_xchkFail : ((State.frameOwed.xchkFail 0).buses.get 0).tx.length = 1 := by decide +kernel

/-- Refutes O37: the statement leaves out that no torque-removal frame is owed. In `State.frameOwed` XCHK_FAIL begins the monitored stop of
a car that keeps its torque, but the command also sends the owed frame, so that the buses change. The levee leaves no
frame owed at the end of its work (`State.lvFrames_pays`); of a car that owes none, `xchkFail_demands` and the theorems beside it give each
clause as stated. -/
theorem not_leveeCausesStartADemand : ¬ Obligations.LeveeCausesStartADemand := by
  rintro ⟨hx, -⟩
  obtain ⟨t, e, hd, -⟩ := hx State.frameOwed Model.small 0 rfl State.frameOwed_undemanded (by decide)
  have et : t = State.frameOwed.xchkFail 0 := (Host.Outcome.next.inj e).symm
  obtain ⟨-, -, -, -, -, hb⟩ := hd.stop rfl rfl rfl
  have hn := State.frameOwed_xchkFail
  rw [← et, hb] at hn
  revert hn
  decide

end Sys2Proof.Machine
end

section
/-! The reports and the JOIN of a node (11 R378 to R380, R382, R386, R387): from the frame that reaches the node to what its connection keeps. -/

namespace Sys2Proof.Machine

open State

/-- The count of a computed CRC changes the check-value channels alone (16 R551). -/
theorem State.countCv_scope (s : State) (n : Fin 12) (res : Except Rej Conn) : s.countCv n res = { s with cvs := (s.countCv n res).cvs } := by
  unfold countCv
  split
  · rfl
  · rfl
  · rw [useCv_scope]
  · rw [useCv_scope]

/-- A change of a connection after that count changes the connections and the check-value channels alone. -/
theorem State.updConn_countCv_scope (s : State) (n : Fin 12) (res : Except Rej Conn) (i : Nat) (f : Conn → Conn) :
    (s.countCv n res).updConn i f = { s with conns := s.conns.modify i f, cvs := (s.countCv n res).cvs } := by
  rw [countCv_scope]
  rfl

section report
variable {s t : State} {fr : Frame} {m : Model} {i : Nat} {r : NodeRec} {c : Conn} (h : s.Reaches t fr 2 m i r c)
include h

theorem State.Reaches.tick_eq : t.tick = s.tick := by
  obtain ⟨b, rfl⟩ := hear_eq h.heard
  rfl

/-- JOIN is answered by the module that has it in ACTIVE or in standalone role: hearing it changes neither. -/
theorem State.Reaches.answers_iff : (t.mod = .active ∨ t.seals.role = 3) ↔ (s.mod = .active ∨ s.seals.role = 3) := by
  obtain ⟨b, rfl⟩ := hear_eq h.heard
  rfl

/-- A report of the node's class whose checks pass restarts the connection, and its source values are taken. -/
theorem State.Reaches.onReport_ok {k : NodeClass} {ftype plen : Nat} {a : Conn} (g : BitVec 32 → List Byte → NodeData → NodeData)
    (hk : reportType k = some (ftype, plen)) (hcls : r.cls = k) (hok : t.checkSafety r c fr ftype plen false = .ok a) :
    s.onReport fr k g = { t with
      conns := t.conns.modify i fun _ =>
        { a.accept fr.sof with data := g s.tick.t0 (slice fr.data 20 plen) (a.accept fr.sof).data }
      cvs := (t.countCv fr.bus (.ok a)).cvs } := by
  refine (h.onPrivileged rfl _).trans ?_
  simp only [hk, Option.getD_some, if_pos hcls, hok]
  rw [updConn_countCv_scope, countCv_scope]
  simp only [h.tick_eq]

/-- A report of the node's class that fails a check is counted under that check. -/
theorem State.Reaches.onReport_error {k : NodeClass} {ftype plen : Nat} {e : Rej} (g : BitVec 32 → List Byte → NodeData → NodeData)
    (hk : reportType k = some (ftype, plen)) (hcls : r.cls = k) (herr : t.checkSafety r c fr ftype plen false = .error e) :
    s.onReport fr k g = { t with conns := t.conns.modify i (·.reject e), cvs := (t.countCv fr.bus (.error e)).cvs } := by
  refine (h.onPrivileged rfl _).trans ?_
  simp only [hk, Option.getD_some, if_pos hcls, herr]
  exact updConn_countCv_scope ..

/-- A JOIN that passes checks 1 to 4 counts as received, and its nonce waits for the answer of a module that answers. -/
theorem State.Reaches.join_ok {a : Conn} (hok : t.checkSafety r c fr 0x02 8 true = .ok a) :
    s.join fr = { t with
      conns := t.conns.modify i fun c => { c with
        rxOk := c.rxOk + 1
        joinNonce := if s.mod = .active ∨ s.seals.role = 3 then some (slice fr.data 20 8) else c.joinNonce }
      cvs := (t.countCv fr.bus (.ok a)).cvs } := by
  refine (h.onPrivileged rfl _).trans ?_
  simp only [hok]
  rw [updConn_countCv_scope, countCv_scope]
  simp only [Bool.or_eq_true, decide_eq_true_eq, h.answers_iff]

end report

/-- Settles O32: each report through its checks to its connection. That a JOIN counts in SF_RX.OK is log 89's choice. -/
theorem nodeReportsAreTaken : Obligations.NodeReportsAreTaken :=
  ⟨fun _ _ _ _ _ _ _ _ h hcls hok => ⟨_, congrArg Host.Outcome.next (h.onReport_ok _ rfl hcls hok), rfl, rfl⟩,
    fun _ _ _ _ _ _ _ _ h hcls hok => ⟨_, congrArg Host.Outcome.next (h.onReport_ok _ rfl hcls hok), rfl, rfl⟩,
    fun _ _ _ _ _ _ _ _ h hcls hok => ⟨_, congrArg Host.Outcome.next (h.onReport_ok _ rfl hcls hok), rfl, rfl⟩,
    fun _ _ _ _ _ _ _ _ h hok => ⟨_, congrArg Host.Outcome.next (h.join_ok hok), rfl, rfl⟩,
    fun _ _ _ _ _ _ _ _ h hcls herr => ⟨_, congrArg Host.Outcome.next (h.onReport_error _ rfl hcls herr), rfl, rfl⟩⟩

end Sys2Proof.Machine
end

section
/-! The witness and what it tells (15 R506, R507): a witness frame through its checks to its receiver, the answer to a request, the
release of a claim and WIT_STATUS. -/

namespace Sys2Proof.Machine

open State

section passes
variable {s t n : State} {fr : Frame} {addr ftype plen i : Nat} {m : Model} {r : NodeRec} {c₀ c : Conn}
  (h : s.WitPasses t n fr addr ftype plen i m r c₀ c)
include h

/-- A witness frame that passes is taken by what its receiver does in the state that has accepted it. -/
theorem State.WitPasses.onWit (act : State → State) : s.onWit fr addr ftype plen act = act n := by
  obtain ⟨hheard, hm, hroom, ⟨hbus, hext, hident⟩, hwit, hnode, hconn, hcheck, rfl⟩ := h
  simp only [State.onWit, hheard, hm, hroom, hwit, hnode, hconn, Option.bind_some, Option.map_some, hcheck]
  rw [updConn_countCv_scope]
  simp [hext, hident, Nat.not_le.mpr hbus]

/-- Its identifier names the sender's WIT address. -/
theorem State.WitPasses.slot_eq : fr.ident.toNat - 0x1F0 = addr := by
  rw [h.form.2.2, Nat.add_sub_cancel_left]

end passes

/-! The answer to a request (R507). -/

/-- A renewal that the witness takes: the holder's own claim, or the first after a restart, of an epoch of the reserved block. -/
abbrev Wit.Renews (w : Wit) (k : Nat) (held : BitVec 32) : Prop :=
  w.holder = k ∧ held = w.hclaim ∨ w.holder = 0 ∧ w.granted = false ∧ w.bound < held.toNat / 256 + 16 ∧
    held.toNat / 256 ≤ w.bound ∧ held.toNat % 256 = k

/-- The witness after a new grant to a slot: the next epoch, with a further block reserved when it passes the bound. -/
def Wit.grant (w : Wit) (k : Nat) (z : Int) : Wit :=
  { w with
    epoch := w.epoch + 1
    bound := if w.bound < w.epoch + 1 then w.epoch + 1 + 15 else w.bound
    holder := k
    hclaim := BitVec.ofNat 32 ((w.epoch + 1) * 256 + k)
    exp := z + 16000
    granted := true }

section answer
variable {w : Wit} {kind k : Nat} {held : BitVec 32} {z : Int}

theorem witAnswer_quiet (hz : z < w.quiet) : witAnswer w kind k held z = (3, w) := if_pos hz

/-- Past the quiet time a request is a renewal, a new grant or HELD. -/
theorem witAnswer_awake (hz : w.quiet ≤ z) : witAnswer w kind k held z =
    if kind = 2 ∧ w.Renews k held then (1, { w with holder := k, hclaim := held, exp := z + 16000 })
    else if kind = 1 ∧ (w.holder = 0 ∨ w.exp ≤ z) then if w.epoch = 0xFFFFFF then (4, w) else (0, w.grant k z)
    else (2, w) := by
  simp [witAnswer, Wit.grant, Int.not_lt.mpr hz, and_assoc]

theorem Wit.not_renews (hk : w.holder = k → held ≠ w.hclaim) (h0 : w.holder = 0 → w.granted = true ∨ held.toNat / 256 + 16 ≤ w.bound ∨
    w.bound < held.toNat / 256 ∨ held.toNat % 256 ≠ k) : ¬ w.Renews k held := by
  rintro (⟨h, hh⟩ | ⟨h, hg, hb, he, hs⟩)
  · exact hk h hh
  · rcases h0 h with hg' | hb' | he' | hs'
    · exact absurd (hg.symm.trans hg') (by decide)
    · omega
    · omega
    · exact hs' hs

theorem witAnswer_renewal (hz : w.quiet ≤ z) (h : w.Renews k held) :
    witAnswer w 2 k held z = (1, { w with holder := k, hclaim := held, exp := z + 16000 }) :=
  (witAnswer_awake hz).trans (if_pos ⟨rfl, h⟩)

theorem witAnswer_grant (hz : w.quiet ≤ z) (h : w.holder = 0 ∨ w.exp ≤ z) :
    witAnswer w 1 k held z = if w.epoch = 0xFFFFFF then (4, w) else (0, w.grant k z) :=
  (witAnswer_awake hz).trans ((if_neg fun h => absurd h.1 (by decide)).trans (if_pos ⟨rfl, h⟩))

theorem witAnswer_held (hz : w.quiet ≤ z) (h1 : kind = 1 → w.holder ≠ 0 ∧ z < w.exp) (h2 : kind = 2 → ¬ w.Renews k held) :
    witAnswer w kind k held z = (2, w) := by
  refine (witAnswer_awake hz).trans ((if_neg fun h => h2 h.1 h.2).trans (if_neg ?_))
  rintro ⟨hk, h0 | he⟩
  · exact (h1 hk).1 h0
  · exact absurd (h1 hk).2 (Int.not_lt.mpr he)

end answer

/-! What the witness does with a frame that passes (R507). -/

section frames
variable {s t n : State} {fr : Frame} {k i : Nat} {m : Model} {r : NodeRec} {c₀ c : Conn} (hmod : s.mod = .witness) (hk : k = 1 ∨ k = 2)
include hmod hk

/-- What a request and a release ask first: the module is the witness, the sender slot 1 or 2. -/
theorem State.witness_guard : ¬ (decide (s.mod ≠ .witness) || !(decide (k = 1) || decide (k = 2))) = true := by
  rcases hk with rfl | rfl <;> simp [hmod]

/-- A request that names the sender's own slot is answered to it, and EXHAUSTED is reported with class F. -/
theorem State.witnessLeaseReq_answers (h : s.WitPasses t n fr k 0x30 8 i m r c₀ c) (hslot : fld (slice fr.data 20 8) 1 1 = k)
    {z : Int} (hz : z = diff32 fr.sof n.stamp) {res : Nat} {w : Wit}
    (hw : (res, w) = witAnswer n.tw.wit (fld (slice fr.data 20 8) 0 1) k (BitVec.ofNat 32 (fld (slice fr.data 20 8) 4 4)) z) {u : State}
    (hu : u = State.answerModule { n with tw := { n.tw with wit := w } } k w.hclaim (leBytes 1 res ++ leBytes 1 k ++ slice fr.data 2 2 ++
      leBytes 4 w.hclaim.toNat ++ leBytes 2 (clamp (w.exp - z) 0 65535).toNat ++ [0, 0])) :
    s.witnessLeaseReq fr = if res = 4 then u.raise 0xA3 5 3 0 w.epoch else u := by
  subst hz hu
  simp only [witnessLeaseReq, h.slot_eq, h.onWit, ← hw]
  exact (if_neg (witness_guard hmod hk)).trans (if_neg (not_not_intro hslot))

theorem State.witnessLeaseReq_stranger (h : s.WitPasses t n fr k 0x30 8 i m r c₀ c) (hslot : fld (slice fr.data 20 8) 1 1 ≠ k) :
    s.witnessLeaseReq fr = n := by
  simp only [witnessLeaseReq, h.slot_eq, h.onWit]
  exact (if_neg (witness_guard hmod hk)).trans (if_pos hslot)

/-- A release leaves no holder when it is the holder's, for the claim it holds. -/
theorem State.witnessLeaseRel_eq (h : s.WitPasses t n fr k 0x32 4 i m r c₀ c) : s.witnessLeaseRel fr =
    if n.tw.wit.holder = k ∧ fld fr.data 20 4 = n.tw.wit.hclaim.toNat then
      { n with tw := { n.tw with wit := { n.tw.wit with holder := 0 } } }
    else n := by
  simp only [witnessLeaseRel, h.slot_eq, h.onWit]
  refine (if_neg (witness_guard hmod hk)).trans ?_
  by_cases hr : n.tw.wit.holder = k ∧ fld fr.data 20 4 = n.tw.wit.hclaim.toNat <;> simp [hr, updTw]

end frames

/-! WIT_STATUS (R506). -/

theorem State.sendWit_scope (s : State) (m : Model) (i ftype : Nat) (claim : BitVec 32) (payload : List Byte) :
    s.sendWit m i ftype claim payload = { s with
      conns := (s.sendWit m i ftype claim payload).conns
      cvs := (s.sendWit m i ftype claim payload).cvs
      buses := (s.sendWit m i ftype claim payload).buses
      hi := (s.sendWit m i ftype claim payload).hi
      freeCtr := (s.sendWit m i ftype claim payload).freeCtr } := by
  unfold sendWit
  split
  · refine each_inv _ (fun t => t = { s with conns := t.conns, cvs := t.cvs, buses := t.buses, hi := t.hi, freeCtr := t.freeCtr }) _
      (fun t n h => ?_) _ rfl
    split
    · rw [send, queue_scope, useCv_scope, h]
    · rw [useCv_scope, h]
  · rfl

/-- A witness frame takes the next SEQ of the connection it is sent on and changes no other. -/
theorem State.sendWit_conns {s : State} {m : Model} {i : Nat} {r : NodeRec} {c : Conn} (hr : m.nodes[i]? = some r)
    (hc : s.conns[i]? = some c) (ftype : Nat) (claim : BitVec 32) (payload : List Byte) :
    (s.sendWit m i ftype claim payload).conns = s.conns.modify i fun _ => { c with seqTx := c.seqTx + 1, sent := true } := by
  simp only [sendWit, hr, hc]
  refine each_keeps _ (·.conns) _ (fun t n => ?_) _
  split
  · rw [send, queue_scope, useCv_scope]
  · rw [useCv_scope]

/-- The claim that WIT_STATUS tells. -/
def Wit.toldClaim (w : Wit) : BitVec 32 := if w.holder = 0 then 0 else w.hclaim

/-- The payload of WIT_STATUS. -/
def Wit.told (w : Wit) : List Byte := leBytes 1 w.holder ++ [0, 0, 0] ++ leBytes 4 w.toldClaim.toNat

/-- In every sixteenth T0 the witness tells its two modules, one after the other. -/
theorem State.witStatusSend_tells {s : State} {m : Model} {i j : Nat} (hmod : s.mod = .witness) (ht : s.tick.t0.toNat % 16 = 0)
    (hm : s.model = some m) (hi : m.wit? 1 = some i) (hj : m.wit? 2 = some j) : s.witStatusSend =
      (s.sendWit m i 0x33 s.tw.wit.toldClaim s.tw.wit.told).sendWit m j 0x33 s.tw.wit.toldClaim s.tw.wit.told := by
  simp only [witStatusSend, hmod, ht, hm, each_cons, each_nil, hi, hj]
  rfl

/-- A module takes the holder and the claim that the witness tells. -/
theorem State.witStatusRx_takes {s t n : State} {fr : Frame} {i : Nat} {m : Model} {r : NodeRec} {c₀ c : Conn} (hrole : s.twinRole = true)
    (h : s.WitPasses t n fr 0 0x33 8 i m r c₀ c) : s.witStatusRx fr =
      n.updTw fun t => { t with holderSlot := byteAt fr.data 20, holderClaim := BitVec.ofNat 32 (fld fr.data 24 4) } := by
  simp [witStatusRx, hrole, h.onWit]

/-- Settles O59: a request, a release and WIT_STATUS each through their checks to what the witness or the module does. -/
theorem theWitnessGrantsOneHolder : Obligations.TheWitnessGrantsOneHolder := by
  refine ⟨?request, fun _ _ _ _ _ => witAnswer_quiet, fun _ _ _ _ => witAnswer_renewal, fun _ _ _ _ => witAnswer_grant, ?held, ?stranger,
    fun s fr hmod => ?elsewhere, ?release, ?other, ?status,
    fun s t n fr m i r c₀ c hrole h => congrArg Host.Outcome.next (witStatusRx_takes hrole h)⟩
  case request =>
    intro s t n fr m k i r c₀ c z hmod hk h hslot hz
    exact ⟨_, _, _, rfl, rfl, congrArg Host.Outcome.next (witnessLeaseReq_answers hmod hk h hslot hz rfl rfl)⟩
  case held =>
    intro w kind k held z hz h1 h2
    exact witAnswer_held hz h1 fun hkind => Wit.not_renews (h2 hkind).1 (h2 hkind).2
  case stranger =>
    intro s t n fr m k i r c₀ c hmod hk h hslot
    exact congrArg Host.Outcome.next (witnessLeaseReq_stranger hmod hk h hslot)
  case elsewhere =>
    refine ⟨congrArg Host.Outcome.next (if_pos ?_), congrArg Host.Outcome.next (if_pos ?_), congrArg Host.Outcome.next (if_pos ?_)⟩
    all_goals simp [hmod]
  case release =>
    intro s t n fr m k i r c₀ c hmod hk h hholder hclaim
    exact congrArg Host.Outcome.next ((witnessLeaseRel_eq hmod hk h).trans (if_pos ⟨hholder, hclaim⟩))
  case other =>
    intro s t n fr m k i r c₀ c hmod hk h hnot
    exact congrArg Host.Outcome.next ((witnessLeaseRel_eq hmod hk h).trans (if_neg (not_and_or.mpr hnot)))
  case status =>
    intro s m i j a b c d hmod ht hm hi hj hij ha hb hc hd
    have hfst := sendWit_conns ha hc 0x33 s.tw.wit.toldClaim s.tw.wit.told
    have hd' : (s.sendWit m i 0x33 s.tw.wit.toldClaim s.tw.wit.told).conns[j]? = some d := by simp [hfst, hij, hd]
    have hsnd := sendWit_conns hb hd' 0x33 s.tw.wit.toldClaim s.tw.wit.told
    refine ⟨_, congrArg Host.Outcome.next (witStatusSend_tells hmod ht hm hi hj), ?_, ?_, ?_⟩
    · rw [sendWit_scope, sendWit_scope s]
    · simp [hsnd, hfst, hij.symm, hc]
    · simp [hsnd, hd']

end Sys2Proof.Machine
end

section
/-! The supervisor (17): the supply voltage, the temperatures, recovery and parked groups; one step of the block (log 3). -/

namespace Sys2Proof.Machine

open State

/-- Settles O1: both sides are the definition of a step. -/
theorem stepRunsFrontCommandOrIdles : Obligations.StepRunsFrontCommandOrIdles := by
  refine ⟨fun c s => rfl, fun s h => ?_⟩
  simp only [step, h]

/-! VIN (R552). -/

section vin
variable {s : State} {mv : Nat}

/-- A voltage that VIN_FAULT reports is outside the window of VIN_OK. -/
theorem State.setVin_bad (hv : mv < 19000 ∨ 32000 < mv) :
    s.setVin mv = { s with pwr := { s.pwr with vinMv := BitVec.ofNat 16 mv, vinOk := false } } := by
  have h : (decide (19200 ≤ mv) && decide (mv ≤ 30000)) = false := by
    simp only [Bool.and_eq_false_iff, decide_eq_false_iff_not]
    omega
  simp only [setVin, updPwr, h]

/-- VIN_FAULT takes the voltage, and reports it once per T2 while the condition lasts. -/
theorem State.vinFault_eq (hp : s.pwr.pd0 = true) (hv : mv < 19000 ∨ 32000 < mv) : s.vinFault mv =
    if s.pwr.vinBad = true ∧ s.pwr.vinRepT2 = s.tick.t2 then
      { s with pwr := { s.pwr with vinMv := BitVec.ofNat 16 mv, vinOk := false } }
    else State.raise
      { s with pwr := { s.pwr with vinMv := BitVec.ofNat 16 mv, vinOk := false, vinBad := true, vinRepT2 := s.tick.t2 } }
      0xF2 1 2 (BitVec.ofNat 32 mv) 0 := by
  have hout : (!s.pwr.pd0 || decide (19000 ≤ mv) && decide (mv ≤ 32000)) = false := by
    simp only [hp, Bool.not_true, Bool.false_or, Bool.and_eq_false_iff, decide_eq_false_iff_not]
    omega
  simp only [vinFault, hout, setVin_bad hv, Bool.and_eq_true, decide_eq_true_eq]
  rfl

theorem State.vinRestored_eq (hp : s.pwr.pd0 = true) (hlo : 19200 ≤ mv) (hhi : mv ≤ 30000) : s.vinRestored mv =
    { s with pwr := { s.pwr with vinMv := BitVec.ofNat 16 mv, vinOk := true, vinBad := false } } := by
  simp [vinRestored, setVin, updPwr, hp, hlo, hhi]

end vin

/-- Settles O11: VIN_FAULT reports, or holds its peace within the T2; VIN_RESTORED ends the condition. -/
theorem vinExcursionsAreReported : Obligations.VinExcursionsAreReported := by
  refine ⟨fun s mv hp hv hnew => congrArg Host.Outcome.next ((vinFault_eq hp hv).trans (if_neg ?_)),
    fun s mv hp hv hbad hrep => congrArg Host.Outcome.next ((vinFault_eq hp hv).trans (if_pos ⟨hbad, hrep⟩)),
    fun s mv hp hlo hhi => congrArg Host.Outcome.next (vinRestored_eq hp hlo hhi)⟩
  rintro ⟨hbad, hrep⟩
  rcases hnew with h | h
  · exact absurd (hbad.symm.trans h) (by decide)
  · exact h hrep

/-! Temperatures (R572 to R574). -/

section temperature
variable {s : State} {x : Sensor} {v : Int}

theorem State.thermalWarn_eq (hp : s.pwr.pd0 = true) (hv : (if x = .base then 850 else 1100) < v) : s.thermalWarn x v = State.raise
    { s with pwr := { s.pwr with derate := true, die0 := (if x = .die0 then v else s.pwr.die0), die1 := (if x = .die1 then v else s.pwr.die1),
                                 base := (if x = .base then v else s.pwr.base) } }
    0xF2 2 1 (w32 v) (sensorCode x) := by
  refine (if_pos (by simp [hp, hv])).trans ?_
  cases x <;> rfl

theorem State.thermalTrip_eq (hp : s.pwr.pd0 = true) (hv : (if x = .base then 950 else 1250) < v) : s.thermalTrip x v = State.raise
    { s with pwr := { s.pwr with tripped := true, die0 := (if x = .die0 then v else s.pwr.die0), die1 := (if x = .die1 then v else s.pwr.die1),
                                 base := (if x = .base then v else s.pwr.base) } }
    0xF2 3 3 (w32 v) (sensorCode x) := by
  refine (if_pos (by simp [hp, hv])).trans ?_
  cases x <;> rfl

theorem State.derateOff_running (hd : s.pwr.derate = true) (hm : s.mod ≠ .boot) :
    s.derateOff = { s with pwr := { s.pwr with derate := false } } := by
  simp [derateOff, hd, hm, updPwr]

/-- A start-up that THERMAL_TRIP has halted starts again in the same BOOT. -/
theorem State.derateOff_halted (hm : s.mod = .boot) (hh : s.pwr.boot.halted = true) (ht : s.pwr.boot.hot = true) :
    s.derateOff = { State.reboot { s with pwr := { s.pwr with derate := false } } with fc := s.fc } := by
  simp [derateOff, hm, hh, ht, updPwr]

end temperature

/-- Settles O14: each sensor command takes its value and reports; derating ends, and with it the halt of a start-up (log 126's
resumption at step 3). -/
theorem temperature : Obligations.Temperature := by
  refine ⟨fun s x v hp hv => congrArg Host.Outcome.next ?_, fun s x v hp hv => congrArg Host.Outcome.next ?_,
    fun s hd hm => congrArg Host.Outcome.next (derateOff_running hd hm),
    fun s hm hh ht => ⟨_, congrArg Host.Outcome.next (derateOff_halted hm hh ht), rfl, rfl, rfl, rfl, rfl⟩⟩
  · rw [thermalWarn_eq hp hv]
    cases x <;> rfl
  · rw [thermalTrip_eq hp hv]
    cases x <;> rfl

/-! Recovery (R565). -/

theorem byteAt_pad (n : Nat) (bs : List Byte) (i : Nat) : byteAt (pad n bs) i = if i < n then byteAt bs i else 0 := by
  simp only [byteAt, pad, List.getD_eq_getElem?_getD, List.getElem?_take]
  split
  · by_cases h : i < bs.length
    · rw [List.getElem?_append_left h]
    · rw [List.getElem?_append_right (Nat.le_of_not_lt h), List.getElem?_eq_none (Nat.le_of_not_lt h), List.getElem?_replicate]
      split <;> rfl
  · rfl

theorem byteAt_append (a b : List Byte) (i : Nat) :
    byteAt (a ++ b) i = if i < a.length then byteAt a i else byteAt b (i - a.length) := by
  simp only [byteAt, List.getD_eq_getElem?_getD, List.getElem?_append]
  split <;> rfl

theorem byteAt_drop (n : Nat) (bs : List Byte) (i : Nat) : byteAt (bs.drop n) i = byteAt bs (n + i) := by
  simp only [byteAt, List.getD_eq_getElem?_getD, List.getElem?_drop]

/-- A window of `n` bytes put into an image at an offset. -/
theorem byteAt_window (o n : Nat) (img win : List Byte) (i : Nat) : byteAt (pad o img ++ pad n win ++ img.drop (o + n)) i =
    if o ≤ i ∧ i < o + n then byteAt win (i - o) else byteAt img i := by
  rw [List.append_assoc, byteAt_append, byteAt_append, byteAt_pad, byteAt_pad, byteAt_drop, pad_length, pad_length]
  by_cases ho : i < o
  · rw [if_pos ho, if_pos ho, if_neg (by omega)]
  · rw [if_neg ho]
    by_cases hn : i - o < n
    · rw [if_pos hn, if_pos hn, if_pos (by omega)]
    · rw [if_neg hn, if_neg (by omega)]
      congr 1
      omega

/-- Settles O15: START empties the image, a chunk is put at its offset, COMMIT answers the check of R563. -/
theorem recoveryTakesAnImage : Obligations.RecoveryTakesAnImage := by
  refine ⟨fun s hr => congrArg Host.Outcome.next (if_pos hr), fun s off hr hst => ⟨_, congrArg Host.Outcome.next (if_pos (by simp [hr, hst])), fun i =>
    byteAt_window off.toNat 4096 s.pwr.recImg s.pwr.recWin i⟩, fun s hr hst => congrArg Host.Outcome.next ((if_pos (by simp [hr, hst])).trans ?_)⟩
  cases fwCode s.pwr.minSec s.recoveryImage <;> rfl

/-! Parked groups (R569, R570). -/

theorem groupCars_nodup (m : Model) (g : Fin 6) : (groupCars m g).Nodup := ((idx_nodup 16).filter _).filter _

/-- A car of a group that is parked loses its position (R569). -/
def CarPos.parked (cp : CarPos) : CarPos := { cp with health := .lost, startUp := true }

/-- And so does its levee. -/
def Lv.parked (l : Lv) : Lv := { l with est := false, posOk := false, prevA := none, accepts := [], absOk := false }

/-- Its mode logic takes its next position as a fresh one. -/
def Mode.parked (md : Mode) : Mode := { md with fresh := true }

theorem State.each_parked (s : State) (l : List (Fin 16)) :
    s.each l (fun s c => ((s.updCar c CarPos.parked).updLv c Lv.parked).updMode c Mode.parked) = { s with
      cars := l.foldl (fun t c => t.upd c CarPos.parked) s.cars
      lv := l.foldl (fun t c => t.upd c Lv.parked) s.lv
      modes := l.foldl (fun t c => t.upd c Mode.parked) s.modes } := by
  induction l generalizing s with
  | nil => rfl
  | cons c l ih => exact (each_cons ..).trans (ih _)

section park
variable {s : State} {m : Model} {g : Fin 6} (hm : s.model = some m)
include hm

/-- GROUP_PARK of a group that may be parked. -/
theorem State.groupPark_eq (hs : s.groupState = true) (hr : s.pwr.parkReq.getLsbD g.val = true) (hp : s.pwr.parked.getLsbD g.val = false)
    (hc : (groupCars m g).all (s.parkReady m) = true) : s.groupPark g = { s with
      pwr := { s.pwr with parked := s.pwr.parked ||| (1 <<< g.val) }
      sup := (s.groupOff g).sup
      cars := (groupCars m g).foldl (fun t c => t.upd c CarPos.parked) s.cars
      lv := (groupCars m g).foldl (fun t c => t.upd c Lv.parked) s.lv
      modes := (groupCars m g).foldl (fun t c => t.upd c Mode.parked) s.modes } := by
  unfold groupPark
  split
  · next h => exact absurd (hm.symm.trans h) (by simp)
  · next m' h =>
    obtain rfl : m = m' := Option.some.inj (hm.symm.trans h)
    exact (if_neg (by rw [hs, hr, hp, hc]; decide)).trans (each_parked _ _)

/-- GROUP_UNPARK of a group that is to work again. -/
theorem State.groupUnpark_eq (hp : s.pwr.parked.getLsbD g.val = true) (hr : s.pwr.parkReq.getLsbD g.val = false ∨ s.unparkAsked m g = true) :
    s.groupUnpark g = State.joinChain { s with pwr := { s.pwr with
      parked := s.pwr.parked &&& ~~~((1 : BitVec 6) <<< g.val)
      parkReq := s.pwr.parkReq &&& ~~~((1 : BitVec 6) <<< g.val)
      parkAuto := (if s.pwr.parkReq.getLsbD g.val then s.pwr.parkAuto ||| (1 <<< g.val) else s.pwr.parkAuto) } } (.group g) := by
  unfold groupUnpark
  split
  · next h => exact absurd (hm.symm.trans h) (by simp)
  · next m' h =>
    obtain rfl : m = m' := Option.some.inj (hm.symm.trans h)
    exact if_neg (by rcases hr with hr | hr <;> rw [hp, hr] <;> simp)

end park

theorem State.joinChain_scope (s : State) (i : ChainItem) : s.joinChain i = { s with sup := (s.joinChain i).sup } := by
  unfold joinChain
  split <;> rfl

/-- Settles O17: PWR_PARK is written, a group is parked with its cars, and unparked through the chain. -/
theorem parkedGroups : Obligations.ParkedGroups := by
  refine ⟨fun s v hu => congrArg Host.Outcome.next (if_pos hu),
    fun s m g hm hs hr hp hc => ⟨_, congrArg Host.Outcome.next (groupPark_eq hm hs hr hp hc), rfl, rfl, fun c hin => ?_, fun c hout => ?_⟩,
    fun s m g hm hp hr => ⟨_, congrArg Host.Outcome.next (groupUnpark_eq hm hp hr), ?_, ?_⟩⟩
  · dsimp only
    rw [foldl_upd_get _ _ _ _ (groupCars_nodup m g), foldl_upd_get _ _ _ _ (groupCars_nodup m g), foldl_upd_get _ _ _ _ (groupCars_nodup m g),
      if_pos hin, if_pos hin, if_pos hin]
    exact ⟨rfl, rfl, rfl⟩
  · dsimp only
    rw [foldl_upd_get _ _ _ _ (groupCars_nodup m g), foldl_upd_get _ _ _ _ (groupCars_nodup m g), foldl_upd_get _ _ _ _ (groupCars_nodup m g),
      if_neg hout, if_neg hout, if_neg hout]
    exact ⟨rfl, rfl, rfl⟩
  · rw [joinChain_scope]
  · rw [joinChain_scope]

end Sys2Proof.Machine
end

section
/-! The 24 V field channels (12): what an accepted class, a guard, the supply L+ and a readback fault make of a channel. -/

namespace Sys2Proof.Machine

open State

/-! The filter (R399, R400). -/

section accepted
variable {r : PolRec} {l : List Nat} {k : PolClass}

theorem acceptedClass_of (hl : l ≠ []) (hk : ∀ x ∈ l, sampleClass r.wbEn x = some k)
    (hn : outRole r.role = true ∨ 8 * (if r.filter = 0 then 4 else r.filter) ≤ l.length) : acceptedClass r l = some k := by
  obtain ⟨x, xs, rfl⟩ := List.exists_cons_of_ne_nil hl
  have hlen : (if outRole r.role = true then 1 else 8 * (if r.filter = 0 then 4 else r.filter)) ≤ (x :: xs).length := by
    split
    · exact Nat.le_add_left 1 xs.length
    · next ho => exact hn.resolve_left ho
  have hxs : xs.all (fun y => sampleClass r.wbEn y = some k) = true := by
    simpa using fun y hy => hk y (List.mem_cons_of_mem x hy)
  simp only [acceptedClass, hk x List.mem_cons_self, hxs, hlen]
  rfl

theorem acceptedClass_none (h : (outRole r.role = false ∧ l.length < 8 * (if r.filter = 0 then 4 else r.filter)) ∨
    ∃ x ∈ l, sampleClass r.wbEn x = none) : acceptedClass r l = none := by
  cases l with
  | nil => rfl
  | cons x xs =>
    cases hx : sampleClass r.wbEn x with
    | none => simp only [acceptedClass, hx]
    | some k =>
      simp only [acceptedClass, hx]
      refine if_neg fun hall => ?_
      obtain ⟨hlen, hxs⟩ : (if outRole r.role = true then 1 else 8 * (if r.filter = 0 then 4 else r.filter)) ≤ (x :: xs).length ∧
          ∀ y ∈ xs, sampleClass r.wbEn y = some k := by simpa using hall
      rcases h with ⟨ho, hshort⟩ | ⟨y, hy, hyn⟩
      · rw [if_neg (by simp [ho])] at hlen
        exact absurd hlen (Nat.not_le.mpr hshort)
      · rcases List.mem_cons.mp hy with rfl | hy
        · exact absurd (hx.symm.trans hyn) (by simp)
        · exact absurd ((hxs y hy).symm.trans hyn) (by simp)

end accepted

/-! One channel or one polder changed. -/

theorem State.updCh_put (s : State) (i : Fin 96) (f : PolCh → PolCh) :
    s.updCh i f = { s with pol := { s.pol with ch := s.pol.ch.put i (f (s.pol.ch.get i)) } } := rfl

theorem State.updPol_put (s : State) (p : Fin 12) (f : Polder → Polder) :
    s.updPol p f = { s with pol := { s.pol with pol := s.pol.pol.put p (f (s.pol.pol.get p)) } } := rfl

/-- A channel that has to deliver its demand state does. -/
theorem State.inValue_demand {s : State} {i : Fin 96} (h : s.inDemand i = true) : s.inValue i = s.demandState (s.polRec i) := if_pos h

theorem State.inDemand_of_guard {s : State} {i : Fin 96} (h : (s.pol.ch.get i).guard = true) : s.inDemand i = true := by
  simp [inDemand, h]

theorem State.inDemand_of_lpLow {s : State} {i : Fin 96} (h : s.lpOk i = false) : s.inDemand i = true := by
  simp [inDemand, h]

/-- DETAIL of an overload (R409). -/
def ovldCode : OvldDetail → Nat
  | .currentLimit => 1
  | .thermal => 2
  | .readback => 3

/-- What READBACK_FAULT makes of a channel that it holds off: a short to L+ where `short`, an overload otherwise. -/
def PolCh.heldOffFor (c : PolCh) (short : Bool) : PolCh :=
  { c with
    heldOff := true
    badRb := 0
    flags := { c.flags with shortLp := c.flags.shortLp || short, ovld := c.flags.ovld || !short }
    cmd := false
    on := false
    defer := false
    onT0 := none
    skipRb := c.skipRb || c.cmd }

/-- A channel held off is switched off with its count of bad readbacks at 0. -/
theorem State.holdOff_eq (s : State) (i : Fin 96) (short : Bool) :
    (s.updCh i fun c => { c with
      heldOff := true
      badRb := 0
      flags := { c.flags with shortLp := c.flags.shortLp || short, ovld := c.flags.ovld || !short } }).switchOff i =
      { s with pol := { s.pol with ch := s.pol.ch.put i ((s.pol.ch.get i).heldOffFor short) } } := by
  simp [switchOff, updCh_put, PolCh.heldOffFor]

section readback
variable {s : State} {i : Fin 96} (ho : outRole (s.polRec i).role = true) (hsus : s.rbSuspended i = false)
  (hh : (s.pol.ch.get i).heldOff = false)
include ho hsus hh

/-- The kinds of a finding against a channel commanded on. -/
theorem State.readbackFault_overload {d : OvldDetail} (hc : (s.pol.ch.get i).cmd = true) (hd : d = .readback → 2 ≤ (s.pol.ch.get i).badRb) :
    s.readbackFault i d = State.polFault { s with pol := { s.pol with ch := s.pol.ch.put i ((s.pol.ch.get i).heldOffFor false) } } i 3 (ovldCode d) := by
  simp only [readbackFault, holdOff_eq, ho, hsus, hh, hc]
  cases d with
  | currentLimit => rfl
  | thermal => rfl
  | readback => exact if_neg (Nat.not_lt.mpr (hd rfl))

theorem State.readbackFault_short (hc : (s.pol.ch.get i).cmd = false) (hb : 2 ≤ (s.pol.ch.get i).badRb) :
    s.readbackFault i .readback =
      State.polFault { s with pol := { s.pol with ch := s.pol.ch.put i ((s.pol.ch.get i).heldOffFor true) } } i 1 0 := by
  simp only [readbackFault, holdOff_eq, ho, hsus, hh, hc]
  exact if_neg (Nat.not_lt.mpr hb)

end readback

/-- Settles O40: each command through the channel or the polder it changes. The readback by INPUT_FILTER_ACCEPT and COUPLER_FAULT's
step of 4 are log 87's choices. -/
theorem fieldChannelsAndTheirSupply : Obligations.FieldChannelsAndTheirSupply := by
  refine ⟨fun s i l k hl hk hn => ⟨_, rfl, congrArg Host.Outcome.next ?_⟩, fun s i l h => congrArg Host.Outcome.next ?_,
    fun s i hr hg => ⟨_, rfl, congrArg Host.Outcome.next (if_pos (by simp [hr, hg])), inValue_demand (inDemand_of_guard (by simp))⟩,
    fun s p hp => ⟨_, rfl, congrArg Host.Outcome.next (if_pos hp), fun i hi => inValue_demand (inDemand_of_lpLow (by simp [lpOk, hi]))⟩,
    fun s p hp => congrArg Host.Outcome.next (if_neg (by simp [hp])), fun s i hp => congrArg Host.Outcome.next (if_pos hp),
    fun s i hr => congrArg Host.Outcome.next (if_pos hr), fun s i d hr hs hh hc hd => congrArg Host.Outcome.next ?_,
    fun s i hr hs hh hc hb => congrArg Host.Outcome.next ?_⟩
  · simp only [inputFilterAccept, acceptedClass_of hl hk hn, Bool.beq_eq_decide_eq, bne, updCh_put]
    simp
  · simp only [inputFilterAccept, acceptedClass_none h]
  · rw [readbackFault_overload hr hs hh hc hd]
    cases d <;> simp [PolCh.heldOffFor, polFault, ovldCode, hc]
  · rw [readbackFault_short hr hs hh hc hb]
    simp [PolCh.heldOffFor, polFault, hc]

end Sys2Proof.Machine
end

section
/-! The message buses (13): frames without an owner, sending, the rate sweep, the error states, sleep and wake of a channel. -/

namespace Sys2Proof.Machine

open State

theorem State.updBus_put (s : State) (n : Fin 12) (f : Bus → Bus) : s.updBus n f = { s with buses := s.buses.put n (f (s.buses.get n)) } := rfl

/-! Frames (R436 to R439). -/

/-- The channel once it has taken a frame. -/
def Bus.heard (b : Bus) : Bus := { b with rxOk := b.rxOk + 1, fifo := b.fifo + 1 }

/-- The channel once its FIFO has lost a frame. -/
def Bus.overran (b : Bus) : Bus := { b with rxOk := b.rxOk + 1, rxOvr := true, rxDrop := b.rxDrop + 1, fifo := 65 }

section heard
variable {s : State} {fr : Frame} (hh : busHears (s.buses.get fr.bus) = true) (hf : fr.fd = true → (s.busRec fr.bus).any (·.fd) = true)
include hh hf

theorem State.hear_takes : s.hear fr =
    some (s.updBus fr.bus fun b => if 64 ≤ (s.buses.get fr.bus).fifo then b.overran else b.heard) := by
  refine (if_neg ?_).trans ?_
  · cases h : fr.fd <;> simp [hh, hf, h]
  · split <;> rfl

variable (ho : s.ownedFrame fr = false)
include ho

theorem State.busFrameUnowned_room (hroom : (s.buses.get fr.bus).fifo < 64) :
    s.busFrameUnowned fr = (s.updBus fr.bus Bus.heard).unowned fr := by
  refine (if_neg (by simp [ho])).trans ?_
  simp only [hear_takes hh hf, Nat.not_le.mpr hroom, if_false]
  refine if_neg ?_
  simp only [lostRx, updBus_buses, Tab.get_upd_same, Bus.heard, decide_eq_true_eq]
  omega

theorem State.busFrameUnowned_full (hfull : 64 ≤ (s.buses.get fr.bus).fifo) : s.busFrameUnowned fr = s.updBus fr.bus Bus.overran := by
  refine (if_neg (by simp [ho])).trans ?_
  simp only [hear_takes hh hf, hfull, if_true]
  exact if_pos (by simp [lostRx, Bus.overran])

end heard

/-- A frame that has an owner, or that the channel does not receive, is not this event's. -/
theorem State.busFrameUnowned_ignored {s : State} {fr : Frame} (h : s.ownedFrame fr = true ∨ busHears (s.buses.get fr.bus) = false ∨
    (fr.fd = true ∧ (s.busRec fr.bus).any (·.fd) = false)) : s.busFrameUnowned fr = s := by
  by_cases ho : s.ownedFrame fr = true
  · exact if_pos ho
  · have hin : (!busHears (s.buses.get fr.bus) || fr.fd && !(s.busRec fr.bus).any (·.fd)) = true := by
      rcases h.resolve_left ho with h | ⟨h, h'⟩ <;> simp [*]
    simp only [busFrameUnowned, ho, hear, hin]
    rfl

/-- A frame without an owner goes to the host where RAW = 1 and is counted unknown where it is not (R437). -/
theorem State.unowned_updBus (s : State) (fr : Frame) (f : Bus → Bus) : (s.updBus fr.bus f).unowned fr =
    if (s.busRec fr.bus).any (·.raw) then (s.updBus fr.bus f).rawEvent fr
    else { s with buses := s.buses.put fr.bus { f (s.buses.get fr.bus) with unknown := (f (s.buses.get fr.bus)).unknown + 1 } } := by
  simp only [unowned, updBus_put, Tab.get_put_same, Tab.put_put]
  rfl

/-! Sending (R427, R434, R438, R441, R442). -/

theorem State.noteReq_scope (s : State) (f : TxFrame) (sof : BitVec 32) : s.noteReq f sof = { s with tw := (s.noteReq f sof).tw } := by
  unfold noteReq
  dsimp only
  split
  · split <;> rfl
  · rfl

/-- The channel once the frame at place `i` of its list has been sent. -/
def Bus.sent (b : Bus) (i : Nat) (f : TxFrame) (txq : Bool) (sof : BitVec 32) : Bus :=
  { b with
    tx := if txq then b.tx.eraseIdx i else rebuffer (b.tx.eraseIdx i)
    txOk := b.txOk + 1
    noack := false
    late := if f.answer.any (fun x => 4000 < (sof - x).toNat) then b.late + 1 else b.late }

/-- And with the loop delay that a frame with a fast data phase has shown. -/
def Bus.measured (b : Bus) (delay offset : Nat) : Bus :=
  { b with tdcMeas := BitVec.ofNat 8 delay, ssp := BitVec.ofNat 8 (delay + offset) }

/-- The end of a raw frame's command. -/
def State.endRaw (s : State) (f : TxFrame) (sof : BitVec 32) : State :=
  match f.raw.bind fun tag => s.hi.running.find? fun x => x.e.opcode = 0x40 && x.e.tag = tag with
  | some x => s.finish x.e .done 0 sof
  | none => s

/-- FRAME_SENT of the frame on offer: the list, the loop delay, the end of the command. -/
theorem State.frameSent_endRaw {s : State} {n : Fin 12} {i : Nat} {f : TxFrame} {r : BusRec} (ho : s.onOffer n = some (i, f))
    (hr : s.busRec n = some r) (sof : BitVec 32) (delay : Nat) : s.frameSent n sof delay =
      let t := (s.noteReq f sof).updBus n (·.sent i f r.txq sof)
      let u := t.updBus n (·.measured delay r.tdcOffset)
      (if f.brs && r.measures then if 40 < delay then u.raise (0x60 + n.val) 3 2 0 delay else u else t).endRaw f sof := by
  simp only [frameSent, ho, hr]
  unfold endRaw
  cases f.raw <;> rfl

theorem State.frameSent_eq {s : State} {n : Fin 12} {i : Nat} {f : TxFrame} {r : BusRec} (ho : s.onOffer n = some (i, f)) (hr : s.busRec n = some r)
    (sof : BitVec 32) (delay : Nat) : s.frameSent n sof delay =
      let t := { s.noteReq f sof with buses := s.buses.put n (if f.brs && r.measures
        then ((s.buses.get n).sent i f r.txq sof).measured delay r.tdcOffset else (s.buses.get n).sent i f r.txq sof) }
      (if f.brs && r.measures && decide (40 < delay) then t.raise (0x60 + n.val) 3 2 0 delay else t).endRaw f sof := by
  have hb : (s.noteReq f sof).buses = s.buses := by rw [noteReq_scope]
  rw [frameSent_endRaw ho hr]
  simp only [updBus_put, hb, Tab.get_put_same, Tab.put_put]
  cases hm : (f.brs && r.measures) <;> by_cases hd : 40 < delay <;> simp [hd]

theorem State.collision_eq {s : State} {n : Fin 12} {i : Nat} {f : TxFrame} (ho : s.onOffer n = some (i, f)) : ∃ k : Fin 8, (k = 4 ∨ k = 5) ∧
    s.collision n = State.raise { s with freeCtr := s.freeCtr + 1, buses := s.buses.put n { s.buses.get n with
      collision := true
      errors := (s.buses.get n).errors + 3
      lastErr := k
      errPhase := f.brs } } (0x60 + n.val) 2 2 0 f.ident.toNat := by
  refine ⟨Fin.ofNat 8 (4 + (Config.free s.freeCtr).toNat % 2), ?_, ?_⟩
  · rcases Nat.mod_two_eq_zero_or_one (Config.free s.freeCtr).toNat with h | h <;> simp [h]
  · simp only [collision, ho]
    rfl

/-! The rate sweep (R428, R429). -/

/-- The sweep's next candidate; the end of the first whole sweep leaves NO_RATE. -/
def Bus.nextRate (b : Bus) : Bus :=
  { b with
    cand := if b.cand < 8 then b.cand + 1 else 0
    swept := b.swept || decide (8 ≤ b.cand)
    noRate := b.noRate || (decide (8 ≤ b.cand) && !b.swept) }

/-- A kind of error that ends a candidate: bit stuffing, form or CRC (R428), which of them is free (log 9). -/
theorem rateError_mem (v : Nat) : ([1, 2, 6] : List (Fin 8)).getD (v % 3) 1 = 1 ∨ ([1, 2, 6] : List (Fin 8)).getD (v % 3) 1 = 2 ∨
    ([1, 2, 6] : List (Fin 8)).getD (v % 3) 1 = 6 := by
  have h : v % 3 < 3 := Nat.mod_lt v (by decide)
  generalize v % 3 = k at h
  interval_cases k <;> decide

/-- RATE_CANDIDATE_DROP in a sweep, once the error that ended the candidate is recorded. -/
theorem State.rateCandidateDrop_eq {s : State} {n : Fin 12} (hst : (s.buses.get n).state = .detect) (ha : (s.buses.get n).adopted = false)
    (why : RateDrop) : ∃ (k : Fin 8) (c : Nat), (k = 1 ∨ k = 2 ∨ k = 6) ∧ s.rateCandidateDrop n why =
      let b := s.buses.get n
      let t := { s with freeCtr := c, buses := s.buses.put n { b.nextRate with lastErr := (match why with | .error => k | .dwell => b.lastErr) } }
      if decide (8 ≤ b.cand) && !b.swept then t.busEvent n 3 else t := by
  have hin : (decide ((s.buses.get n).state ≠ .detect) || (s.buses.get n).adopted) = false := by simp [hst, ha]
  cases why with
  | error =>
    refine ⟨_, s.freeCtr + 1, rateError_mem (Config.free s.freeCtr).toNat, ?_⟩
    simp only [rateCandidateDrop, hin, updBus_put, take, Tab.get_put_same, Tab.put_put]
    by_cases hc : (s.buses.get n).cand < 8 <;> cases hw : (s.buses.get n).swept <;>
      simp [hc, hw, Bus.nextRate, Nat.not_le.mpr, Nat.le_of_not_lt]
  | dwell =>
    refine ⟨1, s.freeCtr, .inl rfl, ?_⟩
    simp only [rateCandidateDrop, hin, updBus_put]
    by_cases hc : (s.buses.get n).cand < 8 <;> cases hw : (s.buses.get n).swept <;>
      simp [hc, hw, Bus.nextRate, Nat.not_le.mpr, Nat.le_of_not_lt]

/-- Settles O41: a frame heard, a frame sent, NOACK and the sweep, each through the equation of its command. The count of attempts is log 161's choice. -/
theorem busTrafficAndRates : Obligations.BusTrafficAndRates := by
  refine ⟨?room, ?full,
    fun s fr h => congrArg Host.Outcome.next (busFrameUnowned_ignored h),
    ?sent, fun s n h => congrArg Host.Outcome.next (if_pos h), ?adopted, ?drop⟩
  case room =>
    rintro s fr b ho rfl hh hf hroom
    exact congrArg Host.Outcome.next ((busFrameUnowned_room hh hf ho hroom).trans (unowned_updBus ..))
  case full =>
    rintro s fr b ho rfl hh hf hfull
    exact congrArg Host.Outcome.next (busFrameUnowned_full hh hf ho hfull)
  case sent =>
    rintro s n sof delay i f r b ho hr rfl
    exact ⟨_, _, _, rfl, rfl, rfl, congrArg Host.Outcome.next (frameSent_eq ho hr sof delay)⟩
  case adopted =>
    intro s n h
    refine congrArg Host.Outcome.next ?_
    simp [rateAdopted, updBus_put, h]
  case drop =>
    rintro s n why b rfl hst ha
    obtain ⟨k, c, hk, e⟩ := rateCandidateDrop_eq hst ha why
    exact ⟨k, _, c, hk, rfl, congrArg Host.Outcome.next e⟩

/-! Error states (R443, R444, R447). -/

theorem errCnt_toNat (x : Nat) : (errCnt x).toNat = min x 255 := by
  simp only [errCnt, BitVec.toNat_ofNat]
  omega

section errors
variable {s : State} {n : Fin 12} {tec rec_ : Nat}

theorem State.errorPassive_active (hst : (s.buses.get n).state = .active) (h : 128 ≤ tec ∨ 128 ≤ rec_) : s.errorPassive n tec rec_ =
    State.busEvent { s with buses := s.buses.put n { s.buses.get n with tec := errCnt tec, recv := errCnt rec_, state := .passive } } n 2 := by
  simp [errorPassive, hst, h, updBus_put]

theorem State.errorPassive_passive (hst : (s.buses.get n).state = .passive) (ht : tec < 128) (hr : rec_ < 128) : s.errorPassive n tec rec_ =
    { s with buses := s.buses.put n { s.buses.get n with tec := errCnt tec, recv := errCnt rec_, state := .active } } := by
  simp [errorPassive, hst, ht, hr, updBus_put]

theorem State.busoff_eq (hst : (s.buses.get n).state = .active ∨ (s.buses.get n).state = .passive) : s.busoff n tec rec_ =
    State.raise { s with buses := s.buses.put n { s.buses.get n with
      state := .busoff
      busoff := true
      busoffs := (s.buses.get n).busoffs + 1
      tec := errCnt tec
      recv := errCnt rec_ } } (0x60 + n.val) 1 2 0 (min tec 255 + 256 * min rec_ 255) := by
  rw [← errCnt_toNat tec, ← errCnt_toNat rec_]
  exact if_pos (by simpa using hst)

end errors

/-! Sleep and wake (R449 to R451). -/

/-- The channel once its list has been discarded, into TXDROP where the loss counts. -/
def Bus.dropped (count : Bool) (b : Bus) : Bus :=
  { b with tx := [], txDrop := if count then b.txDrop + BitVec.ofNat 8 b.tx.length else b.txDrop }

theorem Bus.dropped_of_empty {b : Bus} (h : b.tx = []) (count : Bool) : b.dropped count = b := by
  obtain ⟨⟩ := b
  subst h
  cases count <;> simp [dropped]

theorem State.dropTx_scope (s : State) (n : Fin 12) (count : Bool) : s.dropTx n count = { s with
    buses := s.buses.upd n (Bus.dropped count)
    hi := (s.dropTx n count).hi
    freeCtr := (s.dropTx n count).freeCtr } := by
  unfold dropTx
  dsimp only
  rw [abortRaw_scope]
  rfl

theorem State.dropTx_of_empty {s : State} {n : Fin 12} (h : (s.buses.get n).tx = []) (count : Bool) : s.dropTx n count = s := by
  unfold dropTx
  dsimp only
  rw [updBus_put]
  refine (congrArg (fun x => State.abortRaw { s with buses := s.buses.put n x } _ []) (Bus.dropped_of_empty h count)).trans ?_
  rw [Tab.put_get, h]
  rfl

/-- BUS_SLEEP of a channel that may sleep, at once with its list empty and else at the eighth T1. -/
theorem State.busSleep_eq {s : State} {n : Fin 12} (hn : 4 ≤ n.val) (hq : (s.buses.get n).sleepReq = true)
    (hst : (s.buses.get n).state = .active ∨ (s.buses.get n).state = .passive) (h1 : 1 ≤ (s.buses.get n).sleepT1)
    (h : (s.buses.get n).tx = [] ∨ 8 ≤ (s.buses.get n).sleepT1) : s.busSleep n =
      (s.dropTx n true).updBus n fun b => { b with state := .sleep, sleepT1 := 0, trxOn := false, start := false, onWait := false } :=
  if_pos (by rcases hst with hst | hst <;> rcases h with h | h <;> simp [hn, hq, hst, h1, h])

theorem State.queueWake_scope (s : State) (n : Fin 12) : s.queueWake n = { s with
    sup := (s.queueWake n).sup
    buses := s.buses.upd n fun b => { b with onWait := true, sleepReq := false, wakes := b.wakes + 1 } } := by
  unfold queueWake
  rw [joinChain_scope]
  rfl

/-- A wake with its flag, before its event. -/
def State.wake (s : State) (n : Fin 12) : State := (s.queueWake n).updBus n fun b => { b with woke := true }

theorem State.wake_scope (s : State) (n : Fin 12) : s.wake n = { s with
    sup := (s.wake n).sup
    buses := s.buses.upd n fun b => { b with onWait := true, sleepReq := false, wakes := b.wakes + 1, woke := true } } := by
  unfold wake
  rw [queueWake_scope]
  simp [updBus_put, Tab.upd]

section wake
variable {s : State} {n : Fin 12} (hst : (s.buses.get n).state = .sleep) (hw : (s.buses.get n).onWait = false)
include hst hw

theorem State.busWake_wakes {how : BusWake} (h : (s.buses.get n).wakeMode = false ∧ how = .pattern ∨ (s.buses.get n).wakeMode = true ∧
    ∃ x i d, how = .frame x i d ∧ wakeMatch (s.buses.get n) x i d = true) : s.busWake n how = (s.wake n).busEvent n 4 := by
  have hin : (decide ((s.buses.get n).state ≠ .sleep) || (s.buses.get n).onWait) = false := by simp [hst, hw]
  rcases h with ⟨hm, rfl⟩ | ⟨hm, x, i, d, rfl, hd⟩ <;> simp only [busWake, hin] <;> simp [*, wake]

theorem State.busWake_host (hq : (s.buses.get n).sleepReq = false) : s.busWake n .host = s.queueWake n := by
  simp [busWake, hst, hw, hq]

end wake

theorem State.busWake_ignored {s : State} {n : Fin 12} {how : BusWake} (h : (s.buses.get n).state ≠ .sleep ∨ (s.buses.get n).onWait = true ∨
    (s.buses.get n).wakeMode = true ∧ how = .pattern ∨ how = .host ∧ (s.buses.get n).sleepReq = true ∨
    ∃ x i d, how = .frame x i d ∧ ((s.buses.get n).wakeMode = false ∨ wakeMatch (s.buses.get n) x i d = false)) : s.busWake n how = s := by
  by_cases hin : (decide ((s.buses.get n).state ≠ .sleep) || (s.buses.get n).onWait) = true
  · exact if_pos hin
  · obtain ⟨hst, hw⟩ : (s.buses.get n).state = .sleep ∧ (s.buses.get n).onWait = false := by simpa using hin
    refine (if_neg hin).trans ?_
    rcases h with h | h | ⟨hm, rfl⟩ | ⟨rfl, hq⟩ | ⟨x, i, d, rfl, h⟩
    · exact absurd hst h
    · exact absurd (hw.symm.trans h) (by decide)
    · exact if_pos hm
    · exact if_pos hq
    · exact if_neg (by rcases h with h | h <;> simp [h])

/-! K_SLEEP (R449, R450, R454). -/

/-- WAKE_MODE is taken from a write while the channel neither sleeps nor is asked to; else a change is flagged. -/
def Bus.wakeModeWritten (b : Bus) (v : BitVec 32) : Bus :=
  { b with
    wakeMode := if b.sleepReq || b.state = .sleep then b.wakeMode else bit v 1
    werr := b.werr || ((b.sleepReq || b.state = .sleep) && bit v 1 ≠ b.wakeMode) }

section kSleep
variable {s : State} {n : Fin 12} {v : BitVec 32} (hu : s.hostUp = true) (hn : 4 ≤ n.val)
include hu hn

theorem State.kSleepWrite_fixture : s.kSleepWrite n v =
    let t := s.updBus n (·.wakeModeWritten v)
    if bit v 0 then t.updBus n fun b => if b.sleepReq then b else { b with sleepReq := true, sleepT1 := 0 }
    else if (s.buses.get n).state = .sleep then if (s.buses.get n).onWait then t.updBus n fun b => { b with sleepReq := false } else t.queueWake n
    else t.updBus n fun b => { b with sleepReq := false, sleepT1 := 0 } := by
  simp only [kSleepWrite, hu]
  exact if_neg (Nat.not_lt.mpr hn)

theorem State.kSleepWrite_asks (hv : bit v 0 = true) (hq : (s.buses.get n).sleepReq = false) (hst : (s.buses.get n).state ≠ .sleep) :
    s.kSleepWrite n v = { s with buses := s.buses.put n { s.buses.get n with wakeMode := bit v 1, sleepReq := true, sleepT1 := 0 } } := by
  simp [kSleepWrite_fixture hu hn, hv, updBus_put, Bus.wakeModeWritten, hq, hst]

theorem State.kSleepWrite_takesBack (hv : bit v 0 = false) (hst : (s.buses.get n).state ≠ .sleep) :
    s.kSleepWrite n v = { s with buses := s.buses.put n { s.buses.get n with
      wakeMode := if (s.buses.get n).sleepReq then (s.buses.get n).wakeMode else bit v 1
      werr := (s.buses.get n).werr || ((s.buses.get n).sleepReq && bit v 1 != (s.buses.get n).wakeMode)
      sleepReq := false
      sleepT1 := 0 } } := by
  simp [kSleepWrite_fixture hu hn, hv, updBus_put, Bus.wakeModeWritten, hst, Bool.beq_eq_decide_eq, bne]

theorem State.kSleepWrite_wakes (hv : bit v 0 = false) (hst : (s.buses.get n).state = .sleep) (hw : (s.buses.get n).onWait = false) :
    s.kSleepWrite n v = (s.updBus n (·.wakeModeWritten v)).queueWake n := by
  simp [kSleepWrite_fixture hu hn, hv, hst, hw]

end kSleep

/-- Settles O42: the error states, then sleep and wake, each through the equation of its command. The detail of BUSOFF (log 24), the
silence of a host's wake (log 91), WERR (log 88) and the count of attempts (log 161) are the model's choices. -/
theorem busErrorsSleepAndWake : Obligations.BusErrorsSleepAndWake := by
  refine ⟨?collision, fun s n tec rec_ hst h => congrArg Host.Outcome.next (errorPassive_active hst h),
    fun s n tec rec_ hst ht hr => congrArg Host.Outcome.next (errorPassive_passive hst ht hr),
    fun s n tec rec_ hst => congrArg Host.Outcome.next (busoff_eq hst), fun s n hst => ⟨_, rfl, congrArg Host.Outcome.next (if_pos hst)⟩,
    ?sleepEmpty, ?sleepLate, ?wake, ?wakeHost, fun s n how h => congrArg Host.Outcome.next (busWake_ignored h),
    fun s n v hu hn hv hq hst => congrArg Host.Outcome.next (kSleepWrite_asks hu hn hv hq hst), ?car, ?wakeWrite, ?takeBack⟩
  case collision =>
    intro s n i f ho
    obtain ⟨k, hk, e⟩ := collision_eq ho
    exact ⟨_, k, hk, rfl, congrArg Host.Outcome.next e⟩
  case sleepEmpty =>
    intro s n hn hq hst h1 htx
    refine congrArg Host.Outcome.next ((busSleep_eq hn hq hst h1 (.inl htx)).trans ?_)
    rw [dropTx_of_empty htx]
    rfl
  case sleepLate =>
    intro s n hn hq hst h8
    refine ⟨_, congrArg Host.Outcome.next (busSleep_eq hn hq hst (by omega) (.inr h8)), ?_⟩
    rw [dropTx_scope]
    simp [Bus.dropped]
  case wake =>
    intro s n how hst hw h
    refine ⟨_, congrArg Host.Outcome.next (busWake_wakes hst hw h), ?_⟩
    rw [wake_scope]
    refine ⟨rfl, fun k hk => Tab.get_upd_ne _ _ hk.symm, ?_⟩
    simp [hst]
  case wakeHost =>
    intro s n hst hw hq
    refine ⟨_, congrArg Host.Outcome.next (busWake_host hst hw hq), ?_⟩
    rw [queueWake_scope]
    refine ⟨rfl, fun k hk => Tab.get_upd_ne _ _ hk.symm, ?_⟩
    simp
  case car =>
    intro s n v hu hn hv
    refine congrArg Host.Outcome.next ?_
    simp [kSleepWrite, hu, hn, hv, updBus_put]
  case wakeWrite =>
    intro s n v hu hn hv hst hw
    refine ⟨_, congrArg Host.Outcome.next (kSleepWrite_wakes hu hn hv hst hw), ?_⟩
    rw [queueWake_scope, updBus_put]
    refine ⟨rfl, fun k hk => ?_, ?_⟩
    · simp [hk.symm]
    · simp [Bus.wakeModeWritten, hst]
  case takeBack =>
    rintro s n v b hu hn hv rfl hst
    exact congrArg Host.Outcome.next (kSleepWrite_takesBack hu hn hv hst)

end Sys2Proof.Machine
end

section
/-! The host interface (14): what writing held entries into the rings changes, the doorbells, and how the interface comes and goes. -/

namespace Sys2Proof.Machine

open State

/-! Held entries written as space appears (R464, R474, R479; 01 R44). -/

/-- What writing held entries into ring `r` changes: its TAIL and data, the entries held and the tags in use. -/
structure Hi.Fills (r : Fin 6) (h g : Hi) : Prop where
  rest  : g = { h with
    rings := g.rings
    tags := g.tags
    evtSeq := g.evtSeq
    backlog := g.backlog
    lostNow := g.lostNow
    logHeld := g.logHeld
    telHeld := g.telHeld }
  other : ∀ q, q ≠ r → g.rings.get q = h.rings.get q
  head  : ∀ q, (g.rings.get q).head = (h.rings.get q).head
  size  : ∀ q, (g.rings.get q).size = (h.rings.get q).size

theorem Hi.Fills.refl (r : Fin 6) (h : Hi) : h.Fills r h := ⟨rfl, fun _ _ => rfl, fun _ => rfl, fun _ => rfl⟩

theorem Hi.Fills.trans {r : Fin 6} {h g k : Hi} (a : h.Fills r g) (b : g.Fills r k) : h.Fills r k where
  rest := b.rest.trans (by rw [a.rest])
  other q hq := (b.other q hq).trans (a.other q hq)
  head q := (b.head q).trans (a.head q)
  size q := (b.size q).trans (a.size q)

/-- A ring that keeps its HEAD and its size. -/
theorem Hi.Fills.of_ring {r : Fin 6} {h g : Hi} {f : Ring → Ring} (hrings : g.rings = h.rings.upd r f)
    (hhead : (f (h.rings.get r)).head = (h.rings.get r).head) (hsize : (f (h.rings.get r)).size = (h.rings.get r).size)
    (hrest : g = { h with
      rings := g.rings
      tags := g.tags
      evtSeq := g.evtSeq
      backlog := g.backlog
      lostNow := g.lostNow
      logHeld := g.logHeld
      telHeld := g.telHeld }) : h.Fills r g where
  rest := hrest
  other q hq := by rw [hrings, Tab.get_upd_ne _ _ hq.symm]
  head q := by
    by_cases hq : q = r
    · rw [hrings, hq, Tab.get_upd_same, hhead]
    · rw [hrings, Tab.get_upd_ne _ _ (Ne.symm hq)]
  size q := by
    by_cases hq : q = r
    · rw [hrings, hq, Tab.get_upd_same, hsize]
    · rw [hrings, Tab.get_upd_ne _ _ (Ne.symm hq)]

/-- Entries appended to a ring leave its HEAD and its size. -/
theorem foldl_ringPut_kept (es : List (List Byte)) (x : Ring) : (es.foldl ringPut x).head = x.head ∧ (es.foldl ringPut x).size = x.size := by
  induction es generalizing x with
  | nil => exact ⟨rfl, rfl⟩
  | cons e es ih => exact ih (ringPut x e)

theorem putEvt_fills (h : Hi) (g : List (List Byte)) : h.Fills 2 (putEvt h g) := by
  cases g with
  | nil => exact .refl 2 h
  | cons e es =>
    obtain ⟨hhead, hsize⟩ := foldl_ringPut_kept es (ringPut (h.rings.get 2) (withSeq h.evtSeq e))
    exact .of_ring (f := fun r => es.foldl ringPut (ringPut r (withSeq h.evtSeq e))) rfl hhead hsize rfl

theorem drainGo_fills (stamp t0 : BitVec 32) (k : Nat) (h : Hi) : h.Fills 2 (drainGo stamp t0 k h) := by
  induction k generalizing h with
  | zero => exact .refl 2 h
  | succ k ih =>
    have hstep (h' : Hi) (g : List (List Byte)) (hh : h.Fills 2 h') : h.Fills 2 (drainGo stamp t0 k (putEvt h' g)) :=
      (hh.trans (putEvt_fills h' g)).trans (ih _)
    unfold drainGo
    split
    · exact .refl 2 h
    · next g gs _ =>
      split
      · exact .refl 2 h
      · split
        · split
          · exact .refl 2 h
          · have hlost : (putEvt h [lostEvent stamp t0 h.lostNow]).Fills 2 { putEvt h [lostEvent stamp t0 h.lostNow] with lostNow := 0 } :=
              ⟨rfl, fun _ _ => rfl, fun _ => rfl, fun _ => rfl⟩
            exact ((putEvt_fills h _).trans hlost).trans (ih _)
        · split
          · exact .refl 2 h
          · exact hstep _ g ⟨rfl, fun _ _ => rfl, fun _ => rfl, fun _ => rfl⟩

theorem drainLogGo_fills (k : Nat) (h : Hi) : h.Fills 4 (drainLogGo k h) := by
  induction k generalizing h with
  | zero => exact .refl 4 h
  | succ k ih =>
    unfold drainLogGo
    split
    · exact .refl 4 h
    · next e es _ =>
      split
      · exact .refl 4 h
      · exact Hi.Fills.trans (.of_ring (f := (ringPut · e)) rfl rfl rfl rfl) (ih _)

theorem drainTelGo_fills (k : Nat) (h : Hi) : h.Fills 3 (drainTelGo k h) := by
  induction k generalizing h with
  | zero => exact .refl 3 h
  | succ k ih =>
    unfold drainTelGo
    split
    · exact .refl 3 h
    · next e es _ =>
      split
      · exact Hi.Fills.trans (.of_ring (f := (ringPut · e)) rfl rfl rfl rfl) (ih _)
      · exact .refl 3 h

namespace State

variable (s : State)

theorem drainEvt_fills : s.hi.Fills 2 s.drainEvt.hi := by
  unfold drainEvt
  split
  · exact drainGo_fills ..
  · exact .refl 2 s.hi

theorem drainLog_fills : s.hi.Fills 4 s.drainLog.hi := by
  unfold drainLog
  split
  · exact drainLogGo_fills ..
  · exact .refl 4 s.hi

theorem drainTel_fills : s.hi.Fills 3 s.drainTel.hi := by
  unfold drainTel
  split
  · exact drainTelGo_fills ..
  · exact .refl 3 s.hi

theorem drainLog_scope : s.drainLog = { s with hi := s.drainLog.hi } := by
  unfold drainLog
  split <;> rfl

theorem drainTel_scope : s.drainTel = { s with hi := s.drainTel.hi } := by
  unfold drainTel
  split <;> rfl

/-- Held events and LOG entries written change the host interface alone. -/
theorem drainEvt_drainLog_scope : s.drainEvt.drainLog = { s with hi := s.drainEvt.drainLog.hi } := by
  rw [drainLog_scope, drainEvt_scope]

end State

section stopped
variable {s : State} (h : s.ringsRun = false)
include h

theorem State.drainEvt_stopped : s.drainEvt = s := if_neg (by simp [h])
theorem State.drainLog_stopped : s.drainLog = s := if_neg (by simp [h])
theorem State.drainTel_stopped : s.drainTel = s := if_neg (by simp [h])

end stopped

theorem drainCplGo_scope (k : Nat) (h : Hi) : drainCplGo k h = { h with
    cplWait := (drainCplGo k h).cplWait
    cpl := (drainCplGo k h).cpl
    cplTail := (drainCplGo k h).cplTail } := by
  induction k generalizing h with
  | zero => rfl
  | succ k ih =>
    unfold drainCplGo
    split
    · rfl
    · split
      · rfl
      · rw [ih]

/-! Doorbells (R461). -/

/-- A ring whose host has read on to an index. -/
def Ring.consumed (x : Ring) (i : Nat) : Ring :=
  { x with head := i, data := x.data.drop ((i + x.size.toNat - x.head) % x.size.toNat) }

/-- The host has read a ring on to an index; what waits is written into the room. -/
def State.takeHead (s : State) (r : Fin 6) (i : Nat) : State :=
  (s.updHi fun h => { h with rings := h.rings.upd r (·.consumed i) }).drainEvt.drainLog

theorem State.headDoorbell_eq (s : State) (r : Fin 6) (v : BitVec 32) : s.headDoorbell r v = s.doorbell v (s.hi.rings.get r).size.toNat
    (inBetween (s.hi.rings.get r).head (s.hi.rings.get r).tail (s.hi.rings.get r).size.toNat) (fun s i => s.takeHead r i) := rfl

/-- What is written leaves the ring's HEAD and size and the doorbell flags alone. -/
theorem State.takeHead_kept (s : State) (r : Fin 6) (i : Nat) : s.takeHead r i = { s with hi := (s.takeHead r i).hi } ∧
    ((s.takeHead r i).hi.rings.get r).head = i ∧ ((s.takeHead r i).hi.rings.get r).size = (s.hi.rings.get r).size ∧
    (s.takeHead r i).hi.dbErr = s.hi.dbErr ∧ (s.takeHead r i).hi.dbLost = s.hi.dbLost ∧ (s.takeHead r i).hi.dbIgn = s.hi.dbIgn := by
  have hevt := drainEvt_fills (s.updHi fun h => { h with rings := h.rings.upd r (·.consumed i) })
  have hlog := drainLog_fills (s.updHi fun h => { h with rings := h.rings.upd r (·.consumed i) }).drainEvt
  refine ⟨drainEvt_drainLog_scope _, ?_, ?_, ?_, ?_, ?_⟩
  · exact ((hlog.head r).trans (hevt.head r)).trans (by simp [Ring.consumed])
  · exact ((hlog.size r).trans (hevt.size r)).trans (by simp [Ring.consumed])
  all_goals rw [takeHead, hlog.rest, hevt.rest]; rfl

section doorbell
variable {s : State} {v : BitVec 32} (hu : s.hostUp = true)

theorem State.ignoreDoorbell_lost : s.ignoreDoorbell true = { s with hi := { s.hi with dbIgn := s.hi.dbIgn + 1, dbLost := true } } := by
  simp [ignoreDoorbell, updHi]

theorem State.ignoreDoorbell_err : s.ignoreDoorbell false = { s with hi := { s.hi with dbIgn := s.hi.dbIgn + 1, dbErr := true } } := by
  simp [ignoreDoorbell, updHi]

include hu

/-- A doorbell written while the rings cannot take it. -/
theorem State.doorbell_lost (h : s.hi.hrdy = false ∨ s.hi.en = false) (n : Nat) (ok : Nat → Bool) (act : State → Nat → State) :
    s.doorbell v n ok act = { s with hi := { s.hi with dbIgn := s.hi.dbIgn + 1, dbLost := true } } := by
  refine (if_neg (by simp [hu])).trans ((if_pos ?_).trans ignoreDoorbell_lost)
  rcases h with h | h <;> simp [h]

variable (hr : s.hi.hrdy = true) (he : s.hi.en = true)
include hr he

/-- A doorbell that the rings can take, with an index in range or not. -/
theorem State.doorbell_live (n : Nat) (ok : Nat → Bool) (act : State → Nat → State) : s.doorbell v n ok act =
    if v.toNat % 65536 < n ∧ ok (v.toNat % 65536) = true then act s (v.toNat % 65536)
    else { s with hi := { s.hi with dbIgn := s.hi.dbIgn + 1, dbErr := true } } := by
  refine (if_neg (by simp [hu])).trans ((if_neg (by simp [hr, he])).trans ?_)
  by_cases h : v.toNat % 65536 < n ∧ ok (v.toNat % 65536) = true
  · rw [if_pos h]
    exact if_neg (by simp [doorbellIndex, Nat.not_le.mpr h.1, h.2])
  · rw [if_neg h]
    refine (if_pos ?_).trans ignoreDoorbell_err
    rcases not_and_or.mp h with h | h
    · simp [doorbellIndex, Nat.le_of_not_lt h]
    · simp [doorbellIndex, h]

theorem State.tailDoorbell_taken {r : Fin 6} (hi : v.toNat % 65536 < (s.hi.rings.get r).size.toNat) : s.tailDoorbell r v =
    { s with hi := { s.hi with rings := s.hi.rings.put r { s.hi.rings.get r with tail := v.toNat % 65536 } } } :=
  (doorbell_live hu hr he ..).trans (if_pos ⟨hi, rfl⟩)

theorem State.tailDoorbell_refused {r : Fin 6} (hi : (s.hi.rings.get r).size.toNat ≤ v.toNat % 65536) : s.tailDoorbell r v =
    { s with hi := { s.hi with dbIgn := s.hi.dbIgn + 1, dbErr := true } } :=
  (doorbell_live hu hr he ..).trans (if_neg fun h => absurd h.1 (Nat.not_lt.mpr hi))

theorem State.headDoorbell_taken {r : Fin 6} (hi : v.toNat % 65536 < (s.hi.rings.get r).size.toNat)
    (hin : inBetween (s.hi.rings.get r).head (s.hi.rings.get r).tail (s.hi.rings.get r).size.toNat (v.toNat % 65536) = true) :
    s.headDoorbell r v = s.takeHead r (v.toNat % 65536) := by
  rw [headDoorbell_eq, doorbell_live hu hr he, if_pos ⟨hi, hin⟩]

theorem State.headDoorbell_refused {r : Fin 6} (hi : (s.hi.rings.get r).size.toNat ≤ v.toNat % 65536 ∨
    inBetween (s.hi.rings.get r).head (s.hi.rings.get r).tail (s.hi.rings.get r).size.toNat (v.toNat % 65536) = false) :
    s.headDoorbell r v = { s with hi := { s.hi with dbIgn := s.hi.dbIgn + 1, dbErr := true } } := by
  rw [headDoorbell_eq, doorbell_live hu hr he, if_neg]
  rintro ⟨hlt, hok⟩
  rcases hi with hi | hi
  · exact absurd hlt (Nat.not_lt.mpr hi)
  · exact absurd (hi.symm.trans hok) (by decide)

theorem State.cplDoorbell_taken (hi : v.toNat % 65536 < 16) (hin : inBetween s.hi.cplHead s.hi.cplTail 16 (v.toNat % 65536) = true) :
    s.cplDoorbell v = { s with hi := drainCplGo s.hi.cplWait.length { s.hi with cplHead := v.toNat % 65536 } } :=
  (doorbell_live hu hr he ..).trans (if_pos ⟨hi, hin⟩)

theorem State.cplDoorbell_refused (hi : 16 ≤ v.toNat % 65536 ∨ inBetween s.hi.cplHead s.hi.cplTail 16 (v.toNat % 65536) = false) :
    s.cplDoorbell v = { s with hi := { s.hi with dbIgn := s.hi.dbIgn + 1, dbErr := true } } := by
  refine (doorbell_live hu hr he ..).trans (if_neg ?_)
  rintro ⟨hlt, hok⟩
  rcases hi with hi | hi
  · exact absurd hlt (Nat.not_lt.mpr hi)
  · exact absurd (hi.symm.trans hok) (by decide)

end doorbell

/-- DB_EVT_HEAD can also release HATN (R482). -/
theorem State.evtDoorbell_scope (s : State) (v : BitVec 32) : s.evtDoorbell v =
    { s.headDoorbell 2 v with hi := { (s.headDoorbell 2 v).hi with hatn := (s.evtDoorbell v).hi.hatn } } := by
  unfold evtDoorbell
  dsimp only
  split <;> rfl

theorem inBetween_iff {head tail n i : Nat} : inBetween head tail n i = true ↔ (i + n - head) % n ≤ (tail + n - head) % n := by
  simp [inBetween]

theorem not_inBetween {head tail n i : Nat} (h : (tail + n - head) % n < (i + n - head) % n) : inBetween head tail n i = false := by
  simpa [inBetween] using h

/-- Settles O43: each doorbell takes its index, or the write is ignored with its flag. -/
theorem doorbellsMoveTheirIndex : Obligations.DoorbellsMoveTheirIndex := by
  refine ⟨fun s v hu hr he hi => congrArg Host.Outcome.next (tailDoorbell_taken hu hr he hi),
    fun s v hu hr he hi => congrArg Host.Outcome.next (tailDoorbell_taken hu hr he hi), ?head, ?cpl, ?err, ?lost, ?cplErr, ?evt⟩
  case head =>
    intro s v cmd r hcmd hu hr he hi hin
    have htaken := headDoorbell_taken hu hr he hi (inBetween_iff.mpr hin)
    have hkept := s.takeHead_kept r (v.toNat % 65536)
    rw [← htaken] at hkept
    rcases hcmd with ⟨rfl, rfl⟩ | ⟨rfl, rfl⟩ | ⟨rfl, rfl⟩ | ⟨rfl, rfl⟩
    · obtain ⟨hscope, hbooks⟩ := hkept
      refine ⟨_, rfl, ?_⟩
      rw [evtDoorbell_scope]
      exact ⟨by rw [hscope], hbooks⟩
    all_goals exact ⟨_, rfl, hkept⟩
  case cpl =>
    intro s v hu hr he hi hin
    refine ⟨_, congrArg Host.Outcome.next (cplDoorbell_taken hu hr he hi (inBetween_iff.mpr hin)), rfl, ?_⟩
    dsimp only
    rw [drainCplGo_scope]
    exact ⟨rfl, rfl, rfl, rfl⟩
  case err =>
    intro s v cmd r hcmd hu hr he h
    have htail (hr3 : r.val < 3) := h.resolve_right fun h' => absurd h'.1 (Nat.not_le.mpr hr3)
    have hhead := headDoorbell_refused hu hr he (h.imp_right fun h' => not_inBetween h'.2)
    rcases hcmd with ⟨rfl, rfl⟩ | ⟨rfl, rfl⟩ | ⟨rfl, rfl⟩ | ⟨rfl, rfl⟩ | ⟨rfl, rfl⟩
    · exact congrArg Host.Outcome.next (tailDoorbell_refused hu hr he (htail (by decide)))
    · exact congrArg Host.Outcome.next (tailDoorbell_refused hu hr he (htail (by decide)))
    all_goals exact congrArg Host.Outcome.next hhead
  case lost =>
    intro s v cmd hcmd hu h
    have hhead (r : Fin 6) := (s.headDoorbell_eq r v).trans (doorbell_lost hu h ..)
    rcases hcmd with rfl | rfl | rfl | rfl | rfl | rfl
    · exact congrArg Host.Outcome.next (doorbell_lost hu h ..)
    · exact congrArg Host.Outcome.next (doorbell_lost hu h ..)
    · exact congrArg Host.Outcome.next (hhead 3)
    · exact congrArg Host.Outcome.next (hhead 4)
    · exact congrArg Host.Outcome.next (hhead 5)
    · exact congrArg Host.Outcome.next (doorbell_lost hu h ..)
  case cplErr =>
    intro s v hu hr he h
    exact congrArg Host.Outcome.next (cplDoorbell_refused hu hr he (h.imp_right not_inBetween))
  case evt =>
    intro s v hu
    refine ⟨_, rfl, fun h => ?_, fun hr he h => ?_⟩
    · rw [evtDoorbell_scope, headDoorbell_eq, doorbell_lost hu h]
    · rw [evtDoorbell_scope, headDoorbell_refused hu hr he (h.imp_right not_inBetween)]

/-! Enable, disable, the endpoint (R455 to R457, R484). -/

/-- A ring whose indices start again. -/
def Ring.restarted (x : Ring) : Ring := { x with head := 0, tail := 0, data := [] }

/-- The host interface with EN just set: every index is 0. -/
def Hi.enabled (h : Hi) : Hi :=
  { h with
    en := true
    enableSeq := h.enableSeq + 1
    cplHead := 0
    cplTail := 0
    sbOld := []
    telSeq := 0
    cplWait := []
    rings := (idx 6).foldl (fun t r => t.upd r Ring.restarted) h.rings }

theorem Hi.enabled_get (h : Hi) (r : Fin 6) : h.enabled.rings.get r = (h.rings.get r).restarted := by
  have e := foldl_upd_get (fun _ => Ring.restarted) (idx 6) h.rings r (idx_nodup 6)
  rw [if_pos (mem_idx r)] at e
  exact e

/-- HI_ENABLE judges the set-up with the written RS fields in place. -/
theorem State.hiEnable_eq {s : State} {v : BitVec 32} {h : Hi} (hu : s.hostUp = true) (he : s.hi.en = false) (hv : bit v 0 = true)
    (hh : h = { s.hi with msixEn := bit v 1, crcEn := bit v 2 }) : s.hiEnable v =
      if State.enableOk { s with hi := h } = true then State.drainLog (State.drainEvt { s with hi := h.enabled })
      else { s with hi := { h with cfgErr := true } } := by
  subst hh
  exact if_neg (by simp [hu, he, hv])

/-- A reset of the endpoint puts the host interface back, after the report of a link that goes down (R457). -/
theorem State.endpointReset_eq {s : State} (hm : s.mod ≠ .off) (k : EndpointReset) : s.endpointReset k =
    (State.resetHi (if k == .linkDown && s.hi.en then s.raise 0xA0 2 1 0 0 else s)).updHi fun h => { h with d3 := false } :=
  if_neg hm

/-- A change of the endpoint's power state; what waits is written once the rings run (R455). -/
theorem State.pciPower_eq {s : State} (hm : s.mod ≠ .off) (hp : s.pd 1 = true) (d3 : Bool) : s.pciPower d3 =
    State.drainTel (State.drainLog (State.drainEvt { s with hi := { s.hi with d3 := d3 } })) :=
  if_neg (by simp [hm, hp])

/-- Settles O44: what enabling, disabling, a reset of the endpoint and its power state leave of the interface. -/
theorem hostInterfaceComesAndGoes : Obligations.HostInterfaceComesAndGoes := by
  refine ⟨?enable, ?fails,
    fun s v hu he hv => congrArg Host.Outcome.next (if_neg (by simp [hu, he, hv])), ?perst, ?d3, ?d0, ?off,
    fun s w a hu => congrArg Host.Outcome.next (if_pos hu)⟩
  case enable =>
    intro s v h hu he hv hh hok
    refine ⟨_, congrArg Host.Outcome.next ((hiEnable_eq hu he hv hh).trans (if_pos hok)), drainEvt_drainLog_scope _, ?_⟩
    have hevt := drainEvt_fills { s with hi := h.enabled }
    have hlog := drainLog_fills (State.drainEvt { s with hi := h.enabled })
    refine ⟨?_, ?_, ?_, ?_, fun r => ?_, fun r h2 h4 => ?_⟩
    · rw [hlog.rest, hevt.rest]; rfl
    · rw [hlog.rest, hevt.rest, hh]; rfl
    · rw [hlog.rest, hevt.rest]; rfl
    · rw [hlog.rest, hevt.rest]; rfl
    · exact ((hlog.head r).trans (hevt.head r)).trans (congrArg Ring.head (h.enabled_get r))
    · exact congrArg Ring.tail (((hlog.other r h4).trans (hevt.other r h2)).trans (h.enabled_get r))
  case fails =>
    intro s v h hu he hv hh hok
    exact congrArg Host.Outcome.next ((hiEnable_eq hu he hv hh).trans (if_neg (by simp [hok])))
  case perst =>
    intro s k hm
    refine ⟨_, _, rfl, congrArg Host.Outcome.next (endpointReset_eq hm k), ?_⟩
    generalize (if k == .linkDown && s.hi.en then s.raise 0xA0 2 1 0 0 else s) = u
    exact ⟨rfl, rfl, fun r => Tab.get_all _ r, fun v => Tab.get_all _ v, rfl, rfl, rfl, rfl, rfl, rfl, rfl, rfl, rfl, rfl, rfl, rfl, rfl⟩
  case d3 =>
    intro s hm hp
    have hstop : State.ringsRun { s with hi := { s.hi with d3 := true } } = false := by simp [ringsRun]
    refine congrArg Host.Outcome.next ((pciPower_eq hm hp true).trans ?_)
    rw [drainEvt_stopped hstop, drainLog_stopped hstop, drainTel_stopped hstop]
  case d0 =>
    intro s hm hp
    refine ⟨_, congrArg Host.Outcome.next (pciPower_eq hm hp false), ?_⟩
    have hevt := drainEvt_fills { s with hi := { s.hi with d3 := false } }
    have hlog := drainLog_fills (State.drainEvt { s with hi := { s.hi with d3 := false } })
    have htel := drainTel_fills (State.drainLog (State.drainEvt { s with hi := { s.hi with d3 := false } }))
    refine ⟨?_, ?_, ?_, fun he => ?_⟩
    · rw [drainTel_scope, drainEvt_drainLog_scope]
    · rw [htel.rest, hlog.rest, hevt.rest]
    · unfold ringsRun
      rw [htel.rest, hlog.rest, hevt.rest]
      exact Bool.and_true _
    · have hstop : State.ringsRun { s with hi := { s.hi with d3 := false } } = false := by simp [ringsRun, he]
      rw [drainEvt_stopped hstop, drainLog_stopped hstop, drainTel_stopped hstop]
  case off =>
    intro s d3 h
    exact congrArg Host.Outcome.next (if_pos (by rcases h with h | h <;> simp [h]))

end Sys2Proof.Machine
end

section
/-! Twin operation (15): heartbeats, the lanes of the link, claim words, and the leases with the claim gate. -/

namespace Sys2Proof.Machine

open State

/-! Heartbeats (R492 to R495, R509, R513). -/

/-- A heartbeat that has passed its checks is the last one heard; one that counts restarts the count of those missed. -/
def State.noteHb (s : State) (h : PeerHb) (k : Bool) : State :=
  s.updTw fun t =>
    { t with lastHb := some h, hbAge := 0, hbThis := t.hbThis || k, peer := t.peer || k, hbMiss := if k then 0 else t.hbMiss }

/-- What a heartbeat that has passed its checks does in the module's state. -/
def State.hearHb (s : State) (h : PeerHb) (k : Bool) : State :=
  match s.mod with
  | .standby => (s.noteHb h k).standbyHb h k
  | .active => (s.noteHb h k).activeHb h
  | _ => s.noteHb h k

theorem State.heartbeatRx_eq (s : State) (bs : List Byte) (off : Nat) : s.heartbeatRx bs off =
    s.onLink bs 1 64 64 (BitVec.ofNat 32 (fld bs 12 4)) id fun t _ =>
      t.hearHb (readHb bs) (decide ((readHb bs).t0 = t.tick.t0) && decide (off ≤ 200)) := rfl

theorem State.LinkPasses.heartbeatRx {s t : State} {m : Model} {bs : List Byte} {off : Nat} {h : PeerHb} {k : Bool}
    (hl : s.LinkPasses t m bs 1 64 64 (BitVec.ofNat 32 (fld bs 12 4))) (hh : h = readHb bs)
    (hk : k = (decide (h.t0 = s.tick.t0) && decide (off ≤ 200))) : s.heartbeatRx bs off = t.hearHb h k := by
  obtain ⟨v, rfl⟩ := hl.eq
  subst hh hk
  rw [heartbeatRx_eq, hl.onLink_eq]

/-- The active takes its endorsement (R509). -/
def State.endorsedHb (s : State) (h : PeerHb) : State :=
  if h.flags.getLsbD 2 && s.mod = .active then s.updTw fun t => { t with pLease := 15750, endorse := true, endorsed := some s.tick.t0 } else s

/-- The active sends its model to a standby that has another (R501). -/
def State.imageHb (s : State) (h : PeerHb) : State :=
  if s.mod = .active && h.state = 3 && h.imgDig ≠ s.digest8 && s.tw.imgTx.isNone then s.updTw fun t => { t with imgTx := some 0 } else s

theorem State.activeHb_eq (s : State) (h : PeerHb) : s.activeHb h = (s.endorsedHb h).imageHb h := rfl

theorem State.endorsedHb_eq {s : State} (hm : s.mod = .active) (h : PeerHb) : s.endorsedHb h = { s with tw := { s.tw with
    pLease := if h.flags.getLsbD 2 then 15750 else s.tw.pLease
    endorse := s.tw.endorse || h.flags.getLsbD 2
    endorsed := if h.flags.getLsbD 2 then some s.tick.t0 else s.tw.endorsed } } := by
  unfold endorsedHb
  cases h.flags.getLsbD 2
  · exact if_neg Bool.false_ne_true |>.trans (by simp)
  · exact (if_pos (by rw [hm]; rfl)).trans (by simp [updTw])

theorem State.imageHb_eq {s : State} (hm : s.mod = .active) (h : PeerHb) : s.imageHb h = { s with tw := { s.tw with
    imgTx := if h.state = 3 && h.imgDig ≠ s.digest8 && s.tw.imgTx.isNone then some 0 else s.tw.imgTx } } := by
  conv_lhs => simp only [imageHb, hm, decide_true, Bool.true_and]
  split <;> rfl

/-- The standby judges the RSI version (R495): one too far away is reported once. -/
def State.versionHb (s : State) (h : PeerHb) : State :=
  if s.rsiInUse.isNone then
    let u := if s.tw.rsiBad then s else (s.updTw fun t => { t with rsiBad := true }).raise 0xA1 5 2 0 h.rsi.toNat
    if u.follows = .unsynced then u else u.unsync
  else s.updTw fun t => { t with rsiBad := false }

/-- Then the model (R499, R501). -/
def State.modelHb (s : State) (h : PeerHb) : State := if h.imgDig ≠ s.digest8 && s.follows ≠ .unsynced then s.unsync else s

/-- A RELEASED makes the standby claim; a heartbeat that counts without it ends the claim (R513). -/
def Tw.released? (t : Tw) (rel k : Bool) : Tw :=
  if rel then { t with relSeen := true, prior := if t.state = .claiming then t.prior else t.state, state := .claiming }
  else if k && t.state = .claiming then { t with state := t.prior, relSeen := false }
  else t

theorem Tw.released?_eq (t : Tw) (rel k : Bool) : t.released? rel k = { t with
    relSeen := if rel then true else t.relSeen && !(k && t.state == .claiming)
    prior := if rel && t.state != .claiming then t.state else t.prior
    state := if rel then .claiming else if k && t.state == .claiming then t.prior else t.state } := by
  obtain ⟨st⟩ := t
  cases rel <;> cases k <;> cases st <;> simp [released?]

theorem Tw.released?_idle {t : Tw} (hs : t.state ≠ .claiming) (k : Bool) : t.released? false k = t := by simp [released?, hs]

/-- What is left of a standby's turn at a heartbeat, once version and model are judged. -/
def State.releasedHb (s : State) (h : PeerHb) (k : Bool) : State :=
  if h.flags.getLsbD 4 then
    s.updTw fun t => { t with relSeen := true, prior := if t.state = .claiming then t.prior else t.state, state := .claiming }
  else if k && s.tw.state = .claiming then s.updTw fun t => { t with state := t.prior, relSeen := false }
  else s

theorem State.standbyHb_eq (s : State) (h : PeerHb) (k : Bool) : s.standbyHb h k = ((s.versionHb h).modelHb h).releasedHb h k := rfl

theorem State.releasedHb_updTw (s : State) (h : PeerHb) (k : Bool) : s.releasedHb h k = s.updTw (·.released? (h.flags.getLsbD 4) k) := by
  unfold releasedHb Tw.released? updTw
  dsimp only
  split
  · rfl
  · split <;> rfl

theorem State.releasedHb_idle {s : State} {h : PeerHb} (hr : h.flags.getLsbD 4 = false) (hs : s.tw.state ≠ .claiming) (k : Bool) :
    s.releasedHb h k = s := by
  rw [releasedHb_updTw, hr]
  exact congrArg (fun x => { s with tw := x }) (Tw.released?_idle hs k)

section standby
variable {s : State} {h : PeerHb}

theorem State.versionHb_near (hl : s.tw.lastHb = some h) (h1 : Config.rsiVersion.toNat ≤ h.rsi.toNat + 1)
    (h2 : h.rsi.toNat ≤ Config.rsiVersion.toNat + 1) : s.versionHb h = s.updTw fun t => { t with rsiBad := false } :=
  if_neg (by simp [rsiInUse, hl, h1, h2])

theorem State.versionHb_far (hl : s.tw.lastHb = some h)
    (hf : h.rsi.toNat + 1 < Config.rsiVersion.toNat ∨ Config.rsiVersion.toNat + 1 < h.rsi.toNat) (hb : s.tw.rsiBad = false)
    (hs : s.tw.state = .synced ∨ s.tw.state = .resync) :
    s.versionHb h = ((s.updTw fun t => { t with rsiBad := true }).raise 0xA1 5 2 0 h.rsi.toNat).unsync := by
  have hv : s.rsiInUse.isNone = true := by
    simp only [rsiInUse, hl, Option.bind_some, Option.isNone_iff_eq_none]
    refine if_neg ?_
    simp only [Bool.and_eq_true, decide_eq_true_eq]
    omega
  have hu : ((s.updTw fun t => { t with rsiBad := true }).raise 0xA1 5 2 0 h.rsi.toNat).follows ≠ .unsynced := by
    rw [raise_scope]
    rcases hs with hs | hs <;> simp [follows, hs]
  refine (if_pos hv).trans ?_
  simp only [hb]
  exact if_neg hu

theorem State.modelHb_same (hd : h.imgDig = s.digest8) : s.modelHb h = s := if_neg (by simp [hd])

theorem State.modelHb_other (hd : h.imgDig ≠ s.digest8) (hs : s.tw.state = .synced ∨ s.tw.state = .resync) : s.modelHb h = s.unsync :=
  if_pos (by rcases hs with hs | hs <;> simp [hd, follows, hs])

end standby

theorem TwState.not_claiming {x : TwState} (h : x = .synced ∨ x = .resync) : x ≠ .claiming := by
  rcases h with rfl | rfl <;> exact TwState.noConfusion

theorem State.hearHb_active {s : State} (hm : s.mod = .active) (h : PeerHb) (k : Bool) : s.hearHb h k = (s.noteHb h k).activeHb h := by
  simp only [hearHb, hm]

theorem State.hearHb_standby {s : State} (hm : s.mod = .standby) (h : PeerHb) (k : Bool) : s.hearHb h k = (s.noteHb h k).standbyHb h k := by
  simp only [hearHb, hm]

section heard
variable {s : State} {h : PeerHb} (k : Bool)

/-- An active's endorsement and the model its standby lacks. -/
theorem State.hearHb_endorses (hm : s.mod = .active) : s.hearHb h k = { s with tw := { s.tw with
    lastHb := some h
    hbAge := 0
    hbThis := s.tw.hbThis || k
    peer := s.tw.peer || k
    hbMiss := if k then 0 else s.tw.hbMiss
    pLease := if h.flags.getLsbD 2 then 15750 else s.tw.pLease
    endorse := s.tw.endorse || h.flags.getLsbD 2
    endorsed := if h.flags.getLsbD 2 then some s.tick.t0 else s.tw.endorsed
    imgTx := if h.state = 3 && h.imgDig ≠ s.digest8 && s.tw.imgTx.isNone then some 0 else s.tw.imgTx } } := by
  rw [hearHb_active hm, activeHb_eq, endorsedHb_eq (s := s.noteHb h k) hm]
  refine (imageHb_eq ?_ h).trans rfl
  exact hm

/-- A standby whose peer has its versions and its model. -/
theorem State.hearHb_agrees (hm : s.mod = .standby) (h1 : Config.rsiVersion.toNat ≤ h.rsi.toNat + 1)
    (h2 : h.rsi.toNat ≤ Config.rsiVersion.toNat + 1) (hd : h.imgDig = s.digest8) :
    s.hearHb h k = ((s.noteHb h k).updTw fun t => { t with rsiBad := false }).updTw (·.released? (h.flags.getLsbD 4) k) := by
  have hv : (s.noteHb h k).versionHb h = _ := versionHb_near rfl h1 h2
  have hx : ((s.noteHb h k).updTw fun t => { t with rsiBad := false }).modelHb h = _ := modelHb_same hd
  rw [hearHb_standby hm, standbyHb_eq, hv, hx, releasedHb_updTw]

/-- A standby whose peer has another model. -/
theorem State.hearHb_otherModel (hm : s.mod = .standby) (h1 : Config.rsiVersion.toNat ≤ h.rsi.toNat + 1)
    (h2 : h.rsi.toNat ≤ Config.rsiVersion.toNat + 1) (hd : h.imgDig ≠ s.digest8) (hr : h.flags.getLsbD 4 = false)
    (hs : s.tw.state = .synced ∨ s.tw.state = .resync) : s.hearHb h k = ((s.noteHb h k).updTw fun t => { t with rsiBad := false }).unsync := by
  have hv : (s.noteHb h k).versionHb h = _ := versionHb_near rfl h1 h2
  have hx : ((s.noteHb h k).updTw fun t => { t with rsiBad := false }).modelHb h = _ := modelHb_other hd hs
  have hu : ((s.noteHb h k).updTw fun t => { t with rsiBad := false }).unsync = _ := unsync_of (TwState.not_claiming hs)
  rw [hearHb_standby hm, standbyHb_eq, hv, hx, releasedHb_idle hr (by rw [hu]; exact TwState.noConfusion)]

/-- A standby whose peer's RSI version is too far away. -/
theorem State.hearHb_otherVersion (hm : s.mod = .standby)
    (hf : h.rsi.toNat + 1 < Config.rsiVersion.toNat ∨ Config.rsiVersion.toNat + 1 < h.rsi.toNat) (hb : s.tw.rsiBad = false)
    (hd : h.imgDig = s.digest8) (hr : h.flags.getLsbD 4 = false) (hs : s.tw.state = .synced ∨ s.tw.state = .resync) :
    s.hearHb h k = (((s.noteHb h k).updTw fun t => { t with rsiBad := true }).raise 0xA1 5 2 0 h.rsi.toNat).unsync := by
  have hv : (s.noteHb h k).versionHb h = _ := versionHb_far rfl hf hb hs
  set u := ((s.noteHb h k).updTw fun t => { t with rsiBad := true }).raise 0xA1 5 2 0 h.rsi.toNat with hu
  rw [raise_scope] at hu
  have hc : u.tw.state ≠ .claiming := by rw [hu]; exact TwState.not_claiming hs
  have hx : u.unsync.digest8 = s.digest8 := by rw [unsync_of hc, hu]; rfl
  have hi : u.unsync.tw.state ≠ .claiming := by rw [unsync_of hc]; exact TwState.noConfusion
  rw [hearHb_standby hm, standbyHb_eq, hv, modelHb_same (hd.trans hx.symm), releasedHb_idle hr hi]

end heard

/-- Settles O55: a heartbeat through its checks to what it does in each state of the module, and its loss (logs 56 and 66). -/
theorem heartbeatsKeepThePairTogether : Obligations.HeartbeatsKeepThePairTogether := by
  refine ⟨?active, ?agrees, ?otherModel, ?otherVersion, ?elsewhere, ?bad, ?form, ?down, ?lostStandby, ?lost, ?kept⟩
  case active =>
    intro s t m bs off h k hl hh hk hm
    obtain ⟨v, rfl⟩ := hl.eq
    exact congrArg Host.Outcome.next ((hl.heartbeatRx hh hk).trans (hearHb_endorses (s := { s with cvs := v }) k hm))
  case agrees =>
    intro s t m bs off h k hl hh hk hm h1 h2 hd
    obtain ⟨v, rfl⟩ := hl.eq
    refine congrArg Host.Outcome.next ((hl.heartbeatRx hh hk).trans ((hearHb_agrees (s := { s with cvs := v }) k hm h1 h2 hd).trans ?_))
    exact congrArg (fun x => { s with cvs := v, tw := x }) (Tw.released?_eq _ _ _)
  case otherModel =>
    intro s t m bs off h k hl hh hk hm h1 h2 hd hr hs
    obtain ⟨v, rfl⟩ := hl.eq
    exact congrArg Host.Outcome.next ((hl.heartbeatRx hh hk).trans
      ((hearHb_otherModel (s := { s with cvs := v }) k hm h1 h2 hd hr hs).trans (unsync_of (TwState.not_claiming hs))))
  case otherVersion =>
    intro s t m bs off h k hl hh hk hm hf hb hd hr hs
    obtain ⟨v, rfl⟩ := hl.eq
    exact congrArg Host.Outcome.next ((hl.heartbeatRx hh hk).trans (hearHb_otherVersion (s := { s with cvs := v }) k hm hf hb hd hr hs))
  case elsewhere =>
    intro s t m bs off h k hl hh hk ha hs
    refine congrArg Host.Outcome.next ((hl.heartbeatRx hh hk).trans ?_)
    obtain ⟨v, rfl⟩ := hl.eq
    unfold hearHb
    split
    · next h => exact absurd h hs
    · next h => exact absurd h ha
    · rfl
  case bad =>
    intro s m bs off hm hu hf hg
    refine congrArg Host.Outcome.next ?_
    rw [heartbeatRx_eq, onLink_fails hm hu hf hg id, useCv_scope]
    rfl
  case form =>
    intro s m bs off hm hu hf
    refine congrArg Host.Outcome.next ?_
    simp [heartbeatRx_eq, onLink, hm, hu, hf, linkError, updTw]
  case down =>
    intro s bs off h
    refine congrArg Host.Outcome.next ?_
    rw [heartbeatRx_eq]
    rcases h with hm | hu
    · simp only [onLink, hm]
    · exact onLink_down hu id _
  case lostStandby =>
    intro s hr hp hm hs
    refine congrArg Host.Outcome.next ((if_neg ?_).trans (if_pos hs))
    simp [hr, hp, Nat.not_lt.mpr hm]
  case lost =>
    intro s hr hp hm hs
    refine congrArg Host.Outcome.next ((if_neg ?_).trans (if_neg hs))
    simp [hr, hp, Nat.not_lt.mpr hm]
  case kept =>
    intro s h
    refine congrArg Host.Outcome.next (if_pos ?_)
    rcases h with h | h | h <;> simp [h]

end Sys2Proof.Machine
end

section
/-! The claim gate (R504) and the claim words (R503). -/

namespace Sys2Proof.Machine

open State

/-! The gate. -/

/-- An output channel switched off. -/
def PolCh.off (c : PolCh) : PolCh :=
  { c with cmd := false, on := false, defer := false, onT0 := none, skipRb := c.skipRb || c.cmd, badRb := if c.cmd then 0 else c.badRb }

/-- What the closing gate does to a channel: an output goes off. -/
def State.gateOff (s : State) (i : Fin 96) (c : PolCh) : PolCh := if outRole (s.polRec i).role then c.off else c

/-- Every channel as a closing gate leaves it. -/
def State.gatedCh (s : State) : Tab 96 PolCh := (idx 96).foldl (fun t i => t.upd i (s.gateOff i)) s.pol.ch

theorem State.gatedCh_get (s : State) (i : Fin 96) : s.gatedCh.get i = s.gateOff i (s.pol.ch.get i) :=
  (foldl_upd_get s.gateOff (idx 96) s.pol.ch i (idx_nodup 96)).trans (if_pos (mem_idx i))

theorem State.gatedCh_output {s : State} {i : Fin 96} (h : outRole (s.polRec i).role = true) :
    (s.gatedCh.get i).cmd = false ∧ (s.gatedCh.get i).on = false := by
  rw [gatedCh_get, gateOff, if_pos h]
  exact ⟨rfl, rfl⟩

theorem State.gatedCh_other {s : State} {i : Fin 96} (h : outRole (s.polRec i).role = false) : s.gatedCh.get i = s.pol.ch.get i := by
  rw [gatedCh_get, gateOff, if_neg (by simp [h])]

theorem State.judgeGate_shut {s : State} (h : s.tw.gate = false) : s.judgeGate = s := if_neg (by simp [h])

/-- A claim no higher than the peer's forbids an open gate. -/
theorem State.gateMay_below {s : State} (h : s.tw.claimOwn.toNat ≤ s.tw.claimPeer.toNat) : s.gateMay = false := by
  simp [gateMay, h]

/-- A gate whose conditions of R504 fail closes with every output off, and nothing else changes. -/
theorem State.judgeGate_closes {s : State} (hg : s.tw.gate = true) (hr : s.seals.role ≠ 3) (hm : s.gateMay = false) :
    s.judgeGate = { s with tw := { s.tw with gate := false }, pol := { s.pol with ch := s.gatedCh } } := by
  refine (if_pos (by simp [hg, hr, hm])).trans ?_
  refine State.each_updCh (s := s.updTw fun t => { t with gate := false }) (g := s.gateOff) (fun u i hu => ?_) (idx 96) rfl
  have hp : u.polRec i = s.polRec i := by rw [hu]; rfl
  rw [hp]
  cases ho : outRole (s.polRec i).role
  · have hf : s.gateOff i = id := funext fun c => if_neg (by simp [ho])
    simp [hf, updCh, Tab.upd]
  · have hf : s.gateOff i = PolCh.off := funext fun c => if_pos ho
    rw [hf]
    rfl

/-- Judging the gate touches the gate and the outputs alone. -/
theorem State.judgeGate_scope (s : State) :
    s.judgeGate = { s with tw := { s.tw with gate := s.judgeGate.tw.gate }, pol := s.judgeGate.pol } := by
  by_cases h : (s.tw.gate && s.seals.role ≠ 3 && !s.gateMay) = true
  · simp only [Bool.and_eq_true, decide_eq_true_eq, Bool.not_eq_true'] at h
    obtain ⟨⟨hg, hr⟩, hm⟩ := h
    rw [judgeGate_closes hg hr hm]
  · have e : s.judgeGate = s := if_neg h
    rw [e]

theorem State.role_of_twinRole {s : State} (h : s.twinRole = true) : s.seals.role ≠ 3 := by
  intro hr
  simp [twinRole, hr] at h

/-! Claim words. -/

/-- The number of a claim word, by its fields (R503). -/
def wordOf (claim : BitVec 32) (gate leased : Bool) (code : Nat) : Nat :=
  claim.toNat * 256 + b2n gate * 128 + b2n leased * 64 + code % 8 * 8

theorem b2n_eq (b : Bool) : b2n b = b.toNat := by cases b <;> rfl

theorem State.claimWordSend_eq {s : State} (hr : s.twinRole = true) (hp : s.pwr.pd0 = true) : s.claimWordSend = s.updTw fun t => { t with
    claimOut := BitVec.ofNat 64 (0xA5 * 2 ^ 56 + wordOf s.tw.claimOwn s.tw.gate s.leased (modCode s.mod) * 65536 +
      claimCrc (wordOf s.tw.claimOwn s.tw.gate s.leased (modCode s.mod))) } :=
  if_neg (by simp [hr, hp])

/-- The claim word of given fields. -/
def claimWord (claim : BitVec 32) (gate leased : Bool) (code : Nat) : BitVec 64 :=
  BitVec.ofNat 64 (0xA5 * 2 ^ 56 + wordOf claim gate leased code * 65536 + claimCrc (wordOf claim gate leased code))

section word
variable (claim : BitVec 32) (gate leased : Bool) (code : Nat)

theorem wordOf_lt : wordOf claim gate leased code < 2 ^ 40 := by
  have := claim.isLt
  have := gate.toNat_lt
  have := leased.toNat_lt
  simp only [wordOf, b2n_eq]
  omega

theorem claimCrc_lt (b : Nat) : claimCrc b < 2 ^ 16 := (crc16 _).isLt

/-- No field of a claim word runs into the next. -/
theorem claimWord_toNat : (claimWord claim gate leased code).toNat =
    0xA5 * 2 ^ 56 + wordOf claim gate leased code * 65536 + claimCrc (wordOf claim gate leased code) := by
  have := wordOf_lt claim gate leased code
  have := claimCrc_lt (wordOf claim gate leased code)
  rw [claimWord, BitVec.toNat_ofNat]
  omega

theorem claimOfWord_claimWord : claimOfWord (claimWord claim gate leased code) = some claim := by
  have hb := wordOf_lt claim gate leased code
  have hc := claimCrc_lt (wordOf claim gate leased code)
  have hn := claimWord_toNat claim gate leased code
  have hg := gate.toNat_lt
  have hl := leased.toNat_lt
  generalize hw : wordOf claim gate leased code = b at hb hc hn
  simp only [wordOf, b2n_eq] at hw
  have h56 : (claimWord claim gate leased code).toNat / 2 ^ 56 = 0xA5 := by omega
  have h16 : (claimWord claim gate leased code).toNat % 65536 = claimCrc b := by omega
  have hmid : (claimWord claim gate leased code).toNat / 65536 % 2 ^ 40 = b := by omega
  have h24 : (claimWord claim gate leased code).toNat / 2 ^ 24 = 0xA5 * 2 ^ 32 + claim.toNat := by omega
  unfold claimOfWord
  dsimp only
  rw [h56, h16, hmid, h24, if_pos (by simp)]
  exact congrArg some (BitVec.eq_of_toNat_eq (by rw [BitVec.toNat_ofNat]; omega))

theorem claimWord_gate : (claimWord claim gate leased code).getLsbD 23 = gate := by
  have hc := claimCrc_lt (wordOf claim gate leased code)
  have hg := gate.toNat_lt
  have hl := leased.toNat_lt
  have h : (claimWord claim gate leased code).toNat / 2 ^ 23 % 2 = gate.toNat := by
    rw [claimWord_toNat]
    generalize claimCrc (wordOf claim gate leased code) = c at hc
    simp only [wordOf, b2n_eq]
    omega
  rw [← BitVec.testBit_toNat, Nat.testBit_eq_decide_div_mod_eq, h]
  cases gate <;> rfl

theorem claimWord_leased : (claimWord claim gate leased code).getLsbD 22 = leased := by
  have hc := claimCrc_lt (wordOf claim gate leased code)
  have hl := leased.toNat_lt
  have h : (claimWord claim gate leased code).toNat / 2 ^ 22 % 2 = leased.toNat := by
    rw [claimWord_toNat]
    generalize claimCrc (wordOf claim gate leased code) = c at hc
    simp only [wordOf, b2n_eq]
    omega
  rw [← BitVec.testBit_toNat, Nat.testBit_eq_decide_div_mod_eq, h]
  cases leased <;> rfl

theorem claimWord_code : ((claimWord claim gate leased code).extractLsb' 19 3).toNat = code % 8 := by
  have hc := claimCrc_lt (wordOf claim gate leased code)
  rw [BitVec.extractLsb'_toNat, Nat.shiftRight_eq_div_pow, claimWord_toNat]
  generalize claimCrc (wordOf claim gate leased code) = c at hc
  simp only [wordOf, b2n_eq]
  omega

end word

/-! What a received word does. -/

/-- The claim of a valid word is the peer's. -/
def State.heardClaim (s : State) (c : BitVec 32) : State := s.updTw fun t => { t with claimPeer := c, claimOk := true, claimBad := 0 }

section received
variable {s : State} {w : BitVec 64}

theorem State.claimWordRx_valid {c : BitVec 32} (hr : s.twinRole = true) (hp : s.pwr.pd0 = true) (hw : claimOfWord w = some c) :
    s.claimWordRx w = (if c ≠ 0 ∧ c = s.tw.claimOwn then
      (s.heardClaim c).raise 0xA2 2 3 0 c.toNat
      else s.heardClaim c).judgeGate := by
  unfold claimWordRx
  rw [if_neg (by simp [hr, hp]), hw]
  simp only [Bool.and_eq_true, decide_eq_true_eq]
  rfl

theorem State.claimWordRx_invalid (hr : s.twinRole = true) (hp : s.pwr.pd0 = true) (hw : claimOfWord w = none) :
    s.claimWordRx w = s.updTw fun t => { t with claimErr := t.claimErr + 1, claimBad := t.claimBad + 1 } := by
  unfold claimWordRx
  rw [if_neg (by simp [hr, hp]), hw]

end received

/-- No claim word travels outside a twin role or without PD0. -/
theorem State.claims_idle {s : State} (h : s.twinRole = false ∨ s.pwr.pd0 = false) : (!s.pwr.pd0 || !s.twinRole) = true := by
  rcases h with h | h <;> simp [h]

/-- Settles O57: the lanes one by one, and the claim word sent, received and missed (logs 64, 66 and 67). -/
theorem linkLanesAndClaimWords : Obligations.LinkLanesAndClaimWords := by
  refine ⟨?laneLost, ?linkLost, ?synced, ?sent, ?received, ?higher, ?invalid, ?silent, ?noClaims, ?noLoss, ?noSync⟩
  case laneLost =>
    intro s l hr hl
    refine congrArg Host.Outcome.next ?_
    unfold yilzLaneLoss
    fin_cases l <;> simp [hr, hl, updTw]
  case linkLost =>
    intro s l hr hl
    refine congrArg Host.Outcome.next ?_
    unfold yilzLaneLoss
    fin_cases l <;> simp_all [updTw]
  case synced =>
    intro s l hr hp
    refine congrArg Host.Outcome.next ((if_pos (by simp [hr, hp])).trans ?_)
    fin_cases l <;> rfl
  case sent =>
    intro s hr hp
    exact ⟨claimWord s.tw.claimOwn s.tw.gate s.leased (modCode s.mod), congrArg Host.Outcome.next (claimWordSend_eq hr hp),
      claimOfWord_claimWord .., claimWord_gate .., claimWord_leased .., claimWord_code ..⟩
  case received =>
    intro s w c hr hp hw
    refine ⟨_, _, rfl, rfl, congrArg Host.Outcome.next (claimWordRx_valid hr hp hw), fun hg => judgeGate_shut ?_⟩
    split
    · rw [raise_scope]; exact hg
    · exact hg
  case higher =>
    intro s w c hr hp hw hlt hg hx
    have hne : ¬ (c ≠ 0 ∧ c = s.tw.claimOwn) := by
      rintro ⟨-, rfl⟩
      exact lt_irrefl _ hlt
    have hm : (s.heardClaim c).gateMay = false := gateMay_below hlt.le
    have e := claimWordRx_valid hr hp hw
    rw [if_neg hne, judgeGate_closes (s := s.heardClaim c) hg hx hm] at e
    exact ⟨_, congrArg Host.Outcome.next e, rfl, fun i hi => gatedCh_output (s := s.heardClaim c) hi, fun i hi => gatedCh_other (s := s.heardClaim c) hi⟩
  case invalid =>
    intro s w hr hp hw
    exact congrArg Host.Outcome.next (claimWordRx_invalid hr hp hw)
  case silent =>
    intro s hr hp
    exact ⟨_, rfl, congrArg Host.Outcome.next (if_neg (by simp [hr, hp]))⟩
  case noClaims =>
    intro s w h
    exact ⟨congrArg Host.Outcome.next (if_pos (claims_idle h)), congrArg Host.Outcome.next (if_pos (claims_idle h)),
      congrArg Host.Outcome.next (if_pos (claims_idle h))⟩
  case noLoss =>
    intro s l h
    refine congrArg Host.Outcome.next (if_pos ?_)
    rcases h with h | h <;> rw [h] <;> simp
  case noSync =>
    intro s l h
    refine congrArg Host.Outcome.next (if_neg ?_)
    rcases h with h | h <;> simp [h]

end Sys2Proof.Machine
end

section
/-! The leases (R504 to R517): the request, its answer, and their end. -/

namespace Sys2Proof.Machine

open State

/-- Emptied transmit lists change the buses, the host's answers to the raw frames listed and nothing else. -/
theorem State.each_dropTx_scope (s : State) (l : List (Fin 12)) (count : Bool) :
    s.each l (fun s n => s.dropTx n count) = { s with
      buses := l.foldl (fun t n => t.upd n (Bus.dropped count)) s.buses
      hi := (s.each l fun s n => s.dropTx n count).hi
      freeCtr := (s.each l fun s n => s.dropTx n count).freeCtr } := by
  induction l generalizing s with
  | nil => rfl
  | cons n l ih =>
    rw [each_cons, ih, dropTx_scope]
    rfl

/-- Every transmit list emptied. -/
theorem State.each_dropTx_get (s : State) (count : Bool) (n : Fin 12) :
    (s.each (idx 12) fun s n => s.dropTx n count).buses.get n = Bus.dropped count (s.buses.get n) := by
  rw [each_dropTx_scope]
  exact (foldl_upd_get (fun _ => Bus.dropped count) (idx 12) s.buses n (idx_nodup 12)).trans (if_pos (mem_idx n))

/-- Without a lease the gate does not stay open. -/
theorem State.gateMay_unleased {s : State} (h : s.leased = false) : s.gateMay = false := by simp [gateMay, h]

theorem State.judgeGate_unleased {s : State} (hr : s.seals.role ≠ 3) (hl : s.leased = false) : s.judgeGate.tw.gate = false := by
  cases hg : s.tw.gate
  · rw [judgeGate_shut hg, hg]
  · rw [judgeGate_closes hg hr (gateMay_unleased hl)]

/-- What RELEASED makes of the module's twin state. -/
def Tw.freed (t : Tw) (mute : Bool) : Tw :=
  { t with released := true, muted := t.muted || mute, state := .released, wLease := 0, pLease := 0 }

theorem State.release_judged (s : State) (mute : Bool) : s.release mute = (s.updTw (·.freed mute)).judgeGate := rfl

/-- A RELEASED module has no lease, and its gate is shut. -/
theorem State.release_eq {s : State} (hr : s.seals.role ≠ 3) (mute : Bool) :
    s.release mute = { s with tw := { s.tw.freed mute with gate := false }, pol := (s.release mute).pol } := by
  have hg : (s.updTw (·.freed mute)).judgeGate.tw.gate = false := judgeGate_unleased hr rfl
  have hs := judgeGate_scope (s.updTw (·.freed mute))
  rw [hg] at hs
  exact hs

/-- Its open gate closes with every output off. -/
theorem State.release_gated {s : State} (hr : s.seals.role ≠ 3) (hg : s.tw.gate = true) (mute : Bool) :
    s.release mute = { s with tw := { s.tw.freed mute with gate := false }, pol := { s.pol with ch := s.gatedCh } } :=
  judgeGate_closes (s := s.updTw (·.freed mute)) hg hr (gateMay_unleased rfl)

/-- A frame to the witness changes its connection, the check-value channels and the buses. -/
theorem State.sendRel_scope (s : State) : s.sendRel = { s with
    conns := s.sendRel.conns
    cvs := s.sendRel.cvs
    buses := s.sendRel.buses
    hi := s.sendRel.hi
    freeCtr := s.sendRel.freeCtr } := by
  unfold sendRel toWitness
  split
  · rfl
  · next m hm =>
    cases m.wit? 0 with
    | none => rfl
    | some i => exact sendWit_scope ..

/-! The answer to a request (R508). -/

/-- A lease that runs from the start of the request's frame. -/
def State.grantFrom (s : State) (sof : BitVec 32) : State :=
  s.updTw fun t => { t with wLease := (clamp (15750 - diff32 s.stamp sof) 0 16000).toNat, wLost := false }

/-- The request that an answer names is done. -/
def State.answered (s : State) (p : List Byte) : State :=
  s.updTw fun t => { t with reqs := t.reqs.filter (·.seq ≠ BitVec.ofNat 16 (fld p 2 2)), lastAns := byteAt p 0 }

/-- What the answer `p` to the request `q` does. -/
def State.takeAnswer (s : State) (p : List Byte) (q : LeaseReq) : State :=
  if fld p 0 1 = 0 && q.kind = 1 then
    (((s.answered p).takeWaiting.setClaim (BitVec.ofNat 32 (fld p 4 4))).updTw fun t =>
      { { t with granted := true } with wLease := (clamp (15750 - diff32 s.stamp q.sof) 0 16000).toNat, wLost := false })
  else if fld p 0 1 = 1 && q.kind = 2 && fld p 4 4 = s.claim.toNat then (s.answered p).grantFrom q.sof
  else if fld p 0 1 = 2 && q.kind = 2 then ((s.answered p).updTw fun t => { t with wLease := 0, pLease := 0, granted := false }).judgeGate
  else s.answered p

section answer
variable {s t n : State} {fr : Frame} {m : Model} {i : Nat} {r : NodeRec} {c₀ c : Conn} {q : LeaseReq}
  (h : s.WitPasses t n fr 0 0x31 12 i m r c₀ c) (ht : s.twinRole = true)
include h

theorem State.WitPasses.ownSlot_eq : n.ownSlot = s.ownSlot := by
  obtain ⟨b, hb⟩ := hear_eq h.heard
  rw [h.taken, hb]
  rfl

theorem State.WitPasses.role_eq : n.seals.role = s.seals.role := by
  obtain ⟨b, hb⟩ := hear_eq h.heard
  rw [h.taken, hb]

include ht

theorem State.WitPasses.leaseAns (hq : n.tw.reqs.find? (·.seq = BitVec.ofNat 16 (fld (slice fr.data 20 12) 2 2)) = some q)
    (hs : fld (slice fr.data 20 12) 1 1 = s.ownSlot) : s.leaseAns fr = n.takeAnswer (slice fr.data 20 12) q := by
  unfold State.leaseAns
  rw [if_neg (by simp [ht]), h.onWit]
  simp only [hq]
  exact if_neg (by simp [hs, h.ownSlot_eq])

theorem State.WitPasses.leaseAns_other (hq : n.tw.reqs.find? (·.seq = BitVec.ofNat 16 (fld (slice fr.data 20 12) 2 2)) = none ∨
    fld (slice fr.data 20 12) 1 1 ≠ s.ownSlot) : s.leaseAns fr = n := by
  unfold State.leaseAns
  rw [if_neg (by simp [ht]), h.onWit]
  dsimp only
  split
  · rfl
  · next x hx =>
    refine if_pos ?_
    rcases hq with hq | hs
    · rw [hq] at hx
      cases hx
    · rw [h.ownSlot_eq]
      exact hs

end answer

/-! The end of the leases (R504, R512). -/

/-- A lease that ends within the T0 in progress has ended. -/
def State.leasesAged (s : State) : State := s.updTw fun t =>
  { t with wLease := if t.wLease ≤ 250 then 0 else t.wLease, pLease := if t.pLease ≤ 250 then 0 else t.pLease }

theorem State.leasesAged_leased (s : State) : s.leasesAged.leased = false ↔ s.tw.wLease ≤ 250 ∧ s.tw.pLease ≤ 250 := by
  have aged (n : Nat) : (if n ≤ 250 then 0 else n) = 0 ↔ n ≤ 250 := by split <;> omega
  simp [leased, leasesAged, updTw, aged]

theorem State.leaseExpiry_eq {s : State} (ht : s.twinRole = true) : s.leaseExpiry =
    if s.mod = .safeHold ∧ s.tw.gate = true ∧ s.tw.wLease ≤ 250 ∧ s.tw.pLease ≤ 250 then s.leasesAged.silence else s.leasesAged.judgeGate := by
  refine (if_neg (by simp [ht])).trans (if_congr ?_ rfl rfl)
  rw [← s.leasesAged_leased]
  simp only [Bool.and_eq_true, decide_eq_true_eq, Bool.not_eq_true', and_assoc]
  exact Iff.rfl

/-- A silent module is RELEASED, its gate is shut and nothing waits on any bus. -/
theorem State.silence_eq {s : State} (hr : s.seals.role ≠ 3) : s.silence.tw = { s.tw.freed true with gate := false } ∧
    ∀ n, (s.silence.buses.get n).tx = [] := by
  refine ⟨?_, fun n => ?_⟩
  · unfold silence
    rw [each_dropTx_scope, release_eq hr]
  · exact congrArg Bus.tx (each_dropTx_get (s.release true) true n)

/-- Settles O58: the request, each answer to it, and the end of the leases by time and by SAFE-HOLD's standstill
(logs 52, 63, 64 and 131). -/
theorem leasesRunAndEnd : Obligations.LeasesRunAndEnd := by
  refine ⟨?asks, ?waits, ?idle, ?renewed, ?held, ?granted, ?ended, ?others, ?expiry, ?silenced, ?closed, ?single, ?released, ?kept⟩
  case asks =>
    intro s hn hl ha hp
    exact congrArg Host.Outcome.next ((if_neg (by simp [hn, ha, Nat.not_lt.mpr hl])).trans (if_neg (fun hq => Bool.false_ne_true (hp.symm.trans hq))))
  case waits =>
    intro s hn hl ha hp
    exact congrArg Host.Outcome.next ((if_neg (by simp [hn, ha, Nat.not_lt.mpr hl])).trans (if_pos hp))
  case idle =>
    intro s h
    refine congrArg Host.Outcome.next (if_pos ?_)
    rcases h with h | h | h <;> simp [h]
  case renewed =>
    intro s t n fr m i r c₀ c q h ht hq hk hs hz hc
    refine congrArg Host.Outcome.next ((h.leaseAns ht hq hs).trans ?_)
    exact (if_neg (by simp [hz])).trans (if_pos (by simp [hz, hk, hc, claim]))
  case held =>
    intro s t n fr m i r c₀ c q h ht hq hk hs hz
    have hx : n.seals.role ≠ 3 := h.role_eq ▸ role_of_twinRole ht
    have e : s.leaseAns fr = _ := (h.leaseAns ht hq hs).trans ((if_neg (by simp [hz])).trans ((if_neg (by simp [hz])).trans (if_pos (by simp [hz, hk]))))
    refine ⟨_, congrArg Host.Outcome.next e, ?_, ?_, ?_, judgeGate_unleased hx rfl, ?_⟩ <;> rw [judgeGate_scope] <;> rfl
  case granted =>
    intro s t n fr m i r c₀ c q h ht hq hk hs hz
    exact ⟨(n.answered _).takeWaiting, (n.answered _).takeWaiting.setClaim _, _, rfl, rfl, rfl,
      congrArg Host.Outcome.next ((h.leaseAns ht hq hs).trans (if_pos (by simp [hz, hk])))⟩
  case ended =>
    intro s t n fr m i r c₀ c q z h ht hq hz hs h0 h2 h1
    subst hz
    refine congrArg Host.Outcome.next ((h.leaseAns ht hq hs).trans ?_)
    exact (if_neg fun e => h0 (by simpa using e)).trans
      ((if_neg fun e => h1 (by simp only [Bool.and_eq_true, decide_eq_true_eq, and_assoc] at e; exact e)).trans
        (if_neg fun e => h2 (by simpa using e)))
  case others =>
    intro s t n fr m i r c₀ c h ht hq
    exact congrArg Host.Outcome.next (h.leaseAns_other ht hq)
  case expiry =>
    intro s ht
    refine ⟨_, rfl, congrArg Host.Outcome.next ?_, fun hg => judgeGate_shut hg⟩
    exact leaseExpiry_eq ht
  case silenced =>
    intro s ht hm hg hw hp
    obtain ⟨htw, htx⟩ := silence_eq (s := s.leasesAged) (role_of_twinRole ht)
    have e := (leaseExpiry_eq ht).trans (if_pos ⟨hm, hg, hw, hp⟩)
    refine ⟨_, congrArg Host.Outcome.next e, ?_, ?_, ?_, ?_, htx⟩ <;> rw [htw] <;> simp [Tw.freed]
  case closed =>
    intro s ht hm hg hw hp
    have e := (leaseExpiry_eq ht).trans (if_neg fun h => hm h.1)
    have hl : s.leasesAged = s.updTw fun t => { t with wLease := 0, pLease := 0 } := by simp [leasesAged, updTw, hw, hp]
    rw [judgeGate_closes (s := s.leasesAged) hg (role_of_twinRole ht) (gateMay_unleased ((leasesAged_leased s).mpr ⟨hw, hp⟩)), hl] at e
    exact ⟨_, congrArg Host.Outcome.next e, rfl, fun i hi => gatedCh_output (s := updTw s _) hi⟩
  case single =>
    intro s h
    exact congrArg Host.Outcome.next (if_pos (by simp [h]))
  case released =>
    intro s hm ht hg hr hs ho
    have e : s.safeHoldRelease = s.sendRel.release false := if_pos (by simp [hm, ht, hg, hr, hs, ho])
    obtain ⟨cn, cv, bu, hi, fc, hu⟩ : ∃ cn cv bu hi fc, s.sendRel = { s with conns := cn, cvs := cv, buses := bu, hi := hi, freeCtr := fc } :=
      ⟨_, _, _, _, _, sendRel_scope s⟩
    have hg' := release_gated (s := { s with conns := cn, cvs := cv, buses := bu, hi := hi, freeCtr := fc }) (role_of_twinRole ht) hg false
    rw [hu, hg'] at e
    exact ⟨_, congrArg Host.Outcome.next e, rfl, rfl, rfl, rfl, rfl, rfl, fun i h => gatedCh_output (s := s) h⟩
  case kept =>
    intro s h
    refine congrArg Host.Outcome.next (if_neg ?_)
    rcases h with h | h | h | h | h | h <;> simp [h]

end Sys2Proof.Machine
end

section
/-! The rails and the domains (17 R555 to R558): a rail outside its window, a domain switched off and the next one switched on. -/

namespace Sys2Proof.Machine

open State

/-! A message below class F leaves the power unit alone. -/

/-- A block reset changes the host interface or a check-value channel. -/
theorem State.brst_scope (s : State) (n : Nat) : s.brst n = { s with hi := (s.brst n).hi, cvs := (s.brst n).cvs } := by
  unfold brst
  split
  · rfl
  · split
    · rfl
    · split <;> rfl

theorem State.brst_pwr (s : State) (n : Nat) : (s.brst n).pwr = s.pwr := by rw [brst_scope]

theorem State.onArrival_pwr {s : State} {m : FaultMsg} (h : m.cls ≠ 3) : (s.onArrival m).pwr = s.pwr := by
  have hb : (if (reactionOf s.fc m.source.toNat m.cls).getLsbD 2 then s.brst m.source.toNat else s).pwr = s.pwr := by
    split
    · exact brst_pwr ..
    · rfl
  unfold onArrival
  dsimp only
  rw [if_neg h]
  split <;> exact hb

theorem State.report_pwr {s : State} {m : FaultMsg} (h : m.cls ≠ 3) : (s.report m).pwr = s.pwr := by
  unfold report
  split
  · rfl
  · split
    · rfl
    · split
      · rfl
      · exact onArrival_pwr h

theorem State.raise_pwr {s : State} (src kind : Nat) (ctx : BitVec 32) (detail : Nat) : (s.raise src kind 2 ctx detail).pwr = s.pwr :=
  report_pwr (show (BitVec.ofNat 2 2) ≠ 3 by decide)

/-! A rail out of its window (R555). -/

/-- The two rail registers of a domain once a rail's voltage is known. -/
def railShown (rail : Fin 7) (mv : Nat) (x : BitVec 16 × BitVec 16) : BitVec 16 × BitVec 16 :=
  if rail.val = 0 then (BitVec.ofNat 16 mv, x.2) else if rail.val = 1 then (x.1, BitVec.ofNat 16 mv) else x

theorem State.railFault_reports {s : State} {d : Fin 8} {rail : Fin 7} {mv v : Nat} (hv : railNominal d rail = some v)
    (hp : s.pd d.val = true) (hk : railOk v mv = false) : s.railFault d rail mv =
      (s.updPwr fun p => { p with domOk := p.domOk &&& ~~~((1 : BitVec 8) <<< d.val), rails := p.rails.upd d (railShown rail mv) }).raise
        (0xB0 + d.val) 1 2 (BitVec.ofNat 32 mv) rail.val := by
  unfold railFault
  rw [hv]
  exact if_neg (by simp [hp, hk])

/-! A domain goes off (R556). -/

/-- The power unit once domain `d` is off. -/
def Pwr.without (p : Pwr) (d : Fin 8) : Pwr :=
  { p with domOn := p.domOn &&& ~~~((1 : BitVec 8) <<< d.val), domOk := p.domOk &&& ~~~((1 : BitVec 8) <<< d.val) }

/-- What a domain's loss takes with it (R556). -/
def State.lose (s : State) (d : Fin 8) : State :=
  match d.val with
  | 1 => s.resetHi.updHi fun h => { h with hrdy := false }
  | 2 => s.each s.present askSf1
  | 4 => s.updDsx fun x => { x with snap := none, result := none, nearRes := none }
  | 5 => s.each (idx 6) groupOff
  | 6 => (s.each (idx 12) busOff).each (idx 12) fun s n => s.updBus n fun b => { b with trxOn := false, onWait := false }
  | 7 => if s.twinRole && s.tw.lanes ≠ 0 then (s.updTw fun t => { t with lanes := 0 }).raise 0xA1 2 2 0 s.tw.lanes.toNat
      else s.updTw fun t => { t with lanes := 0 }
  | _ => s

theorem State.domainOff_eq {s : State} {d : Fin 8} (h : s.pd d.val = true) : s.domainOff d = (s.updPwr (·.without d)).lose d :=
  if_neg (by simp [h])

theorem State.domainOff_of_off {s : State} {d : Fin 8} (h : s.pd d.val = false) : s.domainOff d = s := if_pos (by simp [h])

/-- A supply group that is off. -/
def Supply.cut (u : Supply) : Supply := { u with on := false, settle := 0 }

theorem State.each_groupOff (s : State) (l : List (Fin 6)) : s.each l groupOff = { s with sup := { s.sup with
    groups := l.foldl (fun t g => t.upd g Supply.cut) s.sup.groups
    queue := l.foldl (fun q g => q.filter (· ≠ .group g)) s.sup.queue } } := by
  induction l generalizing s with
  | nil => rfl
  | cons g l ih =>
    rw [each_cons, ih]
    rfl

/-- The queue of the chain without the groups of a list. -/
theorem mem_foldl_filter_group {x : ChainItem} (l : List (Fin 6)) (q : List ChainItem) :
    x ∈ l.foldl (fun q g => q.filter (· ≠ .group g)) q ↔ x ∈ q ∧ ∀ g ∈ l, x ≠ .group g := by
  induction l generalizing q with
  | nil => simp
  | cons g l ih =>
    rw [List.foldl_cons, ih]
    simp [and_assoc]

/-- A bus that is off. -/
def Bus.cut (b : Bus) : Bus :=
  { b.dropped true with state := .off, start := false, adopted := false, sleepT1 := 0, fifo := 0, tec := 0, recv := 0 }

theorem State.busOff_scope (s : State) (n : Fin 12) : s.busOff n = { s with
    buses := s.buses.upd n Bus.cut
    hi := (s.dropTx n true).hi
    freeCtr := (s.dropTx n true).freeCtr } := by
  unfold busOff
  rw [dropTx_scope]
  simp [updBus, Tab.upd, Bus.cut]

theorem State.each_busOff_scope (s : State) (l : List (Fin 12)) : s.each l busOff = { s with
    buses := l.foldl (fun t n => t.upd n Bus.cut) s.buses
    hi := (s.each l busOff).hi
    freeCtr := (s.each l busOff).freeCtr } := by
  induction l generalizing s with
  | nil => rfl
  | cons n l ih =>
    rw [each_cons, ih, busOff_scope]
    rfl

/-- The parts of the state that a domain's loss can touch. -/
theorem State.lose_scope (s : State) (d : Fin 8) : s.lose d = { s with
    hi := (s.lose d).hi
    lv := (s.lose d).lv
    dsx := (s.lose d).dsx
    sup := (s.lose d).sup
    buses := (s.lose d).buses
    tw := (s.lose d).tw
    fc := (s.lose d).fc
    cvs := (s.lose d).cvs
    freeCtr := (s.lose d).freeCtr } := by
  unfold lose
  split
  · rfl
  · rw [each_askSf1_scope]
  · rfl
  · rw [each_groupOff]
  · rw [each_updBus, each_busOff_scope]
  · split
    · rw [raise_scope, raise_pwr]
      rfl
    · rfl
  · rfl

/-! The next domain (R557, R558). -/

/-- A port at its reset values with the model's settings loaded. -/
def Port.fresh (r : PortRec) (p : Port) : Port :=
  (((State.reset.updPort 0 fun _ => { Port.zero with level := p.level }).loadPort 0 r).ports.get 0)

theorem State.loadPort_fresh (s : State) (n : Fin 48) (r : PortRec) :
    (s.updPort n fun p => { Port.zero with level := p.level }).loadPort n r = s.updPort n (Port.fresh r) := by
  simp [loadPort, updPort, Tab.upd, Port.fresh]

theorem Port.fresh_zero (r : PortRec) (p : Port) :
    (Port.fresh r p).count = 0 ∧ (Port.fresh r p).est = Est.zero ∧ (Port.fresh r p).en = decide (r.mode ≠ 0) := by
  simp only [Port.fresh, loadPort, updPort, Tab.upd, Tab.get_put_same]
  split <;> simp [Port.zero]

/-- Members that join the supply chain change the chain alone. -/
theorem State.each_join_scope {α : Type} {s : State} (l : List α) (c : State → α → Bool) (x : α → ChainItem) :
    s.each l (fun s a => if c s a then s.joinChain (x a) else s) =
      { s with sup := (s.each l fun s a => if c s a then s.joinChain (x a) else s).sup } := by
  refine each_inv s (fun u : State => u = { s with sup := u.sup }) _ (fun u a hu => ?_) l rfl
  split
  · rw [joinChain_scope]
    exact congrArg (fun t : State => { t with sup := (u.joinChain (x a)).sup }) hu
  · exact hu

/-- Transceivers that wait for the supply chain change the chain and the buses. -/
theorem State.each_wait_scope {s : State} (l : List (Fin 12)) (c : Fin 12 → Bool) :
    s.each l (fun s n => if c n then (s.joinChain (.trx n)).updBus n fun b => { b with onWait := true } else s) =
      { s with sup := (s.each l fun s n => if c n then (s.joinChain (.trx n)).updBus n fun b => { b with onWait := true } else s).sup
               buses := (s.each l fun s n => if c n then (s.joinChain (.trx n)).updBus n fun b => { b with onWait := true } else s).buses } := by
  refine each_inv s (fun u : State => u = { s with sup := u.sup, buses := u.buses }) _ (fun u n hu => ?_) l rfl
  split
  · rw [joinChain_scope]
    exact congrArg (fun t : State => { t with sup := (u.joinChain (.trx n)).sup, buses := u.buses.upd n fun b => { b with onWait := true } }) hu
  · exact hu

section up
variable {s : State} {d : Fin 8} {m : Model}

theorem State.domainUp_noModel (hm : s.model = none) : s.domainUp d = s := by
  unfold domainUp
  split
  · next h => cases hm.symm.trans h
  · next h => cases hm.symm.trans h
  · rfl

/-- PD5: every port starts anew, and the groups called for join the chain. -/
theorem State.domainUp_ports (hm : s.model = some m) : s.domainUp 5 = { s with
    ports := (idx 48).foldl (fun t n => t.upd n (Port.fresh (m.ports.get n))) s.ports
    sup := (s.domainUp 5).sup } := by
  have e : s.domainUp 5 = (s.each (idx 48) fun s n => s.updPort n (Port.fresh (m.ports.get n))).each (idx 6) fun s g =>
      if groupCalled m g && !s.pwr.parked.getLsbD g.val then s.joinChain (.group g) else s := by
    unfold domainUp
    rw [hm]
    simp only [loadPort_fresh]
    rfl
  rw [e, each_updPort]
  exact each_join_scope (idx 6) (fun s g => groupCalled m g && !s.pwr.parked.getLsbD g.val) ChainItem.group

/-- PD6: the transceivers called for wait for the chain. -/
theorem State.domainUp_buses (s : State) : s.domainUp 6 = { s with sup := (s.domainUp 6).sup, buses := (s.domainUp 6).buses } := by
  obtain hm | ⟨m, hm⟩ := Option.eq_none_or_eq_some s.model
  · rw [domainUp_noModel hm]
  · have e : s.domainUp 6 = s.each (idx 12) fun s n =>
        if decide (4 ≤ n.val) && (m.buses.get n).en then (s.joinChain (.trx n)).updBus n fun b => { b with onWait := true } else s := by
      unfold domainUp
      rw [hm]
      rfl
    rw [e]
    exact each_wait_scope (s := s) (idx 12) fun n => decide (4 ≤ n.val) && (m.buses.get n).en

theorem State.domainUp_other (h5 : d ≠ 5) (h6 : d ≠ 6) : s.domainUp d = s := by
  unfold domainUp
  split
  · next h _ => exact absurd (Fin.ext h) h5
  · next h _ => exact absurd (Fin.ext h) h6
  · rfl

/-- What a domain finds when it comes up: ports, chain and transceivers. -/
theorem State.domainUp_scope (s : State) (d : Fin 8) : s.domainUp d = { s with
    ports := (s.domainUp d).ports, sup := (s.domainUp d).sup, buses := (s.domainUp d).buses } := by
  by_cases h5 : d = 5
  · subst h5
    obtain hm | ⟨m, hm⟩ := Option.eq_none_or_eq_some s.model
    · rw [domainUp_noModel hm]
    · rw [domainUp_ports hm]
  · by_cases h6 : d = 6
    · subst h6
      rw [domainUp_buses]
    · rw [domainUp_other h5 h6]

end up

/-- Domain `d` on, with its rails in their window. -/
def State.switched (s : State) (d : Fin 8) : State :=
  (s.updPwr fun p => { p with lastOn := 0 }).updPwr fun p =>
    { p with domOn := p.domOn ||| ((1 : BitVec 8) <<< d.val), domOk := p.domOk ||| ((1 : BitVec 8) <<< d.val) }

/-- The domain on, and what it finds. -/
def State.comesUp (s : State) (d : Fin 8) : State := (s.switched d).domainUp d

theorem State.comesUp_scope (s : State) (d : Fin 8) : s.comesUp d = { s with
    pwr := (s.comesUp d).pwr, ports := (s.comesUp d).ports, sup := (s.comesUp d).sup, buses := (s.comesUp d).buses } := by
  unfold comesUp
  rw [domainUp_scope]
  rfl

theorem State.comesUp_pwr (s : State) (d : Fin 8) : (s.comesUp d).pwr = { s.pwr with
    lastOn := 0
    domOn := s.pwr.domOn ||| ((1 : BitVec 8) <<< d.val)
    domOk := s.pwr.domOk ||| ((1 : BitVec 8) <<< d.val) } := by
  unfold comesUp
  rw [domainUp_scope]
  rfl

section found
variable {s : State} {d : Fin 8}

theorem State.comesUp_ports (h5 : d ≠ 5) : (s.comesUp d).ports = s.ports := by
  unfold comesUp
  by_cases h6 : d = 6
  · rw [h6, domainUp_buses]
    rfl
  · rw [domainUp_other h5 h6]
    rfl

theorem State.comesUp_buses (h6 : d ≠ 6) : (s.comesUp d).buses = s.buses := by
  unfold comesUp
  by_cases h5 : d = 5
  · subst h5
    obtain hm | ⟨m, hm⟩ := Option.eq_none_or_eq_some s.model
    · rw [domainUp_noModel (s := s.switched 5) hm]
      rfl
    · rw [domainUp_ports (s := s.switched 5) hm]
      rfl
  · rw [domainUp_other h5 h6]
    rfl

theorem State.comesUp_sup (h5 : d ≠ 5) (h6 : d ≠ 6) : (s.comesUp d).sup = s.sup := by
  unfold comesUp
  rw [domainUp_other h5 h6]
  rfl

/-- PD5 finds its ports at their reset values. -/
theorem State.comesUp_port {m : Model} (hm : s.model = some m) (n : Fin 48) :
    ((s.comesUp 5).ports.get n).count = 0 ∧ ((s.comesUp 5).ports.get n).est = Est.zero ∧
      ((s.comesUp 5).ports.get n).en = decide ((m.ports.get n).mode ≠ 0) := by
  have e : (s.comesUp 5).ports.get n = Port.fresh (m.ports.get n) (s.ports.get n) := by
    unfold comesUp
    rw [domainUp_ports (s := s.switched 5) hm]
    exact (foldl_upd_get (fun n => Port.fresh (m.ports.get n)) (idx 48) s.ports n (idx_nodup 48)).trans (if_pos (mem_idx n))
  rw [e]
  exact Port.fresh_zero ..

end found

/-- A locked domain is not the next one. -/
theorem State.nextDomain_unlocked {s : State} {d : Fin 8} (h : s.nextDomain = some d) : s.pwr.domLock.getLsbD d.val = false := by
  have hp := List.find?_some h
  simp only [Bool.and_eq_true, Bool.not_eq_true'] at hp
  exact hp.2

/-- In BOOT domains are brought up at step 5 alone. -/
theorem State.nextDomain_boot {s : State} (hm : s.mod = .boot) (h : s.pwr.boot.step ≠ 5) : s.nextDomain = none := by
  have hw : s.wantedMask = 0 := by
    unfold wantedMask
    rw [hm]
    exact if_neg (by simp [h])
  unfold nextDomain
  rw [hw]
  exact List.find?_eq_none.mpr (by simp)

/-- The power unit's lock on a domain that has failed in service (log 124). -/
def Pwr.lock (p : Pwr) (d : Fin 8) : Pwr := { p with domLock := p.domLock ||| ((1 : BitVec 8) <<< d.val) }

section off
variable {s : State} {d : Fin 8} (hp : s.pwr.pd0 = true) (hd : d ≠ 0)
include hp hd

theorem State.railDomainOff_locks : s.railDomainOff d = (s.domainOff d).updPwr (·.lock d) :=
  (if_neg (by simp [hp])).trans (if_neg fun h => hd (Fin.ext h))

theorem State.railDomainOff_off (h : s.pd d.val = false) : s.railDomainOff d = s.updPwr (·.lock d) := by
  rw [railDomainOff_locks hp hd, domainOff_of_off h]

theorem State.railDomainOff_on (h : s.pd d.val = true) : s.railDomainOff d = ((s.updPwr (·.without d)).lose d).updPwr (·.lock d) := by
  rw [railDomainOff_locks hp hd, domainOff_eq h]

end off

/-! What each domain's loss takes. -/

theorem State.present_nodup (s : State) : s.present.Nodup := by
  unfold present
  cases s.model with
  | none => exact List.nodup_nil
  | some m => exact (idx_nodup 16).filter _

theorem State.lose_supplies (s : State) (g : Fin 6) :
    ((s.lose 5).sup.groups.get g).on = false ∧ .group g ∉ (s.lose 5).sup.queue := by
  have e : s.lose 5 = s.each (idx 6) groupOff := rfl
  rw [e, each_groupOff]
  refine ⟨?_, fun h => (mem_foldl_filter_group _ _).mp h |>.2 g (mem_idx g) rfl⟩
  exact congrArg Supply.on ((foldl_upd_get (fun _ => Supply.cut) (idx 6) s.sup.groups g (idx_nodup 6)).trans (if_pos (mem_idx g)))

theorem State.lose_buses (s : State) (n : Fin 12) : ((s.lose 6).buses.get n).state = .off ∧ ((s.lose 6).buses.get n).trxOn = false := by
  have e : (s.lose 6).buses.get n = { (Bus.cut (s.buses.get n)) with trxOn := false, onWait := false } := by
    refine ((s.each (idx 12) busOff).each_updBus_get (idx 12) (fun _ b => { b with trxOn := false, onWait := false }) (idx_nodup 12) n).trans ?_
    rw [if_pos (mem_idx n), each_busOff_scope]
    exact congrArg (fun b : Bus => { b with trxOn := false, onWait := false })
      ((foldl_upd_get (fun _ => Bus.cut) (idx 12) s.buses n (idx_nodup 12)).trans (if_pos (mem_idx n)))
  rw [e]
  exact ⟨rfl, rfl⟩

theorem State.lose_link (s : State) : (s.lose 7).tw.lanes = 0 := by
  change (if _ then _ else _ : State).tw.lanes = 0
  split
  · rw [raise_scope]
    rfl
  · rfl

theorem bit_eq (d : Fin 8) : ((1 <<< d.val : Nat) : BitVec 8) = (1 : BitVec 8) <<< d.val := rfl

/-- DOMAIN_SWITCH_ON of the domain whose turn it is. -/
theorem State.domainSwitchOn_turn {s : State} {d : Fin 8} (hn : s.nextDomain = some d) (hl : 16 ≤ s.pwr.lastOn)
    (hb : s.pwr.domOk.getLsbD (s.domainBefore d).val = true) (w : Bool) : s.domainSwitchOn d w =
      if !w then (if s.mod = .boot then (s.updPwr fun p => { p with lastOn := 0 }).failSlot else s.updPwr fun p => { p with lastOn := 0 })
      else if (s.comesUp d).mod = .boot && (s.comesUp d).nextDomain.isNone
        then (s.comesUp d).updPwr fun p => { p with boot := { p.boot with step := 6 } } else s.comesUp d := by
  unfold domainSwitchOn
  rw [if_neg (by simp [hn, hb, Nat.not_lt.mpr hl])]
  cases w
  · rfl
  · simp only [bit_eq]
    rfl

/-- Settles O12: a rail out of its window, a domain off and the next domain on. A domain that misses its window in service stays off
(log 124), and a failed start step has its domains off (log 125): the model's choices. -/
theorem railsAndDomains : Obligations.RailsAndDomains := by
  refine ⟨?rail, ?off, ?locked, ?on, ?missed, ?bootFails⟩
  case rail =>
    intro s d rail mv v hv hp ho
    have hk : railOk v mv = false := by
      simp only [railOk, Bool.and_eq_false_iff, decide_eq_false_iff_not]
      omega
    exact ⟨_, congrArg Host.Outcome.next (railFault_reports hv hp hk), fun e he => Tab.get_upd_ne _ _ he.symm, by
      rw [Tab.get_upd_same]; simp only [railShown, Fin.ext_iff]; rfl⟩
  case off =>
    intro s d hp hd
    cases h : s.pd d.val
    · exact ⟨_, congrArg Host.Outcome.next (railDomainOff_off hp hd h), rfl, rfl, rfl, rfl, hp, rfl, fun _ => ⟨rfl, rfl⟩, fun hx => Bool.noConfusion hx⟩
    · have hs := (s.updPwr (·.without d)).lose_scope d
      have hw : ((s.updPwr (·.without d)).lose d).pwr = s.pwr.without d := congrArg State.pwr hs
      refine ⟨_, congrArg Host.Outcome.next (railDomainOff_on hp hd h), (congrArg State.pending hs :), (congrArg State.tick hs :), (congrArg State.model hs :),
        (congrArg State.mod hs :), (congrArg Pwr.pd0 hw :).trans hp, (congrArg (fun p : Pwr => (p.lock d).domLock) hw :), fun hx => Bool.noConfusion hx,
        fun _ => ⟨(congrArg Pwr.domOn hw :), (congrArg Pwr.domOk hw :), ?_, ?_, ?_, ?_, ?_, ?_, ?_⟩⟩
      · rintro rfl
        exact ⟨rfl, rfl⟩
      · rintro rfl c hc
        exact (each_askSf1_get (s.updPwr (·.without 2)) (present_nodup s) c).trans (by simp [hc])
      · rintro rfl
        rfl
      · rintro rfl
        rfl
      · rintro rfl g
        exact lose_supplies (s.updPwr (·.without 5)) g
      · rintro rfl n
        exact lose_buses (s.updPwr (·.without 6)) n
      · rintro rfl
        exact lose_link (s.updPwr (·.without 7))
  case locked =>
    intro s d hl hn
    exact Bool.false_ne_true ((nextDomain_unlocked hn).symm.trans hl)
  case on =>
    intro s d hn hl hb
    have hs := comesUp_scope s d
    have hmod : (s.comesUp d).mod = s.mod := (congrArg State.mod hs :)
    have hpwr := comesUp_pwr s d
    have e := (domainSwitchOn_turn hn hl hb true).trans (if_neg Bool.noConfusion)
    by_cases hx : s.mod = .boot ∧ (s.comesUp d).nextDomain = none
    · have h5 : s.pwr.boot.step = 5 := by_contra fun h => Option.some_ne_none d (hn.symm.trans (nextDomain_boot hx.1 h))
      have hno : (State.nextDomain ((s.comesUp d).updPwr fun p => { p with boot := { p.boot with step := 6 } })) = none :=
        nextDomain_boot (hmod.trans hx.1) (show (6 : Nat) ≠ 5 by decide)
      refine ⟨_, congrArg Host.Outcome.next (e.trans (if_pos (by simp [hmod, hx]))), ?_, ?_, fun h => comesUp_ports h,
        fun h => comesUp_buses h, fun h h' => comesUp_sup h h', ?_⟩
      · rw [if_pos ⟨hx.1, hno, h5⟩]
        exact congrArg (fun p : Pwr => { p with boot := { p.boot with step := 6 } }) hpwr
      · exact congrArg (fun t : State => t.updPwr fun p => { p with boot := { p.boot with step := 6 } }) hs
      · rintro m hm rfl n
        exact comesUp_port hm n
    · refine ⟨_, congrArg Host.Outcome.next (e.trans (if_neg fun h => hx ?_)), ?_, ?_, fun h => comesUp_ports h,
        fun h => comesUp_buses h, fun h h' => comesUp_sup h h', ?_⟩
      · simpa [hmod] using h
      · rw [if_neg fun h => hx ⟨h.1, h.2.1⟩]
        exact hpwr
      · exact hs
      · rintro m hm rfl n
        exact comesUp_port hm n
  case missed =>
    intro s d hn hl hb hm
    refine congrArg Host.Outcome.next ((domainSwitchOn_turn hn hl hb false).trans ?_)
    exact (if_pos rfl).trans (if_neg hm)
  case bootFails =>
    intro s d hn hl hb hm
    refine ⟨_, congrArg Host.Outcome.next ((domainSwitchOn_turn hn hl hb false).trans ((if_pos rfl).trans (if_pos hm))), rfl, rfl, rfl, rfl, rfl, fun k hk => ?_, ?_⟩
    · exact Tab.get_upd_ne _ _ hk.symm
    · exact Tab.get_upd_same ..

end Sys2Proof.Machine
end

section
/-! The fault collector (16): a message on arrival, and the result of a targeted test. -/

namespace Sys2Proof.Machine

open State

/-! What follows from a retirement or the end of a test leaves the collector's books alone. -/

/-- `t` has the collector, the state and the model of `s`. -/
structure State.SameBooks (s t : State) : Prop where
  fc : t.fc = s.fc
  mod : t.mod = s.mod
  model : t.model = s.model

theorem State.SameBooks.refl (s : State) : s.SameBooks s := ⟨rfl, rfl, rfl⟩

theorem State.SameBooks.trans {s t u : State} (h : s.SameBooks t) (h' : t.SameBooks u) : s.SameBooks u :=
  ⟨h'.fc.trans h.fc, h'.mod.trans h.mod, h'.model.trans h.model⟩

theorem State.each_sameBooks {α : Type} {f : State → α → State} (h : ∀ (s : State) a, s.SameBooks (f s a)) (s : State) (l : List α) :
    s.SameBooks (s.each l f) :=
  each_inv s (fun u => s.SameBooks u) f (fun u a hu => hu.trans (h u a)) l (.refl s)

theorem State.joinChain_sameBooks (s : State) (i : ChainItem) : s.SameBooks (s.joinChain i) := by
  rw [joinChain_scope]
  exact ⟨rfl, rfl, rfl⟩

theorem State.updCh_sameBooks (s : State) (i : Fin 96) (f : PolCh → PolCh) : s.SameBooks (s.updCh i f) := ⟨rfl, rfl, rfl⟩

theorem State.updLane_sameBooks (s : State) (k : Fin 48) (f : Lane → Lane) : s.SameBooks (s.updLane k f) := ⟨rfl, rfl, rfl⟩

theorem State.askSf1_sameBooks (s : State) (c : Fin 16) : s.SameBooks (s.askSf1 c) := ⟨rfl, rfl, rfl⟩

theorem State.serviceHold_sameBooks (s : State) (c : Fin 16) (cause : Nat) : s.SameBooks (s.serviceHold c cause) := ⟨rfl, rfl, rfl⟩

theorem State.holdBusCars_sameBooks (s : State) (n : Nat) : s.SameBooks (s.holdBusCars n) :=
  each_sameBooks (fun s c => s.serviceHold_sameBooks c 0xF1) s _

theorem State.setSide_fault_sameBooks (s : State) (m : Model) (d : Fin 32) : s.SameBooks (s.setSide m d .fault) := by
  rw [setSide_fault_scope]
  exact ⟨rfl, rfl, rfl⟩

theorem State.doorHaltReq_sameBooks (s : State) (d : Fin 32) : s.SameBooks (s.doorHaltReq d) := by
  rw [doorHaltReq_scope]
  exact ⟨rfl, rfl, rfl⟩

theorem State.setSide_unref_sameBooks (s : State) (m : Model) (d : Fin 32) : s.SameBooks (s.setSide m d .unref) := by
  rw [setSide_enters (n := .unref) _ _ _ nofun nofun]
  exact ⟨rfl, rfl, rfl⟩

theorem State.unrefSide_sameBooks (s : State) (m : Model) (d : Fin 32) : s.SameBooks (s.unrefSide m d) := by
  have hh : s.SameBooks (if (s.axes.get (doorAxis d)).moving || (s.axes.get (doorAxis d)).req.run.isSome then s.doorHaltReq d else s) := by
    split
    · exact doorHaltReq_sameBooks ..
    · exact .refl s
  have hu (t : State) : t.SameBooks (if (t.sides.get d).state = .fault || (t.sides.get d).state = .released then t else t.setSide m d .unref) := by
    split
    · exact .refl t
    · exact setSide_unref_sameBooks ..
  have hx (t : State) (f : Side → Side) : t.SameBooks (t.updSide d f) := ⟨rfl, rfl, rfl⟩
  unfold unrefSide
  exact (hh.trans (hx _ _)).trans (hu _)

theorem State.faultSide_sameBooks (s : State) (m : Model) (d : Fin 32) : s.SameBooks (s.faultSide m d) := by
  have hu : s.SameBooks (if (s.sides.get d).state.moves || (s.axes.get (doorAxis d)).moving then s.unrefSide m d else s) := by
    split
    · exact unrefSide_sameBooks ..
    · exact .refl s
  have hx (t : State) (f : Side → Side) : t.SameBooks (t.updSide d f) := ⟨rfl, rfl, rfl⟩
  unfold faultSide
  exact (hu.trans (hx _ _)).trans (setSide_fault_sameBooks _ m d)

theorem State.dropTx_sameBooks (s : State) (n : Fin 12) (count : Bool) : s.SameBooks (s.dropTx n count) := by
  rw [dropTx_scope]
  exact ⟨rfl, rfl, rfl⟩

/-- What a retirement does to the group (R539). -/
theorem State.retireEffects_sameBooks (s : State) (u : TestUnit) : s.SameBooks (s.retireEffects u) := by
  cases u with
  | channel i =>
    simp only [retireEffects]
    split
    · split
      · exact (updCh_sameBooks s i _).trans (serviceHold_sameBooks ..)
      · exact updCh_sameBooks s i _
    · exact updCh_sameBooks s i _
  | bus n =>
    have hd := (s.dropTx_sameBooks n true).trans
      (u := (s.dropTx n true).updBus n fun b => { b with state := .retired, start := false, adopted := false }) ⟨rfl, rfl, rfl⟩
    simp only [retireEffects]
    split
    · exact hd.trans (holdBusCars_sameBooks ..)
    · exact hd
  | lane k =>
    simp only [retireEffects]
    split
    · exact ((updLane_sameBooks s k _).trans (askSf1_sameBooks ..)).trans (serviceHold_sameBooks ..)
    · split
      · exact (updLane_sameBooks s k _).trans (faultSide_sameBooks ..)
      · exact updLane_sameBooks s k _
  | cv n =>
    simp only [retireEffects]
    split
    · exact holdBusCars_sameBooks ..
    · exact .refl s
  | carCore cc => exact each_sameBooks (f := fun s c => (s.askSf1 c).serviceHold c 0xF1) (fun s c => (askSf1_sameBooks s c).trans (serviceHold_sameBooks ..)) s _
  | supply g => exact ⟨rfl, rfl, rfl⟩
  | _ => exact .refl s

/-- A unit leaves its test (R536). -/
theorem State.leaveTest_sameBooks (s : State) (u : TestUnit) : s.SameBooks (s.leaveTest u) := by
  cases u with
  | supply g =>
    simp only [leaveTest]
    split
    · exact SameBooks.trans (t := s.updSup g fun u => { u with trip := false }) ⟨rfl, rfl, rfl⟩ (joinChain_sameBooks ..)
    · exact ⟨rfl, rfl, rfl⟩
  | _ => exact ⟨rfl, rfl, rfl⟩

/-- CLEAR_RETIRED that ends changes its own entry and the host's answers. -/
theorem State.endClear_scope (s : State) (u : TestUnit) (failed : Bool) : s.endClear u failed = { s with
    fc := { s.fc with clearing := (s.endClear u failed).fc.clearing }, hi := (s.endClear u failed).hi } := by
  unfold endClear
  split
  · rfl
  · split
    · rfl
    · dsimp only
      split
      · split
        · split <;> rw [finish_scope] <;> rfl
        · rfl
      · rfl

/-! A retirement (R538). -/

/-- The books once a unit is marked as retired. -/
def Fc.marked (f : Fc) (u : TestUnit) : Fc :=
  { f with retired := f.retired ++ [u], retiredCnt := f.retiredCnt + 1, flashDue := true, tests := f.tests.filter (·.unit ≠ u) }

section retire
variable {s : State} {u : TestUnit} (src : BitVec 10) (kind : Byte) (cls : BitVec 2) (ctx : BitVec 32)

theorem State.markRetired_new (h : s.isRetired u = false) : ∃ hi k, s.markRetired u src kind cls ctx = { s with fc := s.fc.marked u, hi := hi, freeCtr := k } := by
  unfold markRetired
  rw [if_neg (by simp [h])]
  dsimp only
  rw [faultEvent_scope]
  exact ⟨_, _, rfl⟩

/-- A unit that is not yet retired is marked, and what follows leaves the books alone. -/
theorem State.retire_new (h : s.isRetired u = false) (hp : ∀ p, u = .sramPage p → s.sramRetired < 32) :
    (s.retire u src kind cls ctx).fc = s.fc.marked u ∧ (s.retire u src kind cls ctx).mod = s.mod ∧ (s.retire u src kind cls ctx).model = s.model := by
  obtain ⟨hi, k, e⟩ := markRetired_new src kind cls ctx h
  have hr : s.retire u src kind cls ctx = (s.markRetired u src kind cls ctx).retireEffects u := by
    unfold retire
    rw [if_neg (by simp [h])]
    cases u with
    | sramPage p => exact if_neg (Nat.not_le.mpr (hp p rfl))
    | _ => rfl
  rw [hr, e]
  obtain ⟨hf, hm, hx⟩ := retireEffects_sameBooks { s with fc := s.fc.marked u, hi := hi, freeCtr := k } u
  exact ⟨hf, hm, hx⟩

theorem State.retire_old (h : s.isRetired u = true) : s.retire u src kind cls ctx = s := if_pos h

end retire

/-! The result of a test (R537). -/

/-- The books once a unit's test is over. -/
def State.noteDone (s : State) (u : TestUnit) : State := s.updFc fun f => { f with tests := f.tests.filter (·.unit ≠ u) }

theorem State.testFail_eq (s : State) (t : TestRun) : s.testFail t =
    (((s.noteDone t.unit).leaveTest t.unit).retire t.unit t.source t.kind (testClass t) t.context).endClear t.unit true := rfl

/-- The end of a port's test gives it back what was saved at its start. -/
theorem State.portTestEnd_saved {s : State} {n : Fin 48} {c : BitVec 32} {f : PortFlags} {a b : BitVec 16}
    (h : (s.ports.get n).saved = some (c, f, a, b)) : (s.portTestEnd n).ports.get n =
      { s.ports.get n with count := c, flags := f, evCmp := a, evIllegal := b, saved := none, est := Est.zero } := by
  simp only [portTestEnd, updPort, Tab.get_upd_same, h]

/-- Without CLEAR_RETIRED the end of a test tells nobody. -/
theorem State.endClear_none {s : State} (h : s.fc.clearing = none) (u : TestUnit) (failed : Bool) : s.endClear u failed = s := by
  unfold endClear
  rw [h]

/-- The passes of a unit in the last day, with this one. -/
def State.passed (s : State) (u : TestUnit) : List Nat := (passesOf s.fc.hist u).filter (fun x => s.fc.powered - x < dayT0) ++ [s.fc.powered]

/-- The books once a unit's pass is in its history. -/
def State.notePass (s : State) (u : TestUnit) : State := s.updFc fun f =>
  { f with hist := (u, s.passed u) :: f.hist.filter (·.1 ≠ u), flashDue := true, tests := f.tests.filter (·.unit ≠ u) }

theorem State.passesOf_notePass (s : State) (u : TestUnit) : s.fc.powered ∈ passesOf (s.notePass u).fc.hist u := by
  simp [passesOf, notePass, updFc, passed]

section done
variable {s : State} {u : TestUnit} {t : TestRun}
  (ht : s.fc.tests.find? (fun t => t.unit = u && t.running && decide (testT0 u ≤ t.age)) = some t)
include ht

theorem State.running_unit : t.unit = u := by
  have hp := List.find?_some ht
  simp only [Bool.and_eq_true, decide_eq_true_eq] at hp
  exact hp.1.1

/-- Fewer than two passes in the day: the fault was transient. -/
theorem State.testDone_transient (h : ((passesOf s.fc.hist u).filter fun x => s.fc.powered - x < dayT0).length < 2) :
    s.testDone u .pass = (((s.notePass u).leaveTest u).updFc fun f => { f with transient := f.transient + 1 }).endClear u false := by
  have hu := running_unit ht
  unfold testDone
  rw [ht]
  subst hu
  exact if_neg (by simp only [List.length_append, List.length_singleton]; omega)

/-- The third pass in the day retires the unit. -/
theorem State.testDone_permanent (h : 2 ≤ ((passesOf s.fc.hist u).filter fun x => s.fc.powered - x < dayT0).length) :
    s.testDone u .pass = (((s.notePass u).leaveTest u).retire u t.source t.kind (testClass t) t.context).endClear u true := by
  have hu := running_unit ht
  unfold testDone
  rw [ht]
  subst hu
  exact if_pos (by simp only [List.length_append, List.length_singleton]; omega)

theorem State.testDone_fail : s.testDone u .fail = s.testFail t := by
  unfold testDone
  rw [ht]

end done

/-- A test that finds two channels crossed fails, and retires the other as well. -/
theorem State.testDone_cross {s : State} {i : Fin 96} {t : TestRun}
    (ht : s.fc.tests.find? (fun t => t.unit = TestUnit.channel i && t.running && decide (testT0 (.channel i) ≤ t.age)) = some t) (j : Fin 96) :
    s.testDone (.channel i) (.cross j) = ((s.raise (0x40 + i.val / 8) 2 2 (BitVec.ofNat 32 i.val) j.val).testFail t).retire (.channel j)
      (BitVec.ofNat 10 (0x40 + j.val / 8)) 2 2 (BitVec.ofNat 32 j.val) := by
  unfold testDone
  rw [ht]

/-- The unit of a test that is over is retired, with the books otherwise as they were. -/
theorem State.retire_endClear {s : State} {u : TestUnit} (src : BitVec 10) (kind : Byte) (cls : BitVec 2) (ctx : BitVec 32)
    (ht : ∀ x ∈ s.fc.tests, x.unit ≠ u) (hp : ∀ p, u = .sramPage p → s.sramRetired < 32) :
    ∃ v, (s.retire u src kind cls ctx).endClear u true = v ∧ u ∈ v.fc.retired ∧
      v.fc.hist = s.fc.hist ∧ v.fc.transient = s.fc.transient ∧ (∀ x ∈ v.fc.tests, x.unit ≠ u) ∧ v.mod = s.mod ∧ v.model = s.model := by
  refine ⟨_, rfl, ?_⟩
  rw [endClear_scope]
  cases h : s.isRetired u with
  | true =>
    rw [retire_old _ _ _ _ h]
    exact ⟨by simpa [isRetired] using h, rfl, rfl, ht, rfl, rfl⟩
  | false =>
    obtain ⟨hf, hm, hx⟩ := retire_new src kind cls ctx h hp
    refine ⟨?_, ?_, ?_, ?_, hm, hx⟩ <;> simp only [hf]
    · simp [Fc.marked]
    · rfl
    · rfl
    · exact fun x hx => ht x (List.mem_of_mem_filter hx)

theorem tests_filter_unit {l : List TestRun} {u : TestUnit} : ∀ x ∈ l.filter (·.unit ≠ u), x.unit ≠ u := by
  intro x hx
  simpa using (List.mem_filter.mp hx).2

/-- A test that fails retires its unit. -/
theorem State.testFail_retires {s : State} (t : TestRun) (hp : ∀ p, t.unit = .sramPage p → s.sramRetired < 32) :
    t.unit ∈ (s.testFail t).fc.retired ∧ (s.testFail t).mod = s.mod ∧ (s.testFail t).model = s.model ∧
      ∀ x ∈ (s.testFail t).fc.tests, x.unit ≠ t.unit := by
  obtain ⟨hf, hm, hx⟩ := (s.noteDone t.unit).leaveTest_sameBooks t.unit
  obtain ⟨v, hv, hret, -, -, htests, hvm, hvx⟩ := retire_endClear (s := (s.noteDone t.unit).leaveTest t.unit) t.source t.kind (testClass t) t.context
    (by rw [hf]; exact tests_filter_unit) (by unfold sramRetired; rw [hf]; exact hp)
  rw [testFail_eq, hv]
  exact ⟨hret, hvm.trans hm, hvx.trans hx, htests⟩

/-- What is retired stays retired. -/
theorem State.mem_retire {s : State} {u w : TestUnit} (src : BitVec 10) (kind : Byte) (cls : BitVec 2) (ctx : BitVec 32)
    (hw : w ∈ s.fc.retired) (hp : ∀ p, u = .sramPage p → s.sramRetired < 32) : w ∈ (s.retire u src kind cls ctx).fc.retired ∧
      u ∈ (s.retire u src kind cls ctx).fc.retired := by
  cases h : s.isRetired u with
  | true =>
    rw [retire_old _ _ _ _ h]
    exact ⟨hw, by simpa [isRetired] using h⟩
  | false =>
    rw [(retire_new src kind cls ctx h hp).1]
    simp [Fc.marked, hw]

/-! A message on arrival (R531). -/

/-- A message of class F waits for its boundary, HATN with the rings off, and halts start-up. -/
def State.strike (s : State) (m : FaultMsg) (r : BitVec 5) : State :=
  if m.cls = 3 then
    let s := s.updFc fun f => { f with arrived := f.arrived ++ [⟨m, r⟩], crst := f.crst || r.getLsbD 3 }
    let s := s.updHi fun h => { h with hatn := h.hatn || !h.en, fHeld := h.fHeld || !h.en }
    if s.mod = .boot then s.haltBoot m else s
  else s

/-- The block reset of a message with BRST. -/
def State.blockReset (s : State) (m : FaultMsg) (r : BitVec 5) : State := if r.getLsbD 2 then s.brst m.source.toNat else s

theorem State.onArrival_eq (s : State) (m : FaultMsg) : s.onArrival m =
    ((s.blockReset m (reactionOf s.fc m.source.toNat m.cls)).updFc fun f =>
      { f with nerr := f.nerr || (reactionOf s.fc m.source.toNat m.cls).getLsbD 4 }).strike m (reactionOf s.fc m.source.toNat m.cls) := by
  have hn (t : State) (b : Bool) : (if b then t.updFc fun f => { f with nerr := true } else t) = t.updFc fun f => { f with nerr := f.nerr || b } := by
    cases b <;> simp [updFc]
  refine Eq.trans ?_ (congrArg (fun t => State.strike t m _) (hn _ _))
  rfl

theorem State.blockReset_scope (s : State) (m : FaultMsg) (r : BitVec 5) :
    s.blockReset m r = { s with hi := (s.blockReset m r).hi, cvs := (s.blockReset m r).cvs } := by
  unfold blockReset
  split
  · rw [brst_scope]
  · rfl

theorem State.blockReset_fc (s : State) (m : FaultMsg) (r : BitVec 5) : (s.blockReset m r).fc = s.fc := by rw [blockReset_scope]

theorem State.blockReset_none {s : State} {r : BitVec 5} (h : r.getLsbD 2 = false) (m : FaultMsg) : s.blockReset m r = s :=
  if_neg (Bool.not_eq_true _ ▸ h)

theorem State.blockReset_of {s : State} {r : BitVec 5} (h : r.getLsbD 2 = true) (m : FaultMsg) : s.blockReset m r = s.brst m.source.toNat :=
  if_pos h

theorem State.haltBoot_fc (s : State) (m : FaultMsg) : (s.haltBoot m).fc = s.fc := by
  unfold haltBoot
  split <;> rfl

theorem State.strike_fc (s : State) (m : FaultMsg) (r : BitVec 5) :
    (s.strike m r).fc = { s.fc with arrived := (s.strike m r).fc.arrived, crst := (s.strike m r).fc.crst } := by
  unfold strike
  split
  · dsimp only
    split
    · rw [haltBoot_fc]
      rfl
    · rfl
  · rfl

/-- What an arrival leaves of the collector. -/
theorem State.onArrival_fc (s : State) (m : FaultMsg) : (s.onArrival m).fc = { s.fc with
    nerr := (s.onArrival m).fc.nerr, arrived := (s.onArrival m).fc.arrived, crst := (s.onArrival m).fc.crst } := by
  rw [onArrival_eq, strike_fc]
  simp only [updFc, blockReset_fc]

section arrival
variable {s : State} {m : FaultMsg}

theorem State.strike_below (h : m.cls ≠ 3) (r : BitVec 5) : s.strike m r = s := if_neg h

/-- Below class F an arrival is a block reset and nERR. -/
theorem State.onArrival_below (h : m.cls ≠ 3) : s.onArrival m = (s.blockReset m (reactionOf s.fc m.source.toNat m.cls)).updFc fun f =>
    { f with nerr := f.nerr || (reactionOf s.fc m.source.toNat m.cls).getLsbD 4 } := by
  rw [onArrival_eq, strike_below h]

/-- Outside BOOT a class F message waits for its boundary. -/
theorem State.strike_running (h : m.cls = 3) (hm : s.mod ≠ .boot) (r : BitVec 5) : s.strike m r =
    (s.updFc fun f => { f with arrived := f.arrived ++ [⟨m, r⟩], crst := f.crst || r.getLsbD 3 }).updHi fun h =>
      { h with hatn := h.hatn || !h.en, fHeld := h.fHeld || !h.en } :=
  (if_pos h).trans (if_neg hm)

theorem State.onArrival_fatal (h : m.cls = 3) (hm : s.mod ≠ .boot) (h2 : (reactionOf s.fc m.source.toNat m.cls).getLsbD 2 = false) :
    s.onArrival m = (s.updFc fun f => { f with
      nerr := f.nerr || (reactionOf s.fc m.source.toNat m.cls).getLsbD 4
      arrived := f.arrived ++ [⟨m, reactionOf s.fc m.source.toNat m.cls⟩]
      crst := f.crst || (reactionOf s.fc m.source.toNat m.cls).getLsbD 3 }).updHi fun h =>
        { h with hatn := h.hatn || !h.en, fHeld := h.fHeld || !h.en } := by
  rw [onArrival_eq, blockReset_none h2, strike_running (s := s.updFc _) h hm]
  rfl

/-- In BOOT one that does not fail the slot halts start-up. -/
theorem State.strike_halts (h : m.cls = 3) (hm : s.mod = .boot) (hf : s.failsSlot m = false) (r : BitVec 5) :
    (s.strike m r).pwr = { s.pwr with boot := { s.pwr.boot with halted := true, hot := m.source = 0xF2 && m.kind = 3 } } ∧
      (s.strike m r).hi.hrdy = false ∧ (s.strike m r).mod = .boot ∧ (s.strike m r).fc.batch = s.fc.batch := by
  have e : s.strike m r = _ := (if_pos h).trans ((if_pos hm).trans (if_neg (Bool.not_eq_true _ ▸ hf)))
  rw [e]
  exact ⟨rfl, rfl, hm, rfl⟩

theorem State.onArrival_batch (s : State) (m : FaultMsg) : (s.onArrival m).fc.batch = s.fc.batch := by rw [onArrival_fc]

end arrival

theorem State.report_retired (s : State) (m : FaultMsg) : (s.report m).fc.retired = s.fc.retired := by
  unfold report
  split
  · rfl
  · split
    · rfl
    · split
      · rfl
      · rw [onArrival_fc]
        rfl

/-- The batch with one message more. -/
def State.batched (s : State) (m : FaultMsg) : State := s.updFc fun f =>
  { f with batch := f.batch ++ [m], countC := if m.cls = 1 then bumpCount f.countC m.source else f.countC }

section report
variable {s : State} {m : FaultMsg}

theorem State.report_mod (s : State) (m : FaultMsg) : (s.report m).mod = s.mod := by rw [report_scope]

/-- Outside BOOT no slot is left. -/
theorem State.settleBoot_running (h : s.mod ≠ .boot) : s.settleBoot = s := if_neg (by simp [h])

/-- A message joins the batch and acts on arrival. -/
theorem State.report_taken (ho : s.mod ≠ .off) (hc : m.cls ≠ 0) (hu : (unitOf m).any s.silenced = false)
    (hb : m.cls = 1 → countOf s.fc.countC m.source < 8 ∧ batchFull s.fc.batch = false) : s.report m = (s.batched m).onArrival m := by
  refine (if_neg (by simpa [ho] using hc)).trans ((if_neg (by simp [hu])).trans (if_neg ?_))
  intro h
  simp only [Bool.and_eq_true, decide_eq_true_eq, Bool.or_eq_true] at h
  obtain ⟨hlt, hfull⟩ := hb h.1
  rcases h.2 with h | h
  · omega
  · exact Bool.false_ne_true (hfull.symm.trans h)

/-- A ninth message of class C in a T1, or one that finds the batch full, is only counted (R533). -/
theorem State.report_suppressed (ho : s.mod ≠ .off) (hc : m.cls = 1) (hu : (unitOf m).any s.silenced = false)
    (hb : 8 ≤ countOf s.fc.countC m.source ∨ batchFull s.fc.batch = true) :
    s.report m = s.updFc fun f => { f with suppressed := f.suppressed + 1, countC := bumpCount f.countC m.source } :=
  (if_neg (by simp [ho, hc])).trans ((if_neg (by simp [hu])).trans (if_pos (by simpa [hc] using hb)))

/-- A unit that is silenced sends nothing. -/
theorem State.report_silenced (hu : (unitOf m).any s.silenced = true) : s.report m = s := by
  unfold report
  rw [if_pos hu, ite_self]

/-- A class U message in service: its block reset and nERR. -/
theorem State.settled_U (ho : s.mod ≠ .off) (hm : s.mod ≠ .boot) (hc : m.cls = 2) (hu : (unitOf m).any s.silenced = false) :
    (s.report m).settleBoot = ((s.batched m).blockReset m (reactionOf s.fc m.source.toNat m.cls)).updFc fun f =>
      { f with nerr := f.nerr || (reactionOf s.fc m.source.toNat m.cls).getLsbD 4 } := by
  rw [settleBoot_running (by rw [report_mod]; exact hm), report_taken ho (by rw [hc]; decide) hu (by rw [hc]; simp),
    onArrival_below (by rw [hc]; decide)]
  rfl

section exists_
variable (ho : s.mod ≠ .off) (hx : sourceExists m.source.toNat = true)
include ho hx

theorem State.faultReport_open : ¬ (decide (s.mod = .off) || !sourceExists m.source.toNat) = true := by simp [ho, hx]

/-- Most messages lead to nothing else. -/
theorem State.faultReport_plain (hcv : ¬ (0x90 ≤ m.source.toNat ∧ m.source.toNat < 0xA0 ∧ m.kind = 1))
    (hlv : ¬ ((m.source = 0x76 ∨ m.source = 0x77) ∧ m.kind = 1)) : s.faultReport m = (s.report m).settleBoot := by
  have h6 : ¬ (m.source.toNat = 0x76 ∧ m.kind = 1) := fun h => hlv ⟨.inl (BitVec.eq_of_toNat_eq h.1), h.2⟩
  have h7 : ¬ (m.source.toNat = 0x77 ∧ m.kind = 1) := fun h => hlv ⟨.inr (BitVec.eq_of_toNat_eq h.1), h.2⟩
  unfold faultReport unitAt
  dsimp only
  rw [if_neg (faultReport_open ho hx), if_neg (by simpa using h6), if_neg (by simpa using h7)]
  split
  · next k hk =>
    split at hk
    · refine if_neg fun h => hcv ?_
      simp only [Bool.and_eq_true, decide_eq_true_eq] at h
      exact ⟨h.1, by omega, h.2⟩
    · cases hk
  · rfl

/-- A MISMATCH spoils the next use of its channel (log 167). -/
theorem State.faultReport_mismatch {k : Fin 16} (hs : m.source.toNat = 0x90 + k.val) (hk : m.kind = 1) :
    s.faultReport m = (s.report m).settleBoot.updCv k fun c => { c with mismatch := c.mismatch + 1, bad := true } := by
  have h6 : m.source.toNat ≠ 0x76 := by omega
  have h7 : m.source.toNat ≠ 0x77 := by omega
  have hu : unitAt 16 (m.source.toNat - 0x90) .cv = some (.cv k) := by
    rw [hs, Nat.add_sub_cancel_left]
    exact unitAt_val k .cv
  unfold faultReport
  dsimp only
  rw [if_neg (faultReport_open ho hx), if_neg (by simp [h6]), if_neg (by simp [h7]), hu]
  exact if_pos (by simp [hs, hk])

/-- A LOCKSTEP makes the evaluation of its core missed. -/
theorem State.faultReport_lockstep {lc : Fin 2} (hs : m.source.toNat = 0x76 + lc.val) (hk : m.kind = 1) :
    s.faultReport m = (s.report m).settleBoot.missEvaluation lc true := by
  unfold faultReport
  dsimp only
  rw [if_neg (faultReport_open ho hx)]
  obtain rfl | rfl : lc = 0 ∨ lc = 1 := by omega
  · exact if_pos (by simp [hs, hk])
  · rw [if_neg (by simp [hs])]
    exact if_pos (by simp [hs, hk])

/-- What follows a report touches the marks of the tick and the check-value channels alone. -/
theorem State.faultReport_scope : s.faultReport m =
    { (s.report m).settleBoot with spill := (s.faultReport m).spill, cvs := (s.faultReport m).cvs } := by
  by_cases hlv : (m.source = 0x76 ∨ m.source = 0x77) ∧ m.kind = 1
  · obtain ⟨lc, hs⟩ : ∃ lc : Fin 2, m.source.toNat = 0x76 + lc.val := by
      rcases hlv.1 with h | h
      · exact ⟨0, by rw [h]; rfl⟩
      · exact ⟨1, by rw [h]; rfl⟩
    rw [faultReport_lockstep ho hx hs hlv.2]
    unfold missEvaluation
    split <;> rfl
  · by_cases hcv : 0x90 ≤ m.source.toNat ∧ m.source.toNat < 0xA0 ∧ m.kind = 1
    · rw [faultReport_mismatch ho hx (k := ⟨m.source.toNat - 0x90, by omega⟩) (by dsimp only; omega) hcv.2.2]
      rfl
    · rw [faultReport_plain ho hx hcv hlv]

end exists_

end report

/-! The units that a MISMATCH and a LOCKSTEP name. -/

theorem unitOf_cv {m : FaultMsg} {k : Fin 16} (hs : m.source.toNat = 0x90 + k.val) : unitOf m = some (.cv k) := by
  have hk : k.val < 16 := k.isLt
  unfold unitOf
  dsimp only
  rw [hs]
  iterate 6 rw [if_neg (by omega)]
  rw [if_pos (by omega), Nat.add_sub_cancel_left]
  exact unitAt_val k .cv

theorem unitOf_levee {m : FaultMsg} {lc : Fin 2} (hs : m.source.toNat = 0x76 + lc.val) (hk : m.kind = 1) : unitOf m = some (.levee lc) := by
  have hl : lc.val < 2 := lc.isLt
  unfold unitOf
  dsimp only
  rw [hs]
  iterate 4 rw [if_neg (by omega)]
  rw [if_pos ⟨by omega, by omega, .inl (by rw [hk]; rfl)⟩, Nat.add_sub_cancel_left]
  exact unitAt_val lc .levee

/-- A block reset of a check-value channel leaves its count of mismatches and every other channel. -/
theorem State.blockReset_cv {s : State} {m : FaultMsg} {k : Fin 16} (hs : m.source.toNat = 0x90 + k.val) (r : BitVec 5) :
    ((s.blockReset m r).cvs.get k).mismatch = (s.cvs.get k).mismatch ∧ ∀ x, x ≠ k → (s.blockReset m r).cvs.get x = s.cvs.get x := by
  have hb : s.brst (0x90 + k.val) = s.updCv k fun c => { c with poly := 0 } := by
    unfold brst
    rw [if_neg (by omega), if_neg (by omega), Nat.add_sub_cancel_left, unitAt_val]
  unfold blockReset
  split
  · rw [hs, hb]
    exact ⟨by simp only [updCv, Tab.get_upd_same], fun x hx => Tab.get_upd_ne _ _ hx.symm⟩
  · exact ⟨rfl, fun _ _ => rfl⟩

/-- Settles O60: a message on its arrival, by its source and class, and each result of a targeted test (logs 92, 121, 167
and 169). -/
theorem faultMessagesAndTests : Obligations.FaultMessagesAndTests := by
  refine ⟨?taken, ?blockReset, ?mismatch, ?lockstep, ?halts, ?suppressed, ?silenced, ?none, ?passes, ?third, ?port, ?fails, ?cross, ?idle⟩
  case taken =>
    intro s m r ho hx hc hu hb hcv hlv hm hr
    have ht : s.faultReport m = (s.batched m).onArrival m := by
      rw [faultReport_plain ho hx hcv hlv, settleBoot_running (by rw [report_mod]; exact hm), report_taken ho hc hu hb]
    subst hr
    refine ⟨_, rfl, congrArg Host.Outcome.next ht, fun h3 h2 => ?_, fun h3 h2 => ?_⟩
    · refine (onArrival_below h3).trans ?_
      exact congrArg (fun t => updFc t _) (blockReset_none h2 m)
    · exact onArrival_fatal (s := s.batched m) h3 hm h2
  case blockReset =>
    intro s m ho hm hs hc hr
    have hx : sourceExists m.source.toNat = true := by rw [hs]; decide
    have hu : (unitOf m).any s.silenced = false := by simp [unitOf, hs]
    have e := faultReport_plain (m := m) ho hx (by rw [hs]; simp) (by rw [hs]; rintro ⟨h | h, -⟩ <;> simp at h)
    rw [settled_U ho hm hc hu, blockReset_of (by rw [hs, hc]; exact hr), hs] at e
    exact ⟨_, congrArg Host.Outcome.next e, rfl, fun k => Tab.get_all .., rfl, rfl⟩
  case mismatch =>
    intro s m k ho hm hs hk hc hn
    have hx : sourceExists m.source.toNat = true := by simp only [sourceExists, hs, Bool.or_eq_true, Bool.and_eq_true, decide_eq_true_eq]; omega
    have hu : (unitOf m).any s.silenced = false := by rw [unitOf_cv hs]; simpa [silenced] using hn
    have e := faultReport_mismatch ho hx hs hk
    rw [settled_U ho hm hc hu] at e
    have hcv := blockReset_cv (s := s.batched m) hs (reactionOf s.fc m.source.toNat m.cls)
    refine ⟨_, congrArg Host.Outcome.next e, ?_, ?_, ?_, fun x hx => ?_⟩
    · exact congrArg Fc.batch (blockReset_fc (s.batched m) m _)
    · exact (congrArg Cv.mismatch (Tab.get_upd_same _ k _)).trans (congrArg (· + 1) hcv.1)
    · exact congrArg Cv.bad (Tab.get_upd_same _ k _)
    · exact (Tab.get_upd_ne _ _ hx.symm).trans (hcv.2 x hx)
  case lockstep =>
    intro s m lc ho hm hs hk hc hn ha
    have hx : sourceExists m.source.toNat = true := by simp only [sourceExists, hs, Bool.or_eq_true, Bool.and_eq_true, decide_eq_true_eq]; omega
    have hu : (unitOf m).any s.silenced = false := by rw [unitOf_levee hs hk]; simpa [silenced] using hn
    have e := faultReport_lockstep ho hx hs hk
    rw [settled_U ho hm hc hu, blockReset_scope] at e
    have hl : ¬ s.spill.abandoned.contains (.levee lc) = true := by simpa using ha
    exact ⟨_, congrArg Host.Outcome.next (e.trans (if_neg hl)), rfl, rfl⟩
  case halts =>
    intro s m hm hx hc hu hf hb
    have ho : s.mod ≠ .off := by rw [hm]; exact ModState.noConfusion
    have hr := (report_taken ho (by rw [hc]; decide) hu (by rw [hc]; simp)).trans (onArrival_eq (s.batched m) m)
    rw [blockReset_scope] at hr
    obtain ⟨hp, hi, hmod, hf⟩ := strike_halts (s := updFc { s.batched m with hi := _, cvs := _ } _) hc hm hf _
    rw [← hr] at hp hi hmod hf
    have hs : (s.report m).settleBoot = s.report m := if_neg (by rw [hp]; simp [updFc, batched, hb])
    refine ⟨_, congrArg Host.Outcome.next (faultReport_scope ho hx), ?_⟩
    rw [hs]
    exact ⟨congrArg (·.boot.halted) hp, hi, hmod, hf, congrArg (·.boot.hot) hp⟩
  case suppressed =>
    intro s m ho hm hx hc hcv h6 h7 hu hb
    refine congrArg Host.Outcome.next ?_
    rw [faultReport_plain ho hx (fun h => hcv ⟨h.1, h.2.1⟩) (by rintro ⟨h | h, -⟩ <;> contradiction),
      settleBoot_running (by rw [report_mod]; exact hm), report_suppressed ho hc hu hb]
    rfl
  case silenced =>
    intro s m hm hs hu
    refine congrArg Host.Outcome.next ?_
    by_cases hx : s.mod = .off ∨ sourceExists m.source.toNat = false
    · exact if_pos (by rcases hx with h | h <;> simp [h])
    · obtain ⟨ho, hx⟩ := not_or.mp hx
      rw [faultReport_plain ho (by simpa using hx) (by omega) (by rintro ⟨h | h, -⟩ <;> simp [h] at hs),
        report_silenced hu, settleBoot_running hm]
  case none =>
    intro s m h
    exact congrArg Host.Outcome.next (if_pos (by rcases h with h | h <;> simp [h]))
  case passes =>
    intro s u t ht hl
    have e := testDone_transient ht hl
    obtain ⟨hf, hm, hx⟩ := (s.notePass u).leaveTest_sameBooks u
    rw [endClear_scope] at e
    refine ⟨_, congrArg Host.Outcome.next e, hm, hx, ?_, ?_, ?_, ?_⟩
    · exact (congrArg (fun f : Fc => f.transient + 1) hf :)
    · exact (congrArg Fc.retired hf :)
    · exact (congrArg Fc.tests hf :)
    · exact (congrArg (fun f : Fc => s.fc.powered ∈ passesOf f.hist u) hf :).mpr (passesOf_notePass s u)
  case third =>
    intro s u t ht hl hp
    obtain ⟨hf, hm, hx⟩ := (s.notePass u).leaveTest_sameBooks u
    obtain ⟨v, hv, hret, hhist, htr, htests, -, -⟩ := retire_endClear (s := (s.notePass u).leaveTest u) (u := u) t.source t.kind (testClass t) t.context
      (by rw [hf]; exact tests_filter_unit) (by unfold sramRetired; rw [hf]; exact fun _ _ => hp)
    refine ⟨v, congrArg Host.Outcome.next ((testDone_permanent ht hl).trans hv), htr.trans (congrArg Fc.transient hf :), hret, ?_, htests⟩
    rw [hhist, hf]
    exact passesOf_notePass s u
  case port =>
    intro s n t ht hl hc
    have e := testDone_transient ht hl
    rw [endClear_none (s := ((s.notePass (.port n)).leaveTest (.port n)).updFc fun f => { f with transient := f.transient + 1 }) hc] at e
    refine ⟨_, congrArg Host.Outcome.next e, rfl, fun k hk => Tab.get_upd_ne _ _ hk.symm, fun c f a b hs => ?_⟩
    have hg := portTestEnd_saved (s := s.notePass (.port n)) hs
    exact ⟨(congrArg Port.count hg :), (congrArg Port.saved hg :)⟩
  case fails =>
    intro s u t ht hp
    obtain rfl := running_unit ht
    obtain ⟨hret, hm, hx, htests⟩ := testFail_retires (s := s) t fun _ _ => hp
    exact ⟨_, congrArg Host.Outcome.next (testDone_fail ht), hret, hm, hx, htests⟩
  case cross =>
    intro s i j t ht
    have hu := running_unit ht
    have hi := (testFail_retires (s := s.raise (0x40 + i.val / 8) 2 2 (BitVec.ofNat 32 i.val) j.val) t (by rw [hu]; exact fun _ h => TestUnit.noConfusion h)).1
    rw [hu] at hi
    exact ⟨_, congrArg Host.Outcome.next (testDone_cross ht j), mem_retire _ _ _ _ hi fun _ h => TestUnit.noConfusion h⟩
  case idle =>
    intro s u r h
    refine congrArg Host.Outcome.next ?_
    unfold testDone
    rw [h]

end Sys2Proof.Machine
end
